-- ==== Sys2Proof/Word.lean ====
section
/-! DEFINITION. The words of the MS9600 model: bytes, 32-bit registers, AT80 instants, milestone numbers,
and the sparse tables that State uses. -/

namespace Sys2Proof

/-- One byte of a packet, a frame or a stored record. -/
abbrev Byte := BitVec 8

/-- One 32-bit BAR0 register (R8). -/
abbrev Word := BitVec 32

/-- An AT80 instant: bits [79:16] nanoseconds, bits [15:0] units of 2^-16 ns (00_scope, Time notation). -/
abbrev AT80 := BitVec 80

/-- A milestone number: the 56-bit nanosecond count shifted right by 8 (00_scope, Time notation). -/
abbrev Milestone := BitVec 56

/-- A sparse table keyed by number; a key that is not listed reads as the table's default. -/
abbrev Tbl (β : Type) := List (Nat × β)

/-- The signed difference of R11: `a - b` read as a two's-complement number. It is positive exactly when `a` is
later than `b`; the result -2^(n-1) is negative and so counts as earlier. -/
def sdiff {n : Nat} (a b : BitVec n) : Int := (a - b).toInt

/-- `a` is later than `b` by signed difference (R11). -/
def later {n : Nat} (a b : BitVec n) : Bool := decide (0 < sdiff a b)

end Sys2Proof
end

