-- ==== Sys2Proof/Config.lean ====
section
/-! DEFINITION. What a part fixes (Tables 0.1, 1.1, 1.2 and 1.6) and the free values: uninterpreted constants with no
body for what the spec leaves open. -/

namespace Sys2Proof

/-- The family members of Table 0.1. -/
inductive Part where
  | ms9616 | ms9648 | ms9696
  deriving DecidableEq, Repr

/-- The variants of R3. -/
inductive Variant where
  | ca | cb
  deriving DecidableEq, Repr

/-- The silicon steppings of R442. -/
inductive Stepping where
  | a0 | b0
  deriving DecidableEq, Repr

/-- Ports of the part (Table 1.6). -/
def Part.ports : Part → Nat
  | .ms9616 => 16 | .ms9648 => 48 | .ms9696 => 96

/-- Highest logical port number of the part plus one (R58, R416). -/
def Part.lports (p : Part) : Nat := 4 * p.ports

/-- CORE dies of the part (Table 0.1). -/
def Part.cores : Part → Nat
  | .ms9696 => 2 | _ => 1

/-- LANE dies of the part (R13). -/
def Part.laneDies (p : Part) : Nat := p.ports / 16

/-- Ingress pipelines of the part (R15). -/
def Part.pipelines (p : Part) : Nat := p.ports / 2

/-- Die codes of R329: 0 CORE0, 1 CORE1, 2 to 7 LANE0 to LANE5. -/
def Part.hasDie (p : Part) (die : Nat) : Bool :=
  decide (die < p.cores) || decide (2 ≤ die ∧ die < 2 + p.laneDies)

/-- Die code of the LANE die that carries a port (R13). -/
def laneDieOf (port : Nat) : Nat := 2 + port / 16

/-- CORE die that owns a port (R14). -/
def coreOf (port : Nat) : Nat := if port < 48 then 0 else 1

/-- Ingress pipeline of a port (R15). -/
def pipelineOf (port : Nat) : Nat := port / 2

/-- The port of a logical port number (R58). -/
def portOf (lport : Nat) : Nat := lport / 4

/-- The s of P p.s for a logical port number (R58). -/
def subOf (lport : Nat) : Nat := lport % 4

/-- Low 16 bits of ID_PART (Table 12.7). -/
def Part.idCode : Part → Nat
  | .ms9616 => 0x9616 | .ms9648 => 0x9648 | .ms9696 => 0x9696

/-- A value that the spec leaves open, fresh for every number; nothing in Lean can evaluate it. -/
opaque Config.freeNat : Nat → Nat

/-- An open choice between two outcomes, fresh for every number. -/
opaque Config.freeBit : Nat → Bool

/-- Whether the Galois LFSR of R387 shifts toward bit 0; the spec gives its polynomial and not its direction. -/
opaque Config.galoisRight : Bool

/-- Whether a DWRR round of R135 visits classes 3 to 0 rather than 0 to 3; the spec does not say. -/
opaque Config.dwrrDescending : Bool

/-- The node ID of the root, which R263 addresses and no message tells a worker. -/
opaque Config.rootNode : BitVec 18

/-- Whether a node above the manager is an ancestor of this device: no message tells a worker (R256, R290). -/
opaque Config.ancestor : BitVec 18 → Bool

/-- How many levels of workers stand below the device with a node ID: no message tells a manager (R250). -/
opaque Config.subtreeDepth : BitVec 18 → Nat

/-- The retention bank that holds an IPv4 or a short IPv6 route, by its prefix length and address: Table 14.8 gives these tables four
and two banks and does not divide the routes among them. -/
opaque Config.bankOf : Nat → BitVec 128 → Nat

/-- The fine code of a TDC channel for the fraction of a nanosecond of a raw stamp (R270, item 6 of Table 16.3). -/
opaque Config.fineCode : BitVec 16 → BitVec 8

end Sys2Proof
end

