-- ==== Sys2Proof/Config/Packet.lean ====
section
/-! DEFINITION. The packets and enumerations that commands carry: opcodes, transports, Skatum packets, replies. -/

namespace Sys2Proof

/-- The opcodes of 13_command_reference that a packet can name as a command (kinds R, P, W, A, C and I).
Kind N opcodes are no commands (R318). -/
inductive Op where
  | deviceInfo | rowClaim | rowYield | cmdSync
  | cmdStatus | mgmtConfig | modeSet | modeStatus
  | avsRequest | avsStatus | shedConfig | padRelease
  | dormantConfig | vigilRead | vigilScratch | tableRestore
  | portBreakout | portConfig | portEnable | portDisable
  | portStatus | laneTxEq | laneRxConfig | lanePower
  | laneLoop | prbsConfig | prbsStatus | fecHistogram
  | laneStatus | l2Write | l2Delete | lpmWrite
  | lpmDelete | nexthopWrite | ecmpWrite | aclWrite
  | aclDelete | mcgroupWrite | lportFwdConfig | classMaps
  | mirrorSession | puntConfig | ethertypes | ecmpSeed
  | tableRead | tableUsage | poolsConfig | poolsEnable
  | queueConfig | pfcConfig | portHold | mcastConfig
  | bufferStatus | calendarWrite | calendarEnable | calendarDisable
  | calendarRead | calendarStatus | schedConfig | deadlineBudget
  | timeGet | timeSet | timeStep | timeStepCancel
  | timeAcceptJump | timeThresholds | timeScale | compareClaim
  | compareArm | compareDisarm | compareRelease | compareStatus
  | timingConfig | axConfig | linkAsym | axStatus
  | ptpPortConfig | ptpClockConfig | ptpStatus | reftableWrite
  | reftableEnable | refMonitorConfig | dpllConfig | refForce
  | refClear | refStatus | dpllStatus | clockStatus
  | rampProfile | rampStart | rampStatus | clkOutConfig
  | lanePllConfig | tioClaim | tioRelease | tdcConfig
  | tdcEnable | tdcDisable | tdcStatus | tdcResult
  | counterRead | snapshotConfig | snapshotNow | filterConfig
  | stickyClear | tagConfig | recorderRead | recorderFreeze
  | recorderConfig | recorderStatus | calExport | calStage
  | calImport | calWrite | calStatus | hierStatus
  | hierConfig | keyProvision | fabricKeySet | enroll
  | releaseWorker | fabricKeyRoll | hierEpochs | enrollReq
  | release | announceStep | announceTimescale | announceEpochs
  | announceSettings | announceKey | testBist | testStatus
  deriving DecidableEq, Repr

/-- The command kinds of Table 13.1, without N. -/
inductive OpKind where
  | read | pend | write | action | free | inbandOnly
  deriving DecidableEq, Repr

/-- Where a packet came from: a PCIe mailbox queue, a management address and UDP port, or an in-band frame with the
port it arrived on, its SOURCE, its SEND_MS and its HOPS (Tables 10.1 and 12.3). -/
inductive Source where
  | pcie (queue : Fin 4)
  | mgmt (address : BitVec 128) (udp : BitVec 16)
  | inband (port : Nat) (node : BitVec 18) (sendMs : Milestone) (hops : Nat)
  deriving DecidableEq, Repr

/-- The transport code of Table 12.3. -/
def Source.code : Source → Nat
  | .pcie _ => 1
  | .mgmt _ _ => 2
  | .inband _ _ _ _ => 3

/-- The header fields and parameters of a Skatum packet (Table 12.1), less its MAGIC, OPCODE and LENGTH. `params` are
the parameter bytes after any commit milestone (R284). -/
structure Req where
  /-- where the packet came from -/
  src : Source
  /-- VERSION, 4 bits -/
  version : Nat
  /-- KIND, 4 bits -/
  kind : Nat
  /-- the four reserved flag bits -/
  rsvFlags : Nat
  /-- BROADCAST -/
  broadcast : Bool
  /-- the commit milestone field, present exactly when AT_MILESTONE is set (R34) -/
  ms : Option (BitVec 64)
  /-- FORCE -/
  force : Bool
  /-- TAG, present exactly when AUTH is set -/
  tag : Option (List Byte)
  /-- SEQUENCE -/
  seq : BitVec 32
  /-- the fourteen reserved bits above TARGET -/
  rsvTarget : Nat
  /-- TARGET -/
  target : BitVec 18
  /-- PARAMETERS after any commit milestone -/
  params : List Byte
  deriving DecidableEq, Repr

/-- The statuses of Table 12.12. -/
inductive Status where
  | ok | deferred | refused | busy | unknownOpcode | length | authFail | replay | internal
  deriving DecidableEq, Repr

/-- The status codes of Table 12.12. -/
def Status.code : Status → Nat
  | .ok => 0 | .deferred => 1 | .refused => 2 | .busy => 3 | .unknownOpcode => 4 | .length => 5 | .authFail => 6
  | .replay => 7 | .internal => 8

/-- The reasons of Table 12.13; `none` is the 0 of a reply that names no reason. -/
inductive Reason where
  | none | range | claimTaken | notReady | mode | mtuRange | calendarOverrun | timeInvalid | refConflict
  | voltageNotReady | freqLimit | timingLaneDeep | breakoutMismatch | poolOvercommit | stepTooLarge | milestonePast
  | noRightOfWay | calSerialMismatch | tableFull | groupEmpty | parentLoop | dieAbsent | compatMode | shedActive
  | lengthMismatch | depthLimit | keyAbsent | rampActive | gateActive | retentionLost | jumpGuard | configIncomplete
  deriving DecidableEq, Repr

/-- The reason codes of Table 12.13, which are the positions of the constructors. -/
def Reason.code (r : Reason) : Nat := r.ctorIdx

/-- A command turned away: its status, reason and detail (Table 12.2). -/
structure Rej where
  status : Status
  reason : Reason
  detail : Nat
  deriving DecidableEq, Repr

/-- A reply: the command's OPCODE and SEQUENCE, the prefix of Table 12.2 and the reply data (R285). -/
structure Reply where
  opcode : Nat
  seq : BitVec 32
  status : Status
  reason : Reason
  detail : Nat
  commit : Milestone
  data : List Byte
  deriving DecidableEq, Repr

/-- What the boot ROM finds in a flash slot (R356, R358, Table 15.3): the bytes of its header, and the outcomes of the two checks that
rest on cryptographic functions which the fabric's manual takes from elsewhere. -/
structure Slot where
  /-- bytes 0 to 4,095 of the slot -/
  header : List Byte
  /-- the SHA-384 of PUBLIC_KEY equals the hash in the fuses -/
  keyOk : Bool
  /-- the signature over the header without SIGNATURE and the image verifies -/
  sigOk : Bool
  deriving DecidableEq, Repr

/-- Where a datagram for the management port is addressed to: IP version, address, UDP port (R289). -/
structure MgmtTo where
  v6 : Bool
  address : BitVec 128
  port : BitVec 16
  deriving DecidableEq, Repr

/-- Where a datagram for the management port comes from (R289). -/
structure MgmtFrom where
  address : BitVec 128
  port : BitVec 16
  deriving DecidableEq, Repr

/-- How a frame arrived: the time since its start-of-frame delimiter (R63), and what is still arriving on the port's other logical ports,
time since the delimiter and bytes stored (R53). -/
structure Arrival where
  ago : Nat
  mates : List (Nat × Nat)
  deriving DecidableEq, Repr

/-- A MAC control frame whole, with the time since its start-of-frame delimiter (R54, R98). -/
structure ControlFrame where
  ago : Nat
  bytes : List Byte
  deriving DecidableEq, Repr

/-- The release instant of a logical port's reserved window; `sound` says whether the cells of the frame read back sound (R57, R121). -/
structure Release where
  lport : Nat
  sound : Bool
  deriving DecidableEq, Repr

/-- A CORE die both of whose PLLs have stayed locked for a time (R239). -/
structure Relock where
  die : Nat
  locked : Nat
  deriving DecidableEq, Repr

/-- What the monitor of a rail reads, uV (R337). -/
structure RailReading where
  rail : Nat
  level : Nat
  deriving DecidableEq, Repr

/-- A trigger, by its bit of TRIGGERS, with what the monitors of the rails, in uV, and the sensors of the dies, in 0.125 C, read, in code
order (Table 14.3). -/
structure Clearing where
  trigger : Nat
  levels : List Nat
  temps : List Int
  deriving DecidableEq, Repr

/-- The straps sampled at the POR_N rise (R217, R357). -/
structure Straps where
  oscSel : Fin 8
  bootSel : Fin 4
  deriving DecidableEq, Repr

/-- What a tap request of link training asks for (R150). -/
inductive TapAsk where
  | inc | dec | hold | preset (taps : List Int)
  deriving DecidableEq, Repr

/-- A stage of the CORE PLLs: the CCLK PLL or the buffer PLL (R237). -/
inductive CorePll where
  | cclk | bclk
  deriving DecidableEq, Repr

/-- An IEEE 1588 message as the PTP port hands it to the state machine: the fields R187, R188 and R32 use. -/
structure PtpMsg where
  /-- messageType: 0 Sync, 1 Delay_Req, 8 Follow_Up, 9 Delay_Resp, 11 Announce -/
  kind : Nat
  domain : Nat
  /-- two-step flag of a Sync -/
  twoStep : Bool
  sequence : BitVec 16
  /-- secondsField -/
  seconds : BitVec 48
  /-- nanosecondsField -/
  nanos : BitVec 32
  /-- correctionField, signed, 2^-16 ns -/
  correction : Int
  /-- clock identity of the sender -/
  identity : BitVec 64
  /-- priority1, class, accuracy, variance, priority2 and identity of the grandmaster, in an Announce -/
  quality : List Nat
  /-- stepsRemoved, in an Announce -/
  steps : Nat
  /-- UTC offset, and leap flags as LEAP of TIME_GET, in an Announce (R33) -/
  utcOffset : Int
  leap : Nat
  deriving DecidableEq, Repr

/-- How a MOD bus tenure goes (R411, R412): done, with the multiplexer byte, bank, page and byte 128 as read; lost to
another master; a stretch beyond 25 ms; or an address not acknowledged. -/
inductive ModResult where
  | done (mux bank page dataPath : Byte) | lostArbitration | stretch | nack
  deriving DecidableEq, Repr

/-- The boundary-scan instructions of R424. -/
inductive TapInstr where
  | bypass | idcode | samplePreload | extest | clamp | highz | extestPulse | extestTrain
  deriving DecidableEq, Repr

end Sys2Proof
end

