-- ==== Sys2Proof/Syntax.lean ====
section
/-! DEFINITION. Syntax: the commands the block takes, one constructor per row of spec/opcode_table.json, in its order. -/

namespace Sys2Proof

/-- The commands. Each begins with `dt`, the time elapsed since the command before it in units of 2^-16 ns (log entry 1).
A row that is an opcode carries the packet that names it; any other row carries what comes from outside the block. -/
inductive Instr where
  /-- Command returning identification, die serials, firmware version and base MAC address. (R319) -/
  | deviceInfo (dt : Nat) (r : Req)
  /-- Command claiming the right of way for the sending transport, with a lease and optional FORCE. (R295) -/
  | rowClaim (dt : Nat) (r : Req)
  /-- Command by which the holder gives up the right of way. (R295) -/
  | rowYield (dt : Nat) (r : Req)
  /-- Command resetting a transport's last sequence to its own and clearing the reply cache. (R293) -/
  | cmdSync (dt : Nat) (r : Req)
  /-- Command returning holder, lease, per-transport sequences, pending commits and command counts. (R319) -/
  | cmdStatus (dt : Nat) (r : Req)
  /-- Command setting the management port address, UDP port and MGMT_AUTH. (R289) -/
  | mgmtConfig (dt : Nat) (r : Req)
  /-- Command starting a mode transition at its commit milestone, or acting as a wake during DORMANT entry. (R333) -/
  | modeSet (dt : Nat) (r : Req)
  /-- Command returning mode, shedding stage, transition, triggers and pad latch state. (R319) -/
  | modeStatus (dt : Nat) (r : Req)
  /-- Command requesting a rail voltage over AVSBus. (R334) -/
  | avsRequest (dt : Nat) (r : Req)
  /-- Command returning requested and acknowledged voltage and request state per rail. (R335) -/
  | avsStatus (dt : Nat) (r : Req)
  /-- Command setting the enabled shedding triggers and the restoration dwell. (R340) -/
  | shedConfig (dt : Nat) (r : Req)
  /-- Command releasing pads latched for DORMANT at its commit milestone. (R345) -/
  | padRelease (dt : Nat) (r : Req)
  /-- Command setting COMPAT and the wake sources for DORMANT. (R346) -/
  | dormantConfig (dt : Nat) (r : Req)
  /-- Command returning the Vigil counters, coarse time and scratch. (R351) -/
  | vigilRead (dt : Nat) (r : Req)
  /-- Command writing host bytes of the Vigil scratch. (R351) -/
  | vigilScratch (dt : Nat) (r : Req)
  /-- Command clearing a die's lost retention-bank marks at its commit milestone. (R349) -/
  | tableRestore (dt : Nat) (r : Req)
  /-- Command changing a port's breakout and the type and medium of each logical port. (R144) -/
  | portBreakout (dt : Nat) (r : Req)
  /-- Command setting training limit, FEC degrade threshold and DEGRADE_DOWN of a logical port. (R151) -/
  | portConfig (dt : Nat) (r : Req)
  /-- Command checking a logical port and starting its link at the commit milestone. (R146) -/
  | portEnable (dt : Nat) (r : Req)
  /-- Command idling a logical port's transmitters and flushing it at the commit milestone. (R146) -/
  | portDisable (dt : Nat) (r : Req)
  /-- Command returning link state, type, medium, power state and last up and down instants. (R320) -/
  | portStatus (dt : Nat) (r : Req)
  /-- Command setting transmit taps and EQ_LOCK of lanes. (R150) -/
  | laneTxEq (dt : Nat) (r : Req)
  /-- Command setting LOS threshold and polarity inversion of lanes. (R142) -/
  | laneRxConfig (dt : Nat) (r : Req)
  /-- Command placing a logical port in L-ACTIVE, L-IDLE or L-DEEP with SHEDDABLE, AUTO_WAKE and wake limit. (R155) -/
  | lanePower (dt : Nat) (r : Req)
  /-- Command setting a near-end or far-end loop on a logical port. (R160) -/
  | laneLoop (dt : Nat) (r : Req)
  /-- Command setting PRBS generators and checkers of lanes. (R162) -/
  | prbsConfig (dt : Nat) (r : Req)
  /-- Command returning PRBS lock, bit errors and bits checked, optionally clearing them. (R162) -/
  | prbsStatus (dt : Nat) (r : Req)
  /-- Command returning FEC bins of a logical port and corrected-symbol counts of its lanes. (R153) -/
  | fecHistogram (dt : Nat) (r : Req)
  /-- Command returning lane status words, optionally clearing LOS_SEEN. (R320) -/
  | laneStatus (dt : Nat) (r : Req)
  /-- Command adding or replacing L2 exact-match entries. (R69) -/
  | l2Write (dt : Nat) (r : Req)
  /-- Command removing L2 entries and reporting how many were present. (R321) -/
  | l2Delete (dt : Nat) (r : Req)
  /-- Command adding or replacing IPv4 or IPv6 routes. (R71) -/
  | lpmWrite (dt : Nat) (r : Req)
  /-- Command removing routes and reporting how many were present. (R321) -/
  | lpmDelete (dt : Nat) (r : Req)
  /-- Command writing next-hop entries. (R77) -/
  | nexthopWrite (dt : Nat) (r : Req)
  /-- Command replacing a whole ECMP group at one milestone. (R75) -/
  | ecmpWrite (dt : Nat) (r : Req)
  /-- Command writing ternary ACL entries. (R78) -/
  | aclWrite (dt : Nat) (r : Req)
  /-- Command clearing a range of ACL entries. (R321) -/
  | aclDelete (dt : Nat) (r : Req)
  /-- Command writing multicast group bitmaps and HAIRPIN flags. (R76) -/
  | mcgroupWrite (dt : Nat) (r : Req)
  /-- Command setting MTU, VID, tag actions, trust flags, default class and L2 miss action of a logical port. (R55) -/
  | lportFwdConfig (dt : Nat) (r : Req)
  /-- Command writing the DSCP and PCP class maps. (R79) -/
  | classMaps (dt : Nat) (r : Req)
  /-- Command configuring a mirror session. (R81) -/
  | mirrorSession (dt : Nat) (r : Req)
  /-- Command setting punt token buckets, L3_MISS_PUNT and TTL_ACTION. (R85) -/
  | puntConfig (dt : Nat) (r : Req)
  /-- Command setting the Waymark, AX and command EtherTypes. (R61) -/
  | ethertypes (dt : Nat) (r : Req)
  /-- Command setting the device seed of the ECMP hash. (R73) -/
  | ecmpSeed (dt : Nat) (r : Req)
  /-- Command returning entries of a forwarding table from a start index. (R321) -/
  | tableRead (dt : Nat) (r : Req)
  /-- Command returning used and free entries of each forwarding table. (R321) -/
  | tableUsage (dt : Nat) (r : Req)
  /-- Command writing a die's pending pool sizes and class-to-pool map. (R95) -/
  | poolsConfig (dt : Nat) (r : Req)
  /-- Command checking and committing a die's pending pool set. (R95) -/
  | poolsEnable (dt : Nat) (r : Req)
  /-- Command setting the threshold exponent and ECN settings of a queue. (R103) -/
  | queueConfig (dt : Nat) (r : Req)
  /-- Command setting PFC map, lossless enables, XOFF, XON, headroom limits and quanta of a logical port. (R99) -/
  | pfcConfig (dt : Nat) (r : Req)
  /-- Command setting the port-hold interval of a logical port. (R106) -/
  | portHold (dt : Nat) (r : Req)
  /-- Command setting the multicast residue limit. (R113) -/
  | mcastConfig (dt : Nat) (r : Req)
  /-- Command returning pool use, queue lengths, residue lines or PFC state of a die. (R322) -/
  | bufferStatus (dt : Nat) (r : Req)
  /-- Command writing settings and entries into a logical port's shadow calendar. (R116) -/
  | calendarWrite (dt : Nat) (r : Req)
  /-- Command checking the shadow calendar and scheduling its swap. (R126) -/
  | calendarEnable (dt : Nat) (r : Req)
  /-- Command scheduling removal of the active calendar and cancelling a pending swap. (R129) -/
  | calendarDisable (dt : Nat) (r : Req)
  /-- Command returning active or shadow calendar settings and entries. (R323) -/
  | calendarRead (dt : Nat) (r : Req)
  /-- Command returning calendar state, compare unit, current entry and pending swap. (R323) -/
  | calendarStatus (dt : Nat) (r : Req)
  /-- Command setting strict or DWRR and weights of classes 0-3 and lateness tolerances of classes 4-6. (R135) -/
  | schedConfig (dt : Nat) (r : Req)
  /-- Command setting class budgets of an ingress logical port. (R131) -/
  | deadlineBudget (dt : Nat) (r : Req)
  /-- Command returning time state, flags, current AT80, latest offset, pending step and thresholds. (R324) -/
  | timeGet (dt : Nat) (r : Req)
  /-- Command setting the count to a value at a milestone. (R40) -/
  | timeSet (dt : Nat) (r : Req)
  /-- Command moving the count by a signed amount at a milestone. (R40) -/
  | timeStep (dt : Nat) (r : Req)
  /-- Command removing the pending step or set. (R41) -/
  | timeStepCancel (dt : Nat) (r : Req)
  /-- Command leaving GUARD by taking the reference time at a milestone. (R38) -/
  | timeAcceptJump (dt : Nat) (r : Req)
  /-- Command setting the jump and step thresholds. (R35) -/
  | timeThresholds (dt : Nat) (r : Req)
  /-- Command setting the UTC offset and leap flags. (R33) -/
  | timeScale (dt : Nat) (r : Req)
  /-- Command claiming a compare unit for a function and resource. (R46) -/
  | compareClaim (dt : Nat) (r : Req)
  /-- Command programming and arming a claimed compare unit. (R47) -/
  | compareArm (dt : Nat) (r : Req)
  /-- Command disarming a compare unit while keeping the claim. (R50) -/
  | compareDisarm (dt : Nat) (r : Req)
  /-- Command disarming a compare unit and releasing its claim. (R50) -/
  | compareRelease (dt : Nat) (r : Req)
  /-- Command returning the status words of all 32 compare units. (R324) -/
  | compareStatus (dt : Nat) (r : Req)
  /-- Command setting a port's configured timing lane and REVERT. (R165) -/
  | timingConfig (dt : Nat) (r : Req)
  /-- Command setting AX enable, rate and silence limit of a port. (R173) -/
  | axConfig (dt : Nat) (r : Req)
  /-- Command setting asymmetry mode, coefficient, estimate lanes and dispersion ratio. (R181) -/
  | linkAsym (dt : Nat) (r : Req)
  /-- Command returning timing status, delays, estimates, AX counts and lane skews of a port. (R324) -/
  | axStatus (dt : Nat) (r : Req)
  /-- Command configuring an IEEE 1588 port. (R187) -/
  | ptpPortConfig (dt : Nat) (r : Req)
  /-- Command configuring domain, profile, BMCA mode and clock attributes. (R187) -/
  | ptpClockConfig (dt : Nat) (r : Req)
  /-- Command returning PTP port state, parent data and counts. (R187) -/
  | ptpStatus (dt : Nat) (r : Req)
  /-- Command writing entries of the pending reference table. (R194) -/
  | reftableWrite (dt : Nat) (r : Req)
  /-- Command checking and committing the pending reference table. (R194) -/
  | reftableEnable (dt : Nat) (r : Req)
  /-- Command setting reference monitor thresholds and qualification time. (R197) -/
  | refMonitorConfig (dt : Nat) (r : Req)
  /-- Command setting DPLL bandwidth, lock criterion, slope limit, history, holdover validity and REVERTIVE. (R215) -/
  | dpllConfig (dt : Nat) (r : Req)
  /-- Command forcing selection of a reference entry or releasing the force. (R202) -/
  | refForce (dt : Nat) (r : Req)
  /-- Command releasing an entry held by an arbiter. (R206) -/
  | refClear (dt : Nat) (r : Req)
  /-- Command returning the status word of each reference entry. (R325) -/
  | refStatus (dt : Nat) (r : Req)
  /-- Command returning DPLL status and phase, pull, build-out and holdover values. (R325) -/
  | dpllStatus (dt : Nat) (r : Req)
  /-- Command returning the clock status word. (R326) -/
  | clockStatus (dt : Nat) (r : Req)
  /-- Command writing the CCLK ramp profile. (R229) -/
  | rampProfile (dt : Nat) (r : Req)
  /-- Command ramping CCLK to a target step from the commit milestone. (R230) -/
  | rampStart (dt : Nat) (r : Req)
  /-- Command returning ramp state and the fused V-f table and V_ack per die. (R326) -/
  | rampStatus (dt : Nat) (r : Req)
  /-- Command setting a CLK_OUT output. (R234) -/
  | clkOutConfig (dt : Nat) (r : Req)
  /-- Command setting the lane TX PLL lock window and count. (R224) -/
  | lanePllConfig (dt : Nat) (r : Req)
  /-- Command claiming a timing pin for a function with electrical options. (R268) -/
  | tioClaim (dt : Nat) (r : Req)
  /-- Command releasing a timing pin. (R269) -/
  | tioRelease (dt : Nat) (r : Req)
  /-- Command writing the settings of a TDC channel. (R277) -/
  | tdcConfig (dt : Nat) (r : Req)
  /-- Command checking and enabling a TDC channel. (R277) -/
  | tdcEnable (dt : Nat) (r : Req)
  /-- Command stopping a TDC channel at its commit milestone. (R278) -/
  | tdcDisable (dt : Nat) (r : Req)
  /-- Command returning per-channel TDC state and counts. (R327) -/
  | tdcStatus (dt : Nat) (r : Req)
  /-- Command returning the latest four gate reports of a channel. (R281) -/
  | tdcResult (dt : Nat) (r : Req)
  /-- Command returning counters of one instance from the latest snapshot. (R383) -/
  | counterRead (dt : Nat) (r : Req)
  /-- Command setting the periodic snapshot interval. (R381) -/
  | snapshotConfig (dt : Nat) (r : Req)
  /-- Command taking one snapshot at its commit milestone. (R381) -/
  | snapshotNow (dt : Nat) (r : Req)
  /-- Command configuring a filtered counter and restarting it. (R384) -/
  | filterConfig (dt : Nat) (r : Req)
  /-- Command clearing the sticky bits of a counter group after the latch. (R380) -/
  | stickyClear (dt : Nat) (r : Req)
  /-- Command setting frame-tagging rate, pipelines and LFSR seed. (R387) -/
  | tagConfig (dt : Nat) (r : Req)
  /-- Command returning stored event records by position. (R401) -/
  | recorderRead (dt : Nat) (r : Req)
  /-- Command freezing or resuming the event recorder. (R393) -/
  | recorderFreeze (dt : Nat) (r : Req)
  /-- Command setting the per-code rate limit and ring severity. (R394) -/
  | recorderConfig (dt : Nat) (r : Req)
  /-- Command returning recorder valid, next, dropped, suppressed and frozen values. (R402) -/
  | recorderStatus (dt : Nat) (r : Req)
  /-- Command returning bytes of the calibration set. (R374) -/
  | calExport (dt : Nat) (r : Req)
  /-- Command filling bytes of the calibration staging copy. (R329) -/
  | calStage (dt : Nat) (r : Req)
  /-- Command checking and committing the staged calibration set. (R375) -/
  | calImport (dt : Nat) (r : Req)
  /-- Command replacing one calibration entry at its commit milestone. (R372) -/
  | calWrite (dt : Nat) (r : Req)
  /-- Command returning calibration item validity, factory bits and recorded serials. (R329) -/
  | calStatus (dt : Nat) (r : Req)
  /-- Command returning role, keys, depth, node, range, workers and hierarchy counts. (R330) -/
  | hierStatus (dt : Nat) (r : Req)
  /-- Command setting parent candidates, root role, in-band class, MIRROR_UP and EVENT_SINK. (R242) -/
  | hierConfig (dt : Nat) (r : Req)
  /-- Command writing the write-once device key. (R247) -/
  | keyProvision (dt : Nat) (r : Req)
  /-- Command installing the fabric key on the root. (R247) -/
  | fabricKeySet (dt : Nat) (r : Req)
  /-- Command making a manager enrol or re-enrol a worker on a port. (R248) -/
  | enroll (dt : Nat) (r : Req)
  /-- Command releasing a worker and freeing its range. (R251) -/
  | releaseWorker (dt : Nat) (r : Req)
  /-- Command rolling the fabric key at a milestone on the root. (R262) -/
  | fabricKeyRoll (dt : Nat) (r : Req)
  /-- Command setting the hierarchy epoch set on the root. (R261) -/
  | hierEpochs (dt : Nat) (r : Req)
  /-- In-band request by which a device becomes enrolled or re-enrolled. (R249) -/
  | enrollReq (dt : Nat) (r : Req)
  /-- In-band request by which a worker clears its node state and becomes UNENROLLED. (R251) -/
  | release (dt : Nat) (r : Req)
  /-- In-band announcement of a step or load to apply at a milestone. (R259) -/
  | announceStep (dt : Nat) (r : Req)
  /-- In-band announcement of UTC offset and leap flags. (R259) -/
  | announceTimescale (dt : Nat) (r : Req)
  /-- In-band announcement of the hierarchy epoch set. (R259) -/
  | announceEpochs (dt : Nat) (r : Req)
  /-- In-band announcement of thresholds and EtherTypes. (R259) -/
  | announceSettings (dt : Nat) (r : Req)
  /-- In-band announcement of a new fabric key. (R259) -/
  | announceKey (dt : Nat) (r : Req)
  /-- In-band notification of an ERROR or FATAL record, forwarded toward the root or delivered to the host. (R263) -/
  | eventMirror (dt : Nat)
  /-- Command starting a memory or logic self-test on a die. (R331) -/
  | testBist (dt : Nat) (r : Req)
  /-- Command returning self-test state per die. (R331) -/
  | testStatus (dt : Nat) (r : Req)
  /-- Host write submitting the packet in a PCIe mailbox queue. (R288) -/
  | cqDoorbell (dt : Nat) (q : Fin 4) (v : Word)
  /-- Host write returning a DONE mailbox queue to IDLE. (R288) -/
  | cqAck (dt : Nat) (q : Fin 4) (v : Word)
  /-- Read that latches count and state into the snapshot registers and increments the sequence. (R44) -/
  | tsSeq (dt : Nat)
  /-- W1C write clearing time flags in both the live and latched copies. (R44) -/
  | tsState (dt : Nat) (v : Word)
  /-- Write putting a DMA ring descriptor in or out of service. (R306) -/
  | ringCtrl (dt : Nat) (d : Fin 64) (v : Word)
  /-- Write to any BAR0 register without a row of its own, including ring indexes, W1C bits and interrupt settings. (R305) -/
  | registerWrite (dt : Nat) (off : Nat) (v : Word)
  /-- UDP datagram carrying a packet arriving on the management port. (R289) -/
  | mgmtDatagram (dt : Nat) (dst : MgmtTo) (src : MgmtFrom) (fragmented : Bool) (payload : List Byte)
  /-- Command-EtherType frame received and checked, then handled, routed or dropped. (R255) -/
  | inbandFrame (dt : Nat) (lport : Nat) (frame : List Byte)
  /-- No reply from the target of a forwarded command within 1 s; INTERNAL reply. (R290) -/
  | remoteTimeout (dt : Nat) (seq : BitVec 32)
  /-- No reply to ENROLL_REQ within 100 ms; ENROLL refused with NOT_READY. (R249) -/
  | enrollTimeout (dt : Nat) (port : Nat)
  /-- Management controller resets or stops; command execution stops. (R303) -/
  | cmdDown (dt : Nat)
  /-- Management controller runs again; staged and pending packets resume. (R303) -/
  | cmdUp (dt : Nat)
  /-- The right-of-way lease runs out and the right of way returns to none. (R296) -/
  | rowLeaseExpiry (dt : Nat)
  /-- Loss of the PCIe link releases a PCIe right of way. (R296) -/
  | pcieLinkLoss (dt : Nat)
  /-- Management port link down for 1 s releases its right of way. (R296) -/
  | mgmtLinkDown (dt : Nat)
  /-- At a milestone, every pending commit named for it applies together on every die. (R20) -/
  | configurationCommit (dt : Nat)
  /-- At the milestone after the first estimate in UNSET, the reference time is loaded. (R38) -/
  | timeLoaded (dt : Nat)
  /-- The ACLK phase rotation after a step completes; TDC samples and outputs resume. (R221) -/
  | aclkRotationDone (dt : Nat)
  /-- A compare unit reaches its target, or a late target's milestone, and fires. (R47) -/
  | compareFire (dt : Nat) (unit : Nat)
  /-- A compare pulse ends one width after its leading edge. (R48) -/
  | pulseEnd (dt : Nat) (unit : Nat)
  /-- Rising edge of POR_N samples straps and begins the start-up sequence. (R355) -/
  | porNRise (dt : Nat) (straps : Straps) (slotA : Slot) (slotB : Slot) (core0 : Bool)
  /-- POR_N low holds every die in reset and enters KEEP. (R355) -/
  | porNFall (dt : Nat)
  /-- PERST_N resets the PCIe endpoint, command queues and ring enables. (R356) -/
  | perstN (dt : Nat)
  /-- VKEEP first applied or reapplied clears the Vigil values. (R351) -/
  | vkeepApplied (dt : Nat)
  /-- The Vigil crystal has run 1 s and VIGIL becomes ready. (R351) -/
  | vigilReady (dt : Nat)
  /-- Loss of VDD_CORE0 with POR_N high takes the device to KEEP. (R432) -/
  | vddCore0Lost (dt : Nat)
  /-- Removal of VDD_CORE1 in DORMANT takes the device to KEEP. (R350) -/
  | vddCore1Lost (dt : Nat)
  /-- Loss of VDD_TIME, handled as loss of the oscillator outside DORMANT and KEEP. (R433) -/
  | vddTimeLost (dt : Nat)
  /-- VDD_TIME returns; the count and chain restart and a held exit proceeds. (R433) -/
  | vddTimeReturn (dt : Nat)
  /-- VDD_TIME still absent 50 ms after a wake; OSC_NOT_READY and FAULT_N. (R433) -/
  | vddTimeWakeTimeout (dt : Nat)
  /-- Oscillator loss gates the chain, returns time to UNSET and the DPLL to FREE_RUN. (R219) -/
  | oscLost (dt : Nat)
  /-- Oscillator within tolerance for 10 ms; the chain restarts. (R219) -/
  | oscRestored (dt : Nat) (untrained : List Nat)
  /-- Oscillator not qualified within 50 ms of step 5; sequence stops. (R365) -/
  | oscNotReady (dt : Nat)
  /-- ASYN loses lock with the oscillator present, handled as oscillator loss. (R222) -/
  | asynUnlock (dt : Nat)
  /-- A lane TX PLL loses lock; its pair's transmitters stop and links go down. (R226) -/
  | lanePllUnlock (dt : Nat) (port : Nat) (pair : Nat)
  /-- A lane TX PLL meets its lock criterion; its gate reopens at the next milestone. (R226) -/
  | lanePllRelock (dt : Nat) (port : Nat) (pair : Nat)
  /-- A CLK_OUT synthesizer goes out of lock and its output drives low until relock. (R236) -/
  | clkOutUnlock (dt : Nat) (output : Nat)
  /-- A CORE PLL loses lock; that die's forwarding domain freezes. (R237) -/
  | corePllUnlock (dt : Nat) (die : Nat) (pll : CorePll)
  /-- Both PLLs have stayed locked for a time; once it is 64 us, gates reopen and deferred work applies. (R239) -/
  | coreThaw (dt : Nat) (relock : Relock)
  /-- Freeze lasts 10 ms; the die's forwarding domain resets and flushes. (R240) -/
  | fwdReset (dt : Nat) (die : Nat)
  /-- Buffer clearing after a reset completes; CORE ready sets at the next milestone. (R240) -/
  | fwdDomainRestart (dt : Nat) (die : Nat)
  /-- CCLK has stayed within tolerance of the target for 10 us and the ramp ends. (R231) -/
  | rampDone (dt : Nat)
  /-- A voltage request is acknowledged and V_ack changes; `alert` is the StatusAlert flag of the response to the write. (R334, R336) -/
  | avsAck (dt : Nat) (rail : Nat) (alert : Bool)
  /-- A voltage request attempt is not acknowledged within 500 us and is retried or fails; `status` is the
  StatusAlert flag of a response that came. (R334, R336) -/
  | avsAttemptTimeout (dt : Nat) (rail : Nat) (status : Option Bool)
  /-- Every 4,096th milestone the status of each AVS rail is read. (R336) -/
  | avsStatusPoll (dt : Nat) (alerts : BitVec 8)
  /-- A rail stays below 97 % of its reference for 1 us. (R337) -/
  | railWarning (dt : Nat) (reading : RailReading)
  /-- A rail stays below 95 % of its reference for 1 us. (R337) -/
  | railCritical (dt : Nat) (reading : RailReading)
  /-- PWR_LIMIT_N held low for 1 us asserts a shedding trigger. (R420) -/
  | pwrLimitN (dt : Nat)
  /-- A die sensor reads 105 C or more. (R337) -/
  | thermal (dt : Nat) (die : Nat) (temp : Int)
  /-- A shedding trigger clears and the dwell starts counting. (R340) -/
  | triggerClear (dt : Nat) (clear : Clearing)
  /-- A shedding stage applies at a milestone. (R339) -/
  | shedStage (dt : Nat)
  /-- A dwell ends and the highest stage in effect restores. (R340) -/
  | shedRestore (dt : Nat)
  /-- The DORMANT entry steps run from the commit milestone to the retention request. (R343) -/
  | dormantEntry (dt : Nat)
  /-- In compatibility mode a wake abandons entry at the next abort point. (R346) -/
  | dormantAbort (dt : Nat)
  /-- A filtered falling edge on WAKE_N is a wake. (R421) -/
  | wakeNFall (dt : Nat)
  /-- The exit sequence restores voltage, clocks, banks and links after a wake. (R347) -/
  | dormantExit (dt : Nat) (bad0 : BitVec 16) (bad1 : BitVec 16)
  /-- A self-test ends; a memory BIST marks the die's banks lost. (R349) -/
  | bistComplete (dt : Nat) (die : Nat) (failures : Nat)
  /-- A segment starts retraining because of temperature or voltage difference. (R434) -/
  | causewayRetrain (dt : Nat) (segment : Nat) (tempDiff : Int) (milliVolt : Int)
  /-- VDD_CORE0 and VDD_CORE1 differ by more than 150 mV for 1 us. (R434) -/
  | vddCoreSkew (dt : Nat) (milliVolt : Int)
  /-- A retrain attempt completes; traffic resumes or a further attempt runs. (R435) -/
  | causewayRetrainDone (dt : Nat) (segment : Nat) (trained : Bool)
  /-- Every 4,096th milestone latencies are corrected for die temperature. (R180) -/
  | temperatureCompensation (dt : Nat) (temps : List Int)
  /-- At every milestone the timing TDC measures phase and lane skew of each port: `phi` of the active timing lane, and the skew of
  `lane`, in 2^-12 ns. (R170) -/
  | timingPhaseSample (dt : Nat) (port : Nat) (phi : Nat) (lane : Nat) (skew : Int)
  /-- The MAC receives a frame whole and applies runt, MTU and FIFO checks. (R54) -/
  | rxFrame (dt : Nat) (lport : Nat) (arrival : Arrival) (frame : List Byte)
  /-- A pipeline takes a whole frame and parses, looks up, classifies and enqueues, punts or drops it. (R68) -/
  | pipelineFrame (dt : Nat) (pipeline : Nat)
  /-- A frame taken from the inject ring is processed or enqueued directly. (R86) -/
  | injectFrame (dt : Nat) (record : List Byte)
  /-- When the port can start a frame, the scheduler picks and sends a head frame. (R135) -/
  | dequeue (dt : Nat) (lport : Nat) (sound : Bool)
  /-- XOFF is repeated each time half the sent quanta has elapsed. (R100) -/
  | xoffRepeat (dt : Nat) (lport : Nat) (priority : Nat)
  /-- A received MAC control frame is honoured as PFC, ignored as PAUSE or counted. (R98) -/
  | macControlRx (dt : Nat) (lport : Nat) (frame : ControlFrame)
  /-- 400 ns after a PFC frame the pause takes hold. (R102) -/
  | pfcPauseStart (dt : Nat) (lport : Nat) (priority : Nat)
  /-- The pause time of a priority runs out. (R102) -/
  | pfcPauseEnd (dt : Nat) (lport : Nat) (priority : Nat)
  /-- At each milestone every residue line is retried from its head. (R113) -/
  | residueRetry (dt : Nat)
  /-- At each milestone up to four expired frames are discarded from each deadline FIFO head. (R134) -/
  | deadlineHeadCheck (dt : Nat)
  /-- The port-hold interval ends with the link still down. (R107) -/
  | portHoldEnd (dt : Nat) (lport : Nat)
  /-- A class 7 frame starts at a reserved window's release instant. (R121) -/
  | releaseInstant (dt : Nat) (release : Release)
  /-- A reserved window closes and class 7 window counts rise. (R123) -/
  | windowClose (dt : Nat) (lport : Nat)
  /-- At the swap milestone the shadow calendar becomes active. (R127) -/
  | calendarSwap (dt : Nat) (lport : Nat)
  /-- At the first cycle start after CALENDAR_DISABLE commits the calendar is removed. (R129) -/
  | calendarRemoval (dt : Nat) (lport : Nat)
  /-- LOS asserts on a lane after 256 ns below threshold; port 96, lane 0 is the management port's. (R152) -/
  | los (dt : Nat) (port : Nat) (lane : Nat)
  /-- LOS clears after 1 us above threshold. (R152) -/
  | losClear (dt : Nat) (port : Nat) (lane : Nat)
  /-- LOL asserts on a lane after 1 us off frequency or out of lock. (R152) -/
  | lol (dt : Nat) (port : Nat) (lane : Nat)
  /-- LOL clears after 10 us of continuous lock. (R152) -/
  | lolClear (dt : Nat) (port : Nat) (lane : Nat)
  /-- The PCS loses alignment and the link goes down. (R147) -/
  | pcsAlignmentLoss (dt : Nat) (lport : Nat)
  /-- PCS alignment and FEC lock complete and the link is up. (R147) -/
  | linkUp (dt : Nat) (lport : Nat)
  /-- A partner's tap request is applied or answered with limit status. (R150) -/
  | trainingRequest (dt : Nat) (port : Nat) (lane : Nat) (tap : Nat) (ask : TapAsk)
  /-- Training not complete within the limit; auto-negotiation restarts. (R151) -/
  | trainingTimeout (dt : Nat) (lport : Nat)
  /-- Every 4,096th milestone uncorrectable codewords are compared with the threshold. (R154) -/
  | fecDegradeCheck (dt : Nat) (lport : Nat) (bins : List Nat) (symbols : List Nat)
  /-- A logical port completes its move into a low-power state. (R155) -/
  | lowPowerTransitionDone (dt : Nat) (lport : Nat)
  /-- At the milestone after a frame is enqueued on an AUTO_WAKE port, its exit to L-ACTIVE starts. (R157) -/
  | autoWake (dt : Nat) (lport : Nat)
  /-- At the milestone after an L-DEEP port becomes time-critical, its exit starts. (R156) -/
  | timingWake (dt : Nat) (lport : Nat)
  /-- An L-DEEP exit has not brought the link up within the wake limit. (R158) -/
  | wakeTimeout (dt : Nat) (lport : Nat)
  /-- At each AX instant the MAC inserts an AX message at the first allowed frame boundary. (R173) -/
  | axSend (dt : Nat) (port : Nat)
  /-- A received AX frame is removed, checked and completes an exchange with an offset estimate. (R175) -/
  | axReceive (dt : Nat) (port : Nat) (frame : List Byte)
  /-- No valid exchange for the silence limit; the port offers frequency only. (R178) -/
  | axSilent (dt : Nat) (port : Nat)
  /-- At the milestone after the timing lane fails, the port moves to another lane. (R183) -/
  | timingFallback (dt : Nat) (port : Nat)
  /-- The configured lane locked for 4,096 milestones with skew known becomes active again. (R185) -/
  | timingRevert (dt : Nat) (port : Nat)
  /-- A PPS_IN pulse yields a time offset estimate. (R192) -/
  | ppsInPulse (dt : Nat) (input : Nat)
  /-- A received IEEE 1588 message is stamped and handled, yielding estimates per exchange. (R188) -/
  | ptpMessage (dt : Nat) (port : Nat) (msg : PtpMsg)
  /-- A reference loses its signal, effective at the next milestone. (R198) -/
  | refSignalLoss (dt : Nat) (entry : Nat)
  /-- Each second every enabled source's offset is sampled and checked, and a history sample is taken. (R196) -/
  | refMonitorSample (dt : Nat) (samples : List (Option Int)) (output : Int)
  /-- At every milestone reference selection is evaluated. (R201) -/
  | refSelection (dt : Nat)
  /-- At the next milestone the DPLL switches reference with build-out. (R207) -/
  | refSwitch (dt : Nat) (offset : Int)
  /-- Once per DPLL cycle the phase error is compared with the lock window. (R209) -/
  | dpllCycle (dt : Nat) (phase : Int)
  /-- Holdover validity is reached and the DPLL enters LOST. (R212) -/
  | holdoverExpiry (dt : Nat)
  /-- No parent candidate qualifies for the silence limit; the worker becomes ORPHAN. (R266) -/
  | managerLost (dt : Nat)
  /-- At the next milestone the command parent port moves to another qualifying candidate. (R265) -/
  | parentSwitch (dt : Nat)
  /-- No AX from a worker within the silence limit. (R267) -/
  | workerAbsent (dt : Nat) (port : Nat)
  /-- 7,812,500 milestones after a key roll the old key is no longer accepted. (R262) -/
  | keyRollEnd (dt : Nat)
  /-- A selected edge on a TDC channel is stamped, queued and fitted. (R270) -/
  | tdcEdge (dt : Nat) (channel : Nat) (falling : Bool)
  /-- A transition on a gate pin is stamped and opens or closes gates. (R275) -/
  | tdcGateEdge (dt : Nat) (pin : Nat) (level : Bool)
  /-- A WINDOW gate opens at its start. (R276) -/
  | tdcWindowOpen (dt : Nat) (channel : Nat)
  /-- A gate closes and its fit report is stored. (R281) -/
  | tdcGateClose (dt : Nat) (channel : Nat)
  /-- A waiting record is written whole to its DMA ring and the producer index moves. (R306) -/
  | ringWrite (dt : Nat) (ring : Nat)
  /-- A ring's interrupt timer runs out and its vector is raised. (R307) -/
  | ringIntTimer (dt : Nat) (ring : Nat)
  /-- At a snapshot milestone every counter is latched. (R381) -/
  | snapshot (dt : Nat)
  /-- A snapshot is latched whole and the window changes over. (R383) -/
  | snapshotLatched (dt : Nat)
  /-- A record from the pending queue is written to an eMRAM slot. (R397) -/
  | recordStore (dt : Nat)
  /-- A freeze ends by itself 60 s after the latest freeze. (R393) -/
  | recorderUnfrozen (dt : Nat)
  /-- A one-second rate window ends and per-code acceptance counts restart. (R394) -/
  | rateWindowEnd (dt : Nat)
  /-- Every 65,536th milestone the LED chain shifts out a frame. (R416) -/
  | ledFrame (dt : Nat)
  /-- At the milestone after a module-control bit changes the chain shifts out a frame. (R417) -/
  | modctlFrame (dt : Nat)
  /-- A bus tenure writes a module's DataPathDeinit bits once the bus is free. (R411) -/
  | modBusWrite (dt : Nat) (bus : Nat) (result : ModResult)
  /-- A falling edge on MOD_INT_N is recorded as MODULE_INTERRUPT. (R414) -/
  | modIntNFall (dt : Nat)
  /-- A boundary-scan instruction is loaded and the pins follow it. (R426) -/
  | tapInstruction (dt : Nat) (instruction : TapInstr)
  /-- Test-Logic-Reset or TRST_N low returns every pin to its function. (R426) -/
  | tapReset (dt : Nat)
  /-- A CLK_OUT synthesizer that was out of lock meets its lock criterion and its output restarts on an aligned edge. (R236) -/
  | clkOutSynthesizerLock (dt : Nat) (output : Nat)
  /-- Link training ends on a CR or KR logical port, its transmit taps become fixed and PCS alignment begins. (R150) -/
  | trainingComplete (dt : Nat) (lport : Nat)
  /-- A mode transition started by MODE_SET ends, TRANSITION clears and writes are no longer refused with BUSY. (R333) -/
  | modeTransitionEnd (dt : Nat)
  /-- Each second of the 32.768 kHz Vigil crystal advances OP_SECONDS and the free-running COARSE time. (R351) -/
  | vigilCrystalSecond (dt : Nat)
  /-- A PTP port's Sync, Announce or Delay_Req interval runs out and the port sends that message. (R188) -/
  | ptpSendInterval (dt : Nat) (port : Nat) (kind : Nat)
  deriving DecidableEq, Repr

end Sys2Proof
end

