-- ==== Sys2Proof/Decode.lean ====
section
/-! DEFINITION. The command that a word of the opcode table spells: the table gives its rows no bits. -/

namespace Sys2Proof

/-- The command that a word of `nbits` bits spells by the bits of the opcode table. No row of the table has bits: a command
reaches the device as a packet, a register access or a pin event, so every word is refused (log entry 3). -/
def decodeTableWord (_nbits _w : Nat) : Option Instr := none

end Sys2Proof
end

