-- ==== Sys2Proof/Machine/Bits.lean ====
section
/-! DEFINITION. Bytes, big-endian fields (R7), sparse tables and sparse byte memories. -/

namespace Sys2Proof.Machine

/-- The number that bytes spell, most significant first (R7). -/
def beNat (bs : List Byte) : Nat := bs.foldl (fun n b => n * 256 + b.toNat) 0

/-- `n` bytes of a number, most significant first (R7); higher bytes are cut off. -/
def toBe : Nat → Nat → List Byte
  | 0, _ => []
  | n + 1, v => BitVec.ofNat 8 (v / 256 ^ n) :: toBe n v

/-- The field of `n` bytes at byte offset `o` of parameters, unsigned (R311). -/
def fld (p : List Byte) (o n : Nat) : Nat := beNat ((p.drop o).take n)

/-- A number of `bits` bits read as two's complement. -/
def signed (bits v : Nat) : Int := if v < 2 ^ (bits - 1) then (v : Int) else (v : Int) - (2 ^ bits : Nat)

/-- The field of `n` bytes at byte offset `o`, signed (R311). -/
def sfld (p : List Byte) (o n : Nat) : Int := signed (8 * n) (fld p o n)

/-- `n` bytes of a signed number in two's complement. -/
def toBeInt (n : Nat) (v : Int) : List Byte := toBe n (v % ((256 ^ n : Nat) : Int)).toNat

/-- Bit `i` of a number. -/
def bit (v i : Nat) : Bool := v.testBit i

/-- A flag as a number. -/
def flag (b : Bool) : Nat := if b then 1 else 0

/-- A number held within `n` bits by saturation. -/
def satNat (bits v : Nat) : Nat := min v (2 ^ bits - 1)

/-- A signed number held within `bits` bits by saturation. -/
def satInt (bits : Nat) (v : Int) : Int := max (-((2 ^ (bits - 1) : Nat) : Int)) (min v (((2 ^ (bits - 1) : Nat) : Int) - 1))

/-- Element `i` of a list, or a default beyond its end. -/
def getAt {α : Type} (l : List α) (i : Nat) (d : α) : α := l[i]?.getD d

/-- The value at a key, or the table's default. -/
def tget {β : Type} (t : Tbl β) (k : Nat) (d : β) : β :=
  match t with
  | [] => d
  | (j, v) :: r => if j = k then v else tget r k d

/-- The value at a key, if it is listed. -/
def tfind {β : Type} (t : Tbl β) (k : Nat) : Option β :=
  match t with
  | [] => none
  | (j, v) :: r => if j = k then some v else tfind r k

/-- A table with one key set; keys stay strictly rising. -/
def tput {β : Type} (t : Tbl β) (k : Nat) (v : β) : Tbl β :=
  match t with
  | [] => [(k, v)]
  | (j, w) :: r => if j < k then (j, w) :: tput r k v else if j = k then (k, v) :: r else (k, v) :: (j, w) :: r

/-- A table without a key. -/
def tdel {β : Type} (t : Tbl β) (k : Nat) : Tbl β := t.filter (fun e => e.1 != k)

/-- A table with one key changed by a function of its value or the default. -/
def tmod {β : Type} (t : Tbl β) (k : Nat) (d : β) (f : β → β) : Tbl β := tput t k (f (tget t k d))

/-- The byte of a sparse memory at an offset; a byte that is not listed reads 0. -/
def memByte (m : List Host.Cell) (o : Nat) : Byte := tget m o 0

/-- A sparse memory with one byte written; a byte of 0 is not listed. -/
def memPut (m : List Host.Cell) (o : Nat) (b : Byte) : List Host.Cell := if b = 0 then tdel m o else tput m o b

/-- A sparse memory with bytes written from an offset on. -/
def memWrite (m : List Host.Cell) (o : Nat) : List Byte → List Host.Cell
  | [] => m
  | b :: bs => memWrite (memPut m o b) (o + 1) bs

/-- `n` bytes of a sparse memory from an offset on. -/
def memBytes (m : List Host.Cell) (o n : Nat) : List Byte := (List.range n).map (fun i => memByte m (o + i))

/-- The canonical form of a sparse memory: offsets strictly rising, no listed byte 0. -/
def memWf : List Host.Cell → Bool
  | [] => true
  | [(_, b)] => b != 0
  | (o, b) :: (o', b') :: r => decide (o < o') && (b != 0) && memWf ((o', b') :: r)

/-- Numbers from `lo` up to but not including `hi`. -/
def upto (lo hi : Nat) : List Nat := (List.range (hi - lo)).map (lo + ·)

/-- The logical ports a port bitmap selects, in rising order (R311): bit b of byte j is logical port 8*j + b. -/
def bitmapPorts (bs : List Byte) : List Nat :=
  (List.range (8 * bs.length)).filter (fun i => bit (getAt bs (i / 8) 0).toNat (i % 8))

/-- The 48-byte port bitmap of a list of logical ports (R311). -/
def portBitmap (ps : List Nat) : List Byte :=
  (List.range 48).map (fun j => BitVec.ofNat 8 ((List.range 8).foldl
    (fun v b => if ps.contains (8 * j + b) then v + 2 ^ b else v) 0))

/-- A list cut into pieces of `n` elements; `fuel` bounds their number. -/
def chunks {α : Type} (n : Nat) : Nat → List α → List (List α)
  | 0, _ => []
  | fuel + 1, l => if l.isEmpty then [] else l.take n :: chunks n fuel (l.drop n)

/-- The entries of an R315 list of entry size `n`. -/
def entries (p : List Byte) (n : Nat) : List (List Byte) := chunks n (fld p 0 2) (p.drop 4)

/-- Division rounded up. -/
def ceilDiv (a b : Nat) : Nat := (a + b - 1) / b

end Sys2Proof.Machine
end

