-- ==== Sys2Proof/Machine/Cipher.lean ====
section
/-! DEFINITION. The AES key wrap that the spec takes by reference (R248, R249, R262; RFC 3394): AES with a key of 256 bits
(log entry 53). -/

namespace Sys2Proof.Machine

/-- The substitution table of AES, 32 bytes a word, the first of them lowest. -/
def aesTable : List Nat :=
  [0xc072a49cafa2d4adf04759fa7dc982ca76abd7fe2b670130c56f6bf27b777c63,
   0x75b227ebe28012079a059618c323c7041531d871f1e5a534ccf73f362693fdb7,
   0xcf584c4a39becb6a5bb1fc20ed00d153842fe329b3d63b52a05a6e1b1a2c8309,
   0xd2f3ff1021dab6bcf5389d928f40a351a89f3c507f02f94585334d43fbaaefd0,
   0xdb0b5ede14b8ee4688902a22dc4f816073195d643d7ea7c41744975fec130ccd,
   0x08ae7a65eaf4566ca94ed58d6d37c8e779e4959162acd3c25c2406490a3a32e0,
   0x9e1dc186b95735610ef6034866b53e708a8bbd4b1f74dde8c6b4a61c2e2578ba,
   0x16bb54b00f2d99416842e6bf0d89a18cdf2855cee9871e9b948ed9691198f8e1]

/-- The inverse substitution table of AES. -/
def aesInvTable : List Nat :=
  [0xcbe9dec444438e3487ff2f9b8239e37cfbd7f3819ea340bf38a53630d56a0952,
   0x25d18b6d49a25b76b224d92866a12e084ec3fa420b954cee3d23c2a632947b54,
   0x849d8da75746155edab9edfd5048706c92b6655dcc5ca4d41698688664f6f872,
   0x6b8a130103bdafc1020f3fca8f1e2cd00645b3b80558e4f70ad3bc8c00abd890,
   0x6edf751ce837f9e28535ade72274ac9673e6b4f0cecff297eadc674f4111913a,
   0xf45acd78fec0db9a2079d2c64b3e56fc1bbe18aa0e62b76f89c5291d711af147,
   0xef9cc9939f7ae52d0d4ab519a97f51605fec8027591012b131c7078833a8dd1f,
   0x7d0c2155631469e126d677ba7e042b17619953833cbbebc8b0f52aae4d3be0a0]

/-- A byte through a substitution table. -/
def aesLookup (table : List Nat) (b : Nat) : Nat := getAt table (b / 32) 0 >>> (8 * (b % 32)) % 256

/-- The lowest `n` bytes of a word through a substitution table. -/
def aesSub (table : List Nat) : Nat → Nat → Nat
  | 0, _ => 0
  | n + 1, x => aesSub table n (x / 256) * 256 + aesLookup table (x % 256)

/-- The key schedule of AES extended by `n` words, newest word first; `i` is the number of the next word. -/
def aesExtend : Nat → Nat → List (BitVec 32) → List (BitVec 32)
  | 0, _, w => w
  | n + 1, i, w =>
    let last := getAt w 0 0
    let sub := fun x : BitVec 32 => BitVec.ofNat 32 (aesSub aesTable 4 x.toNat)
    let x :=
      if i % 8 = 0 then sub (last.rotateLeft 8) ^^^ BitVec.ofNat 32 (2 ^ (i / 8 - 1) * 0x1000000)
      else if i % 8 = 4 then sub last else last
    aesExtend n (i + 1) ((getAt w 7 0 ^^^ x) :: w)

/-- A block of 16 bytes, the first the most significant. -/
abbrev Block := BitVec 128

/-- The fifteen round keys of a key of 32 bytes. -/
def aesRoundKeys (key : List Byte) : List Block :=
  let w := (List.range 8).map (fun i => BitVec.ofNat 32 (fld key (4 * i) 4))
  (chunks 4 15 (aesExtend 52 8 w.reverse).reverse).map (fun k => k.foldl (fun (x : Block) y => (x <<< 32) ||| y.setWidth 128) 0)

/-- Twice each byte of a block in the field of AES. -/
def aesDouble (x : Block) : Block :=
  ((x &&& 0x7F7F7F7F7F7F7F7F7F7F7F7F7F7F7F7F) <<< 1) ^^^ (((x >>> 7) &&& 0x01010101010101010101010101010101) * 0x1B)

/-- Each column of a block moved up by one byte. -/
def aesUp (x : Block) : Block :=
  ((x <<< 8) &&& 0xFFFFFF00FFFFFF00FFFFFF00FFFFFF00) ||| ((x >>> 24) &&& 0x000000FF000000FF000000FF000000FF)

/-- The column step of AES. -/
def aesMix (x : Block) : Block :=
  let y := aesUp x
  let z := aesUp y
  aesDouble (x ^^^ y) ^^^ y ^^^ z ^^^ aesUp z

/-- The inverse of the column step. -/
def aesUnmix (x : Block) : Block := aesMix (x ^^^ aesDouble (aesDouble (x ^^^ aesUp (aesUp x))))

/-- The row step of AES: row r moves r columns to the left, by `turn` of 1, or to the right, by 3. -/
def aesShift (turn : Nat) (x : Block) : Block :=
  (x &&& 0xFF000000FF000000FF000000FF000000) |||
    (x.rotateLeft (32 * turn) &&& 0x00FF000000FF000000FF000000FF0000) |||
    (x.rotateLeft 64 &&& 0x0000FF000000FF000000FF000000FF00) |||
    (x.rotateLeft (128 - 32 * turn) &&& 0x000000FF000000FF000000FF000000FF)

/-- Each byte of a block through a substitution table. -/
def aesSubBlock (table : List Nat) (x : Block) : Block := BitVec.ofNat 128 (aesSub table 16 x.toNat)

/-- A block encrypted under the round keys. -/
def aesEncrypt (keys : List Block) (x : Block) : Block :=
  let s := ((keys.drop 1).take 13).foldl (fun s k => aesMix (aesShift 1 (aesSubBlock aesTable s)) ^^^ k) (x ^^^ getAt keys 0 0)
  aesShift 1 (aesSubBlock aesTable s) ^^^ getAt keys 14 0

/-- A block decrypted under the round keys. -/
def aesDecrypt (keys : List Block) (x : Block) : Block :=
  let s := ((keys.drop 1).take 13).reverse.foldl (fun s k => aesUnmix (aesSubBlock aesInvTable (aesShift 3 s) ^^^ k)) (x ^^^ getAt keys 14 0)
  aesSubBlock aesInvTable (aesShift 3 s) ^^^ getAt keys 0 0

/-- The steps of RFC 3394's wrapping that `n` counts, from step `t`: the check value and the words of 64 bits, the next to change
in front. -/
def wrapSteps (keys : List Block) : Nat → Nat → BitVec 64 → List (BitVec 64) → List (BitVec 64)
  | 0, _, a, rs => a :: rs
  | n + 1, t, a, rs =>
    let b := aesEncrypt keys (a ++ getAt rs 0 0)
    wrapSteps keys n (t + 1) (b.extractLsb' 64 64 ^^^ BitVec.ofNat 64 t) (rs.drop 1 ++ [b.extractLsb' 0 64])

/-- The last `t` steps of RFC 3394's wrapping undone: the check value and the words. -/
def unwrapSteps (keys : List Block) : Nat → BitVec 64 → List (BitVec 64) → BitVec 64 × List (BitVec 64)
  | 0, a, rs => (a, rs)
  | t + 1, a, rs =>
    let b := aesDecrypt keys ((a ^^^ BitVec.ofNat 64 (t + 1)) ++ getAt rs (rs.length - 1) 0)
    unwrapSteps keys t (b.extractLsb' 64 64) (b.extractLsb' 0 64 :: rs.take (rs.length - 1))

/-- The check value of RFC 3394. -/
def wrapCheck : BitVec 64 := 0xA6A6A6A6A6A6A6A6

/-- The words of 64 bits of a row of bytes. -/
def words64 (q : List Byte) : List (BitVec 64) := (chunks 8 (q.length / 8) q).map (fun c => BitVec.ofNat 64 (beNat c))

/-- AES key wrap of `data` under `key` (RFC 3394, R262). -/
def keyWrap (key data : List Byte) : List Byte :=
  (wrapSteps (aesRoundKeys key) (6 * (data.length / 8)) 1 wrapCheck (words64 data)).flatMap (fun w => toBe 8 w.toNat)

/-- AES key unwrap under `key` (RFC 3394): the key, or none when the integrity check fails (R248, R249, R262). -/
def keyUnwrap (key wrapped : List Byte) : Option (List Byte) :=
  let u := unwrapSteps (aesRoundKeys key) (6 * (wrapped.length / 8 - 1)) (BitVec.ofNat 64 (fld wrapped 0 8)) (words64 (wrapped.drop 8))
  if u.1 = wrapCheck then some (u.2.flatMap (fun w => toBe 8 w.toNat)) else none

end Sys2Proof.Machine
end

