-- ==== Sys2Proof/Machine/Crypto.lean ====
section
/-! DEFINITION. The check sums and the hash that the spec uses: CRC-32 (FCS of IEEE 802.3), CRC-32C (R73, Table 16.2),
SHA-256 and HMAC-SHA-256 (R252, R287), the Galois LFSR of R387. -/

namespace Sys2Proof.Machine

/-- One bit of a reflected CRC-32 with a polynomial. -/
def crcBit (poly : BitVec 32) (c : BitVec 32) : BitVec 32 := if c.getLsbD 0 then (c >>> 1) ^^^ poly else c >>> 1

/-- One byte of a reflected CRC-32. -/
def crcByte (poly : BitVec 32) (c : BitVec 32) (b : Byte) : BitVec 32 :=
  let x := c ^^^ b.setWidth 32
  crcBit poly (crcBit poly (crcBit poly (crcBit poly (crcBit poly (crcBit poly (crcBit poly (crcBit poly x)))))))

/-- CRC-32 of IEEE 802.3. -/
def crc32 (bs : List Byte) : BitVec 32 := bs.foldl (crcByte 0xEDB88320) 0xFFFFFFFF ^^^ 0xFFFFFFFF

/-- CRC-32C (R73, Table 16.2). -/
def crc32c (bs : List Byte) : BitVec 32 := bs.foldl (crcByte 0x82F63B78) 0xFFFFFFFF ^^^ 0xFFFFFFFF

/-- The FCS as transmitted: CRC-32 with the least significant byte first (IEEE 802.3). -/
def fcs (bs : List Byte) : List Byte := (toBe 4 (crc32 bs).toNat).reverse

/-- The largest number below 2^`i` on top of `r` whose `k`-th power does not pass `n`, found bit by bit. -/
def rootFrom (k : Nat) : Nat → Nat → Nat → Nat
  | 0, r, _ => r
  | i + 1, r, n => rootFrom k i (if (r + 2 ^ i) ^ k ≤ n then r + 2 ^ i else r) n

/-- The primes below a bound, in order. -/
def primesBelow (n : Nat) : List Nat :=
  (List.range n).filter (fun p => decide (1 < p) && (upto 2 18).all (fun d => decide (p % d ≠ 0) || decide (p ≤ d)))

/-- The first 32 bits of the fraction of the `k`-th root of each of some numbers below 512, as SHA-256 takes its constants. -/
def rootBits (k : Nat) (ps : List Nat) : List (BitVec 32) :=
  ps.map (fun p => BitVec.ofNat 32 (rootFrom k 37 0 (p * 2 ^ (32 * k))))

/-- The round constants of SHA-256: cube roots of the first 64 primes. -/
def shaK : List (BitVec 32) := rootBits 3 (primesBelow 312)

/-- The initial hash value of SHA-256: square roots of the first eight primes. -/
def shaInit : List (BitVec 32) := rootBits 2 (primesBelow 20)

/-- Three turns of a word, or two turns and a shift where `last` is given, combined bit by bit. -/
def shaMix (x : BitVec 32) (i j k : Nat) (last : Bool) : BitVec 32 :=
  x.rotateRight i ^^^ x.rotateRight j ^^^ (if last then x >>> k else x.rotateRight k)

/-- The window of sixteen schedule words one word further. -/
def shaSlide (w : List (BitVec 32)) : List (BitVec 32) :=
  w.drop 1 ++ [shaMix (getAt w 14 0) 17 19 10 true + getAt w 9 0 + shaMix (getAt w 1 0) 7 18 3 true + getAt w 0 0]

/-- The working variables, the first of them `a`, after a round whose constant and schedule word add up to `x`. -/
def shaRound (v : List (BitVec 32)) (x : BitVec 32) : List (BitVec 32) :=
  let at_ := fun (i : Nat) => getAt v i 0
  let chosen := at_ 6 ^^^ (at_ 4 &&& (at_ 5 ^^^ at_ 6))
  let most := (at_ 0 &&& at_ 1) ||| (at_ 2 &&& (at_ 0 ||| at_ 1))
  let t := x + at_ 7 + chosen + shaMix (at_ 4) 6 11 25 false
  (t + most + shaMix (at_ 0) 2 13 22 false) :: v.take 3 ++ (at_ 3 + t) :: (v.drop 4).take 3

/-- The rounds of a block, one for each constant, over the window of schedule words. -/
def shaRounds : List (BitVec 32) → List (BitVec 32) → List (BitVec 32) → List (BitVec 32)
  | [], _, v => v
  | k :: ks, w, v => shaRounds ks (shaSlide w) (shaRound v (k + getAt w 0 0))

/-- One block of 64 bytes of SHA-256. -/
def shaBlock (h : List (BitVec 32)) (block : List Byte) : List (BitVec 32) :=
  List.zipWith (· + ·) h (shaRounds shaK ((List.range 16).map (fun i => BitVec.ofNat 32 (fld block (4 * i) 4))) h)

/-- A message padded for SHA-256. -/
def shaPad (m : List Byte) : List Byte :=
  m ++ [0x80] ++ List.replicate ((119 - m.length % 64) % 64) 0 ++ toBe 8 (8 * m.length)

/-- SHA-256. -/
def sha256 (m : List Byte) : List Byte :=
  let p := shaPad m
  ((chunks 64 (p.length / 64) p).foldl shaBlock shaInit).flatMap (fun w => toBe 4 w.toNat)

/-- HMAC-SHA-256. -/
def hmac (key m : List Byte) : List Byte :=
  let k0 := if key.length > 64 then sha256 key else key
  let k := k0 ++ List.replicate (64 - k0.length) 0
  sha256 (k.map (· ^^^ 0x5c) ++ sha256 (k.map (· ^^^ 0x36) ++ m))

/-- The first 128 bits of HMAC-SHA-256: a packet's tag (R252, R287). -/
def tagOf (key m : List Byte) : List Byte := (hmac key m).take 16

/-- One step of the 32-bit Galois LFSR with polynomial x^32 + x^22 + x^2 + x + 1 (R387),
in either direction of shift (log entry 30). -/
def lfsrStep (x : BitVec 32) : BitVec 32 :=
  if Config.galoisRight then (if x.getLsbD 0 then (x >>> 1) ^^^ 0x80200003 else x >>> 1)
  else (if x.getLsbD 31 then (x <<< 1) ^^^ 0x00400007 else x <<< 1)

/-- `n` steps of the LFSR. -/
def lfsrSteps : Nat → BitVec 32 → BitVec 32
  | 0, x => x
  | n + 1, x => lfsrSteps n (lfsrStep x)

/-- The square root of a number below 2^256, rounded down. -/
def isqrt (n : Nat) : Nat := rootFrom 2 128 0 n

end Sys2Proof.Machine
end

