-- ==== Sys2Proof/Machine/State/Clocks.lean ====
section
/-! DEFINITION. State of clock synthesis and gating (09_clock_synthesis). -/

namespace Sys2Proof.Machine

/-- The clocks and the forwarding domain of a CORE die. -/
structure CoreDie where
  cclkLock : Bool := false
  bclkLock : Bool := false
  /-- gates open and the domain cleared: CORE ready -/
  running : Bool := false
  /-- step 9 has initialised the memories -/
  initialised : Bool := false
  /-- frozen, from this monotonic instant of the first loss of lock (R237, R240) -/
  frozen : Option Nat := none
  /-- monotonic instant of the latest loss of lock of either PLL (R239) -/
  lostAt : Nat := 0
  /-- reset, and not yet restarted (R240) -/
  reset : Bool := false
  /-- milestones of the freeze at which a window of some logical port closed have not been counted before this one -/
  frozenFrom : Milestone := 0
  deriving DecidableEq, Repr

/-- Who ramps CCLK, which decides what its end does. -/
inductive RampOwner where
  | host | shed | restore | dormantExit
  deriving DecidableEq, Repr

/-- A CCLK ramp (R229 to R233). -/
structure Ramp where
  target : Nat
  /-- MHz at which the ramp began -/
  start : Nat
  /-- monotonic instant at which it began -/
  from_ : Nat
  owner : RampOwner
  deriving DecidableEq, Repr

/-- A CLK_OUT output (Table 9.7). -/
structure ClkOut where
  enable : Bool := false
  p : Nat := 10000000
  q : Nat := 1
  offset : Nat := 0
  squelch : Nat := 0
  /-- its synthesizer is out of lock -/
  unlocked : Bool := false
  /-- squelched now (R236) -/
  squelched : Bool := false
  /-- first edge of the series that runs, and the instant at which the last one went low (R236) -/
  start : Option AT80 := none
  endsAt : AT80 := 0
  deriving DecidableEq, Repr

/-- Clock synthesis. -/
structure ClockState where
  /-- Oscillator qualified and not lost. Width: 1. Spec: 09 Table 9.9. Reset: 0. -/
  oscOk : Bool := false
  /-- Oscillator lost after it had been qualified. Width: 1. Spec: 15 Table 15.8. Reset: false. -/
  oscLost : Bool := false
  /-- Monotonic instant of the loss of the oscillator. Width: counter. Spec: 09 R219. Reset: 0. -/
  oscLostAt : Nat := 0
  /-- MCLK runs from the boot oscillator. Width: 1. Spec: 09 R219, Table 9.3. Reset: 1. -/
  mclkBoot : Bool := true
  /-- Qualification timed out. Width: 1. Spec: 15 R365. Reset: false. -/
  oscTimeout : Bool := false
  /-- ASYN locked. Width: 1. Spec: 09 Table 9.9. Reset: 0. -/
  asynLock : Bool := false
  /-- Forwarding domains by die code, 0 and 1. Width: 2. Spec: 09 R237. Reset: stopped. -/
  cores : Tbl CoreDie := []
  /-- Monotonic instants of the forwarding-domain resets. Width: list. Spec: 09 R240. Reset: empty. -/
  fwdResets : List Nat := []
  /-- CCLK in MHz while no ramp runs, 0 while stopped. Width: 12. Spec: 09 R227. Reset: 0 (Table 9.9). -/
  cclk : Nat := 0
  /-- CCLK ramp that runs. Width: Table. Spec: 09 R230. Reset: none. -/
  ramp : Option Ramp := none
  /-- Ramp profile: breakpoint in MHz and slope in MHz/ms of each segment. Width: 1-8 x 32. Spec: 09 R229. Reset: one segment at 100. -/
  profile : List (Nat × Nat) := [(1600, 100)]
  /-- Fused V-f table in mV of CORE0 and CORE1. Width: 2 x 6 x 16. Spec: 09 R228. Reset: fused, DESIGN CHOICE Table 9.5 (log 25). -/
  fused0 : List Nat := [720, 740, 760, 780, 800, 830]
  fused1 : List Nat := [720, 740, 760, 780, 800, 830]
  /-- CLK_OUT outputs. Width: 4. Spec: 09 Table 9.7. Reset: defaults of Table 9.7. -/
  outs : Tbl ClkOut := []
  /-- Lane TX PLL lock window in ps. Width: 16. Spec: 09 R224. Reset: 20. -/
  laneWindow : Nat := 20
  /-- Lane TX PLL lock count. Width: 32. Spec: 09 R224. Reset: 1024. -/
  laneN : Nat := 1024
  /-- Lane pairs whose TX PLL is locked, 4*port+pair. Width: 384. Spec: 09 R226. Reset: none. -/
  lanePlls : List Nat := []
  deriving DecidableEq, Repr

end Sys2Proof.Machine
end

