-- ==== Sys2Proof/Machine/State/Command.lean ====
section
/-! DEFINITION. State of the command interface (12_command_interface): pending commits, right of way, sequences, reply
caches, PCIe mailboxes, management port settings, outstanding in-band commands, DMA rings. -/

namespace Sys2Proof.Machine

/-- An accepted configuration write that waits for its milestone (R297, R300). `choice` is what acceptance settled: the
unit of a COMPARE_CLAIM, the swap unit of a CALENDAR_ENABLE; `transport` is listed by CMD_STATUS. -/
structure Commit where
  ms : Milestone
  op : Op
  req : Req
  choice : Nat
  deriving DecidableEq, Repr

/-- The states of Table 12.5. -/
inductive QState where
  | idle | pending | executing | done
  deriving DecidableEq, Repr

/-- One PCIe mailbox queue (R288, Tables 12.4 and 12.5). -/
structure Mailbox where
  /-- buffer bytes, listed by offset; an unlisted byte reads 0 -/
  buffer : List Host.Cell := []
  state : QState := .idle
  replyBytes : Nat := 0
  badMagic : Bool := false
  writeViol : Bool := false
  /-- byte count of the last accepted doorbell -/
  count : Nat := 0
  intEnable : Bool := false
  vector : BitVec 11 := 0
  deriving DecidableEq, Repr

/-- The sequence state of a local transport (R292): L and the last sixteen replies, newest first. -/
structure Sequence where
  last : Option (BitVec 32) := none
  cache : List Reply := []
  deriving DecidableEq, Repr

/-- A command sent on in-band that waits for its reply (R290). -/
structure Outstanding where
  /-- the in-band SEQUENCE it was sent with -/
  seq : BitVec 32
  /-- the packet as submitted -/
  req : Req
  opcode : Nat
  /-- monotonic instant at which it was sent -/
  sent : Nat
  deriving DecidableEq, Repr

/-- What a waiting record of a ring is (Table 12.9). -/
inductive RingKind where
  | none | punt | inject | tdc | event | tag | notify | reserved
  deriving DecidableEq, Repr

/-- KIND codes of Table 12.9. -/
def RingKind.ofCode : Nat → RingKind
  | 0 => .none | 1 => .punt | 2 => .inject | 3 => .tdc | 4 => .event | 5 => .tag | 6 => .notify | _ => .reserved

/-- One DMA ring descriptor (Tables 12.8 and 12.9, R306, R307). -/
structure Ring where
  base : BitVec 64 := 0
  enable : Bool := false
  /-- the descriptor has been in service with its KIND (R307) -/
  served : Bool := false
  kind : BitVec 3 := 0
  sizeLog2 : BitVec 4 := 0
  vector : BitVec 11 := 0
  prod : BitVec 32 := 0
  cons : BitVec 32 := 0
  intThreshold : BitVec 16 := 0
  intTimer : BitVec 16 := 0
  configErr : Bool := false
  active : Bool := false
  lost : BitVec 32 := 0
  /-- records that wait to be written, oldest first -/
  waiting : List (List Byte) := []
  /-- records written since the last interrupt -/
  sinceInt : Nat := 0
  /-- monotonic instant of the first record since the last interrupt -/
  firstSince : Option Nat := Option.none
  deriving DecidableEq, Repr

/-- The management port settings (R289, R403, MGMT_CONFIG). -/
structure MgmtCfg where
  /-- 0 IPv6 link-local, 1 IPv4, 2 IPv6 -/
  family : Nat := 0
  auth : Bool := true
  udpPort : Nat := 47190
  address : List Byte := List.replicate 16 0
  deriving DecidableEq, Repr

/-- The command interface. -/
structure CommandState where
  /-- Pending commits in the order accepted, at most 256. Width: list. Spec: 12 R300. Reset: empty. -/
  commits : List Commit := []
  /-- Holder of the right of way, 0 none. Width: 2. Spec: 12 R294. Reset: 0 (R294: after POR_N none). -/
  holder : Nat := 0
  /-- Lease of the holder in s, 0 for no lease. Width: 12. Spec: 12 R295. Reset: 0. -/
  lease : Nat := 0
  /-- Monotonic instant from which the lease runs. Width: counter. Spec: 12 R295. Reset: 0. -/
  leaseFrom : Nat := 0
  /-- L and reply cache of the PCIe transport. Width: 32 and 16 replies. Spec: 12 R292. Reset: none, empty. -/
  pcieSeq : Sequence := {}
  /-- L and reply cache of the management port. Width: 32 and 16 replies. Spec: 12 R292. Reset: none, empty. -/
  mgmtSeq : Sequence := {}
  /-- L of the in-band transport as CMD_STATUS reports it. Width: 32. Spec: 13 Table 13.2. Reset: none. -/
  inbandLast : Option (BitVec 32) := none
  /-- The four PCIe mailboxes. Width: 4 x (4 KiB and Table 12.4). Spec: 12 R288. Reset: IDLE, Table 12.5. -/
  mailboxes : Tbl Mailbox := []
  /-- Notification counts of PCIe, management port and in-band. Width: 3 x 32. Spec: 12 R286. Reset: 0. -/
  notifyPcie : BitVec 32 := 0
  notifyMgmt : BitVec 32 := 0
  notifyInband : BitVec 32 := 0
  /-- Management port address, UDP port and MGMT_AUTH. Width: 20 bytes. Spec: 12 R289. Reset: Table 13.2 defaults. -/
  mgmt : MgmtCfg := {}
  /-- Commands sent on in-band, at most 64. Width: list. Spec: 12 R290. Reset: empty. -/
  outstanding : List Outstanding := []
  /-- In-band SEQUENCE of the next packet originated. Width: 32. Spec: 12 R290. Reset: DESIGN CHOICE 0 (log 20). -/
  inbandSeq : BitVec 32 := 0
  /-- The management controller runs. Width: 1. Spec: 12 R303. Reset: false. -/
  controllerUp : Bool := false
  /-- The controller has been reset or stopped since it last ran. Width: 1. Spec: 15 Table 15.8. Reset: false. -/
  controllerReset : Bool := false
  /-- The firmware detects a fault of its own on the next packet it executes. Width: 1. Spec: 12 R304. Reset: false. -/
  firmwareFault : Bool := false
  /-- The 64 ring descriptors that differ from reset. Width: 64 x 32 bytes. Spec: 12 R306. Reset: 0 (Table 12.9). -/
  rings : Tbl Ring := []
  deriving DecidableEq, Repr

end Sys2Proof.Machine
end

