-- ==== Sys2Proof/Machine/State/Forward.lean ====
section
/-! DEFINITION. State of the forwarding pipeline, the output buffers and the egress scheduler (03_forwarding_pipeline,
04_buffers_and_queues, 05_scheduled_and_deadline_service). -/

namespace Sys2Proof.Machine

/-- What a tagged frame's records hold in common (Table 17.5). -/
structure TagInfo where
  id : BitVec 32
  lport : Nat
  stepCount : BitVec 8
  branches : Nat := 0
  mcast : Bool := false
  aclIndex : Nat := 0xFFFF
  pipeline : Nat
  /-- frame size after the ingress tag action -/
  length : Nat := 0
  /-- monotonic instant of the end of egress resolution -/
  lookup : Nat := 0
  deriving DecidableEq, Repr

/-- A frame and what its internal header keeps (R57, R66). `data` is the frame from destination address to the last
byte before the FCS. -/
structure Frame where
  data : List Byte
  /-- ingress logical port, or none for the inject ring (R91) -/
  input : Option Nat
  /-- ingress pipeline, or none for a DIRECT-injected frame (R91) -/
  pipeline : Option Nat
  cls : Nat := 0
  /-- deadline of a frame of classes 4-6, AT80[63:16] (R131) -/
  deadline : BitVec 48 := 0
  /-- arrival instant (R63) -/
  arrival : AT80 := 0
  /-- TIME_VALID at the arrival instant (R65) -/
  arrivalValid : Bool := false
  /-- HOP_COUNT has been incremented in this device, or the tag was inserted here (R65) -/
  hopDone : Bool := false
  /-- host-injected (R86) -/
  injected : Bool := false
  /-- monotonic instant of the arrival (R390) -/
  arrivalMono : Nat := 0
  /-- what its tag records hold, for a tagged frame (R387) -/
  tag : Option TagInfo := none
  /-- the Waymark EtherType under which it was parsed (R61) -/
  wm : Nat := 0x88B7
  /-- routed: its source address is that of each egress logical port (R72) -/
  routed : Bool := false
  /-- the logical port its records name as ingress, the matching ACL entry, and whether a version 1 tag was present on
  arrival (Table 3.8) -/
  lport : Nat := 0
  acl : Nat := 0xFFFF
  tagged : Bool := false
  /-- mirror sessions that copy it at its enqueue on a logical port: session and logical port (R82) -/
  owed : List (Nat × Nat) := []
  deriving DecidableEq, Repr

/-- A whole frame in an ingress FIFO, or a PIPE-injected frame that its pipeline has not taken (R52, R53). -/
structure RxFrame where
  lport : Nat
  data : List Byte
  arrival : AT80
  arrivalValid : Bool
  arrivalMono : Nat
  /-- monotonic instant at which its last byte arrived -/
  endMono : Nat
  fcsOk : Bool
  deriving DecidableEq, Repr

/-- Room that a frame took in an ingress FIFO (R53): the monotonic instants of its first and last byte, its bytes, and the
instant at which they were released. -/
structure FifoUse where
  start : Nat
  stop : Nat
  bytes : Nat
  freed : Nat
  deriving DecidableEq, Repr

/-- The frame on the wire of a logical port (R379): bytes before the FCS, host origin, 8*die + pool, the Waymark EtherType under
which it was parsed. -/
structure Flight where
  data : List Byte
  host : Bool
  region : Nat
  wm : Nat
  deriving DecidableEq, Repr

/-- A frame that waits on the sending side while the CORE0-CORE1 segment retrains (R17): the logical ports of the other die it is
bound for, multicast or not, and whether it is a mirror copy. -/
structure Crossing where
  frame : Frame
  targets : List Nat
  mcast : Bool
  mirror : Bool
  deriving DecidableEq, Repr

/-- A swap that is pending (R127): the swap milestone c, and the end of the N slots of the active calendar's current cycle, from
which the old idle entry governs until c. -/
structure Swap where
  at_ : Milestone
  idleFrom : Milestone
  deriving DecidableEq, Repr

/-- A record taken from the inject ring (R86). -/
structure Inject where
  mode : Nat
  lport : Nat
  cls : Nat
  data : List Byte
  deriving DecidableEq, Repr

/-- L2 entry kinds (R69) with TARGET. -/
structure L2Entry where
  vid : Nat
  mac : BitVec 48
  kind : Nat
  target : Nat
  deriving DecidableEq, Repr

/-- A route: prefix length, address, RESULT and INDEX (Table 13.4). -/
structure Route where
  plen : Nat
  addr : BitVec 128
  ecmp : Bool
  index : Nat
  deriving DecidableEq, Repr

/-- A next-hop entry (Table 13.4). -/
structure NextHop where
  kind : Nat
  lport : Nat
  vid : Nat
  dmac : BitVec 48
  deriving DecidableEq, Repr

/-- An ACL entry (Table 13.4): key and mask are 64 bytes (Table 13.5). -/
structure AclEntry where
  v6 : Bool
  action : Nat
  setClass : Option Nat
  mirror : Option Nat
  redirectGroup : Bool
  redirect : Nat
  key : List Byte
  mask : List Byte
  deriving DecidableEq, Repr

/-- A multicast group: its logical ports in rising order, and HAIRPIN (R76). -/
structure McGroup where
  hairpin : Bool := false
  ports : List Nat := []
  deriving DecidableEq, Repr

/-- LPORT_FWD_CONFIG settings (Table 13.4). -/
structure LportFwd where
  mtu : Nat := 9216
  /-- MTUs that were in effect in the last 10 us, newest first: the monotonic instant at which each ended, and its value (R54) -/
  mtuPast : List (Nat × Nat) := []
  pvid : Nat := 1
  /-- 0 NONE, 1 INSERT, 2 UPDATE, 3 STRIP -/
  tagIn : Nat := 0
  tagOut : Nat := 0
  trustTag : Bool := false
  trustDscp : Bool := false
  trustPcp : Bool := false
  defaultClass : Nat := 0
  /-- 0 DROP, 1 PUNT, 2 FLOOD -/
  l2Miss : Nat := 0
  missGroup : Nat := 0
  deriving DecidableEq, Repr

/-- A mirror session (R81): 0 logical port, 1 host, 2 disabled. -/
structure Mirror where
  destKind : Nat := 2
  dest : Nat := 0
  cls : Nat := 0
  truncate : Bool := false
  ingress : List Nat := []
  egress : List Nat := []
  deriving DecidableEq, Repr

/-- A punt token bucket (R85). Tokens are held in units of 2^-16 ns times frames per second. -/
structure Bucket where
  rate : Nat := 10000
  burst : Nat := 256
  /-- credit, in frames times 65536000000000 -/
  credit : Nat := 256 * 65536000000000
  /-- monotonic instant of the credit -/
  at_ : Nat := 0
  deriving DecidableEq, Repr

/-- A set of pool sizes and the class-to-pool map of one CORE die (Table 4.1): service 0-3, headroom, scheduled. -/
structure PoolSet where
  sizes : List Nat := [524288, 0, 0, 0, 0, 0]
  classMap : List Nat := [0, 0, 0, 0, 0, 0, 0]
  deriving DecidableEq, Repr

/-- QUEUE_CONFIG settings of a logical port and class (Table 13.6). -/
structure QueueCfg where
  k : Int := 0
  /-- 0 OFF, 1 DEPTH, 2 SOJOURN -/
  ecn : Nat := 0
  pmax : Nat := 64
  min : Nat := 8192
  max : Nat := 32768
  deriving DecidableEq, Repr

/-- PFC_CONFIG settings of a logical port (R99). -/
structure PfcCfg where
  lossless : Nat := 0
  classMap : List Nat := [0, 1, 2, 3, 4, 5, 6]
  xoff : Nat := 1024
  xon : Nat := 768
  quanta : Nat := 65535
  headroom : List Nat := [0, 0, 0, 0, 0, 0, 0, 0]
  deriving DecidableEq, Repr

/-- What PFC has sent and received on a logical port and priority (R100, R102). -/
structure PfcPort where
  /-- XOFF has been sent and XON has not -/
  xoffSent : Bool := false
  /-- an XOFF condition has arisen and no XON has since fallen due -/
  due : Bool := false
  /-- the XOFF of a freeze stands (R238) -/
  freeze : Bool := false
  /-- monotonic instant of the last XOFF -/
  lastXoff : Nat := 0
  /-- quanta of the last XOFF -/
  quanta : Nat := 0
  /-- PFC frames received whose 400 ns have not passed: the monotonic instant at which each takes hold, and its quanta -/
  incoming : List (Nat × Nat) := []
  /-- the pause lasts until this monotonic instant -/
  pausedUntil : Option Nat := none
  deriving DecidableEq, Repr

/-- A frame stored in the output buffer of a CORE die (R88, R94). -/
structure Copy where
  id : Nat
  die : Nat
  /-- 0-3 service pools, 4 headroom, 5 scheduled-reservation -/
  pool : Nat
  cells : Nat
  /-- PFC priority the cells count under, none for class 7 -/
  priority : Option Nat
  frame : Frame
  deriving DecidableEq, Repr

/-- One reference to a stored frame: a frame in a queue or a residue line (R91, R109 to R113). -/
structure Branch where
  copy : Nat
  lport : Nat
  cls : Nat
  /-- FIFO of classes 4-6: the ingress pipeline, none for the inject FIFO (R91) -/
  fifo : Option Nat
  /-- retries left while the branch waits in a residue line (R113) -/
  residue : Option Nat := none
  /-- window count of a class 7 frame (R123) -/
  windows : Nat := 0
  /-- ECN mark decided at admission (R104) -/
  marked : Bool := false
  /-- a copy of a mirror session (R82) -/
  mirror : Bool := false
  /-- monotonic instant of the admission (R105) -/
  admitted : Nat := 0
  /-- class queue length at admission, before the frame (QLEN_ENQ) -/
  qlen : Nat := 0
  /-- the branch waited in a residue line (R111) -/
  waited : Bool := false
  /-- the frame's mirror sessions of this logical port have not yet had their copies, which its enqueue makes (R82) -/
  owes : Bool := false
  deriving DecidableEq, Repr

/-- A calendar (Tables 5.1 and 5.2); an entry that is not listed has the Reset values. -/
structure Calendar where
  n : Nat := 1
  e : Nat := 1
  entries : Tbl Nat := []
  idle : Nat := 0x7F00
  offsets : List Nat := [0, 0, 0, 0, 0, 0, 0, 0]
  minFrame : Nat := 64
  windowLimit : Nat := 2
  deriving DecidableEq, Repr

/-- SCHED_CONFIG settings of a logical port (R133, R135). -/
structure SchedCfg where
  strict : Nat := 0
  weights : List Nat := [1, 1, 1, 1]
  tolerance : List Nat := [0, 0, 0]
  deriving DecidableEq, Repr

/-- The egress side of a logical port: the frame on the wire and the service pointers. -/
structure Egress where
  /-- monotonic instant at which the next frame can start -/
  freeAt : Nat := 0
  /-- monotonic instant at which the on-wire time of the last frame ends -/
  endAt : Nat := 0
  /-- class of the last frame -/
  cls : Nat := 0
  /-- close of the window in which the last class 7 frame started, as an AT80 instant -/
  close : Option Nat := none
  /-- deficits of classes 0-3 (R135) -/
  deficit : List Nat := [0, 0, 0, 0]
  /-- the DWRR class whose turn it is, and whether it has had its quantum in this round -/
  turn : Nat := 0
  hadQuantum : Bool := false
  /-- the FIFO after which round robin of R132 begins -/
  rr : Nat := 0
  /-- a class 7 frame starts directly after the frame on the wire (R122) -/
  delayed : Bool := false
  /-- the frame on the wire whose end has not been counted -/
  flight : Option Flight := none
  deriving DecidableEq, Repr

/-- Forwarding. -/
structure ForwardState where
  /-- Ingress FIFO of each port, oldest first. Width: 32 KiB each. Spec: 03 R53. Reset: empty. -/
  fifos : Tbl (List RxFrame) := []
  /-- Frame taken from the inject ring that its pipeline has not yet taken. Width: one frame. Spec: 03 R52. Reset: none. -/
  injectHead : Option Inject := none
  /-- Arrival instant and TIME_VALID of that frame. Width: 80 and 1. Spec: 03 Table 3.10. Reset: 0. -/
  injectAt : AT80 := 0
  injectValid : Bool := false
  /-- Monotonic instant at which that frame was taken. Width: counter. Spec: 03 Table 3.10. Reset: 0. -/
  injectMono : Nat := 0
  /-- Room that frames which have left or were dropped took in each port's ingress FIFO in the last 10 us. Width: table. Spec: 03 R53. Reset: empty. -/
  fifoPast : Tbl (List FifoUse) := []
  /-- Logical ports disabled while their CORE die was frozen, which are flushed when it resumes. Width: list. Spec: 01 R20. Reset: empty. -/
  flushDue : List Nat := []
  /-- Frames that a logical port in a near-end loop has sent and not yet received, FCS included. Width: table. Spec: 06 R160. Reset: empty. -/
  loopback : Tbl (List (List Byte)) := []
  /-- Frames that wait on the sending side of the CORE0-CORE1 segment, oldest first. Width: list. Spec: 01 R17. Reset: empty. -/
  crossings : List Crossing := []
  /-- Input each pipeline tries next, 0-2. Width: 48 x 2. Spec: 03 R52. Reset: DESIGN CHOICE 0 (log 20). -/
  nextInput : Tbl Nat := []
  /-- Logical port of each port that round robin tries next, 0-3. Width: 96 x 2. Spec: 03 R52. Reset: DESIGN CHOICE 0 (log 20). -/
  nextLport : Tbl Nat := []
  /-- L2 exact-match table. Width: 262144 entries. Spec: 03 Table 3.5. Reset: empty (15 Table 15.4 step 9). -/
  l2 : List L2Entry := []
  /-- IPv4 LPM table. Width: 2097152 entries. Spec: 03 Table 3.5. Reset: empty. -/
  lpm4 : List Route := []
  /-- IPv6 LPM short table. Width: 1048576 entries. Spec: 03 Table 3.5. Reset: empty. -/
  lpm6s : List Route := []
  /-- IPv6 LPM long table. Width: 524288 entries. Spec: 03 Table 3.5. Reset: empty. -/
  lpm6l : List Route := []
  /-- Next-hop table. Width: 65536 entries. Spec: 03 Table 3.5. Reset: empty. -/
  nexthops : Tbl NextHop := []
  /-- ECMP groups. Width: 16384 groups. Spec: 03 R73. Reset: empty. -/
  ecmp : Tbl (List Nat) := []
  /-- Ternary ACL. Width: 32768 entries. Spec: 03 R78. Reset: empty. -/
  acl : Tbl AclEntry := []
  /-- Multicast groups. Width: 32768 groups. Spec: 03 R76. Reset: empty. -/
  groups : Tbl McGroup := []
  /-- LPORT_FWD_CONFIG settings by logical port. Width: 384 x 16 bytes. Spec: 03 R55. Reset: defaults of Table 13.4, R55, R68, R79. -/
  lportFwd : Tbl LportFwd := []
  /-- DSCP and PCP class maps. Width: 64 x 3, 8 x 3. Spec: 03 R79. Reset: 0. -/
  dscpMap : List Nat := List.replicate 64 0
  pcpMap : List Nat := List.replicate 8 0
  /-- Mirror sessions. Width: 8. Spec: 03 R81. Reset: disabled. -/
  mirrors : Tbl Mirror := []
  /-- Punt buckets of reasons 1-7. Width: 7. Spec: 03 R85. Reset: 10000 frames/s, 256 frames. -/
  buckets : Tbl Bucket := []
  /-- L3_MISS_PUNT. Width: 1. Spec: 03 R71. Reset: 0. -/
  l3MissPunt : Bool := false
  /-- TTL_ACTION is DROP. Width: 1. Spec: 03 R72. Reset: 0. -/
  ttlDrop : Bool := false
  /-- Waymark EtherType. Width: 16. Spec: 03 R61. Reset: 0x88B7. -/
  etWaymark : Nat := 0x88B7
  /-- AX EtherType. Width: 16. Spec: 03 R61. Reset: 0x88B6 (07). -/
  etAx : Nat := 0x88B6
  /-- Command EtherType. Width: 16. Spec: 03 R61. Reset: 0x88B5 (10). -/
  etCommand : Nat := 0x88B5
  /-- ECMP device seed. Width: 32. Spec: 03 R73. Reset: 0. -/
  seed : BitVec 32 := 0
  /-- Committed pool set of each CORE die. Width: 2 sets. Spec: 04 R95. Reset: Table 4.1. -/
  pools : Tbl PoolSet := []
  /-- Pending pool set of each CORE die. Width: 2 sets. Spec: 04 R95. Reset: DESIGN CHOICE the defaults of Table 4.1 (log 24). -/
  poolsPending : Tbl PoolSet := []
  /-- Peak use of pool p of die d, key 6d+p. Width: 12 x 20. Spec: 04 Table 4.5. Reset: 0. -/
  peaks : Tbl Nat := []
  /-- Queue settings, key 8*lport+class. Width: 384 x 7. Spec: 04 QUEUE_CONFIG. Reset: defaults. -/
  queues : Tbl QueueCfg := []
  /-- PFC settings by logical port. Width: 384. Spec: 04 R99. Reset: defaults. -/
  pfc : Tbl PfcCfg := []
  /-- PFC state, key 8*lport+priority. Width: 384 x 8. Spec: 04 R100. Reset: none sent, none paused. -/
  pfcPort : Tbl PfcPort := []
  /-- Port-hold interval in us by logical port. Width: 17. Spec: 04 R106. Reset: 2000. -/
  holds : Tbl Nat := []
  /-- Monotonic instant of the down instant of each logical port on hold. Width: table. Spec: 04 R106. Reset: none. -/
  held : Tbl Nat := []
  /-- Residue limit. Width: 8. Spec: 04 R113. Reset: 16. -/
  residueLimit : Nat := 16
  /-- Pipeline at which the next residue retry begins. Width: 6. Spec: 04 R113. Reset: DESIGN CHOICE 0 (log 20). -/
  residueStart : Nat := 0
  /-- Stored frames. Width: 524288 cells per CORE die. Spec: 04 R88. Reset: empty. -/
  copies : List Copy := []
  /-- Number the next stored frame takes. Width: counter. Spec: the model's own name for a descriptor. Reset: 0. -/
  nextCopy : Nat := 0
  /-- Queues and residue lines, each in its order. Width: lists. Spec: 04 R91. Reset: empty. -/
  branches : List Branch := []
  /-- Active calendars by logical port. Width: 384. Spec: 05 R116. Reset: none. -/
  active : Tbl Calendar := []
  /-- Shadow calendars by logical port. Width: 384. Spec: 05 R116. Reset: defaults of Table 5.2. -/
  shadow : Tbl Calendar := []
  /-- Pending swap of each logical port: milestone c, and where the idle slots before it begin. Width: 2 x 56. Spec: 05 R127. Reset: none. -/
  swaps : Tbl Swap := []
  /-- Removal of the active calendar waits for the first cycle start at or after this milestone. Width: 56. Spec: 05 R129. Reset: none. -/
  removals : Tbl Milestone := []
  /-- Scheduler settings by logical port. Width: 384. Spec: 05 R135. Reset: defaults. -/
  sched : Tbl SchedCfg := []
  /-- Class budgets of classes 4-6 in ns by logical port. Width: 3 x 32. Spec: 05 R131. Reset: 100000. -/
  budgets : Tbl (List Nat) := []
  /-- Egress side of each logical port. Width: 384. Spec: 05 R121, R132, R135. Reset: idle, deficits 0. -/
  egress : Tbl Egress := []
  deriving DecidableEq, Repr

end Sys2Proof.Machine
end

