-- ==== Sys2Proof/Machine/State/Hierarchy.lean ====
section
/-! DEFINITION. State of managers and workers (10_hierarchy). -/

namespace Sys2Proof.Machine

/-- The roles of R241. -/
inductive Role where
  | unenrolled | root | enrolled | orphan
  deriving DecidableEq, Repr

/-- ROLE codes of Table 10.5. -/
def Role.code : Role → Nat
  | .unenrolled => 0 | .root => 1 | .enrolled => 2 | .orphan => 3

/-- A worker of this manager (R243, R267). -/
structure Worker where
  first : BitVec 18
  last : BitVec 18
  absent : Bool := false
  /-- monotonic instant of the latest AX message with its NODE (R267) -/
  heardAt : Option Nat := none
  deriving DecidableEq, Repr

/-- A replay record (R253): the highest sequence accepted, which of the 64 below it have been accepted, and the highest
SEND_MS accepted. -/
structure Replay where
  source : BitVec 18
  highest : BitVec 32
  window : BitVec 64
  sendMs : Milestone
  deriving DecidableEq, Repr

/-- An ENROLL that waits for the worker's answer (R249). -/
structure Enrolling where
  port : Nat
  /-- the ENROLL packet, to whose transport the reply goes -/
  req : Req
  /-- in-band SEQUENCE of the ENROLL_REQ -/
  seq : BitVec 32
  first : BitVec 18
  last : BitVec 18
  sent : Nat
  deriving DecidableEq, Repr

/-- Managers and workers. -/
structure HierState where
  /-- Role. Width: 2. Spec: 10 R241. Reset: UNENROLLED. -/
  role : Role := .unenrolled
  /-- Own node ID. Width: 18. Spec: 10 R241. Reset: 0. -/
  node : BitVec 18 := 0
  /-- Last of the range. Width: 18. Spec: 10 R241. Reset: 0. -/
  last : BitVec 18 := 0
  /-- Manager's node ID. Width: 18. Spec: 10 R249. Reset: 0. -/
  manager : BitVec 18 := 0
  /-- Depth. Width: 4. Spec: 10 R241. Reset: 0. -/
  depth : Nat := 0
  /-- Parent candidates primary, backup 1, backup 2; 0xFF none. Width: 3 x 8. Spec: 10 R244. Reset: none. -/
  candidates : List Nat := [0xFF, 0xFF, 0xFF]
  /-- Command parent port: the index of the candidate, or none. Width: 2. Spec: 10 Table 10.5. Reset: 3 none. -/
  parent : Option Nat := none
  /-- Port an enrolment arrived on, of a device that has no parent candidate. Width: 7. Spec: 10 R249. Reset: none. -/
  parentPort : Option Nat := none
  /-- Monotonic instant since which no candidate qualifies. Width: counter. Spec: 10 R265. Reset: none. -/
  noParentSince : Option Nat := none
  /-- Class of in-band frames. Width: 3. Spec: 10 R257. Reset: 6. -/
  cls : Nat := 6
  /-- MIRROR_UP. Width: 1. Spec: 10 R263. Reset: 1. -/
  mirrorUp : Bool := true
  /-- EVENT_SINK: 0 on the root only, 1 on, 2 off. Width: 2. Spec: 13 Table 13.14. Reset: 0. -/
  eventSink : Nat := 0
  /-- Device key in the write-once region of eMRAM. Width: 256. Spec: 10 R247. Reset: non-volatile, DESIGN CHOICE by variant (log 26). -/
  deviceKey : Option (List Byte) := none
  /-- Fabric key stored in eMRAM. Width: 256. Spec: 10 R247. Reset: non-volatile, DESIGN CHOICE none (log 26). -/
  fabricKey : Option (List Byte) := none
  /-- The fabric key is in use. Width: 1. Spec: 10 Table 10.3. Reset: false. -/
  keyInUse : Bool := false
  /-- Key still accepted after a roll. Width: 256. Spec: 10 R262. Reset: none. -/
  oldKey : Option (List Byte) := none
  /-- Milestone of the latest key roll. Width: 56. Spec: 10 R262. Reset: 0. -/
  rolledAt : Milestone := 0
  /-- Workers by port. Width: at most 96. Spec: 10 R243. Reset: none. -/
  workers : Tbl Worker := []
  /-- Hierarchy epoch set. Width: 8 x 32. Spec: 10 R261. Reset: empty. -/
  epochs : List Nat := [0, 0, 0, 0, 0, 0, 0, 0]
  /-- EPOCH_MISMATCH. Width: 1. Spec: 10 R261. Reset: 0. -/
  epochMismatch : Bool := false
  /-- Replay records, most recently used first, at most 256. Width: list. Spec: 10 R253. Reset: empty. -/
  replays : List Replay := []
  /-- Replay floor. Width: 56. Spec: 10 R254. Reset: 0. -/
  replayFloor : Milestone := 0
  /-- ENROLLs that wait for their answer. Width: list. Spec: 10 R249. Reset: empty. -/
  enrolling : List Enrolling := []
  /-- EVENT_MIRROR notifications to originate or forward, oldest first: originating node and record. Width: list. Spec: 10 R263. Reset: empty. -/
  mirrorQ : List (BitVec 18 × List Byte) := []
  /-- EVENT_MIRROR notifications that an ORPHAN holds, and that leave first once it is ENROLLED again, at most 16. Width: list. Spec: 10 R264. Reset: empty. -/
  orphanQ : List (BitVec 18 × List Byte) := []
  /-- Whole seconds of the monotonic counter and the mirror packets sent in them. Width: counter and 7. Spec: 10 R263. Reset: 0. -/
  mirrorWindow : Nat := 0
  mirrorSent : Nat := 0
  deriving DecidableEq, Repr

end Sys2Proof.Machine
end

