-- ==== Sys2Proof/Machine/State/Measure.lean ====
section
/-! DEFINITION. State of time-interval measurement, counters, tagging, calibration and the board interfaces
(11_time_interval_measurement, 16_calibration, 17_counters_and_tagging, 19_board_interfaces). -/

namespace Sys2Proof.Machine

/-- A claimed timing pin (R268, Table 19.3). -/
structure TioPin where
  /-- 0 TDC input, 1 pulse output, 2 reference input -/
  function : Nat
  electrical : BitVec 16
  deriving DecidableEq, Repr

/-- Settings of a TDC channel (Table 11.2). -/
structure TdcCfg where
  edgeSel : Nat := 0
  arm : Nat := 0
  gatePin : Nat := 0
  activeLow : Bool := false
  decimation : Nat := 1
  nominal : Nat := 0
  /-- DMA ring, 0xFF none given -/
  ring : Nat := 0xFF
  fit : Bool := true
  start : AT80 := 0
  stop : AT80 := 0
  period : Nat := 0
  deriving DecidableEq, Repr

/-- An open gate (R275, R280). -/
structure Gate where
  /-- AT80 and monotonic instants at which it opened -/
  opened : AT80
  openedMono : Nat
  /-- selected edges seen in the gate, for decimation -/
  edges : Nat := 0
  /-- stamps in the fit on the monotonic counter, newest first -/
  stamps : List Nat := []
  lost : Nat := 0
  /-- records queued in the gate -/
  queued : Nat := 0
  /-- the lost count and the last stamped edge before the gate, which a pulse below 10 ns leaves standing (R275) -/
  lostBefore : Nat := 0
  edgeBefore : Option Nat := none
  spacing : Bool := false
  saturated : Bool := false
  /-- a step was applied in the gate, and TIME_VALID throughout -/
  stepped : Bool := false
  tv : Bool := true
  deriving DecidableEq, Repr

/-- A TDC channel. -/
structure Channel where
  cfg : TdcCfg := {}
  enabled : Bool := false
  /-- transport that enabled the channel (R281) -/
  source : Option Source := none
  gate : Option Gate := none
  gateSeq : BitVec 16 := 0
  /-- monotonic instant of the last stamped edge (R271) -/
  lastEdge : Option Nat := none
  /-- records on chip, oldest first -/
  queue : List (List Byte) := []
  lostPending : Nat := 0
  /-- k of the next window of a periodic series, and whether a once window is over -/
  window : Nat := 0
  /-- windows of the series whose gates have closed: none reopens (R276) -/
  closed : List Nat := []
  done : Bool := false
  /-- gates that have closed and whose report is not yet stored: the gate, the closing AT80 and monotonic instants, CLOSED -/
  closing : List (Gate × AT80 × Nat × Bool) := []
  /-- latest four reports, newest first -/
  reports : List (List Byte) := []
  deriving DecidableEq, Repr

/-- Time-interval measurement. -/
structure MeasureState where
  /-- Claimed timing pins. Width: 16. Spec: 11 R268. Reset: none. -/
  pins : Tbl TioPin := []
  /-- TDC channels. Width: 16. Spec: 11 Table 11.2. Reset: disabled, defaults of Table 11.2. -/
  channels : Tbl Channel := []
  deriving DecidableEq, Repr

/-- A filtered counter's settings (R384). -/
structure Filter where
  enable : Bool := false
  chain : Bool := false
  group : Nat := 1
  index : Nat := 0
  lport : Nat := 0x1FF
  classes : Nat := 0xFF
  origin : Nat := 0
  region : Nat := 0xFFFF
  lo : BitVec 128 := 0
  hi : BitVec 128 := BitVec.allOnes 128
  deriving DecidableEq, Repr

/-- A latched snapshot (R381, R383): milestone, UNTIMED, counters. -/
structure Snapshot where
  ms : Milestone := 0
  untimed : Bool := false
  counters : Tbl (Nat × Bool) := []
  deriving DecidableEq, Repr

/-- Counters and frame tagging. -/
structure CounterState where
  /-- Live counters that are not 0, by key: value and sticky bit. Width: 184800 x 49. Spec: 17 R378. Reset: 0. -/
  live : Tbl (Nat × Bool) := []
  /-- Counters have been cleared at step 9. Width: 1. Spec: 17 R378. Reset: false. -/
  running : Bool := false
  /-- Snapshot being latched whole. Width: snapshot. Spec: 17 R383. Reset: none. -/
  latching : Option Snapshot := none
  /-- Last completed snapshot. Width: snapshot. Spec: 17 R383. Reset: 0. -/
  window : Snapshot := {}
  /-- SNAP_SEQ. Width: 32. Spec: 17 Table 17.3. Reset: 0. -/
  snapSeq : BitVec 32 := 0
  /-- Milestone and monotonic instant of the latest latch. Width: 56 and counter. Spec: 17 R381. Reset: none. -/
  latched : Option (Milestone × Nat) := none
  /-- A forward step skipped a periodic snapshot milestone: the milestone it led into. Width: 56. Spec: 17 R382. Reset: none. -/
  skipped : Option Milestone := none
  /-- Periodic interval in milestones. Width: 32. Spec: 17 R381. Reset: 3906250. -/
  interval : Nat := 3906250
  /-- Filters that differ from reset. Width: 64. Spec: 17 R384. Reset: defaults of R384. -/
  filters : Tbl Filter := []
  /-- Filters whose restart waits for the restoration of stage 1. Width: 64. Spec: 17 R386. Reset: none. -/
  restarts : List Nat := []
  /-- K of TAG_CONFIG. Width: 8. Spec: 13 Table 13.12. Reset: 0. -/
  tagK : Nat := 0
  /-- PIPELINES of TAG_CONFIG. Width: 64. Spec: 13 Table 13.12. Reset: all present, here all ones. -/
  tagPipelines : Nat := 0xFFFFFFFFFFFF
  /-- SEED of TAG_CONFIG. Width: 32. Spec: 13 Table 13.12. Reset: 1. -/
  tagSeed : BitVec 32 := 1
  /-- LFSR of each pipeline. Width: 48 x 32. Spec: 17 R387. Reset: DESIGN CHOICE SEED (log 20). -/
  lfsrs : Tbl (BitVec 32) := []
  /-- TAG_ID of the next tagged frame. Width: 32. Spec: 17 R388. Reset: 0. -/
  tagId : BitVec 32 := 0
  /-- Tag records on chip, oldest first, at most 8192. Width: list. Spec: 17 R389. Reset: empty. -/
  tagQ : List (List Byte) := []
  deriving DecidableEq, Repr

/-- The calibration set and its staging copy. -/
structure CalState where
  /-- Bytes of the set that are not 0, by offset. Width: 262144 bytes. Spec: 16 R367. Reset: non-volatile, DESIGN CHOICE factory set (log 27). -/
  set : List Host.Cell := []
  /-- Items valid at the last load. Width: 10. Spec: 16 R370. Reset: none. -/
  valid : Nat := 0
  /-- The set has been loaded since the POR_N rise. Width: 1. Spec: 15 Table 15.4. Reset: false. -/
  loaded : Bool := false
  /-- Bytes of the staging copy that are not 0. Width: 262144 bytes. Spec: 16 R375. Reset: 0. -/
  staging : List Host.Cell := []
  /-- Runs of the staging copy written since reset or the last CAL_IMPORT: offset and size. Width: list. Spec: 13 Table 13.13. Reset: none. -/
  staged : List (Nat × Nat) := []
  /-- Monotonic instant at which the OSC_COEF entries were last written. Width: counter. Spec: 16 R377. Reset: 0. -/
  coefAt : Nat := 0
  /-- Temperature of each die at the last compensation milestone, 0.125 C units. Width: 8 x 16. Spec: 07 R180. Reset: none. -/
  temps : Tbl Int := []
  /-- Staging copies as the pending CAL_IMPORTs checked them, oldest first. Width: 262144 bytes each. Spec: 16 R375. Reset: none. -/
  importing : List (List Host.Cell) := []
  /-- Journalled CAL_WRITE that is not applied: offset and value. Width: 64 bytes. Spec: 16 R373. Reset: none. -/
  journal : Option (Nat × List Byte) := none
  deriving DecidableEq, Repr

/-- A write of DataPathDeinit bits that is due on a MOD bus (R410 to R413). -/
structure ModWrite where
  port : Nat
  mask : Nat
  bits : Nat
  losses : Nat := 0
  /-- milestone at which it fell due -/
  due : Milestone := 0
  deriving DecidableEq, Repr

/-- Board interfaces. -/
structure BoardState where
  /-- Logical ports that sent or received a frame since the last LED frame. Width: 384. Spec: 19 R416. Reset: none. -/
  active : List Nat := []
  /-- Module-control bits as last shifted out, ports with bit 1. Width: 96. Spec: 19 R417. Reset: DESIGN CHOICE none shifted (log 20). -/
  modctl : List Nat := []
  /-- Writes due on MOD buses, in the order due. Width: list. Spec: 19 R410. Reset: empty. -/
  modWrites : List ModWrite := []
  /-- MOD_RST_N is driven low. Width: 1. Spec: 19 R414. Reset: true. -/
  modReset : Bool := true
  /-- Boundary-scan instruction that holds the pins. Width: 3. Spec: 19 R426. Reset: none. -/
  scan : Option TapInstr := none
  /-- Monotonic instant of the last INT_N pulse. Width: counter. Spec: 19 R422. Reset: none. -/
  intAt : Option Nat := none
  deriving DecidableEq, Repr

end Sys2Proof.Machine
end

