-- ==== Sys2Proof/Machine/State/Ports.lean ====
section
/-! DEFINITION. State of ports, lanes and link time transfer (06_serial_lanes, 07_link_time_transfer). -/

namespace Sys2Proof.Machine

/-- Link training states of Table 6.3. -/
inductive TrainState where
  | none | autoNeg | training | trained | failed
  deriving DecidableEq, Repr

/-- A logical port (R143 to R159). -/
structure Lport where
  /-- TYPE code of R320, 0 none -/
  type : Nat := 0
  /-- MEDIUM code: 0 C2M, 1 CR, 2 KR -/
  medium : Nat := 0
  enabled : Bool := false
  up : Bool := false
  upAt : AT80 := 0
  downAt : AT80 := 0
  /-- 0 L-ACTIVE, 1 L-IDLE, 2 L-DEEP -/
  power : Nat := 0
  /-- target of the low-power transition in progress (R155) -/
  moving : Option Nat := none
  sheddable : Bool := false
  autoWake : Bool := false
  /-- a frame was enqueued in a low-power state: the exit starts at the next milestone (R157) -/
  wakeDue : Bool := false
  /-- ms (R158) -/
  wakeLimit : Nat := 10
  /-- monotonic instant at which the exit of L-DEEP began -/
  wakeFrom : Nat := 0
  /-- ms (R151) -/
  trainLimit : Nat := 3000
  degradeThr : Nat := 16
  degradeDown : Bool := false
  /-- the link was taken down by FEC degrade for the rest of the interval (R154) -/
  degraded : Bool := false
  /-- uncorrectable codewords since the last comparison (R154), and the milestone of that comparison -/
  uncorr : Nat := 0
  comparedAt : Option Milestone := none
  /-- 0 none, 1 near-end serial, 2 near-end parallel, 3 far-end -/
  loop : Nat := 0
  train : TrainState := .none
  /-- monotonic instant at which auto-negotiation last started -/
  trainFrom : Nat := 0
  /-- consecutive training failures (R151) -/
  trainFails : Nat := 0
  deriving DecidableEq, Repr

/-- A lane (Tables 6.2 and 6.3). -/
structure Lane where
  los : Bool := true
  lol : Bool := true
  losSeen : Bool := false
  /-- c(-3), c(-2), c(-1), c(0), c(1) in 1/64 of full swing -/
  taps : List Int := [0, 0, 0, 64, 0]
  eqLock : Bool := false
  /-- taps as the next training starts with them on a CR or KR lane (R150) -/
  startTaps : List Int := [0, 0, 0, 64, 0]
  /-- 5 mV units -/
  losThr : Nat := 12
  txInvert : Bool := false
  rxInvert : Bool := false
  /-- 0 off, 1 PRBS13Q, 2 PRBS31Q, 3 SSPRBS -/
  prbsGen : Nat := 0
  prbsChk : Nat := 0
  prbsErrors : Nat := 0
  prbsBits : Nat := 0
  /-- averaged skew samples and their sum in 2^-12 ns (R172) -/
  skewCount : Nat := 0
  skewSum : Int := 0
  /-- averaged skew once known, 2^-12 ns -/
  skew : Option Int := none
  /-- samples of the lane since the last compensation milestone, and their sum in 2^-12 ns (R182) -/
  meanCount : Nat := 0
  meanSum : Int := 0
  /-- monotonic instant since which LOS and LOL have been clear (R185) -/
  lockedAt : Option Nat := none
  /-- the signal-to-noise estimate of this training has stopped improving: the lane requests no more of its partner (R150) -/
  adapted : Bool := false
  deriving DecidableEq, Repr

/-- What a PTP port has heard of one foreign master: its clock identity, the grandmaster that it announces, its stepsRemoved, and the
monotonic instants of its latest two Announces, newest first. -/
structure Foreign where
  sender : BitVec 64
  quality : List Nat
  steps : Nat
  times : List Nat
  deriving DecidableEq, Repr

/-- PTP port state machine values (PTP_STATUS); the codes are those of IEEE 1588: 6 MASTER, 7 PASSIVE, 9 SLAVE. -/
structure PtpPort where
  enable : Bool := false
  /-- 0 IEEE 802.3, 1 UDP/IPv4, 2 UDP/IPv6 -/
  transport : Nat := 0
  twoStep : Bool := false
  syncLog : Int := -4
  delayReqLog : Int := -4
  announceLog : Int := 1
  /-- STATE of PTP_PORT_CONFIG, 0 by BMCA -/
  config : Nat := 0
  address : List Byte := List.replicate 16 0
  state : Nat := 0
  parent : BitVec 64 := 0
  /-- foreign masters heard on the port -/
  foreigns : List Foreign := []
  meanDelay : Int := 0
  offset : Int := 0
  syncRx : Nat := 0
  delayReqTx : Nat := 0
  announceRx : Nat := 0
  badMsg : Nat := 0
  /-- sequence and receive stamp of a two-step Sync that waits for its Follow_Up -/
  awaiting : Option (BitVec 16 × AT80) := none
  /-- origin and receive wire instants of the last Sync: t1, t2 -/
  sync : Option (Int × AT80) := none
  /-- sequence and transmit wire instant of the Delay_Req in flight: t3 -/
  delayReq : Option (BitVec 16 × AT80) := none
  /-- sequence numbers of the next Sync, Announce and Delay_Req -/
  txSeq : BitVec 16 := 0
  announceSeq : BitVec 16 := 0
  delaySeq : BitVec 16 := 0
  /-- monotonic instant of the last completed exchange (R193) -/
  lastDone : Option Nat := none
  deriving DecidableEq, Repr

/-- Link-time settings and state of a port (Tables 7.1 and 7.7). -/
structure Link where
  confLane : Nat := 0
  revert : Bool := true
  activeLane : Nat := 0
  /-- no lane of the timing logical port is usable (R183) -/
  laneLost : Bool := false
  axEnable : Bool := false
  rateLog2 : Nat := 6
  silence : Nat := 10
  estimate : Bool := false
  laneA : Nat := 0
  laneB : Nat := 1
  /-- host coefficient A, 0.001 ppm -/
  coefA : Int := 0
  dispersion : Int := 0
  /-- A as last estimated (R182) -/
  estA : Option Int := none
  /-- mean path delay d and offset estimate, 2^-16 ns -/
  d : Int := 0
  thetaX : Int := 0
  /-- a valid exchange has completed, so n is resolved (R171) -/
  resolved : Bool := false
  /-- phi of the last milestone at the configured lane's plane, in fifths of 2^-16 ns (R170) -/
  phi : Option Int := none
  /-- phase sample and raw of the last milestone, in fifths of 2^-16 ns, and n -/
  thetaPh : Int := 0
  raw : Int := 0
  n : Int := 0
  miss : Nat := 0
  /-- SEQ of the next AX message and the number sent since reset -/
  axSeq : BitVec 16 := 0
  axSent : Nat := 0
  /-- latest message received since the link came up: SEQ, TX_STAMP, receive wire instant -/
  echo : Option (BitVec 16 × AT80 × AT80) := none
  /-- monotonic instant of the last valid exchange, and of the last AX message received -/
  lastValid : Option Nat := none
  lastRx : Option Nat := none
  /-- TV, MGR and NODE of the partner's last message -/
  peerTv : Bool := false
  peerMgr : Bool := false
  peerNode : BitVec 18 := 0
  /-- monotonic instant of the last valid exchange with TV = 1 (R193) -/
  lastTv : Option Nat := none
  /-- AX_SILENT has been recorded and not yet AX_RESUMED -/
  silent : Bool := false
  /-- skew of the active lane against the lane that the phase samples started from, and of the configured lane against that
  lane, 2^-12 ns (R165, R168) -/
  corr : Int := 0
  base : Int := 0
  /-- lane whose turn of the skew measurement was last (R172) -/
  skewLane : Nat := 0
  /-- an AX message waits for a frame boundary or a window's close (R174) -/
  axDue : Bool := false
  /-- monotonic instant at which AX was enabled -/
  axFrom : Nat := 0
  ptp : PtpPort := {}
  deriving DecidableEq, Repr

/-- PTP clock attributes (PTP_CLOCK_CONFIG). -/
structure PtpClock where
  domain : Nat := 0
  highAccuracy : Bool := false
  external : Bool := false
  priority1 : Nat := 128
  priority2 : Nat := 128
  clockClass : Nat := 248
  accuracy : Nat := 0xFE
  variance : Nat := 0xFFFF
  /-- none: derived from the CORE0 serial -/
  identity : Option (BitVec 64) := none
  deriving DecidableEq, Repr

/-- Ports, lanes and links. -/
structure PortState where
  /-- Breakout of each port: 1, 2 or 4. Width: 96 x 3. Spec: 06 R143. Reset: 1. -/
  breakout : Tbl Nat := []
  /-- Logical ports. Width: 384. Spec: 06 R143. Reset: no port type, disabled (R143), defaults of 06. -/
  lports : Tbl Lport := []
  /-- Lanes, key 8*port+lane. Width: 768. Spec: 06 Table 6.3. Reset: Tables 6.2 and 6.3. -/
  lanes : Tbl Lane := []
  /-- The lane of the management port. Width: LOS and LOL. Spec: 06 R163. Reset: LOS and LOL asserted, 60 mV (R152). -/
  mgmt : Lane := {}
  /-- Link-time state of each port. Width: 96. Spec: 07 Table 7.1. Reset: defaults of Table 7.1. -/
  links : Tbl Link := []
  /-- PTP clock attributes. Width: 20 bytes. Spec: 07 R187. Reset: defaults of Table 13.8. -/
  ptpClock : PtpClock := {}
  deriving DecidableEq, Repr

end Sys2Proof.Machine
end

