-- ==== Sys2Proof/Machine/State/Power.lean ====
section
/-! DEFINITION. State of modes, power, start-up and the Vigil domain (14_power_modes, 15_bring_up_and_readiness,
20_electrical_and_package). -/

namespace Sys2Proof.Machine

/-- The operating modes of Table 14.1. -/
inductive Mode where
  | keep | dormant | bringUp | timingOnly | service | shed | test | safe
  deriving DecidableEq, Repr

/-- Mode codes of R319. -/
def Mode.code : Mode → Nat
  | .keep => 0 | .dormant => 1 | .bringUp => 2 | .timingOnly => 3 | .service => 4 | .shed => 5 | .test => 6 | .safe => 7

/-- The modes MODE_SET can name (Table 13.2). -/
def Mode.ofCode : Nat → Option Mode
  | 0 => some .keep | 1 => some .dormant | 3 => some .timingOnly | 4 => some .service | 6 => some .test
  | 7 => some .safe | _ => none

/-- Who made a voltage request, which decides what its failure does (R335). -/
inductive AvsOwner where
  | host | bringUp | shed | restore | dormantEntry | dormantExit
  deriving DecidableEq, Repr

/-- One AVS rail (R334 to R336, AVS_STATUS). -/
structure Rail where
  /-- mV -/
  requested : Nat := 0
  /-- V_ack, mV -/
  acked : Nat := 0
  /-- 0 idle, 1 waiting, 2 acknowledged, 3 failed -/
  state : Nat := 0
  /-- attempts made of the current request -/
  attempts : Nat := 0
  /-- monotonic instant of the write of the attempt in progress (R334) -/
  since : Nat := 0
  alert : Bool := false
  owner : AvsOwner := .host
  deriving DecidableEq, Repr

/-- A self-test (R331): running, passed or failed, which test, failures. -/
structure Bist where
  /-- 0 idle, 1 running, 2 passed, 3 failed -/
  state : Nat := 0
  test : Nat := 0
  failures : Nat := 0
  deriving DecidableEq, Repr

/-- The Vigil failure record (Table 14.10). -/
structure FailureRecord where
  pending : Bool := false
  code : Nat := 0
  rail : Nat := 0
  attempts : Nat := 0
  phase : Nat := 0
  powerCycles : BitVec 32 := 0
  opSeconds : BitVec 40 := 0
  deriving DecidableEq, Repr

/-- Where a DORMANT entry or exit stands (R343, R347). -/
inductive DormantPhase where
  /-- no entry or exit runs -/
  | none
  /-- entry: the step of Table 14.6 that ends next, 1 to 8 -/
  | entry (step : Nat)
  /-- exit: waiting for the voltages held before entry, or for VDD_TIME -/
  | exit
  deriving DecidableEq, Repr

/-- Power, modes and start-up. -/
structure PowerState where
  /-- Operating mode. Width: 3. Spec: 14 Table 14.1. Reset: KEEP (R355, POR_N low). -/
  mode : Mode := .keep
  /-- Target of the transition that runs. Width: 3. Spec: 14 R333. Reset: none. -/
  transition : Option Mode := none
  /-- Restore mode. Width: 3. Spec: 14 R342. Reset: DESIGN CHOICE TIMING-ONLY (log 20). -/
  restoreMode : Mode := .timingOnly
  /-- POR_N is high. Width: 1. Spec: 15 R355. Reset: false (the reset is POR_N low). -/
  porN : Bool := false
  /-- Step of Table 15.4 in progress, 0xB complete, 0xF stopped. Width: 4. Spec: 15 Table 15.7. Reset: 1. -/
  bootStep : Nat := 1
  /-- BOOT_SEL as sampled. Width: 2. Spec: 15 R357. Reset: strap, DESIGN CHOICE 0 (log 20). -/
  bootSel : Nat := 0
  /-- OSC_SEL as sampled. Width: 3. Spec: 15 R357. Reset: strap, DESIGN CHOICE 0 (log 20). -/
  oscSel : Nat := 0
  /-- Slot B runs. Width: 1. Spec: 15 Table 15.7. Reset: 0. -/
  slotB : Bool := false
  /-- A second slot was tried. Width: 1. Spec: 15 Table 15.7. Reset: 0. -/
  fallback : Bool := false
  /-- Firmware version, 0 while BOOT is not ready. Width: 32. Spec: 12 Table 12.7. Reset: 0. -/
  fwVersion : BitVec 32 := 0
  /-- Fused minimum of SECURITY_VERSION. Width: 32. Spec: 15 Table 15.3. Reset: fused, DESIGN CHOICE 0 (log 20). -/
  secMin : Nat := 0
  /-- Firmware authenticated since the POR_N rise. Width: 1. Spec: 15 Table 15.8. Reset: false. -/
  booted : Bool := false
  /-- Reason code of BOOT while not authenticated. Width: 8. Spec: 15 Table 15.9. Reset: NOT_STARTED. -/
  bootReason : Nat := 0x01
  /-- Monotonic instant of the POR_N rise. Width: counter. Spec: 15 Table 15.7. Reset: 0. -/
  porAt : Nat := 0
  /-- ELAPSED once the sequence has ended or stopped, ms. Width: 16. Spec: 15 Table 15.7. Reset: none (0x0000). -/
  elapsed : Option Nat := none
  /-- VDD_CORE0 present. Width: 1. Spec: 14 Table 14.2. Reset: DESIGN CHOICE true (log 22). -/
  vddCore0 : Bool := true
  /-- VDD_CORE1 present. Width: 1. Spec: 14 R350. Reset: DESIGN CHOICE true (log 22). -/
  vddCore1 : Bool := true
  /-- VDD_TIME present. Width: 1. Spec: 20 R433. Reset: DESIGN CHOICE true (log 22). -/
  vddTime : Bool := true
  /-- VDD_TIME did not return 50 ms after a wake. Width: 1. Spec: 15 R363. Reset: false. -/
  timeTimeout : Bool := false
  /-- VKEEP present. Width: 1. Spec: 14 R351. Reset: DESIGN CHOICE true (log 22). -/
  vkeep : Bool := true
  /-- The crystal has run for 1 s with VKEEP present: VIGIL ready. Width: 1. Spec: 14 R351. Reset: DESIGN CHOICE true (log 22). -/
  vigil : Bool := true
  /-- OP_SECONDS. Width: 40. Spec: 14 Table 14.9. Reset: 0. -/
  opSeconds : BitVec 40 := 0
  /-- POWER_CYCLES. Width: 32. Spec: 14 Table 14.9. Reset: 0. -/
  powerCycles : BitVec 32 := 0
  /-- COARSE valid. Width: 1. Spec: 14 Table 14.9. Reset: 0. -/
  coarseValid : Bool := false
  /-- COARSE seconds. Width: 48. Spec: 14 Table 14.9. Reset: 0. -/
  coarseSec : BitVec 48 := 0
  /-- COARSE sub-seconds, 2^-15 s. Width: 15. Spec: 14 Table 14.9. Reset: 0. -/
  coarseSub : BitVec 15 := 0
  /-- Monotonic instant from which COARSE has run on: its load or the latest crystal second. Width: counter. Spec: 14 Table 14.9. Reset: 0. -/
  coarseFrom : Nat := 0
  /-- A crystal second has passed since COARSE was loaded. Width: 1. Spec: 14 Table 14.9. Reset: false. -/
  coarseTick : Bool := false
  /-- Vigil scratch bytes 16-63. Width: 48 bytes. Spec: 14 Table 14.9. Reset: 0. -/
  scratch : List Byte := List.replicate 48 0
  /-- Vigil failure record, scratch bytes 0-15. Width: 128. Spec: 14 Table 14.10. Reset: Table 14.10. -/
  failure : FailureRecord := {}
  /-- AVS rails by rail code. Width: 8 entries. Spec: 14 R334. Reset: idle, 0 mV. -/
  rails : Tbl Rail := []
  /-- Trigger rail warning. Width: 1. Spec: 14 R337. Reset: 0. -/
  trigWarn : Bool := false
  /-- Trigger rail critical. Width: 1. Spec: 14 Table 14.3. Reset: 0. -/
  trigCrit : Bool := false
  /-- Trigger PWR_LIMIT_N. Width: 1. Spec: 14 Table 14.3. Reset: 0. -/
  trigLimit : Bool := false
  /-- Trigger thermal. Width: 1. Spec: 14 Table 14.3. Reset: 0. -/
  trigThermal : Bool := false
  /-- SHED_CONFIG TRIGGERS. Width: 3. Spec: 13 Table 13.2. Reset: 0b111. -/
  trigEnable : Nat := 7
  /-- Dwell in ms. Width: 16. Spec: 14 R340. Reset: 10. -/
  dwell : Nat := 10
  /-- Highest shedding stage in effect. Width: 3. Spec: 14 R338. Reset: 0. -/
  stage : Nat := 0
  /-- The highest stage is complete. Width: 1. Spec: 14 Table 14.4. Reset: true. -/
  stageDone : Bool := true
  /-- Milestone at which the highest stage applied. Width: 56. Spec: 14 R339. Reset: 0. -/
  stageAt : Milestone := 0
  /-- Rail critical asserted below stage 5: stages up to 5 apply together. Width: 1. Spec: 14 R339. Reset: 0. -/
  jumpToFive : Bool := false
  /-- Monotonic instant of the last clearing of a trigger. Width: counter. Spec: 14 R340. Reset: 0. -/
  clearedAt : Nat := 0
  /-- Monotonic instant at which the last restore completed. Width: counter. Spec: 14 R340. Reset: 0. -/
  restoredAt : Nat := 0
  /-- A restore of the highest stage runs. Width: 1. Spec: 14 R341. Reset: false. -/
  restoring : Bool := false
  /-- CCLK step in MHz held before stage 2. Width: 16. Spec: 14 Table 14.4. Reset: 1600. -/
  cclkBefore : Nat := 1600
  /-- VDD_CORE voltages in mV held before stage 2. Width: 2 x 16. Spec: 14 Table 14.4. Reset: 0. -/
  voltBefore : List Nat := [0, 0]
  /-- Logical ports that stage 3 moved, with the power state they held. Width: list. Spec: 14 Table 14.4. Reset: empty. -/
  shedPorts : Tbl Nat := []
  /-- Logical ports that stage 5 disabled. Width: list. Spec: 14 Table 14.4. Reset: empty. -/
  disabledPorts : List Nat := []
  /-- DORMANT entry or exit in progress. Width: step. Spec: 14 R343. Reset: none. -/
  dormant : DormantPhase := .none
  /-- A wake is held, with the mode a MODE_SET named. Width: 1 and mode. Spec: 14 R347. Reset: none. -/
  wake : Option (Option Mode) := none
  /-- Mode held before DORMANT entry. Width: 3. Spec: 14 R350. Reset: DESIGN CHOICE TIMING-ONLY (log 20). -/
  heldMode : Mode := .timingOnly
  /-- COMPAT in effect for the entry that runs. Width: 1. Spec: 14 R346. Reset: 0. -/
  entryCompat : Bool := false
  /-- COMPAT. Width: 1. Spec: 13 Table 13.2. Reset: 0. -/
  compat : Bool := false
  /-- WAKE_EN. Width: 2. Spec: 13 Table 13.2. Reset: 0b11. -/
  wakeEn : Nat := 3
  /-- Pads latched. Width: 1. Spec: 14 R345. Reset: 0. -/
  padsLatched : Bool := false
  /-- VDD_CORE voltages in mV and CCLK step in MHz held before DORMANT entry. Width: 3 x 16. Spec: 14 Table 14.7. Reset: 0. -/
  dormantVolt : List Nat := [0, 0]
  dormantCclk : Nat := 1600
  /-- Logical ports enabled before DORMANT entry. Width: list. Spec: 14 Table 14.7. Reset: empty. -/
  dormantPorts : List Nat := []
  /-- Lost retention banks of CORE0 and CORE1. Width: 2 x 16. Spec: 14 R348. Reset: 0. -/
  lost0 : BitVec 16 := 0
  lost1 : BitVec 16 := 0
  /-- Self-tests by die code. Width: 8 entries. Spec: 13 R331. Reset: idle. -/
  bists : Tbl Bist := []
  /-- Causeway segments trained, 0-5 LANE0-LANE5, 6 CORE0-CORE1. Width: 7. Spec: 15 R366. Reset: none. -/
  trained : List Nat := []
  /-- Segments that failed to train since the POR_N rise. Width: 7. Spec: 15 R363. Reset: none. -/
  failedSegments : List Nat := []
  /-- Segments that retrain, with the attempt in progress. Width: 7 x 2. Spec: 20 R434. Reset: none. -/
  retraining : Tbl Nat := []
  /-- VDD_CORE0 and VDD_CORE1 differ by more than 150 mV: the difference in mV. Width: 16 signed. Spec: 20 R434. Reset: none. -/
  coreSkew : Option Int := none
  /-- VDD_CORE0 less VDD_CORE1 as last compared, mV. Width: 16 signed. Spec: 20 R434. Reset: DESIGN CHOICE 0 (log 20). -/
  coreDiff : Int := 0
  /-- Segments that may not yet retrain again, with the differences at their last retrain: 0.125 C, mV. Width: 7 x 32. Spec: 20 R434. Reset: none. -/
  retrained : Tbl (Int × Int) := []
  /-- READY_FN, READY_LANES and the reason bytes as last shown. Width: 108 bytes. Spec: 15 R360. Reset: the reasons of the reset state (Table 15.8). -/
  shownReady : List Nat := [0, 1, 1, 1, 1, 1, 1, 1, 1, 1, 1, 21] ++ List.replicate 96 1
  /-- READY_SEQ. Width: 32. Spec: 15 Table 15.5. Reset: 0. -/
  readySeq : BitVec 32 := 0
  /-- READY_INT enable. Width: 1. Spec: 15 Table 15.5. Reset: 0. -/
  readyInt : Bool := false
  /-- READY_INT vector. Width: 11. Spec: 15 Table 15.5. Reset: 0. -/
  readyVector : BitVec 11 := 0
  /-- Management port link up. Width: 1. Spec: 12 R296. Reset: DESIGN CHOICE true (log 22). -/
  mgmtUp : Bool := true
  deriving DecidableEq, Repr

end Sys2Proof.Machine
end

