-- ==== Sys2Proof/Machine/State/Recorder.lean ====
section
/-! DEFINITION. State of the event recorder (18_event_recorder). -/

namespace Sys2Proof.Machine

/-- The severities of R391. -/
inductive Severity where
  | note | warn | error | fatal
  deriving DecidableEq, Repr

/-- Severity codes of R391. -/
def Severity.code : Severity → Nat
  | .note => 0 | .warn => 1 | .error => 2 | .fatal => 3

/-- An event record (Table 18.2) less MARK; `params` are the parameter bytes before padding. -/
structure Record where
  severity : Severity
  tv : Bool
  vv : Bool
  code : Nat
  seq : BitVec 32
  opSeconds : BitVec 40
  powerCycles : BitVec 32
  time : AT80
  stepCount : BitVec 8
  suppressed : Nat
  die : Nat
  params : List Byte
  deriving DecidableEq, Repr

/-- The event recorder. -/
structure RecorderState where
  /-- Slots that hold a record, by rising index. Width: 16384 x 512. Spec: 18 R397. Reset: non-volatile, DESIGN CHOICE none (log 21). -/
  slots : Tbl Record := []
  /-- Free slots whose bytes 1-63 are not all 0. Width: list. Spec: 18 R399. Reset: non-volatile, DESIGN CHOICE none (log 21). -/
  torn : List Nat := []
  /-- NEXT. Width: 32. Spec: 18 R402. Reset: 0. -/
  next : BitVec 32 := 0
  /-- DROPPED, saturating. Width: 32. Spec: 18 R402. Reset: 0. -/
  dropped : Nat := 0
  /-- SUPPRESSED_WHILE_FROZEN, saturating. Width: 32. Spec: 18 R402. Reset: 0. -/
  frozenSuppressed : Nat := 0
  /-- Monotonic instant of the latest FREEZE 1 while frozen. Width: counter. Spec: 18 R393. Reset: none. -/
  frozen : Option Nat := none
  /-- RATE. Width: 8. Spec: 18 R394. Reset: 8. -/
  rate : Nat := 8
  /-- RING_SEVERITY. Width: 2. Spec: 13 Table 13.12. Reset: 1. -/
  ringSeverity : Nat := 1
  /-- Events of each code accepted in the one-second window in progress. Width: table. Spec: 18 R394. Reset: 0. -/
  accepted : Tbl Nat := []
  /-- The one-second window in progress: whole seconds of the monotonic counter. Width: counter. Spec: 18 R394. Reset: 0. -/
  window : Nat := 0
  /-- Suppressed count of each code. Width: table of 16. Spec: 18 R394. Reset: 0. -/
  suppressed : Tbl Nat := []
  /-- Pending queue, oldest first, at most 64. Width: 64 records. Spec: 18 R396. Reset: empty. -/
  queue : List Record := []
  /-- Records raised before the scan, which wait for a SEQ. Width: shares the 64. Spec: 18 R446. Reset: empty. -/
  held : List Record := []
  /-- The start-up scan of R399 has run since the POR_N rise. Width: 1. Spec: 18 R399. Reset: false. -/
  scanned : Bool := false
  deriving DecidableEq, Repr

end Sys2Proof.Machine
end

