-- ==== Sys2Proof/Machine/State/Refs.lean ====
section
/-! DEFINITION. State of reference selection and the DPLL (08_references_and_holdover). -/

namespace Sys2Proof.Machine

/-- A reference table entry (Table 8.2). -/
structure RefEntry where
  enable : Bool := false
  priority : Nat := 15
  kind : Nat := 0
  index : Nat := 0
  nominal : Nat := 0
  /-- 2^-8 ns -/
  delay : Int := 0
  deriving DecidableEq, Repr

/-- QUAL codes of Table 8.9. -/
inductive Qual where
  | disqualified | qualifying | qualified | softFault
  deriving DecidableEq, Repr

/-- QUAL codes of Table 8.9. -/
def Qual.code : Qual → Nat
  | .disqualified => 0 | .qualifying => 1 | .qualified => 2 | .softFault => 3

/-- What the monitors keep of an entry (R195, Table 8.4). -/
structure RefMon where
  qual : Qual := .disqualified
  held : Bool := false
  /-- signal present -/
  signal : Bool := false
  /-- REASON of Table 8.9 -/
  reason : Nat := 1
  /-- offsets at the last seventeen sample milestones, newest first, 10^-18; none without a sample -/
  samples : List (Option Int) := []
  /-- latest offset, 10^-18 -/
  offset : Int := 0
  /-- monotonic instant from which every sample has passed, in QUALIFYING or SOFT_FAULT -/
  since : Option Nat := none
  /-- the entry's port closes a parent loop and is treated as signal lost (R245) -/
  looped : Bool := false
  deriving DecidableEq, Repr

/-- DPLL_STATE of Table 2.7. -/
inductive DpllState where
  | freeRun | acquiring | locked | holdover | lost
  deriving DecidableEq, Repr

/-- DPLL_STATE codes of Table 2.7. -/
def DpllState.code : DpllState → Nat
  | .freeRun => 0 | .acquiring => 1 | .locked => 2 | .holdover => 3 | .lost => 4

/-- Reference selection and the DPLL. -/
structure RefState where
  /-- Reference table in service. Width: 16 x 96. Spec: 08 Table 8.2. Reset: Table 8.2. -/
  table : Tbl RefEntry := []
  /-- Pending reference table. Width: 16 x 96. Spec: 08 R194. Reset: Table 8.2. -/
  pending : Tbl RefEntry := []
  /-- Monitor state of each entry. Width: 16. Spec: 08 Table 8.4. Reset: Table 8.9. -/
  mons : Tbl RefMon := []
  /-- Soft threshold in ppb. Width: 16. Spec: 08 Table 8.3. Reset: 50. -/
  soft : Nat := 50
  /-- Hard threshold in ppb. Width: 16. Spec: 08 Table 8.3. Reset: 200. -/
  hard : Nat := 200
  /-- Drift-rate limit in 0.1 ppb/s. Width: 16. Spec: 08 Table 8.3. Reset: 20. -/
  drift : Nat := 20
  /-- Disagreement limit in ppb. Width: 16. Spec: 08 Table 8.3. Reset: 20. -/
  disagree : Nat := 20
  /-- Qualification time in s. Width: 16. Spec: 08 Table 8.3. Reset: 10. -/
  qualTime : Nat := 10
  /-- Capture range in ppm. Width: 8. Spec: 08 Table 8.3. Reset: 10. -/
  capture : Nat := 10
  /-- Consecutive samples in which a pair differs beyond the limit, key 16*lower+higher. Width: table. Spec: 08 R203. Reset: 0. -/
  pairs : Tbl Nat := []
  /-- Selected entry. Width: 5. Spec: 08 R201. Reset: none. -/
  selected : Option Nat := none
  /-- Switch called for, which takes effect at the next milestone. Width: 5. Spec: 08 R201. Reset: none. -/
  switchTo : Option (Option Nat) := none
  /-- Entry of REF_FORCE. Width: 5. Spec: 08 R202. Reset: none. -/
  forced : Option Nat := none
  /-- DPLL state. Width: 3. Spec: 08 R216. Reset: FREE_RUN. -/
  dpll : DpllState := .freeRun
  /-- Loop bandwidth in 0.1 mHz. Width: 32. Spec: 08 Table 8.5. Reset: 1000. -/
  bandwidth : Nat := 1000
  /-- Lock window in ps. Width: 16. Spec: 08 Table 8.5. Reset: 100. -/
  window : Nat := 100
  /-- Lock count N. Width: 16. Spec: 08 Table 8.5. Reset: 16. -/
  lockN : Nat := 16
  /-- Slope limit in ps/s. Width: 32. Spec: 08 Table 8.5. Reset: 500. -/
  slope : Nat := 500
  /-- History window W in s. Width: 32. Spec: 08 Table 8.5. Reset: 900. -/
  historyW : Nat := 900
  /-- Holdover validity in s. Width: 32. Spec: 08 Table 8.5. Reset: 14400. -/
  validity : Nat := 14400
  /-- REVERTIVE. Width: 1. Spec: 08 Table 8.5. Reset: 0. -/
  revertive : Bool := false
  /-- Consecutive DPLL cycles inside and outside the lock window. Width: 2 x 16. Spec: 08 R209. Reset: 0. -/
  inWindow : Nat := 0
  outWindow : Nat := 0
  /-- Phase error in 2^-16 ns. Width: 64 signed. Spec: 08 R209. Reset: DESIGN CHOICE 0 (log 20). -/
  phaseError : Int := 0
  /-- Remaining pull offset in 2^-16 ns. Width: 64 signed. Spec: 08 R208. Reset: DESIGN CHOICE 0 (log 20). -/
  pull : Int := 0
  /-- A slope-limited pull is in progress. Width: 1. Spec: 08 Table 8.10. Reset: 0. -/
  pulling : Bool := false
  /-- Kept build-out in 2^-16 ns. Width: 64 signed. Spec: 08 R208. Reset: DESIGN CHOICE 0 (log 20). -/
  buildOut : Int := 0
  /-- Time has returned on the selected port entry, and no estimate within the jump threshold has come since. Width: 1. Spec: 08
  R193. Reset: 0. -/
  resume : Bool := false
  /-- Output frequency relative to the oscillator in 10^-18. Width: 64 signed. Spec: 08 Table 8.10. Reset: DESIGN CHOICE 0 (log 20). -/
  frequency : Int := 0
  /-- Monotonic instant at which the pull and the frequency were last moved. Width: counter. Spec: 08 R208, R213. Reset: 0. -/
  movedAt : Nat := 0
  /-- Holdover estimate fixed at entry in 10^-18. Width: 64 signed. Spec: 08 R212. Reset: DESIGN CHOICE 0 (log 20). -/
  holdEst : Int := 0
  /-- History samples: monotonic instant and frequency, newest first. Width: list. Spec: 08 R210. Reset: empty. -/
  history : List (Nat × Int) := []
  /-- Monotonic instant from which the holdover validity runs. Width: counter. Spec: 08 R212. Reset: none. -/
  holdFrom : Option Nat := none
  /-- Switches since reset. Width: 32. Spec: 08 Table 8.10. Reset: 0. -/
  switches : Nat := 0
  deriving DecidableEq, Repr

end Sys2Proof.Machine
end

