-- ==== Sys2Proof/Machine/State/Time.lean ====
section
/-! DEFINITION. State of the Almanac and the compare units (02_almanac_time). -/

namespace Sys2Proof.Machine

/-- The time states of Table 2.2. -/
inductive TimeState where
  | unset | host | following | guard
  deriving DecidableEq, Repr

/-- TIME_STATE codes of Table 2.2. -/
def TimeState.code : TimeState → Nat
  | .unset => 0 | .host => 1 | .following => 2 | .guard => 3

/-- One compare unit (Tables 2.9 and 2.10). -/
structure Compare where
  claimed : Bool := false
  function : Nat := 0
  resource : Nat := 0
  armed : Bool := false
  fired : Bool := false
  late : Bool := false
  skipped : Nat := 0
  periodic : Bool := false
  activeLow : Bool := false
  notify : Bool := false
  lateQuiet : Bool := false
  /-- first target given by COMPARE_ARM -/
  target : AT80 := 0
  /-- 2^-16 ns -/
  period : Nat := 0
  /-- ns -/
  width : Nat := 0
  /-- k of the next target of the series (R48) -/
  next : Nat := 0
  /-- a late target waits for the next milestone (R47), the first after this slot -/
  latePending : Bool := false
  lateSince : Milestone := 0
  /-- source of the COMPARE_ARM, to which COMPARE_FIRED goes (R445) -/
  source : Option Source := none
  /-- monotonic instant at which the pulse in progress ends (R48) -/
  pulseEnd : Option Nat := none
  deriving DecidableEq, Repr

/-- A move of the count or a change of TIME_VALID: its monotonic instant, and the count and TIME_VALID just before it (R63, R65). -/
structure CountMove where
  at_ : Nat
  count : AT80
  valid : Bool
  deriving DecidableEq, Repr

/-- The Almanac. -/
structure TimeModule where
  /-- Monotonic counter that no step moves, 2^-16 ns. Width: counter. Spec: 04 R105. Reset: DESIGN CHOICE 0 (log 20). -/
  mono : Nat := 0
  /-- AT80 count. Width: 80. Spec: 02 R29. Reset: 0 (R30: 0 without a valid coarse time). -/
  count : AT80 := 0
  /-- Count and TIME_VALID as the time elapsed up to the latest command left them. Width: 80 and 1. Spec: 03 R63, R65. Reset: 0. -/
  seenCount : AT80 := 0
  seenValid : Bool := false
  /-- Moves of the count and changes of TIME_VALID in the last 10 us, newest first. Width: list. Spec: 03 R63, R65. Reset: empty. -/
  moves : List CountMove := []
  /-- The count runs on ACLK. Width: 1. Spec: 15 Table 15.8. Reset: false. -/
  running : Bool := false
  /-- Time state. Width: 3. Spec: 02 Table 2.2. Reset: UNSET (Table 2.7). -/
  state : TimeState := .unset
  /-- STEP_COUNT. Width: 8. Spec: 02 Table 2.7. Reset: 0. -/
  stepCount : BitVec 8 := 0
  /-- Flag TIME_JUMP_REFUSED. Width: 1. Spec: 02 Table 2.7. Reset: 0. -/
  jumpRefused : Bool := false
  /-- Flag COMPARE_LATE. Width: 1. Spec: 02 Table 2.7. Reset: 0. -/
  compareLate : Bool := false
  /-- Latest time offset estimate, 2^-16 ns. Width: 64 signed. Spec: 02 R37. Reset: DESIGN CHOICE 0 (log 20). -/
  offset : Int := 0
  /-- Consecutive estimates beyond the jump threshold. Width: 2. Spec: 02 R36. Reset: 0. -/
  excess : Nat := 0
  /-- Consecutive estimates within the jump threshold while in GUARD. Width: 2. Spec: 02 R38. Reset: 0. -/
  within : Nat := 0
  /-- Jump threshold in ns. Width: 32. Spec: 02 R35. Reset: 50. -/
  jumpThr : Nat := 50
  /-- Step threshold in ns. Width: 32. Spec: 02 R35. Reset: 1000. -/
  stepThr : Nat := 1000
  /-- UTC offset in s. Width: 16 signed. Spec: 02 R33. Reset: 37. -/
  utcOffset : Int := 37
  /-- Leap flag LEAP61. Width: 1. Spec: 02 R33. Reset: 0. -/
  leap61 : Bool := false
  /-- Leap flag LEAP59. Width: 1. Spec: 02 R33. Reset: 0. -/
  leap59 : Bool := false
  /-- A load of the reference time waits for the next milestone: the entry. Width: 4. Spec: 02 Table 2.3. Reset: none. -/
  loadEntry : Option Nat := none
  /-- The ACLK phase rotation after a step runs. Width: 1. Spec: 09 R221. Reset: false. -/
  rotating : Bool := false
  /-- Phase that the rotation takes out, in fifths of 2^-16 ns. Width: signed, within 3.2 ns. Spec: 09 R221. Reset: 0. -/
  rotatePhase : Int := 0
  /-- Monotonic instant at which the rotation began. Width: counter. Spec: 09 R221. Reset: 0. -/
  rotateFrom : Nat := 0
  /-- Count at which the Almanac stopped. Width: 80. Spec: 02 R49. Reset: none. -/
  stoppedAt : Option AT80 := none
  /-- Snapshot sequence TS_SEQ. Width: 32. Spec: 02 R44. Reset: 0. -/
  tsSeq : BitVec 32 := 0
  /-- Latched nanoseconds TS_NS_LO and TS_NS_HI. Width: 64. Spec: 02 Table 2.6. Reset: DESIGN CHOICE 0 (log 20). -/
  tsNs : BitVec 64 := 0
  /-- Latched fraction TS_FRAC. Width: 16. Spec: 02 Table 2.6. Reset: DESIGN CHOICE 0 (log 20). -/
  tsFrac : BitVec 16 := 0
  /-- Latched TS_STATE. Width: 32. Spec: 02 Table 2.7. Reset: 0. -/
  tsState : BitVec 32 := 0
  /-- The compare units that differ from reset. Width: 32 units. Spec: 02 R46. Reset: not claimed. -/
  compares : Tbl Compare := []
  deriving DecidableEq, Repr

end Sys2Proof.Machine
end

