-- ==== Sys2Proof/Machine/State.lean ====
section
/-! DEFINITION. State of the MS9600, the stops of a command, and the state after reset. -/

namespace Sys2Proof.Machine

/-- What the device sends out while it handles one command. -/
inductive Out where
  /-- a reply to a local transport (R285), tagged when the command was (R287) -/
  | reply (dst : Source) (r : Reply) (tagged : Bool)
  /-- a notification to a local transport (R286): opcode, sequence, parameters -/
  | notify (dst : Source) (opcode : Nat) (seq : BitVec 32) (params : List Byte)
  /-- a frame that leaves a logical port, FCS included; `sound` is false when it ends with an error codeword -/
  | frame (lport : Nat) (bytes : List Byte) (sound : Bool)
  /-- a PFC frame: logical port, priority, quanta (R100), source address (R444) -/
  | pfc (lport : Nat) (priority : Nat) (quanta : Nat) (source : List Byte)
  /-- a frame on the wire cut off or ended with an error codeword (R148) -/
  | abort (lport : Nat)
  /-- an AX message (Table 7.2) -/
  | ax (port : Nat) (bytes : List Byte)
  /-- an IEEE 1588 message of a port (R188): its fields and its source address (R444) -/
  | ptp (port : Nat) (msg : PtpMsg) (source : List Byte)
  /-- a record written whole to a DMA ring (R306) -/
  | ring (d : Nat) (at_ : Nat) (bytes : List Byte)
  /-- an MSI-X vector (R405) -/
  | msix (vector : Nat)
  /-- INT_N pulses low for 10 us (R422) -/
  | intN
  /-- a compare pulse starts (R47): unit, AT80 of its edge, level of the pin, the OUT_LAT correction of its launch in fs (R370, R376);
  or ends (R48): unit, level of the pin, correction -/
  | pulse (unit : Nat) (edge : AT80) (high : Bool) (lat : Int)
  | pulseEnd (unit : Nat) (high : Bool) (lat : Int)
  /-- a CLK_OUT output starts a series of rising edges at an instant, P / Q Hz; or drives low from an instant on (R235, R236) -/
  | clkOn (output : Nat) (edge : AT80) (p q : Nat)
  | clkOff (output : Nat) (at_ : AT80)
  /-- an AVSBus write of a target voltage (R334): rail, mV -/
  | avs (rail : Nat) (milliVolt : Nat)
  /-- AVSBus status reads of every rail (R336) -/
  | avsPoll
  /-- a frame of the LED chain, first bit first (R416) -/
  | led (bits : List Bool)
  /-- a frame of the module-control chain, first bit first (R417) -/
  | modctl (bits : List Bool)
  /-- the answer to a training request (R150): port, lane, tap, limit status -/
  | tap (port lane tap : Nat) (limited : Bool)
  /-- a request of this device's receiver to its training partner (R150): 0 hold, 1 increment, 2 decrement, 3 a preset -/
  | ask (port lane tap : Nat) (kind : Nat)
  /-- bytes written in a MOD bus tenure, in order (R411) -/
  | modBus (bus : Nat) (writes : List (Nat × Byte))
  /-- a BAR0 read value (R44) -/
  | value (v : Word)
  deriving DecidableEq, Repr

/-- Why a command stops the machine. -/
inductive Fault where
  /-- Raised by REGISTER_WRITE at an offset that is not a multiple of 4: R8 provides aligned 32-bit accesses only. Safe. -/
  | misaligned
  /-- Raised by REGISTER_WRITE at an offset outside the 4 MiB of BAR0 (R405): no such address. Safe. -/
  | outsideBar
  deriving DecidableEq, Repr

/-- Why a command is refused by the model. -/
inductive Refusal where
  /-- Raised by exec for a command that has no meaning yet. Safe. -/
  | notModelled (mnemonic : String)
  deriving DecidableEq, Repr

/-- The factory calibration set of the model (log entry 27): every entry 0, all items of factory origin, the serials of
`State.serials`, and the CRCs of Table 16.2 over them. -/
def factorySet : List Host.Cell :=
   [(0, 0x4F), (1, 0x4A), (2, 0x43), (3, 0x4C), (5, 0x01), (23, 0x01), (31, 0x02), (39, 0x03),
    (47, 0x04), (55, 0x05), (63, 0x06), (71, 0x07), (79, 0x08), (86, 0x03), (87, 0xFE), (260, 0x98),
    (261, 0xF9), (262, 0x41), (263, 0x89), (264, 0x98), (265, 0xF9), (266, 0x41), (267, 0x89), (268, 0x21),
    (269, 0x4C), (270, 0x1A), (271, 0x65), (272, 0x98), (273, 0xF9), (274, 0x41), (275, 0x89), (276, 0x98),
    (277, 0xF9), (278, 0x41), (279, 0x89), (280, 0xBC), (281, 0x43), (282, 0xBA), (283, 0xAD), (284, 0x98),
    (285, 0xF9), (286, 0x41), (287, 0x89), (288, 0x98), (289, 0xF9), (290, 0x41), (291, 0x89), (292, 0x98),
    (293, 0xF9), (294, 0x41), (295, 0x89), (4092, 0xFD), (4093, 0xA6), (4094, 0x38), (4095, 0x70)]

/-- The state of the device. -/
structure State where
  /-- Part. Width: 2. Spec: 00 Table 0.1. Reset: DESIGN CHOICE MS9696 (R1; log 28). -/
  part : Part := .ms9696
  /-- Variant. Width: 1. Spec: 00 R3. Reset: DESIGN CHOICE -CA (log 28). -/
  variant : Variant := .ca
  /-- Silicon stepping. Width: 1. Spec: 20 R442. Reset: DESIGN CHOICE B0 (log 28). -/
  stepping : Stepping := .b0
  /-- Die serials in die-code order. Width: 8 x 64. Spec: 12 Table 12.7. Reset: DESIGN CHOICE 1 to 8 (log 28). -/
  serials : List (BitVec 64) := [1, 2, 3, 4, 5, 6, 7, 8]
  /-- Base MAC address. Width: 48. Spec: 03 R444. Reset: DESIGN CHOICE 0x020000000000 (log 28). -/
  macBase : BitVec 48 := 0x020000000000
  /-- The command interface. -/
  cmd : CommandState := {}
  /-- The Almanac and the compare units. -/
  time : TimeModule := {}
  /-- The event recorder. -/
  log : RecorderState := {}
  /-- Modes, power, start-up, the Vigil domain. -/
  power : PowerState := {}
  /-- Forwarding, buffers, scheduling. -/
  fwd : ForwardState := {}
  /-- Ports, lanes, links. -/
  port : PortState := {}
  /-- References and the DPLL. -/
  ref : RefState := {}
  /-- Clock synthesis. -/
  clk : ClockState := {}
  /-- Managers and workers. -/
  hier : HierState := {}
  /-- Timing pins and TDC channels. -/
  meas : MeasureState := {}
  /-- Counters and tagging. -/
  ctr : CounterState := {}
  /-- Calibration. -/
  cal : CalState := {}
  /-- Board interfaces. -/
  board : BoardState := {}
  /-- Commands that wait, first in, first out. Width: list. Spec: the model's own. Reset: empty. -/
  pending : List Instr := []
  /-- Number of the next free value. Width: counter. Spec: the model's own. Reset: DESIGN CHOICE 0 (log 29). -/
  freeIx : Nat := 0
  /-- What the latest command sent out, newest first. Width: list. Spec: the model's own. Reset: empty. -/
  out : List Out := []
  deriving DecidableEq, Repr

/-- The device while POR_N is held low after power is applied (R355, Tables 14.2 and 15.1), every register at its Reset
column; the -CA variant holds the device key its factory wrote (log entry 26). -/
def State.reset : State :=
  { cal := { set := factorySet }
    hier := { deviceKey := some (List.replicate 32 0) } }

end Sys2Proof.Machine
end

