-- ==== Sys2Proof/Machine/Ops.lean ====
section
/-! DEFINITION. Shared operations: the clocks, the counters, raising an event, records for DMA rings, notifications,
free values. -/

namespace Sys2Proof.Machine

/-! ### Time -/

/-- Units of 2^-16 ns in a second. -/
def second : Nat := 65536000000000

/-- Units of 2^-16 ns in a millisecond. -/
def milli : Nat := 65536000000

/-- Units of 2^-16 ns in a microsecond. -/
def micro : Nat := 65536000

/-- Units of 2^-16 ns in a milestone. -/
def slotUnits : Nat := 16777216

/-- The milestone in progress: the nanosecond count shifted right by 8 (00_scope). -/
def State.ms (s : State) : Milestone := (s.time.count >>> 24).setWidth 56

/-- The nanosecond count. -/
def State.ns (s : State) : BitVec 64 := (s.time.count >>> 16).setWidth 64

/-- TIME_VALID (Table 2.2). -/
def State.timeValid (s : State) : Bool := s.time.state != .unset

/-- The AT80 instant at which a milestone falls. -/
def atOf (m : Milestone) : AT80 := (m.setWidth 80) <<< 24

/-- The milestone after the one in progress (R297). -/
def State.nextMs (s : State) : Milestone := s.ms + 1

/-- AT80 of now for a record, 0 while TIME_VALID is 0 (R39). -/
def State.stamp (s : State) : AT80 := if s.timeValid then s.time.count else 0

/-- Loads the Vigil coarse time from the count (R351): whole seconds, and 2^-15 s. -/
def loadCoarse (s : State) : State :=
  let c := s.time.count.toNat
  { s with power.coarseValid := true, power.coarseFrom := s.time.mono, power.coarseTick := false
           power.coarseSec := BitVec.ofNat 48 (c / second)
           power.coarseSub := BitVec.ofNat 15 (c % second * 32768 / second) }

/-- COARSE in units of 2^-15 s as it stood at its load or at the latest crystal second. -/
def State.coarseBase (s : State) : Nat := s.power.coarseSec.toNat * 32768 + s.power.coarseSub.toNat

/-- COARSE now, in units of 2^-15 s (Table 14.9): it runs on from its load or from the latest crystal second, which it does not pass
(log entry 22). -/
def State.coarseNow (s : State) : Nat := s.coarseBase + min 32767 ((s.time.mono - s.power.coarseFrom) * 32768 / second)

/-- COARSE after a second of the crystal: a whole second on, or what of the second was left when it was loaded. -/
def coarseSecond (s : State) : State :=
  let v := s.coarseBase + if s.power.coarseTick then 32768 else min 32768 ((s.time.mono - s.power.coarseFrom) * 32768 / second)
  { s with power.coarseSec := BitVec.ofNat 48 (v / 32768), power.coarseSub := BitVec.ofNat 15 (v % 32768)
           power.coarseFrom := s.time.mono, power.coarseTick := true }

/-- The moves of the count as of now (R63, R65): the one that the latest command made, with those of the last 10 us. -/
def State.movesNow (s : State) : List CountMove :=
  let old := s.time.moves.filter (fun m => decide (s.time.mono < m.at_ + 10 * micro))
  if s.time.seenCount = s.time.count ∧ s.time.seenValid = s.timeValid then old
  else { at_ := s.time.mono, count := s.time.seenCount, valid := s.time.seenValid } :: old

/-- Notes the count and TIME_VALID that the time elapsed leaves, by which the next command's `movesNow` finds a move. -/
def noteCount (s : State) : State := { s with time.seenCount := s.time.count, time.seenValid := s.timeValid }

/-- Lets `dt` units of 2^-16 ns elapse (log entry 1): the monotonic counter always runs (R105), the count while the
Almanac runs (R29), and the coarse time loads at each whole second of the count (Table 14.9). What the command before
sent out is dropped. -/
def State.advance (s : State) (dt : Nat) : State :=
  let s1 := { s with time.mono := s.time.mono + dt, time.moves := s.movesNow, out := [] }
  if s.time.running then
    let c := s.time.count.toNat
    let s2 := { s1 with time.count := s.time.count + BitVec.ofNat 80 dt }
    noteCount (if s.timeValid && decide (c / second ≠ (c + dt) / second) then loadCoarse s2 else s2)
  else noteCount s1

/-- The count and TIME_VALID as they stood `ago` units of 2^-16 ns ago: a move since then is undone (R63, R65). -/
def State.instantAgo (s : State) (ago : Nat) : AT80 × Bool :=
  let t := s.time.mono - ago
  match (s.time.moves.filter (fun m => decide (t < m.at_))).getLast? with
  | some m => (m.count - BitVec.ofNat 80 (m.at_ - t), m.valid)
  | none => (s.time.count - BitVec.ofNat 80 ago, s.timeValid)

/-- Sends something out. -/
def State.emit (s : State) (o : Out) : State := { s with out := o :: s.out }

/-- INT_N pulses low for 10 us; pulses within 10 us of each other merge (R422). -/
def pulseInt (s : State) : State :=
  match s.board.intAt with
  | some t => if s.time.mono < t + 10 * micro then s
              else { s with board.intAt := some s.time.mono, out := .intN :: s.out }
  | none => { s with board.intAt := some s.time.mono, out := .intN :: s.out }

/-- Draws one free value below `n` (log entry 29); `n` is 0 for any number. -/
def draw (n : Nat) (s : State) : Nat × State :=
  let v := Config.freeNat s.freeIx
  (if n = 0 then v else v % n, { s with freeIx := s.freeIx + 1 })

/-- Draws one open choice (log entry 29). -/
def drawBit (s : State) : Bool × State := (Config.freeBit s.freeIx, { s with freeIx := s.freeIx + 1 })

/-! ### Counters -/

/-- Counters per instance of a group (Table 17.1). -/
def ctrPer : Nat → Nat
  | 1 => 12 | 2 => 12 | 3 => 20 | 4 => 160 | 5 => 256 | 6 => 17 | 7 => 1 | 8 => 8 | 9 => 32 | 10 => 64 | _ => 0

/-- Instances of a group in the window layout, which is the same on every part (Tables 17.1 and 17.3). -/
def ctrInstances : Nat → Nat
  | 1 => 384 | 2 => 384 | 3 => 384 | 4 => 384 | 5 => 384 | 6 => 384 | 7 => 768 | 8 => 96 | 9 => 1 | 10 => 1 | _ => 0

/-- Window offset of a group (Table 17.1). -/
def ctrOffset : Nat → Nat
  | 1 => 0x1000 | 2 => 0xA000 | 3 => 0x13000 | 4 => 0x22000 | 5 => 0x9A000 | 6 => 0x15A000 | 7 => 0x166C00
  | 8 => 0x168400 | 9 => 0x169C00 | 10 => 0x169D00 | _ => 0

/-- The key of a counter: its offset in the snapshot window (Table 17.3). -/
def ctrKey (group inst index : Nat) : Nat := ctrOffset group + 8 * (inst * ctrPer group + index)

/-- What a counted event tells the filters (R384). -/
structure CountCtx where
  /-- assigned class, once classified -/
  cls : Option Nat := none
  /-- host-injected or originated by the device -/
  host : Bool := false
  /-- 8*die + pool of the frame's charge -/
  region : Option Nat := none
  /-- destination IP address: IPv6?, address -/
  dip : Option (Bool × BitVec 128) := none

/-- Adds to a live counter; a wrap sets its sticky bit (R378, R380). -/
def addKey (key n : Nat) (s : State) : State :=
  if s.ctr.running then
    { s with ctr.live := tmod s.ctr.live key (0, false) (fun c => ((c.1 + n) % 2 ^ 48, c.2 || decide (2 ^ 48 ≤ c.1 + n))) }
  else s

/-- A filter matches an event (R384). `index` is k or the bin within a class block. -/
def Filter.hits (f : Filter) (c : CountCtx) (group inst index : Nat) : Bool :=
  f.enable && decide (f.group = group ∧ f.index = index ∧ (f.lport = 0x1FF ∨ f.lport = inst)) &&
  (match c.cls with | some k => bit f.classes k | none => decide (f.classes = 0xFF)) &&
  decide (f.origin = 0 ∨ (f.origin = 1 ∧ c.host = true) ∨ (f.origin = 2 ∧ c.host = false)) &&
  (decide (f.region = 0xFFFF) || decide (c.region = some f.region)) &&
  (decide (f.lo = 0 ∧ f.hi = BitVec.allOnes 128) ||
    (match c.dip with
     | none => false
     | some (v6, a) =>
       decide (f.lo ≤ a ∧ a ≤ f.hi) && (v6 != decide (f.lo.toNat < 2 ^ 32 ∧ f.hi.toNat < 2 ^ 32))))

/-- Adds to filtered counter `k`; a chained pair carries into the upper counter (R385). -/
def addFiltered (k n : Nat) (chain : Bool) (s : State) : State :=
  let v := (tget s.ctr.live (ctrKey 10 0 k) (0, false)).1
  if chain then
    let s1 := { s with ctr.live := tmod s.ctr.live (ctrKey 10 0 k) (0, false) (fun c => ((c.1 + n) % 2 ^ 48, c.2)) }
    if 2 ^ 48 ≤ v + n then addKey (ctrKey 10 0 (k + 1)) 1 s1 else s1
  else addKey (ctrKey 10 0 k) n s

/-- The filtered counters that an event feeds, below filter `n`; none counts from shedding stage 1 on (R386). -/
def feedFilters (c : CountCtx) (group inst index n : Nat) (s : State) : State :=
  if decide (1 ≤ s.power.stage) || !s.ctr.running then s
  else s.ctr.filters.foldl (fun s e => if e.2.hits c group inst index then addFiltered e.1 n e.2.chain s else s) s

/-- Counts an event `n` times in an always-running counter and in every filtered counter it feeds. -/
def countBy (c : CountCtx) (group inst index n : Nat) (s : State) : State :=
  feedFilters c group inst index n (addKey (ctrKey group inst index) n s)

/-- Counts an event of an OUT or OWD class block: `per` counters a class (Table 17.2). -/
def countClass (c : CountCtx) (group per inst cls index n : Nat) (s : State) : State :=
  feedFilters { c with cls := some cls } group inst index n (addKey (ctrKey group inst (per * cls + index)) n s)

/-- Counts a DEVICE event (Table 17.2). -/
def countDevice (index : Nat) (s : State) : State := addKey (ctrKey 9 0 index) 1 s

/-- Counts a TIME event of a port (Table 17.2). -/
def countTime (port index : Nat) (s : State) : State := addKey (ctrKey 8 port index) 1 s

/-- The value of a live counter. -/
def State.counter (s : State) (group inst index : Nat) : Nat := (tget s.ctr.live (ctrKey group inst index) (0, false)).1

/-! ### Records for DMA rings -/

/-- A record padded to a multiple of 16 bytes (R306). -/
def pad16 (r : List Byte) : List Byte := r ++ List.replicate ((16 - r.length % 16) % 16) 0

/-- Ring size in bytes (Table 12.9). -/
def Ring.size (r : Ring) : Nat := 2 ^ (r.sizeLog2.toNat + 12)

/-- Bytes of a list of records. -/
def recordBytes (rs : List (List Byte)) : Nat := rs.foldl (fun n r => n + r.length) 0

/-- A ring has no room for a record behind those that wait (R307). -/
def Ring.full (r : Ring) (record : List Byte) : Bool :=
  decide (r.size < (r.prod - r.cons).toNat + recordBytes r.waiting + record.length)

/-- The ring of a kind that has been taken out of service, lowest descriptor first (R307). -/
def State.ringWas (s : State) (k : RingKind) : Option Nat :=
  (s.cmd.rings.find? (fun e => e.2.served && !e.2.enable && decide (RingKind.ofCode e.2.kind.toNat = k))).map (·.1)

/-- The enabled ring of a kind, lowest descriptor first (R306). -/
def State.ringOf (s : State) (k : RingKind) : Option Nat :=
  (s.cmd.rings.find? (fun e => e.2.enable && decide (RingKind.ofCode e.2.kind.toNat = k))).map (·.1)

/-- A descriptor. -/
def State.ring (s : State) (d : Nat) : Ring := tget s.cmd.rings d {}

/-- A state with one descriptor changed. -/
def State.setRing (s : State) (d : Nat) (r : Ring) : State := { s with cmd.rings := tput s.cmd.rings d r }

/-- A ring drops records and counts them in RING_LOST (R307). -/
def ringLost (d n : Nat) (s : State) : State := s.setRing d { s.ring d with lost := (s.ring d).lost + BitVec.ofNat 32 n }

/-- Hands a record to the ring of a kind; a full ring, or one taken out of service, drops it and counts RING_LOST (R307). The
answer says whether the record was taken. -/
def ringPush (k : RingKind) (record : List Byte) (s : State) : Bool × State :=
  match s.ringOf k, s.ringWas k with
  | none, none => (false, s)
  | none, some d => (false, ringLost d 1 s)
  | some d, _ =>
    let r := s.ring d
    let p := pad16 record
    if r.full p then (false, ringLost d 1 s)
    else (true, s.setRing d { r with waiting := r.waiting ++ [p] })

/-! ### The event recorder -/

/-- The 64 bytes of a record (Table 18.2). -/
def Record.bytes (r : Record) : List Byte :=
  [0x5A, BitVec.ofNat 8 (r.severity.code * 64 + flag r.tv * 32 + flag r.vv * 16)] ++ toBe 2 r.code ++
  toBe 4 r.seq.toNat ++ toBe 5 r.opSeconds.toNat ++ toBe 4 r.powerCycles.toNat ++ toBe 10 r.time.toNat ++
  toBe 1 r.stepCount.toNat ++ toBe 2 (satNat 16 r.suppressed) ++ toBe 1 r.die ++ [0] ++
  (r.params ++ List.replicate (32 - r.params.length) 0).take 32

/-- An accepted record: it takes SEQ, is copied to the EVENT ring, mirrored, and placed in the pending queue
(R395, R396); FATAL pulses INT_N (R422). -/
def accept (r0 : Record) (s : State) : State :=
  let r := { r0 with seq := s.log.next }
  let s := { s with log.next := s.log.next + 1 }
  let s := if s.log.ringSeverity ≤ r.severity.code then (ringPush .event r.bytes s).2 else s
  let s := if decide (2 ≤ r.severity.code) && s.hier.mirrorUp then
      { s with hier.mirrorQ := s.hier.mirrorQ ++ [(s.hier.node, r.bytes)] } else s
  let s := if s.log.queue.length + s.log.held.length < 64 then { s with log.queue := s.log.queue ++ [r] }
    else { s with log.dropped := satNat 32 (s.log.dropped + 1) }
  if r.severity = .fatal then pulseInt s else s

/-- Raises an event: freeze, then the rate limit, then acceptance; before the scan of R399 it waits without a SEQ
(R392 to R395, R446). `die` is 0xFF for none. In KEEP nothing records. -/
def raiseAt (die : Nat) (sev : Severity) (code : Nat) (params : List Byte) (s : State) : State :=
  if s.power.porN = false ∨ s.power.mode = .keep then s else
  let supp := tget s.log.suppressed code 0
  if s.log.frozen.isSome then
    { s with log.frozenSuppressed := satNat 32 (s.log.frozenSuppressed + 1)
             log.suppressed := tput s.log.suppressed code (supp + 1) }
  else
    let w := s.time.mono / second
    let s := if w = s.log.window then s else { s with log.window := w, log.accepted := [] }
    let n := tget s.log.accepted code 0
    if s.log.rate ≤ n then { s with log.suppressed := tput s.log.suppressed code (supp + 1) }
    else
      let r : Record :=
        { severity := sev, tv := s.timeValid, vv := s.power.vigil, code := code, seq := 0,
          opSeconds := if s.power.vigil then s.power.opSeconds else 0,
          powerCycles := if s.power.vigil then s.power.powerCycles else 0,
          time := s.stamp, stepCount := s.time.stepCount, suppressed := supp, die := die, params := params }
      let s := { s with log.accepted := tput s.log.accepted code (n + 1), log.suppressed := tdel s.log.suppressed code }
      if s.log.scanned then accept r s
      else if s.log.queue.length + s.log.held.length < 64 then { s with log.held := s.log.held ++ [r] }
      else { s with log.dropped := satNat 32 (s.log.dropped + 1) }

/-- Raises an event that arises on no one die (log entry 31). -/
def raise (sev : Severity) (code : Nat) (params : List Byte) (s : State) : State := raiseAt 0xFF sev code params s

/-- A logical port as an event parameter (R447). -/
def evLport (l : Nat) : List Byte := toBe 2 l

/-- A milestone field of 8 bytes (R34). -/
def ms8 (m : Milestone) : List Byte := toBe 8 m.toNat

/-- A node ID of 4 bytes (R447). -/
def node4 (n : BitVec 18) : List Byte := toBe 4 n.toNat

/-- A time offset of 8 bytes, signed and saturating (R447). -/
def off8 (v : Int) : List Byte := toBeInt 8 (satInt 64 v)

/-! ### Notifications -/

/-- The bytes of a Skatum packet (Table 12.1) without its tag. -/
def packet (kind : Nat) (flags opcode : Nat) (seq : BitVec 32) (target : BitVec 18) (params : List Byte) : List Byte :=
  let p := params ++ List.replicate ((4 - params.length % 4) % 4) 0
  [0x4F, 0x4A, BitVec.ofNat 8 (16 + kind), BitVec.ofNat 8 flags] ++ toBe 2 opcode ++ toBe 2 (p.length / 4) ++
  toBe 4 seq.toNat ++ toBe 4 target.toNat ++ p

/-- A notification for the host on PCIe (R286): it takes its SEQUENCE from the count of that transport and goes to the NOTIFY
ring, or counts as NOTIFY_LOST where no ring is in service. The answer is its SEQUENCE, none where the host does not get it. -/
def notifyRing (opcode : Nat) (node : BitVec 18) (params : List Byte) (s : State) : Option (BitVec 32) × State :=
  let seq := s.cmd.notifyPcie
  let none_ := (s.ringOf .notify).isNone
  let (ok, s) := ringPush .notify (packet 2 0 opcode seq node params) { s with cmd.notifyPcie := seq + 1 }
  (if ok then some seq else none, if none_ then countDevice 12 s else s)

/-- Sends a notification to a local transport (R286): the NOTIFY ring, or the source address and UDP port. One without
ring or path is dropped and counted as NOTIFY_LOST. -/
def notifyLocal (dst : Option Source) (opcode : Nat) (params : List Byte) (s : State) : State :=
  match dst with
  | some (.pcie q) =>
    match notifyRing opcode s.hier.node params s with
    | (some seq, s) => s.emit (.notify (.pcie q) opcode seq params)
    | (none, s) => s
  | some (.mgmt a u) =>
    let seq := s.cmd.notifyMgmt
    let s := { s with cmd.notifyMgmt := seq + 1 }
    if s.power.mgmtUp then s.emit (.notify (.mgmt a u) opcode seq params) else countDevice 12 s
  | _ => countDevice 12 s

/-! ### Parts, ports and lanes -/

/-- A logical port. -/
def State.lp (s : State) (l : Nat) : Lport := tget s.port.lports l {}

/-- A state with one logical port changed. -/
def State.setLp (s : State) (l : Nat) (p : Lport) : State := { s with port.lports := tput s.port.lports l p }

/-- A lane, key 8*port + lane. -/
def State.lane (s : State) (port lane : Nat) : Lane := tget s.port.lanes (8 * port + lane) {}

/-- A state with one lane changed. -/
def State.setLane (s : State) (port lane : Nat) (v : Lane) : State :=
  { s with port.lanes := tput s.port.lanes (8 * port + lane) v }

/-- A port's link-time state. -/
def State.link (s : State) (port : Nat) : Link := tget s.port.links port {}

/-- A state with one link changed. -/
def State.setLink (s : State) (port : Nat) (v : Link) : State := { s with port.links := tput s.port.links port v }

/-- Breakout of a port (R143). -/
def State.breakout (s : State) (port : Nat) : Nat := tget s.port.breakout port 1

/-- The current breakout provides a logical port of a port of the part (R58, R143). -/
def State.provided (s : State) (l : Nat) : Bool :=
  decide (portOf l < s.part.ports) && decide (subOf l < s.breakout (portOf l))

/-- The logical ports of a port that its breakout provides. -/
def State.lportsOf (s : State) (port : Nat) : List Nat := (List.range (s.breakout port)).map (4 * port + ·)

/-- Every logical port of the part that the breakouts provide, in number order. -/
def State.allLports (s : State) : List Nat := (List.range s.part.ports).flatMap s.lportsOf

/-- Lanes of a port type (Table 6.1). -/
def typeLanes : Nat → Nat
  | 1 => 8 | 2 => 4 | 3 => 8 | 4 => 2 | 5 => 4 | 6 => 8 | 7 => 1 | 8 => 2 | 9 => 4 | 10 => 1 | 11 => 2 | 12 => 4
  | _ => 0

/-- RATE code of a port type's lanes (Table 6.3): 1 212.5, 2 106.25, 3 53.125, 4 25.78125 Gb/s. -/
def typeRate : Nat → Nat
  | 1 => 1 | 2 => 1 | 3 => 2 | 4 => 1 | 5 => 2 | 6 => 3 | 7 => 1 | 8 => 2 | 9 => 3 | 10 => 2 | 11 => 3 | 12 => 4
  | _ => 0

/-- Rate of a port type in Gb/s (Table 6.1). -/
def typeGbps : Nat → Nat
  | 1 => 1600 | 2 => 800 | 3 => 800 | 4 => 400 | 5 => 400 | 6 => 400 | 7 => 200 | 8 => 200 | 9 => 200 | 10 => 100
  | 11 => 100 | 12 => 100 | _ => 0

/-- Breakout that a port type needs (Table 6.1). -/
def typeBreakout : Nat → Nat
  | 1 => 1 | 2 => 2 | 3 => 1 | 4 => 4 | 5 => 2 | 6 => 1 | 7 => 4 | 8 => 4 | 9 => 2 | 10 => 4 | 11 => 4 | 12 => 2
  | _ => 0

/-- First lane of a logical port and the lanes its breakout gives it (R143). -/
def State.span (s : State) (l : Nat) : Nat × Nat :=
  match s.breakout (portOf l) with
  | 1 => (0, 8)
  | 2 => (4 * subOf l, 4)
  | _ => (2 * subOf l, 2)

/-- The lanes a logical port uses (R143). -/
def State.lanesOf (s : State) (l : Nat) : List Nat :=
  if s.provided l then upto (s.span l).1 ((s.span l).1 + typeLanes (s.lp l).type) else []

/-- The logical port of a port whose lanes include a lane, by the lanes its breakout gives it (R143). -/
def State.lportOfLane (s : State) (port lane : Nat) : Nat :=
  4 * port + lane / (8 / s.breakout port)

/-- A lane is used by a logical port that has a port type. -/
def State.laneUsed (s : State) (port lane : Nat) : Bool := (s.lanesOf (s.lportOfLane port lane)).contains lane

/-- The timing logical port of a port: the one whose lanes include the configured timing lane (R164). -/
def State.timingLport (s : State) (port : Nat) : Nat := s.lportOfLane port (s.link port).confLane

/-- A port carries time: an enabled reference entry names it, or AX or a PTP port is enabled on it (R166). -/
def State.portCritical (s : State) (port : Nat) : Bool :=
  (s.link port).axEnable || (s.link port).ptp.enable ||
  s.ref.table.any (fun e => e.2.enable && decide (e.2.kind = 2 ∧ e.2.index = port))

/-- A logical port is time-critical (R166). -/
def State.critical (s : State) (l : Nat) : Bool :=
  decide (s.timingLport (portOf l) = l) && s.portCritical (portOf l)

/-- CORE dies present (Table 0.1). -/
def State.coreDies (s : State) : List Nat := List.range s.part.cores

/-- A CORE die's clocks and domain. -/
def State.core (s : State) (d : Nat) : CoreDie := tget s.clk.cores d {}

/-- A state with one CORE die changed. -/
def State.setCore (s : State) (d : Nat) (c : CoreDie) : State := { s with clk.cores := tput s.clk.cores d c }

/-- The CORE die that owns a logical port: CORE1 from P48 on in the MS9696 (R14). -/
def State.coreOfLport (s : State) (l : Nat) : Nat := if s.part.cores = 2 then coreOf (portOf l) else 0

/-- The MAC address of a logical port number (R444). -/
def State.macOf (s : State) (l : Nat) : List Byte := toBe 6 (s.macBase.toNat + l)

/-- A compare unit. -/
def State.unit (s : State) (u : Nat) : Compare := tget s.time.compares u {}

/-- A state with one compare unit changed. -/
def State.setUnit (s : State) (u : Nat) (c : Compare) : State := { s with time.compares := tput s.time.compares u c }

/-- A reference table entry in service. -/
def State.refEntry (s : State) (i : Nat) : RefEntry := tget s.ref.table i {}

/-- Monitor state of a reference entry. -/
def State.mon (s : State) (i : Nat) : RefMon := tget s.ref.mons i {}

/-- A state with the monitor state of one entry changed. -/
def State.setMon (s : State) (i : Nat) (m : RefMon) : State := { s with ref.mons := tput s.ref.mons i m }

/-- A TDC channel. -/
def State.chan (s : State) (n : Nat) : Channel := tget s.meas.channels n {}

/-- A state with one channel changed. -/
def State.setChan (s : State) (n : Nat) (c : Channel) : State := { s with meas.channels := tput s.meas.channels n c }

/-- An AVS rail. -/
def State.rail (s : State) (r : Nat) : Rail := tget s.power.rails r {}

/-- A state with one rail changed. -/
def State.setRail (s : State) (r : Nat) (v : Rail) : State := { s with power.rails := tput s.power.rails r v }

/-- AVS rails that the part has (R319): VDD_CORE of each CORE die, VDD_LD of each LANE die. -/
def State.avsRails (s : State) : List Nat := s.coreDies ++ (List.range s.part.laneDies).map (2 + ·)

/-- The fused V-f table of a CORE die (R228). -/
def State.fused (s : State) (d : Nat) : List Nat := if d = 0 then s.clk.fused0 else s.clk.fused1

/-- The six steps of CCLK (R227). -/
def cclkSteps : List Nat := [1600, 1700, 1800, 1900, 2000, 2100]

/-- Fused voltage of a step on a die, mV (R228). -/
def State.fusedAt (s : State) (d step : Nat) : Nat :=
  ((cclkSteps.zip (s.fused d)).find? (fun e => e.1 == step)).map (·.2) |>.getD 0

/-- f_max(V): the highest step whose fused voltage is at or below V, 0 when none is (R228). -/
def State.fmax (s : State) (d mv : Nat) : Nat :=
  (cclkSteps.zip (s.fused d)).foldl (fun m e => if e.2 ≤ mv then max m e.1 else m) 0

/-- The triggers asserted, a disabled one counting as cleared (Table 14.3), as TRIGGERS of MODE_STATUS. -/
def State.triggers (s : State) : Nat :=
  flag s.power.trigThermal * 16 +
  flag (bit s.power.trigEnable 2 && s.power.rails.any (·.2.alert)) * 8 +
  flag (bit s.power.trigEnable 1 && s.power.trigLimit) * 4 +
  flag s.power.trigCrit * 2 +
  flag (bit s.power.trigEnable 0 && s.power.trigWarn)

end Sys2Proof.Machine
end

