-- ==== Sys2Proof/Machine/ClkOut.lean ====
section
/-! DEFINITION. The CLK_OUT outputs (09_clock_synthesis, CLK_OUT): where the edges of a series fall, when an output starts and
stops. -/

namespace Sys2Proof.Machine

/-- The number k of the first edge of an output's series at or after a count (R235): the edges stand at offset + k * Q / P s, since
a whole multiple of Q s is itself a whole number of periods. -/
def ClkOut.firstAt (c : ClkOut) (count : Int) : Int := -(-((count - 256 * c.offset) * c.p) / (c.q * second : Nat))

/-- The instant of edge k of an output's series, placed at 2^-16 ns within the +-100 ps of R235. -/
def ClkOut.edge (c : ClkOut) (k : Int) : Int := 256 * c.offset + k * (c.q * second : Nat) / c.p

/-- The first edge of an output's series at or after a count. -/
def ClkOut.edgeFrom (c : ClkOut) (count : AT80) : AT80 := BitVec.ofInt 80 (c.edge (c.firstAt count.toNat))

/-- An output may run: enabled, not squelched, its synthesizer and ASYN in lock, no rotation in progress (R236), and its pin not held
by a boundary-scan instruction (R426). -/
def State.outMayRun (s : State) (c : ClkOut) : Bool :=
  c.enable && !c.squelched && !c.unlocked && s.clk.asynLock && !s.time.rotating && s.board.scan.isNone

/-- An output starts on the first edge of its series at or after now, and after the cycle that ends the series before (R236). -/
def startOut (n : Nat) (s : State) : State :=
  let c := tget s.clk.outs n {}
  let e := c.edgeFrom (if later c.endsAt s.time.count then c.endsAt else s.time.count)
  { s with clk.outs := tput s.clk.outs n { c with start := some e }, out := .clkOn n e c.p c.q :: s.out }

/-- An output ends the cycle in progress and drives low (R225, R236); `shift` is what the count then moves by. -/
def stopOut (n : Nat) (shift : AT80) (s : State) : State :=
  let c := tget s.clk.outs n {}
  match c.start with
  | none => s
  | some e =>
    let at_ := (if later e s.time.count then s.time.count else c.edgeFrom (s.time.count + 1)) + shift
    { s with clk.outs := tput s.clk.outs n { c with start := none, endsAt := at_ }, out := .clkOff n at_ :: s.out }

/-- An output's series is cut off at once: its pin follows the boundary register (R426). -/
def cutOut (n : Nat) (s : State) : State :=
  let c := tget s.clk.outs n {}
  match c.start with
  | none => s
  | some _ =>
    { s with clk.outs := tput s.clk.outs n { c with start := none, endsAt := s.time.count }, out := .clkOff n s.time.count :: s.out }

/-- An output starts or stops as its conditions have changed (R236). -/
def followOut (n : Nat) (s : State) : State :=
  let c := tget s.clk.outs n {}
  match s.outMayRun c, c.start with
  | true, none => startOut n s
  | false, some _ => stopOut n 0 s
  | _, _ => s

/-- Every output stops as the count moves: the edges of its series stand elsewhere from here (R235). -/
def stopOuts (shift : AT80) (s : State) : State := (s.clk.outs.map (·.1)).foldl (fun s n => stopOut n shift s) s

/-- CLK_OUTn is toggling (Table 9.9): a series runs, and its first edge has come. -/
def State.outOn (s : State) (n : Nat) : Bool :=
  match (tget s.clk.outs n {}).start with
  | some e => !later e s.time.count
  | none => false

end Sys2Proof.Machine
end

