-- ==== Sys2Proof/Machine/Frames.lean ====
section
/-! DEFINITION. Frames (03_forwarding_pipeline): the parser, the Waymark tag, the IPv4 checksum, ECN, on-wire times. -/

namespace Sys2Proof.Machine

/-- What the parser finds (Table 3.2). -/
structure Parsed where
  /-- VLAN tags -/
  vlans : Nat := 0
  /-- VID and PCP of the outer tag -/
  vid : Nat := 0
  pcp : Nat := 0
  /-- offset behind the last VLAN tag, where a Waymark tag is or would be -/
  tagAt : Nat := 12
  /-- a Waymark tag is recognised, and it is of version 1 -/
  waymark : Bool := false
  v1 : Bool := false
  /-- inner EtherType -/
  etherType : Nat := 0
  /-- offset of the IPv4 header -/
  ip4 : Option Nat := none
  /-- offset of the IPv6 header -/
  ip6 : Option Nat := none
  sip : BitVec 128 := 0
  dip : BitVec 128 := 0
  proto : Nat := 0
  dscp : Nat := 0
  ecn : Nat := 0
  l4src : Nat := 0
  l4dst : Nat := 0
  tcpFlags : Nat := 0
  short : Bool := false
  deriving DecidableEq, Repr

/-- The L4 fields of a header at an offset (Table 3.2): TCP or UDP in a first fragment. -/
def parseL4 (d : List Byte) (o : Nat) (first : Bool) (p : Parsed) : Parsed :=
  if !first then p
  else if p.proto = 6 then
    if o + max 20 (4 * (fld d (o + 12) 1 / 16)) ≤ d.length then
      { p with l4src := fld d o 2, l4dst := fld d (o + 2) 2, tcpFlags := fld d (o + 13) 1 }
    else { p with short := true }
  else if p.proto = 17 then
    if o + 8 ≤ d.length then { p with l4src := fld d o 2, l4dst := fld d (o + 2) 2 } else { p with short := true }
  else p

/-- The IPv6 headers behind the base header: Hop-by-Hop 0, Routing 43, Destination Options 60 and Fragment 44, up to
`n` of them (Table 3.2); `first` says whether the packet is a first fragment so far. -/
def parseExt (d : List Byte) : Nat → Nat → Bool → Parsed → Parsed
  | 0, o, first, p => parseL4 d o first p
  | n + 1, o, first, p =>
    if p.proto = 0 ∨ p.proto = 43 ∨ p.proto = 60 then
      let size := 8 * (fld d (o + 1) 1 + 1)
      if o + 2 ≤ d.length ∧ o + size ≤ d.length then parseExt d n (o + size) first { p with proto := fld d o 1 }
      else { p with short := true }
    else if p.proto = 44 then
      if o + 8 ≤ d.length then
        parseExt d n (o + 8) (first && decide (fld d (o + 2) 2 / 8 = 0)) { p with proto := fld d o 1 }
      else { p with short := true }
    else parseL4 d o first p

/-- The IP headers at an offset. -/
def parseIp (d : List Byte) (o : Nat) (p : Parsed) : Parsed :=
  if p.etherType = 0x0800 then
    let size := max 20 (4 * (fld d o 1 % 16))
    if o + size ≤ d.length then
      parseL4 d (o + size) (decide (fld d (o + 6) 2 % 8192 = 0))
        { p with ip4 := some o, sip := BitVec.ofNat 128 (fld d (o + 12) 4), dip := BitVec.ofNat 128 (fld d (o + 16) 4),
                 proto := fld d (o + 9) 1, dscp := fld d (o + 1) 1 / 4, ecn := fld d (o + 1) 1 % 4 }
    else { p with short := true }
  else if p.etherType = 0x86DD then
    if o + 40 ≤ d.length then
      let tc := fld d o 4 / 2 ^ 20 % 256
      parseExt d 4 (o + 40) true
        { p with ip6 := some o, sip := BitVec.ofNat 128 (fld d (o + 8) 16), dip := BitVec.ofNat 128 (fld d (o + 24) 16),
                 proto := fld d (o + 6) 1, dscp := tc / 4, ecn := tc % 4 }
    else { p with short := true }
  else p

/-- Up to `n` VLAN tags (Table 3.2). -/
def parseVlans (d : List Byte) : Nat → Parsed → Parsed
  | 0, p => p
  | n + 1, p =>
    let o := p.tagAt
    if fld d o 2 = 0x8100 ∨ fld d o 2 = 0x88A8 then
      if o + 4 ≤ d.length then
        parseVlans d n { p with
          vlans := p.vlans + 1, tagAt := o + 4
          vid := if p.vlans = 0 then fld d (o + 2) 2 % 4096 else p.vid
          pcp := if p.vlans = 0 then fld d (o + 2) 2 / 8192 else p.pcp }
      else { p with short := true }
    else p

/-- The parser (R59): the first 256 bytes, or every byte before the FCS. `wm` is the Waymark EtherType. -/
def parse (wm : Nat) (data : List Byte) : Parsed :=
  let d := data.take 256
  let p := parseVlans d 2 {}
  let o := p.tagAt
  if p.short then p
  else if decide (fld d o 2 = wm) && decide (o + 2 ≤ d.length) then
    if o + 16 ≤ d.length then
      let p := { p with waymark := true, v1 := decide (fld d (o + 2) 1 / 16 = 1) }
      if o + 18 ≤ d.length then parseIp d (o + 18) { p with etherType := fld d (o + 16) 2 } else { p with short := true }
    else { p with short := true }
  else if o + 2 ≤ d.length then parseIp d (o + 2) { p with etherType := fld d o 2 }
  else { p with short := true }

/-- Bytes of a frame with `n` bytes at an offset replaced. -/
def putAt (d : List Byte) (o : Nat) (bs : List Byte) : List Byte := d.take o ++ bs ++ d.drop (o + bs.length)

/-- ORIGIN of an arrival instant: AT80[43:12] (R63). -/
def originOf (a : AT80) : BitVec 32 := (a >>> 12).setWidth 32

/-- DEADLINE of an AT80 instant: bits [63:16] (R63). -/
def deadlineOf (a : AT80) : BitVec 48 := (a >>> 16).setWidth 48

/-- A class carries a deadline (R131). -/
def deadlineClass (c : Nat) : Bool := decide (4 ≤ c ∧ c ≤ 6)

/-- The tag an INSERT writes (Table 3.3, Reset column). -/
def newTag (wm : Nat) (f : Frame) : List Byte :=
  toBe 2 wm ++ [BitVec.ofNat 8 (16 + 2 * f.cls + flag (deadlineClass f.cls)), BitVec.ofNat 8 (128 * flag f.arrivalValid),
    0, 0] ++ toBe 6 (if deadlineClass f.cls then f.deadline.toNat else 0) ++
  toBe 4 (if f.arrivalValid then (originOf f.arrival).toNat else 0)

/-- What an UPDATE does to a version 1 tag (Table 3.3, Access column; R65, R131). -/
def updateTag (f : Frame) (late : Bool) (t : List Byte) : List Byte :=
  let b2 := fld t 2 1
  let setDl := decide (b2 % 2 = 0) && deadlineClass f.cls
  let hop := fld t 4 1
  t.take 2 ++ [BitVec.ofNat 8 (16 + 2 * f.cls + flag (decide (b2 % 2 = 1) || setDl)),
    BitVec.ofNat 8 (if late && !bit (fld t 3 1) 6 then fld t 3 1 + 64 else fld t 3 1),
    BitVec.ofNat 8 (if f.hopDone then hop else min 255 (hop + 1))] ++ (t.drop 5).take 1 ++
  (if setDl then toBe 6 f.deadline.toNat else (t.drop 6).take 6) ++ (t.drop 12).take 4

/-- A tag action on a frame (Table 3.4): 0 NONE, 1 INSERT, 2 UPDATE, 3 STRIP. -/
def tagAction (wm action : Nat) (late : Bool) (f : Frame) : Frame :=
  let p := parse wm f.data
  let o := p.tagAt
  if p.waymark && !p.v1 then (if action = 3 then { f with data := f.data.take o ++ f.data.drop (o + 16) } else f)
  else if p.v1 then
    if action = 1 ∨ action = 2 then
      { f with data := f.data.take o ++ updateTag f late ((f.data.drop o).take 16) ++ f.data.drop (o + 16), hopDone := true }
    else if action = 3 then { f with data := f.data.take o ++ f.data.drop (o + 16) } else f
  else if action = 1 then { f with data := f.data.take o ++ newTag wm f ++ f.data.drop o, hopDone := true }
  else f

/-- Frame size from destination address to FCS. -/
def Frame.size (f : Frame) : Nat := f.data.length + 4

/-- Cells of a frame of a size (R88). -/
def cellsOf (size : Nat) : Nat := ceilDiv (size + 64) 256

/-- The ones'-complement sum of 16-bit words. -/
def sum16 (bs : List Byte) : Nat :=
  let t := (chunks 2 bs.length bs).foldl (fun n w => n + beNat w) 0
  let u := t % 65536 + t / 65536
  u % 65536 + u / 65536

/-- The checksum after a 16-bit word changes from `old` to `new`, updated incrementally. -/
def sumUpdate (sum old new : Nat) : Nat :=
  let t := (65535 - sum) + (65535 - old) + new
  let u := t % 65536 + t / 65536
  65535 - (u % 65536 + u / 65536)

/-- A 16-bit word of the IPv4 header at `ip` changed, with the checksum updated incrementally. -/
def putIp4Word (d : List Byte) (ip o new : Nat) : List Byte :=
  let old := fld d (ip + o) 2
  let sum := fld d (ip + 10) 2
  putAt (putAt d (ip + o) (toBe 2 new)) (ip + 10) (toBe 2 (sumUpdate sum old new))

/-- The frame's ECN field is ECT(0) or ECT(1) (R103). -/
def ectCapable (p : Parsed) : Bool := (p.ip4.isSome || p.ip6.isSome) && (decide (p.ecn = 1) || decide (p.ecn = 2))

/-- The frame with its ECN field set to CE (R103). -/
def markCe (wm : Nat) (d : List Byte) : List Byte :=
  let p := parse wm d
  match p.ip4, p.ip6 with
  | some o, _ => putIp4Word d o 0 (fld d o 2 - p.ecn + 3)
  | none, some o => putAt d o (toBe 4 (fld d o 4 + (3 - p.ecn) * 2 ^ 20))
  | none, none => d

/-- On-wire time of a frame of a size at a rate in Gb/s, in 2^-16 ns, rounded up (05, Class 7 departure). -/
def wireTime (gbps size : Nat) : Nat := if gbps = 0 then 0 else ceilDiv ((size + 8) * 8 * 65536) gbps

/-- Time from the start of a frame to the start of the next, the inter-frame gap of 12 bytes included. -/
def frameTime (gbps size : Nat) : Nat := if gbps = 0 then 0 else ceilDiv ((size + 20) * 8 * 65536) gbps

/-- A destination address of a frame. -/
def daOf (d : List Byte) : Nat := fld d 0 6

/-- The group of a destination address: 2 unicast, 3 multicast, 4 broadcast, as the RX and TX indexes (Table 17.2). -/
def castIndex (d : List Byte) : Nat :=
  if daOf d = 0xFFFFFFFFFFFF then 4 else if bit (fld d 0 1) 0 then 3 else 2

/-- What a frame tells the filters (R384). -/
def ctxOf (p : Parsed) (cls : Option Nat) (host : Bool) (region : Option Nat) : CountCtx :=
  { cls := cls, host := host, region := region
    dip := if p.ip4.isSome then some (false, p.dip) else if p.ip6.isSome then some (true, p.dip) else none }

end Sys2Proof.Machine
end

