-- ==== Sys2Proof/Machine/Ready.lean ====
section
/-! DEFINITION. The ready bitmap and its reasons (15_bring_up_and_readiness, Tables 15.5 to 15.9), FAULT_N, the start-up
reset, and the wrapper that every command runs in. -/

namespace Sys2Proof.Machine

/-- Offset of an item's region in the calibration set (Table 16.1). -/
def calBase : Nat → Nat
  | 1 => 0x1000 | 2 => 0x2000 | 3 => 0x3000 | 4 => 0x6000 | 5 => 0x7000 | 6 => 0x8000 | 7 => 0x10000
  | 8 => 0x11000 | 9 => 0x12000 | _ => 0

/-- Size of an item's region (Table 16.1). -/
def calSize : Nat → Nat
  | 3 => 0x3000 | 6 => 0x8000 | _ => 0x1000

/-- Entries of an item (Table 16.3). -/
def calEntries : Nat → Nat
  | 1 => 384 | 2 => 384 | 3 => 1536 | 4 => 192 | 5 => 8 | 6 => 4096 | 7 => 20 | 8 => 20 | 9 => 4 | _ => 0

/-- The value that marks an entry absent (R369). -/
def calAbsent : Nat := 0x8000000000000000

/-- An entry of a set, as 64 bits (R369). -/
def calRaw (set : List Host.Cell) (item index : Nat) : Nat := beNat (memBytes set (calBase item + 8 * index) 8)

/-- An entry of the set is present (R369). -/
def calHas (set : List Host.Cell) (item index : Nat) : Bool := decide (calRaw set item index ≠ calAbsent)

/-- An entry of the set as a number (R369). -/
def calValue (set : List Host.Cell) (item index : Nat) : Int := signed 64 (calRaw set item index)

/-- The calibration entry of a port is valid, judged against a set (R179, R370). -/
def portCalIn (s : State) (set : List Host.Cell) (p : Nat) : Bool :=
  (s.lportsOf p).all (fun l => decide ((s.lp l).type = 0) ||
    (calHas set 1 (4 * p + typeRate (s.lp l).type - 1) && calHas set 2 (4 * p + typeRate (s.lp l).type - 1) &&
     (s.lanesOf l).all (fun k => calHas set 3 (16 * p + k) && calHas set 3 (16 * p + 8 + k)))) &&
  calHas set 4 (2 * p) && calHas set 4 (2 * p + 1) && calHas set 5 (laneDieOf p)

/-- Items 1 to 5 are valid and the port's entry is present (R370). -/
def portCal (s : State) (p : Nat) : Bool := decide (s.cal.valid / 2 % 32 = 31) && portCalIn s s.cal.set p

/-- The segments of the part (R366): one for each LANE die, and segment 6 in the MS9696. -/
def State.segments (s : State) : List Nat := List.range s.part.laneDies ++ (if s.part.cores = 2 then [6] else [])

/-- A segment has failed to train (R366, R435). -/
def State.segFailed (s : State) (g : Nat) : Bool := s.power.failedSegments.contains g

/-- The LANE die of a port cannot be reached over trained segments (R366). -/
def State.laneCut (s : State) (p : Nat) : Bool :=
  s.segFailed (p / 16) || (decide (48 ≤ p) && s.segFailed 6)

/-- DORMANT holds the CORE rails at retention: from the end of entry step 7 to the end of exit. -/
def State.asleep (s : State) : Bool :=
  decide (s.power.mode = .dormant) ||
  (match s.power.dormant with | .entry n => decide (7 < n) | .exit => true | .none => false)

/-- The first reason of a list of conditions that applies, 0x00 READY when none does (R361). -/
def firstReason (l : List (Bool × Nat)) : Nat := ((l.find? (·.1)).map (·.2)).getD 0

/-- Reason byte of VIGIL (Table 15.8). -/
def reasonVigil (s : State) : Nat := if s.power.vigil then 0 else if s.power.vkeep then 0x05 else 0x04

/-- Reason byte of BOOT (Table 15.8). -/
def reasonBoot (s : State) : Nat := if s.power.booted then 0 else s.power.bootReason

/-- Step `k` of Table 15.4 has begun; the sequence stops in step 2, or in step 5 when the oscillator is not qualified (R358, R365). -/
def State.begun (s : State) (k : Nat) : Bool :=
  decide (k ≤ if s.power.bootStep = 0xF then (if s.clk.oscTimeout then 5 else 2) else s.power.bootStep)

/-- Reason byte of CLOCKS (Table 15.8). -/
def reasonClocks (s : State) : Nat :=
  if s.clk.oscOk && s.clk.asynLock then 0
  else firstReason [(s.power.porN && decide (6 ≤ s.power.oscSel), 0x09), (!s.begun 5, 0x01),
    (s.clk.oscTimeout, 0x0A), (s.clk.oscLost, 0x0B), (true, 0x02)]

/-- Reason byte of ALMANAC (Table 15.8). -/
def reasonAlmanac (s : State) : Nat :=
  if s.time.running then 0 else firstReason [(!s.power.vddTime, 0x0C), (s.clk.oscLost, 0x0B), (true, 0x01)]

/-- Reason byte of CAUSEWAY (Table 15.8). -/
def reasonCauseway (s : State) : Nat :=
  if s.segments.all s.power.trained.contains then 0
  else firstReason [(!s.begun 8, 0x01), (s.power.failedSegments.isEmpty, 0x02), (true, 0x0D)]

/-- Reason byte of CORE0 or CORE1 (Table 15.8). -/
def reasonCore (s : State) (d : Nat) : Nat :=
  if s.part.cores ≤ d then 0x03
  else if decide (d = 1) && s.segFailed 6 then 0x0D
  else if (s.core d).running then 0
  else firstReason [(!(s.core d).initialised, 0x01), (s.clk.oscLost, 0x0B), (s.asleep, 0x12),
    (decide (5 ≤ s.power.stage), 0x11), ((s.core d).reset, 0x10), ((s.core d).frozen.isSome, 0x0F), (true, 0x10)]

/-- Lost retention banks of a die (R348). -/
def State.lost (s : State) (d : Nat) : BitVec 16 := if d = 0 then s.power.lost0 else s.power.lost1

/-- Reason byte of TABLES (Table 15.8). -/
def reasonTables (s : State) : Nat :=
  firstReason [(s.segFailed 6, 0x0D), (!(s.coreDies.all (fun d => (s.core d).initialised)), 0x01), (s.asleep, 0x12),
    (s.coreDies.any (fun d => s.lost d != 0), 0x13)]

/-- Reason byte of RECORDER (Table 15.8). -/
def reasonRecorder (s : State) : Nat := firstReason [(!s.log.scanned, 0x01), (!s.cmd.controllerUp, 0x14)]

/-- Reason byte of COUNTERS (Table 15.8). -/
def reasonCounters (s : State) : Nat := firstReason [(!s.ctr.running, 0x01), (s.asleep, 0x12)]

/-- Reason byte of CMD (Table 15.8). -/
def reasonCmd (s : State) : Nat :=
  if s.cmd.controllerUp then 0 else if s.cmd.controllerReset then 0x14 else 0x01

/-- Reason byte of TIME_LOCK (Table 15.8). -/
def reasonTimeLock (s : State) : Nat :=
  firstReason [(!s.timeValid, 0x15), (decide (s.time.state = .guard), 0x17), (decide (s.ref.dpll ≠ .locked), 0x16)]

/-- Reason byte of LANES of a port (Table 15.8). -/
def reasonLanes (s : State) (p : Nat) : Nat :=
  firstReason [(decide (s.part.ports ≤ p), 0x03), (s.laneCut p, 0x0D), (!s.cal.loaded, 0x01), (!portCal s p, 0x0E),
    (s.asleep, 0x12)]

/-- The reason byte of function `b` of READY_FN (Table 15.6), 0x00 while it is ready. -/
def reasonFn (s : State) (b : Nat) : Nat :=
  match b with
  | 0 => reasonVigil s | 1 => reasonBoot s | 2 => reasonClocks s | 3 => reasonAlmanac s | 4 => reasonCauseway s
  | 5 => reasonCore s 0 | 6 => reasonCore s 1 | 7 => reasonTables s | 8 => reasonRecorder s | 9 => reasonCounters s
  | 10 => reasonCmd s | 11 => reasonTimeLock s | _ => 0

/-- Function `b` is ready (R361); bit number 32 + p is LANES of port p (R360). -/
def State.ready (s : State) (b : Nat) : Bool :=
  if b < 12 then decide (reasonFn s b = 0) else decide (32 ≤ b) && decide (reasonLanes s (b - 32) = 0)

/-- Every reason byte: READY_FN functions 0 to 11, then LANES of P0 to P95. -/
def State.reasons (s : State) : List Nat := (List.range 12).map (reasonFn s) ++ (List.range 96).map (reasonLanes s)

/-- FAULT_N is driven low (R363). -/
def State.faultN (s : State) : Bool :=
  (s.power.porN && decide (s.power.bootStep = 0xF)) || s.clk.oscLost || !s.power.failedSegments.isEmpty ||
  s.power.timeTimeout || (decide (s.power.mode = .keep) && s.power.failure.pending)

/-- Brings the ready block up to date after a command: each bit or reason that changed counts in READY_SEQ, raises the
vector when enabled, and pulses INT_N (R360, R422); nothing counts while POR_N holds the dies in reset. -/
def settle (s : State) : State :=
  let now := s.reasons
  if s.power.porN then
    let n := (s.power.shownReady.zip now).countP (fun e => e.1 != e.2)
    if s.power.shownReady = now then s
    else
      let s := { s with power.shownReady := now, power.readySeq := s.power.readySeq + BitVec.ofNat 32 n }
      let s := if s.power.readyInt then s.emit (.msix s.power.readyVector.toNat) else s
      pulseInt s
  else { s with power.shownReady := now, power.readySeq := 0 }

/-- Every die held in reset (R355, Table 14.2): all state leaves but what is non-volatile, what the Vigil domain keeps,
the supplies and straps of the board, and the model's own queue and counters. -/
def holdReset (s : State) : State :=
  { State.reset with
    part := s.part, variant := s.variant, stepping := s.stepping, serials := s.serials, macBase := s.macBase
    time := { mono := s.time.mono }
    log := { slots := s.log.slots, torn := s.log.torn }
    cal := { set := s.cal.set, journal := s.cal.journal, coefAt := s.cal.coefAt }
    hier := { deviceKey := s.hier.deviceKey, fabricKey := s.hier.fabricKey }
    clk := { fused0 := s.clk.fused0, fused1 := s.clk.fused1 }
    power :=
      { porN := s.power.porN, bootSel := s.power.bootSel, oscSel := s.power.oscSel, vddCore0 := s.power.vddCore0,
        vddCore1 := s.power.vddCore1, vddTime := s.power.vddTime, vkeep := s.power.vkeep, vigil := s.power.vigil,
        opSeconds := s.power.opSeconds, powerCycles := s.power.powerCycles, coarseValid := s.power.coarseValid,
        coarseSec := s.power.coarseSec, coarseSub := s.power.coarseSub, coarseFrom := s.power.coarseFrom
        coarseTick := s.power.coarseTick, secMin := s.power.secMin, scratch := s.power.scratch,
        failure := s.power.failure, trigLimit := s.power.trigLimit, mgmtUp := s.power.mgmtUp,
        shownReady := s.power.shownReady, readySeq := s.power.readySeq }
    board := { scan := s.board.scan }
    pending := s.pending, freeIx := s.freeIx, out := s.out }

/-- The lowest slot from `k` on that a rising table of slots does not list. -/
def firstGap (k : Nat) : Tbl Record → Nat
  | [] => k
  | (j, _) :: r => if j = k then firstGap (k + 1) r else k

/-- The slot a record goes to (R397): the lowest free slot, or the oldest record of equal or lower severity. -/
def slotFor (r : Record) (slots : Tbl Record) : Option Nat :=
  let g := firstGap 0 slots
  if g < 16384 then some g
  else ((slots.filter (fun e => decide (e.2.severity.code ≤ r.severity.code))).foldl
    (fun (b : Option (Nat × Record)) e => match b with
      | none => some e
      | some o => if later o.2.seq e.2.seq then some e else some o) none).map (·.1)

/-- A power loss while the head of the pending queue is being written: where in the steps of R398 it falls is open (log
entry 32), so the slot keeps its old contents or is left torn. -/
def loseWrite (s : State) : State :=
  match s.log.queue with
  | [] => s
  | r :: _ =>
    let (b, s) := drawBit s
    match slotFor r s.log.slots, b && s.cmd.controllerUp && s.log.scanned with
    | some k, true =>
      { s with log.slots := tdel s.log.slots k, log.torn := if s.log.torn.contains k then s.log.torn else k :: s.log.torn }
    | _, _ => s

/-- Enters KEEP (Table 14.2): every die is held in reset. -/
def enterKeep (s : State) : State := holdReset (loseWrite s)

end Sys2Proof.Machine
end

