-- ==== Sys2Proof/Machine/Buffers.lean ====
section
/-! DEFINITION. The output buffers (04_buffers_and_queues): charging, admission, PFC, multicast, release, and the tag
records of R387 to R390. -/

namespace Sys2Proof.Machine

/-! ### Pools and queues -/

/-- The committed pool set of a CORE die (R95). -/
def State.poolSet (s : State) (d : Nat) : PoolSet := tget s.fwd.pools d {}

/-- Size of a pool: 0-3 service, 4 headroom, 5 scheduled-reservation. -/
def State.poolSize (s : State) (d p : Nat) : Nat := getAt (s.poolSet d).sizes p 0

/-- Cells charged to a pool (R94). -/
def State.poolUse (s : State) (d p : Nat) : Nat :=
  ((s.fwd.copies.filter (fun c => decide (c.die = d ∧ c.pool = p))).map (·.cells)).sum

/-- Free space of a pool (R94). -/
def State.poolFree (s : State) (d p : Nat) : Nat := s.poolSize d p - s.poolUse d p

/-- The pool a class is charged to (R94). -/
def State.poolOf (s : State) (d cls : Nat) : Nat := if cls = 7 then 5 else getAt (s.poolSet d).classMap cls 0

/-- A stored frame. -/
def State.copyOf (s : State) (id : Nat) : Option Copy := s.fwd.copies.find? (fun c => decide (c.id = id))

/-- Cells of the frame a branch refers to. -/
def State.branchCells (s : State) (b : Branch) : Nat := ((s.copyOf b.copy).map (·.cells)).getD 0

/-- Branches in the queue of a logical port and class, oldest first; residue lines are not part of it (R112). -/
def State.queue (s : State) (l cls : Nat) : List Branch :=
  s.fwd.branches.filter (fun b => decide (b.lport = l ∧ b.cls = cls ∧ b.residue = none))

/-- Length of a class queue in cells (R91). -/
def State.queueLen (s : State) (l cls : Nat) : Nat := ((s.queue l cls).map s.branchCells).sum

/-- A residue line: ingress pipeline, egress logical port, class (R111). -/
def State.line (s : State) (p l cls : Nat) : List Branch :=
  s.fwd.branches.filter (fun b => decide (b.lport = l ∧ b.cls = cls ∧ b.fifo = some p ∧ b.residue ≠ none))

/-- Queue settings of a logical port and class. -/
def State.queueCfg (s : State) (l cls : Nat) : QueueCfg := tget s.fwd.queues (8 * l + cls) {}

/-- PFC settings of a logical port. -/
def State.pfcCfg (s : State) (l : Nat) : PfcCfg := tget s.fwd.pfc l {}

/-- PFC state of a logical port and priority. -/
def State.pfcPort (s : State) (l p : Nat) : PfcPort := tget s.fwd.pfcPort (8 * l + p) {}

/-- A state with the PFC state of one logical port and priority changed. -/
def State.setPfcPort (s : State) (l p : Nat) (v : PfcPort) : State :=
  { s with fwd.pfcPort := tput s.fwd.pfcPort (8 * l + p) v }

/-- Forwarding settings of a logical port. -/
def State.fwdCfg (s : State) (l : Nat) : LportFwd := tget s.fwd.lportFwd l {}

/-- The pool check of R97. -/
def State.poolFits (s : State) (d p cells : Nat) : Bool := decide (s.poolUse d p + cells ≤ s.poolSize d p)

/-- `len + cells ≤ 2^k * free` (R97). -/
def withinAlpha (k : Int) (n free : Nat) : Bool :=
  if 0 ≤ k then decide (n ≤ 2 ^ k.toNat * free) else decide (n * 2 ^ (-k).toNat ≤ free)

/-- The queue check of R97; class 7 has none. -/
def State.queueFits (s : State) (d l cls cells : Nat) : Bool :=
  decide (cls = 7) || withinAlpha (s.queueCfg l cls).k (s.queueLen l cls + cells) (s.poolFree d (s.poolOf d cls))

/-- The forwarding domain of a CORE die is frozen (R237). -/
def State.frozenDie (s : State) (d : Nat) : Bool := (s.core d).frozen.isSome

/-- The CORE die of a logical port forwards: its domain runs and the Causeway reaches it. -/
def State.dieForwards (s : State) (d : Nat) : Bool := (s.core d).running && !(decide (d = 1) && s.segFailed 6)

/-- The link of a logical port is down (R147, R157): not up, and neither in L-DEEP nor moving into or out of it. -/
def State.linkIsDown (s : State) (l : Nat) : Bool :=
  let p := s.lp l
  !p.up && !(decide (p.power = 2) || decide (p.moving = some 2))

/-- No frame is newly enqueued on a logical port: its link is down (04, Port down), or its CORE die is frozen or cut off (R238,
R366). -/
def State.portDown (s : State) (l : Nat) : Bool := s.linkIsDown l || !s.dieForwards (s.coreOfLport l)

/-- The egress side of a logical port. -/
def State.egress (s : State) (l : Nat) : Egress := tget s.fwd.egress l {}

/-- A state with the egress side of one logical port changed. -/
def State.setEgress (s : State) (l : Nat) (e : Egress) : State := { s with fwd.egress := tput s.fwd.egress l e }

/-- CORE die of the pipeline that admits a frame; a DIRECT-injected frame comes from CORE0 (R14, R15). -/
def Frame.side (f : Frame) : Nat :=
  match f.pipeline with
  | some p => if 24 ≤ p then 1 else 0
  | none => 0

/-- A frame bound for a CORE die has to cross the CORE0-CORE1 segment while it retrains, and waits on the sending side (R17). -/
def State.mustWait (s : State) (d : Nat) (f : Frame) : Bool :=
  decide (s.part.cores = 2 ∧ f.side ≠ d) && s.power.retraining.any (fun e => decide (e.1 = 6))

/-- A frame begins to wait on the sending side of the CORE0-CORE1 segment (R17). -/
def waitToCross (c : Crossing) (s : State) : State := { s with fwd.crossings := s.fwd.crossings ++ [c] }

/-! ### PFC -/

/-- The PFC priority of a frame of a class from an input (R99). -/
def State.priorityOf (s : State) (input : Option Nat) (cls : Nat) : Option Nat :=
  if cls = 7 then none else input.map (fun l => getAt (s.pfcCfg l).classMap cls cls)

/-- A frame of a class from an input is lossless (R99). -/
def State.lossless (s : State) (input : Option Nat) (cls : Nat) : Bool :=
  match input, s.priorityOf input cls with
  | some l, some p => bit (s.pfcCfg l).lossless p
  | _, _ => false

/-- Cells that frames of an input and priority hold (R100). -/
def State.pfcCells (s : State) (l p : Nat) : Nat :=
  ((s.fwd.copies.filter (fun c => decide (c.frame.input = some l ∧ c.priority = some p))).map (·.cells)).sum

/-- Headroom cells of an input and priority (R100, R101), on one die or on both. -/
def State.headroomCells (s : State) (l p : Nat) : Nat :=
  ((s.fwd.copies.filter (fun c => decide (c.pool = 4 ∧ c.frame.input = some l ∧ c.priority = some p))).map (·.cells)).sum

/-- A logical port in a near-end loop: what it sends returns to its own receiver, and the pads are idle (R160). -/
def State.loopsBack (s : State) (l : Nat) : Bool := decide ((s.lp l).loop = 1 ∨ (s.lp l).loop = 2)

/-- A frame leaves a logical port: it goes out, or in a near-end loop returns to the port's receiver (R160). -/
def sendFrame (l : Nat) (o : Out) (bytes : List Byte) (s : State) : State :=
  if s.loopsBack l then { s with fwd.loopback := tput s.fwd.loopback l (tget s.fwd.loopback l [] ++ [bytes]) } else s.emit o

/-- A PFC frame of IEEE 802.1Qbb for one priority, FCS included. -/
def pfcBytes (source : List Byte) (p quanta : Nat) : List Byte :=
  let d := [0x01, 0x80, 0xC2, 0x00, 0x00, 0x01] ++ source ++ toBe 2 0x8808 ++ toBe 2 0x0101 ++ toBe 2 (2 ^ p) ++
    (List.range 8).flatMap (fun i => toBe 2 (if i = p then quanta else 0)) ++ List.replicate 26 0
  d ++ fcs d

/-- Sends a PFC frame with the logical port's MAC address as source (R444), counted in TX (R379): quanta 0 is XON. -/
def sendPfc (l p quanta : Nat) (s : State) : State :=
  countBy { host := true } 2 l (if quanta = 0 then 6 else 5) 1
    (sendFrame l (.pfc l p quanta (s.macOf l)) (pfcBytes (s.macOf l) p quanta) s)

/-- Sends XOFF for a priority with its quanta, and notes when. -/
def repeatNow (l p : Nat) (s : State) : State :=
  let q := (s.pfcCfg l).quanta
  sendPfc l p q (s.setPfcPort l p { s.pfcPort l p with xoffSent := true, lastXoff := s.time.mono, quanta := q })

/-- Sends XOFF for a priority whose XOFF condition has arisen (R100). -/
def sendXoff (l p : Nat) (s : State) : State := repeatNow l p (s.setPfcPort l p { s.pfcPort l p with due := true })

/-- The XOFF condition of R100. -/
def State.xoffCond (s : State) (l p : Nat) : Bool :=
  decide ((s.pfcCfg l).xoff ≤ s.pfcCells l p) || decide (0 < s.headroomCells l p)

/-- The XON condition of R100. -/
def State.xonCond (s : State) (l p : Nat) : Bool :=
  decide (s.pfcCells l p ≤ (s.pfcCfg l).xon) && decide (s.headroomCells l p = 0)

/-- After the cells of an input and priority change, XOFF or XON is sent as R100 states; nothing is sent while the link
is down, and no XON while the XOFF of a freeze stands (R238). -/
def pfcCheck (l p : Nat) (s : State) : State :=
  let st := s.pfcPort l p
  let up := (s.lp l).up
  let arisen := bit (s.pfcCfg l).lossless p && s.xoffCond l p
  if st.freeze then s.setPfcPort l p { st with due := if st.due then !s.xonCond l p else arisen }
  else if (st.due || st.xoffSent) && s.xonCond l p then
    let s' := s.setPfcPort l p { st with due := false, xoffSent := false }
    if st.xoffSent && up then sendPfc l p 0 s' else s'
  else if !st.due && arisen then
    if up then sendXoff l p s else s.setPfcPort l p { st with due := true }
  else s

/-- At freeze entry every lossless priority of a logical port whose pipeline lies on the die gets XOFF (R238). -/
def freezeXoff (l : Nat) (s : State) : State :=
  (List.range 8).foldl (fun s p =>
    if bit (s.pfcCfg l).lossless p then
      let s := s.setPfcPort l p { s.pfcPort l p with freeze := true }
      if (s.lp l).up then repeatNow l p s else s
    else s) s

/-- When the gate reopens or the domain resets, the XOFF of the freeze is not repeated any more, and XON follows under R100. -/
def thawXoff (l : Nat) (s : State) : State :=
  (List.range 8).foldl (fun s p =>
    if (s.pfcPort l p).freeze then pfcCheck l p (s.setPfcPort l p { s.pfcPort l p with freeze := false }) else s) s

/-- `pfcCheck` for the input and priority of a stored frame. -/
def pfcCheckCopy (c : Copy) (s : State) : State :=
  match c.frame.input, c.priority with
  | some l, some p => pfcCheck l p s
  | _, _ => s

/-- When a link comes up, XOFF is sent for each priority whose condition has arisen (R100), or for which a freeze stands (R238). -/
def pfcLinkUp (l : Nat) (s : State) : State :=
  (List.range 8).foldl (fun s p => if (s.pfcPort l p).due || (s.pfcPort l p).freeze then repeatNow l p s else s) s

/-- When a link goes down, no XOFF stands on it any more. -/
def pfcLinkDown (l : Nat) (s : State) : State :=
  (List.range 8).foldl (fun s p =>
    let st := s.pfcPort l p
    if st.xoffSent then s.setPfcPort l p { st with xoffSent := false } else s) s

/-! ### Tag records and counts -/

/-- The OUT index within a class of a drop code (Table 17.2): 0x20-0x27 are 5-12, 0x30-0x33 are 13-16. -/
def outIndex (code : Nat) : Nat :=
  if code = 0x0E then 2 else if code = 0x12 then 3 else if code < 0x30 then code - 0x20 + 5 else code - 0x30 + 13

/-- How a branch of a tagged frame ended (Table 17.5). -/
structure Fate where
  lport : Nat := 0x1FF
  stage : Nat
  drop : Nat := 0
  enqueued : Option Nat := none
  dequeued : Option Nat := none
  egress : Option Nat := none
  qlenEnq : Nat := 0
  qlenDeq : Nat := 0
  mirror : Bool := false
  punt : Bool := false
  residue : Bool := false
  ecn : Bool := false
  late : Bool := false
  deriving DecidableEq, Repr

/-- A T field of a tag record (R390). -/
def tagTime (f : Frame) (t : Option Nat) : Nat :=
  match t with
  | some t => satNat 32 ((t - f.arrivalMono) / 16384)
  | none => 0

/-- The 64 bytes of a tag record (Table 17.5). -/
def tagRecord (s : State) (f : Frame) (i : TagInfo) (t : Fate) : List Byte :=
  let cross := decide (t.lport ≠ 0x1FF) && decide (s.part.cores = 2) && decide ((i.pipeline < 24) ≠ (t.lport < 192))
  toBe 10 (if f.arrivalValid then f.arrival.toNat else 0) ++
  toBe 4 (tagTime f (if 1 ≤ t.stage then some i.lookup else none)) ++
  toBe 4 (if 2 ≤ t.stage then tagTime f t.enqueued else 0) ++
  toBe 4 (if 3 ≤ t.stage then tagTime f t.dequeued else 0) ++
  toBe 4 (if 4 ≤ t.stage then tagTime f t.egress else 0) ++
  toBe 4 i.id.toNat ++
  toBe 4 (i.lport * 2 ^ 23 + t.lport * 2 ^ 14 + f.cls * 2 ^ 11 + t.stage * 2 ^ 8 + t.drop) ++
  toBe 10 (t.qlenEnq * 2 ^ 60 + t.qlenDeq * 2 ^ 40 + i.length * 2 ^ 26 + i.stepCount.toNat * 2 ^ 18 +
    i.branches % 512 * 2 ^ 9 + flag f.arrivalValid * 2 ^ 8 + flag i.mcast * 2 ^ 7 + flag t.mirror * 2 ^ 6 +
    flag t.punt * 2 ^ 5 + flag t.residue * 2 ^ 4 + flag t.ecn * 2 ^ 3 + flag t.late * 2 ^ 2 + flag cross) ++
  toBe 6 (if deadlineClass f.cls then f.deadline.toNat else 0) ++ toBe 2 i.aclIndex ++
  toBe 12 (i.pipeline * 2 ^ 90)

/-- Writes the record of a settled branch to the on-chip queue of 8,192 (R388, R389). -/
def pushTag (f : Frame) (t : Fate) (s : State) : State :=
  match f.tag with
  | none => s
  | some i =>
    if s.ctr.tagQ.length < 8192 then { s with ctr.tagQ := s.ctr.tagQ ++ [tagRecord s f i t] } else countDevice 13 s

/-- What a stored or refused frame tells the filters. -/
def State.frameCtx (_ : State) (f : Frame) (region : Option Nat) : CountCtx :=
  ctxOf (parse f.wm f.data) (some f.cls) f.injected region

/-- Counts a frame that a logical port refuses under a code: MIRROR_DROP of its input for a mirror copy (R83), the code's
OUT counter otherwise; the branch of a tagged frame is settled at a stage. -/
def refuse (l code stage : Nat) (mirror : Bool) (f : Frame) (s : State) : State :=
  let s := pushTag f { lport := l, stage := stage, drop := code, mirror := mirror, enqueued := some s.time.mono } s
  if mirror then
    match f.input with
    | some i => countBy (s.frameCtx f none) 1 i 11 1 s
    | none => s
  else countClass (s.frameCtx f none) 4 20 l f.cls (outIndex code) 1 s

/-! ### Storing and releasing -/

/-- Stores a frame charged to a pool; the answer is the name of the copy. -/
def store (d pool cells : Nat) (f : Frame) (s : State) : Nat × State :=
  let c : Copy := { id := s.fwd.nextCopy, die := d, pool := pool, cells := cells,
                    priority := s.priorityOf f.input f.cls, frame := f }
  let s := { s with fwd.copies := s.fwd.copies ++ [c], fwd.nextCopy := s.fwd.nextCopy + 1 }
  let s := { s with fwd.peaks := tmod s.fwd.peaks (6 * d + pool) 0 (fun p => max p (s.poolUse d pool)) }
  (c.id, pfcCheckCopy c s)

/-- Frees a copy when no branch refers to it any more (R88). -/
def freeCopy (id : Nat) (s : State) : State :=
  if s.fwd.branches.any (fun b => decide (b.copy = id)) then s
  else
    match s.copyOf id with
    | none => s
    | some c => pfcCheckCopy c { s with fwd.copies := s.fwd.copies.filter (fun c => decide (c.id ≠ id)) }

/-- A class whose queue has emptied has its deficit reset to 0 (R135). -/
def resetDeficit (l cls : Nat) (s : State) : State :=
  if cls < 4 ∧ (s.queue l cls).isEmpty = true ∧ getAt (s.egress l).deficit cls 0 ≠ 0 then
    s.setEgress l { s.egress l with deficit := (s.egress l).deficit.set cls 0 }
  else s

/-- Takes a branch out of its queue or line and releases its reference. -/
def unlink (b : Branch) (s : State) : State :=
  resetDeficit b.lport b.cls (freeCopy b.copy { s with fwd.branches := s.fwd.branches.erase b })

/-- 8*die + pool of a stored frame (R384). -/
def Copy.region (c : Copy) : Nat := 8 * c.die + c.pool

/-- Discards a stored branch under a code, counted when `counted` (R108 counts none), its tag record at a stage. -/
def discard (code stage : Nat) (counted : Bool) (b : Branch) (s : State) : State :=
  match s.copyOf b.copy with
  | none => unlink b s
  | some c =>
    let f := { c.frame with cls := b.cls }
    let s := unlink b s
    let s := pushTag f
      { lport := b.lport, stage := stage, drop := code, mirror := b.mirror, residue := b.waited, ecn := b.marked
        enqueued := some b.admitted, dequeued := some s.time.mono, qlenEnq := b.qlen
        qlenDeq := if stage = 3 then s.queueLen b.lport b.cls else 0 } s
    if counted then countClass (s.frameCtx f (some c.region)) 4 20 b.lport b.cls (outIndex code) 1 s else s

/-- Flushes the queues and residue lines of a logical port (R107, R108, R114). -/
def flush (l : Nat) (counted : Bool) (s : State) : State :=
  (s.fwd.branches.filter (fun b => decide (b.lport = l))).foldl (fun s b => discard 0x24 2 counted b s) s

/-- Flushes a logical port that is disabled or removed, without a count (R108). On a frozen die the flush waits until it resumes
(R20, R237). -/
def flushPort (l : Nat) (s : State) : State :=
  if s.frozenDie (s.coreOfLport l) then { s with fwd.flushDue := l :: s.fwd.flushDue } else flush l false s

/-- The ECN rule of R104 and R105 on a value: mark, or not; strictly between the bounds the device's LFSR decides, which
is an open choice. -/
def ecnMark (q : QueueCfg) (x : Nat) (s : State) : Bool × State :=
  if x < q.min then (false, s)
  else if q.max ≤ x then (true, s)
  else if q.pmax * (x - q.min) = 0 then (false, s)
  else drawBit s

/-- Appends a branch to its queue: its marking in DEPTH mode, its admission instant, the wake of R157. -/
def enqueue (b : Branch) (f : Frame) (s : State) : State :=
  let q := s.queueCfg b.lport b.cls
  let x := s.queueLen b.lport b.cls
  let (m, s) := if decide (q.ecn = 1) && ectCapable (parse f.wm f.data) then ecnMark q x s else (false, s)
  let s := if m then countClass (s.frameCtx f ((s.copyOf b.copy).map Copy.region)) 4 20 b.lport b.cls 17 1 s else s
  let s := { s with fwd.branches := s.fwd.branches ++
    [{ b with residue := none, marked := m, admitted := s.time.mono, qlen := x }] }
  let p := s.lp b.lport
  if p.power ≠ 0 ∨ p.moving ≠ none then s.setLp b.lport { p with wakeDue := true } else s

/-- Places a branch at the end of its residue line (R111). -/
def enterLine (b : Branch) (s : State) : State :=
  { s with fwd.branches := s.fwd.branches ++ [{ b with residue := some s.fwd.residueLimit, waited := true }] }

/-- The residue line that a frame would enter on a logical port holds 64 frames (R111). -/
def State.lineFull (s : State) (f : Frame) (l : Nat) : Bool :=
  match f.pipeline with
  | some p => decide (64 ≤ (s.line p l f.cls).length)
  | none => false

/-- The branch of a frame on a logical port, before it has a copy. -/
def Frame.branch (f : Frame) (l : Nat) (mirror : Bool) : Branch :=
  { copy := 0, lport := l, cls := f.cls, fifo := f.pipeline, mirror := mirror, owes := f.owed.any (fun o => o.2 == l) }

/-- The two conditions of R101 for a frame's cells on a die. -/
def State.headroomFits (s : State) (d cells : Nat) (f : Frame) : Bool :=
  match f.input, s.priorityOf f.input f.cls with
  | some l, some p =>
    decide (s.headroomCells l p + cells ≤ getAt (s.pfcCfg l).headroom p 0) && s.poolFits d 4 cells
  | _, _ => false

/-- Frames of a pipeline and class bound for a logical port wait in a residue line (R111). -/
def State.lineWaits (s : State) (f : Frame) (l : Nat) : Bool :=
  match f.pipeline with
  | some p => !(s.line p l f.cls).isEmpty
  | none => false

/-- Admission of a unicast frame or of a mirror copy on a logical port (R97, R101, R106, R112); a frame that finds its residue
line full is neither stored nor charged (R111). -/
def admitTo (l : Nat) (mirror : Bool) (f : Frame) (s : State) : State :=
  let d := s.coreOfLport l
  let cells := cellsOf f.size
  let p := s.poolOf d f.cls
  if s.mustWait d f then waitToCross { frame := f, targets := [l], mcast := false, mirror := mirror } s
  else if s.portDown l then refuse l 0x23 2 mirror f s
  else
    let waits := s.lineWaits f l
    let pool := s.poolFits d p cells
    let fits := pool && (waits || s.queueFits d l f.cls cells)
    if fits || (s.lossless f.input f.cls && s.headroomFits d cells f) then
      if waits && s.lineFull f l then refuse l 0x27 2 mirror f s
      else
        let (id, s) := store d (if fits then p else 4) cells f s
        let b := { f.branch l mirror with copy := id }
        if waits then enterLine b s else enqueue b f s
    else refuse l (if s.lossless f.input f.cls then 0x22 else if pool then 0x20 else 0x21) 2 mirror f s

/-- Drops a multicast branch on a logical port (R109, R110). -/
def branchDrop (f : Frame) (l : Nat) (s : State) : State := refuse l 0x25 2 false f s

/-- A multicast frame on one CORE die of a device with one (R109). -/
def admitOneDie (d : Nat) (targets : List Nat) (f : Frame) (s : State) : State :=
  let cells := cellsOf f.size
  let p := s.poolOf d f.cls
  let live := targets.filter (fun l => !s.portDown l)
  let pool := s.poolFits d p cells
  let ok := live.filter (fun l => s.queueFits d l f.cls cells)
  let head := s.lossless f.input f.cls && (!pool || decide (ok.length < live.length)) && s.headroomFits d cells f
  let take := if head then live else if pool then ok else []
  let s := (targets.filter (fun l => !take.contains l)).foldl (fun s l => branchDrop f l s) s
  if take.isEmpty then s
  else
    let (id, s) := store d (if head then 4 else p) cells f s
    take.foldl (fun s l => enqueue { f.branch l false with copy := id } f s) s

/-- A multicast frame on one of two CORE dies (R110, R111, R113): a branch that finds its residue line full loses only itself. -/
def admitOfTwo (d : Nat) (targets : List Nat) (f : Frame) (s : State) : State :=
  let cells := cellsOf f.size
  let p := s.poolOf d f.cls
  let live := targets.filter (fun l => !s.portDown l)
  let pool := s.poolFits d p cells
  let head := !pool && s.lossless f.input f.cls && s.headroomFits d cells f
  let waits := live.filter (fun l => s.lineWaits f l || !s.queueFits d l f.cls cells)
  let cut := decide (s.fwd.residueLimit = 0)
  let able := if pool || head then live.filter (fun l => !cut || !waits.contains l || s.lineWaits f l) else []
  let full := able.filter (fun l => waits.contains l && s.lineFull f l)
  let take := able.filter (fun l => !full.contains l)
  let s := (targets.filter (fun l => !able.contains l)).foldl (fun s l => branchDrop f l s) s
  let s := full.foldl (fun s l => refuse l 0x27 2 false f s) s
  if take.isEmpty then s
  else
    let (id, s) := store d (if head then 4 else p) cells f s
    take.foldl (fun s l =>
      let b := { f.branch l false with copy := id }
      if waits.contains l then enterLine b s else enqueue b f s) s

/-- Admission of a multicast frame: once on each CORE die that owns a target (R90, R109, R110). -/
def admitMulticast (targets : List Nat) (f : Frame) (s : State) : State :=
  if s.part.cores = 2 then
    [0, 1].foldl (fun s d =>
      let ts := targets.filter (fun l => decide (s.coreOfLport l = d))
      if ts.isEmpty then s
      else if s.mustWait d f then waitToCross { frame := f, targets := ts, mcast := true, mirror := false } s
      else admitOfTwo d ts f s) s
  else if targets.isEmpty then s else admitOneDie 0 targets f s

end Sys2Proof.Machine
end

