-- ==== Sys2Proof/Machine/Links.lean ====
section
/-! DEFINITION. Link up, link down, enabling and disabling a logical port (06_serial_lanes), frames cut off on the wire,
and the module writes of R410. -/

namespace Sys2Proof.Machine

/-- What the frame on the wire tells the filters (R384). -/
def Flight.ctx (f : Flight) (cls : Nat) : CountCtx := ctxOf (parse f.wm f.data) (some cls) f.host (some f.region)

/-- Counts the frame on the wire once its end has passed (R379). -/
def land (l : Nat) (s : State) : State :=
  let e := s.egress l
  match e.flight with
  | none => s
  | some f =>
    if s.time.mono < e.endAt then s
    else
      let c := f.ctx e.cls
      let n := f.data.length + 4
      let s := s.setEgress l { e with flight := none }
      let s := countBy c 2 l (castIndex f.data) 1 (countBy c 2 l 1 n (countBy c 2 l 0 1 s))
      countClass c 4 20 l e.cls 1 n (countClass c 4 20 l e.cls 0 1 s)

/-- Counts every frame whose end has passed. -/
def landAll (s : State) : State := (s.fwd.egress.map (·.1)).foldl (fun s l => land l s) s

/-- Cuts off or ends with an error codeword a frame that is part-way onto the wire: TX_ABORT (R146, R148, R226, R238). -/
def abortFrame (l : Nat) (s : State) : State :=
  let s := land l s
  let e := s.egress l
  match e.flight with
  | none => s
  | some f =>
    let c := f.ctx e.cls
    let s := s.setEgress l { e with flight := none, endAt := s.time.mono, freeAt := s.time.mono, close := none, delayed := false }
    countClass c 4 20 l e.cls 4 1 (s.emit (.abort l))

/-- The bits of a list of lanes. -/
def laneMask (ls : List Nat) : Nat := ls.foldl (fun n k => n + 2 ^ k) 0

/-- Places a write among those due, in port order among those of one milestone (R413). -/
def placeWrite (w : ModWrite) : List ModWrite → List ModWrite
  | [] => [w]
  | v :: r => if v.due = w.due ∧ w.port < v.port then w :: v :: r else v :: placeWrite w r

/-- A write of the DataPathDeinit bits of a logical port's module lanes falls due (R410); it joins a pending write to the
same module, so that only the latest state is written (R413, log entry 33). -/
def modWrite (l : Nat) (deinit : Bool) (s : State) : State :=
  if (s.lp l).medium ≠ 0 ∨ (s.lp l).type = 0 then s
  else
    let p := portOf l
    let m := laneMask (s.lanesOf l)
    let v := if deinit then m else 0
    match s.board.modWrites.find? (fun w => decide (w.port = p)) with
    | some w =>
      { s with board.modWrites := s.board.modWrites.map (fun x => if x.port = p then
          { w with mask := w.mask ||| m, bits := (w.bits &&& (255 - m)) ||| v } else x) }
    | none => { s with board.modWrites := placeWrite { port := p, mask := m, bits := v, due := s.ms } s.board.modWrites }

/-- The link of a logical port goes down (R147, R148): the hold of R106 begins, no PFC stands, event 0x3102. -/
def linkDown (l : Nat) (s : State) : State :=
  if (s.lp l).up then
    let s := abortFrame l s
    let s := s.setLp l { s.lp l with up := false, downAt := s.stamp }
    let s := { s with fwd.loopback := tdel s.fwd.loopback l }
    let s := pfcLinkDown l { s with fwd.held := tput s.fwd.held l s.time.mono }
    raiseAt (laneDieOf (portOf l)) .warn 0x3102 (evLport l) s
  else s

/-- Links of several logical ports go down. -/
def linksDown (ls : List Nat) (s : State) : State := ls.foldl (fun s l => linkDown l s) s

/-- A lane has LOS and LOL clear. -/
def Lane.locked (v : Lane) : Bool := !v.los && !v.lol

/-- The lane is a lane of the port's timing logical port. -/
def State.timingLane (s : State) (port k : Nat) : Bool := (s.lanesOf (s.timingLport port)).contains k

/-- A port's active timing lane is used and locked (R170). -/
def State.phaseLane (s : State) (port : Nat) : Bool :=
  let k := s.link port
  !k.laneLost && s.timingLane port k.activeLane && (s.lane port k.activeLane).locked

/-- The skew of a lane is unknown again (R172). -/
def forgetSkew (port lane : Nat) (s : State) : State :=
  s.setLane port lane { s.lane port lane with skewCount := 0, skewSum := 0, skew := none, meanCount := 0, meanSum := 0 }

/-- The link of a logical port starts: auto-negotiation and training on CR and KR, which make skews unknown (R172) and start
from the taps written by LANE_TX_EQ (R150), alignment on C2M (R146, R149). -/
def startLink (l : Nat) (s : State) : State :=
  let p := s.lp l
  let q := portOf l
  let s := if p.medium = 0 then s else (s.lanesOf l).foldl (fun s k =>
    let s := forgetSkew q k s
    s.setLane q k { s.lane q k with taps := (s.lane q k).startTaps, adapted := false }) s
  s.setLp l { p with train := if p.medium = 0 then .none else .autoNeg, trainFrom := s.time.mono }

/-- The link of a logical port comes up (R147): dequeue resumes, the XOFFs due are sent, event 0x3101. -/
def linkUpNow (l : Nat) (s : State) : State :=
  let p := s.lp l
  let s := s.setLp l { p with up := true, upAt := s.stamp, power := if p.power = 2 then p.moving.getD 0 else p.power
                              moving := if p.power = 2 then none else p.moving, wakeDue := false }
  let s := { s with fwd.held := tdel s.fwd.held l }
  let q := portOf l
  let s := if s.timingLport q = l then s.setLink q { s.link q with echo := none, axDue := false } else s
  pfcLinkUp l (raiseAt (laneDieOf q) .note 0x3101 (evLport l) s)

/-- A logical port is disabled (R108, R145, R146): transmitters idle, flushed without a count, no low-power state. -/
def disablePort (l : Nat) (s : State) : State :=
  let s := abortFrame l s
  let p := s.lp l
  let s := s.setLp l
    { p with enabled := false, up := false, downAt := if p.up then s.stamp else p.downAt, power := 0, moving := none
             wakeDue := false, train := .none, trainFails := 0, degraded := false }
  let s := pfcLinkDown l { s with
    fwd.held := tdel s.fwd.held l, fwd.loopback := tdel s.fwd.loopback l, power.shedPorts := tdel s.power.shedPorts l }
  flushPort l s

/-- A logical port is enabled and its link starts (R146). -/
def enablePort (l : Nat) (s : State) : State :=
  let p := s.lp l
  startLink l (s.setLp l { p with enabled := true, trainFails := 0, degraded := false })

/-- No lane of a logical port has LOS or LOL, and the TX PLLs of its pairs are locked. -/
def State.lanesGood (s : State) (l : Nat) : Bool :=
  (s.lanesOf l).all (fun k =>
    let v := s.lane (portOf l) k
    !v.los && !v.lol && s.clk.lanePlls.contains (4 * portOf l + k / 2))

/-- A low-power move of a logical port begins (R155, R410). -/
def movePower (l target : Nat) (s : State) : State :=
  let p := s.lp l
  if p.power = target ∧ p.moving = none then s
  else
    let s := if decide (target = 2) && p.enabled then modWrite l true s
      else if decide (p.power = 2) && p.enabled then modWrite l false s else s
    s.setLp l { p with moving := some target, wakeDue := false
                       wakeFrom := if p.power = 2 then s.time.mono else p.wakeFrom }

/-- A segment of the Causeway retrains, and traffic of a port behind it halts (R17, R434). -/
def State.halted (s : State) (p : Nat) : Bool := s.power.retraining.any (fun e => decide (e.1 = p / 16))

end Sys2Proof.Machine
end

