-- ==== Sys2Proof/Machine/Scheduler.lean ====
section
/-! DEFINITION. Calendars, class 7 windows, deadline service and the egress scheduler (05_scheduled_and_deadline_service). -/

namespace Sys2Proof.Machine

/-! ### Calendars -/

/-- An entry of a calendar; one that is not listed has the Reset values of Table 5.1. -/
def Calendar.entry (c : Calendar) (i : Nat) : Nat := tget c.entries i 0x7F00

/-- Indexes of the entries with GATE bit 7, in rising order. -/
def Calendar.gated (c : Calendar) : List Nat :=
  (c.entries.filter (fun e => decide (e.1 < c.n) && bit e.2 15)).map (·.1)

/-- Runs of consecutive numbers of a rising list, after a run `a` to `b`. -/
def runsFrom (a b : Nat) : List Nat → List (Nat × Nat)
  | [] => [(a, b)]
  | x :: r => if x = b + 1 then runsFrom a x r else (a, b) :: runsFrom x x r

/-- The reserved windows of a calendar: first and last entry (R119). -/
def Calendar.windows (c : Calendar) : List (Nat × Nat) :=
  match c.gated with
  | [] => []
  | x :: r => runsFrom x x r

/-- Release offset of an entry, in 2^-16 ns. -/
def Calendar.offsetOf (c : Calendar) (i : Nat) : Nat := getAt c.offsets (c.entry i % 8) 0 * 16384

/-- Duration of a window in 2^-16 ns (R119). -/
def Calendar.duration (c : Calendar) (w : Nat × Nat) : Nat := (w.2 + 1 - w.1) * slotUnits - c.offsetOf w.1

/-- The entry that governs a slot: its index when it is no idle slot, and its bits (R118). -/
def Calendar.governs (c : Calendar) (m : Nat) : Option Nat × Nat :=
  let i := m % c.e
  if i < c.n then (some i, c.entry i) else (none, c.idle)

/-- The active calendar of a logical port. -/
def State.calendar (s : State) (l : Nat) : Option Calendar := tfind s.fwd.active l

/-- The shadow calendar of a logical port (R116). -/
def State.shadowOf (s : State) (l : Nat) : Calendar := tget s.fwd.shadow l {}

/-- A slot lies between the N slots of the cycle in which a swap was called for and the swap, and runs the old idle entry (R127). -/
def State.idleHeld (s : State) (l : Nat) (m : Milestone) : Bool :=
  match tfind s.fwd.swaps l with
  | some w => !later w.idleFrom m && later w.at_ m
  | none => false

/-- The entry that governs a slot on a logical port: its index when it is no idle slot, and its bits (R118, R127). -/
def State.governs (s : State) (l : Nat) (m : Milestone) : Option Nat × Nat :=
  match s.calendar l with
  | none => (none, 0x7F00)
  | some c => if s.idleHeld l m then (none, c.idle) else c.governs m.toNat

/-- The entry bits that govern the slot in progress on a logical port (R118). -/
def State.slotEntry (s : State) (l : Nat) : Nat := (s.governs l s.ms).2

/-- The window open in a slot on a logical port: the window, and its close as an AT80 instant. -/
def State.windowAt (s : State) (l : Nat) (slot : Milestone) : Option ((Nat × Nat) × Nat) :=
  match s.calendar l with
  | none => none
  | some c =>
    let m := slot.toNat
    let i := m % c.e
    if s.idleHeld l slot then none
    else (c.windows.find? (fun w => decide (w.1 ≤ i ∧ i ≤ w.2))).map (fun w => (w, (m - i + w.2 + 1) * slotUnits))

/-- The window open in the slot in progress on a logical port. -/
def State.openWindow (s : State) (l : Nat) : Option ((Nat × Nat) × Nat) := s.windowAt l s.ms

/-- Milestones in (`lo`, `hi`] at which a window of a calendar closes (R119, R130). -/
def Calendar.closes (c : Calendar) (lo hi : Nat) : Nat :=
  (c.windows.map (fun w => (hi + c.e - 1 - w.2) / c.e - (lo + c.e - 1 - w.2) / c.e)).sum

/-- Milestones in (`lo`, `hi`] at which a window of a logical port closes: none past the slots from which the idle entry holds
until a swap (R127). -/
def State.closesOf (s : State) (l : Nat) (c : Calendar) (lo hi : Nat) : Nat :=
  c.closes lo (match tfind s.fwd.swaps l with | some w => min hi w.idleFrom.toNat | none => hi)

/-- A cycle epoch is in use by an active or pending calendar (R128). -/
def State.epochUsed (s : State) (e : Nat) : Bool :=
  s.fwd.active.any (fun c => decide (c.2.e = e)) || s.fwd.swaps.any (fun w => decide ((s.shadowOf w.1).e = e))

/-- The compare unit that holds a cycle epoch (R128). -/
def State.epochUnit (s : State) (e : Nat) : Option Nat :=
  (s.time.compares.find? (fun u => decide (u.2.claimed = true ∧ u.2.function = 4 ∧ u.2.period = e * slotUnits))).map (·.1)

/-- Releases every calendar unit whose epoch no active or pending calendar uses (R128). -/
def releaseEpochs (s : State) : State :=
  { s with time.compares :=
      s.time.compares.filter (fun u => !(decide (u.2.claimed = true ∧ u.2.function = 4) && !s.epochUsed (u.2.period / slotUnits))) }

/-! ### Class 7 -/

/-- The frame of a branch as its egress logical port would send it, before ECN: the source address of a routed frame (R72), the
tag action under the EtherType it was parsed with (R61, R66). -/
def egressOf (s : State) (l : Nat) (late : Bool) (f : Frame) : Frame :=
  tagAction f.wm (s.fwdCfg l).tagOut late (if f.routed then { f with data := putAt f.data 6 (s.macOf l) } else f)

/-- Size of a frame after the egress tag action of a logical port (R80). -/
def egressSize (s : State) (l : Nat) (f : Frame) : Nat := (egressOf s l false f).size

/-- Rate of a logical port in Gb/s. -/
def State.gbps (s : State) (l : Nat) : Nat := typeGbps (s.lp l).type

/-- On-wire time of a branch's frame at its port. -/
def State.branchWire (s : State) (b : Branch) : Nat :=
  match s.copyOf b.copy with
  | some c => wireTime (s.gbps b.lport) (egressSize s b.lport c.frame)
  | none => 0

/-- Discards head class 7 frames that fit no window (R124), at most `n` of them. -/
def dropNoFit (l : Nat) : Nat → State → State
  | 0, s => s
  | n + 1, s =>
    match s.queue l 7, s.calendar l with
    | b :: _, some c =>
      if (c.windows.map c.duration).foldl max 0 < s.branchWire b then dropNoFit l n (discard 0x31 2 true b s) else s
    | _, _ => s

/-- Every stored class 7 frame of a logical port meets `k` window closes unsent (R123). -/
def meetCloses (l k : Nat) (s : State) : State :=
  match s.calendar l with
  | none => s
  | some c =>
    if k = 0 then s
    else
      let mine := fun (b : Branch) => decide (b.lport = l ∧ b.cls = 7)
      let s := { s with fwd.branches := s.fwd.branches.map (fun b => if mine b then { b with windows := b.windows + k } else b) }
      let s := (s.fwd.branches.filter (fun b => mine b && decide (c.windowLimit ≤ b.windows))).foldl
        (fun s b => discard 0x30 2 true b s) s
      dropNoFit l s.fwd.branches.length s

/-- Discards the class 7 frames of a logical port that has lost its calendar (R129). -/
def dropScheduled (l : Nat) (s : State) : State :=
  (s.fwd.branches.filter (fun b => decide (b.lport = l ∧ b.cls = 7))).foldl (fun s b => discard 0x32 2 true b s) s

/-- Removes the calendar of a logical port at once, with any swap (R129). -/
def removeCalendar (l : Nat) (s : State) : State :=
  let s := { s with fwd.active := tdel s.fwd.active l, fwd.swaps := tdel s.fwd.swaps l, fwd.removals := tdel s.fwd.removals l }
  dropScheduled l (releaseEpochs s)

/-! ### Sending a frame -/

/-- Lower bound of histogram bin i in ns, rounded to the nearest (Table 5.5). -/
def owdBound (i : Nat) : Nat :=
  if i = 31 then 10000000
  else (getAt [1000, 1468, 2154, 3162, 4642, 6813] ((i - 1) % 6) 0 * 10 ^ ((i - 1) / 6) + 5) / 10

/-- Bin of an elapsed time in units of 62.5 ps (R138). -/
def owdBin (t : Int) : Nat :=
  if t < 1600 then 0 else ((List.range 32).filter (fun i => decide (1 ≤ i ∧ (owdBound i : Int) * 16 ≤ t))).foldl max 0

/-- Counts the one-way delay of a frame that leaves with ORIGIN (R138); `wm` is its Waymark EtherType, and `sfd` is the instant of its start-of-frame delimiter. -/
def countDelay (l cls wm : Nat) (c : CountCtx) (d : List Byte) (sfd : AT80) (s : State) : State :=
  let p := parse wm d
  if p.v1 && bit (fld d (p.tagAt + 3) 1) 7 && s.timeValid then
    let t := sdiff (originOf sfd) (BitVec.ofNat 32 (fld d (p.tagAt + 12) 4))
    let s := if t < 0 then countClass c 4 20 l cls 19 1 s else s
    countClass c 5 32 l cls (owdBin t) 1 s
  else s

/-- Nanoseconds from admission to now on the monotonic counter, saturating (R105). -/
def State.sojourn (s : State) (b : Branch) : Nat := satNat 32 ((s.time.mono - b.admitted) / 65536)

/-- Sends a branch's frame now: ECN, the egress tag action, the delay histogram, the tag record; its counts follow when
its end has passed (R379). `sound` says that the internal CRC holds (R57). -/
def transmit (b : Branch) (sound : Bool) (close : Option Nat) (s : State) : State :=
  match s.copyOf b.copy with
  | none => unlink b s
  | some c =>
    let l := b.lport
    let s := land l s
    let late := deadlineClass b.cls && decide (0 < sdiff (deadlineOf s.time.count) c.frame.deadline)
    let q := s.queueCfg l b.cls
    let ctx := s.frameCtx c.frame (some c.region)
    let (m, s) := if decide (q.ecn = 2) && ectCapable (parse c.frame.wm c.frame.data) then ecnMark q (s.sojourn b) s
      else (false, s)
    let s := if m then countClass ctx 4 20 l b.cls 17 1 s else s
    let f := if b.marked || m then { c.frame with data := markCe c.frame.wm c.frame.data } else c.frame
    let d := (egressOf s l late f).data
    let wire := wireTime (s.gbps l) (d.length + 4)
    let sfd := if s.gbps l = 0 then 0 else 64 * 65536 / s.gbps l
    let s := unlink b s
    let s := s.setEgress l { s.egress l with
      endAt := s.time.mono + wire, freeAt := s.time.mono + frameTime (s.gbps l) (d.length + 4), cls := b.cls
      close := close, delayed := false, 
      flight := if sound then some { data := d, host := c.frame.injected, region := c.region, wm := c.frame.wm } else none }
    let s := { s with board.active := if s.board.active.contains l then s.board.active else l :: s.board.active }
    let s := if late then countClass ctx 4 20 l b.cls 18 1 s else s
    let s := if sound then countDelay l b.cls c.frame.wm ctx d (s.time.count + BitVec.ofNat 80 sfd) s
      else raiseAt c.die .error 0x4101 (evLport l ++ toBe 1 b.cls) (countClass ctx 4 20 l b.cls 3 1 s)
    let s := pushTag { c.frame with cls := b.cls }
      { lport := l, stage := 4, drop := if sound then 0 else 0x12, enqueued := some b.admitted, dequeued := some s.time.mono
        egress := some (s.time.mono + sfd), qlenEnq := b.qlen, qlenDeq := s.queueLen l b.cls, mirror := b.mirror
        residue := b.waited, ecn := b.marked || m, late := late } s
    sendFrame l (.frame l (d ++ fcs d) sound) (d ++ (if sound then fcs d else [])) s

/-! ### Deadlines -/

/-- Scheduler settings of a logical port. -/
def State.schedCfg (s : State) (l : Nat) : SchedCfg := tget s.fwd.sched l {}

/-- A stored frame of classes 4-6 has expired (R133). -/
def State.expired (s : State) (b : Branch) : Bool :=
  match s.copyOf b.copy with
  | some c => deadlineClass b.cls &&
      decide (((getAt (s.schedCfg b.lport).tolerance (b.cls - 4) 0 : Nat) : Int) < sdiff (deadlineOf s.time.count) c.frame.deadline)
  | none => false

/-- Discards expired frames from the head of a FIFO or line, at most `n` (R134, R114). `pick` finds the head. -/
def expireHead (pick : State → Option Branch) : Nat → State → State
  | 0, s => s
  | n + 1, s =>
    match pick s with
    | some b => if s.expired b then expireHead pick n (discard 0x33 2 true b s) else s
    | none => s

/-- The head of a deadline FIFO (R91). -/
def State.fifoHead (s : State) (l cls : Nat) (fifo : Option Nat) : Option Branch :=
  (s.queue l cls).find? (fun b => decide (b.fifo = fifo))

/-- The deadline FIFOs that hold a frame: logical port, class, pipeline or the inject FIFO. -/
def State.deadlineFifos (s : State) : List (Nat × Nat × Option Nat) :=
  ((s.fwd.branches.filter (fun b => deadlineClass b.cls && decide (b.residue = none))).map
    (fun b => (b.lport, b.cls, b.fifo))).dedup

/-- The head check of R134 on the FIFOs of the dies that are not frozen. -/
def expireHeads (s : State) : State :=
  (s.deadlineFifos.filter (fun k => (s.core (s.coreOfLport k.1)).running)).foldl
    (fun s k => expireHead (fun s => s.fifoHead k.1 k.2.1 k.2.2) 4 s) s

/-! ### The scheduler -/

/-- A class is paused by PFC on a logical port (R102). -/
def State.paused (s : State) (l cls : Nat) : Bool :=
  match s.priorityOf (some l) cls with
  | none => false
  | some p => match (s.pfcPort l p).pausedUntil with
    | some t => decide (s.time.mono < t)
    | none => false

/-- The gate of a class is open, it is not paused, and GUARD permits the frame (Table 5.1, R132). -/
def State.eligible (s : State) (b : Branch) : Bool :=
  let e := s.slotEntry b.lport
  bit e (8 + b.cls) && !s.paused b.lport b.cls &&
  (!bit e 7 || decide (s.time.count.toNat % slotUnits + s.branchWire b ≤ slotUnits))

/-- The deadline of a branch. -/
def State.deadline (s : State) (b : Branch) : BitVec 48 := ((s.copyOf b.copy).map (·.frame.deadline)).getD 0

/-- Place of a FIFO in the round robin of R132: the pipelines, then the inject FIFO. -/
def fifoPlace (s : State) (f : Option Nat) : Nat := f.getD s.part.pipelines

/-- The better of two heads: the earlier deadline, then the higher class, then the next in turn (R132). -/
def betterHead (s : State) (a b : Branch) : Branch :=
  let d := sdiff (s.deadline a) (s.deadline b)
  let n := s.part.pipelines + 1
  let turn := fun (x : Branch) => (fifoPlace s x.fifo + n - ((s.egress x.lport).rr + 1) % n) % n
  if d < 0 then a else if 0 < d then b
  else if b.cls < a.cls then a else if a.cls < b.cls then b
  else if turn a ≤ turn b then a else b

/-- The eligible head with the earliest deadline on a logical port (R132). -/
def State.deadlinePick (s : State) (l : Nat) : Option Branch :=
  let heads := (s.deadlineFifos.filter (fun k => k.1 == l)).filterMap (fun k => s.fifoHead k.1 k.2.1 k.2.2)
  (heads.filter s.eligible).foldl (fun a b => match a with | none => some b | some a => some (betterHead s a b)) none

/-- Discards expired frames at dequeue until the pick is not expired (R133); `n` bounds the discards. -/
def expirePicks (l : Nat) : Nat → State → State
  | 0, s => s
  | n + 1, s =>
    match s.deadlinePick l with
    | some b => if s.expired b then expirePicks l n (discard 0x33 3 true b s) else s
    | none => s

/-- The eligible head of a class 0-3. -/
def State.classHead (s : State) (l cls : Nat) : Option Branch := ((s.queue l cls).head?).filter s.eligible

/-- The DWRR classes take turns (R135): a class whose turn it is gains its quantum once in the round and sends its head
while the head fits the deficit; an empty class loses its deficit. `n` bounds the turns. -/
def dwrr (l : Nat) : Nat → Egress → State → Option Branch × Egress
  | 0, e, _ => (none, e)
  | n + 1, e, s =>
    let c := e.turn
    let next := { e with turn := if Config.dwrrDescending then (c + 3) % 4 else (c + 1) % 4, hadQuantum := false }
    if bit (s.schedCfg l).strict c then dwrr l n next s
    else if (s.queue l c).isEmpty then dwrr l n { next with deficit := next.deficit.set c 0 } s
    else
      match s.classHead l c with
      | none => dwrr l n next s
      | some b =>
        let got := getAt e.deficit c 0 + if e.hadQuantum then 0 else getAt (s.schedCfg l).weights c 1 * 256
        let size := match s.copyOf b.copy with
          | some k => egressSize s l k.frame
          | none => 0
        if size ≤ got then (some b, { e with deficit := e.deficit.set c (got - size), hadQuantum := true })
        else dwrr l n { next with deficit := next.deficit.set c got } s

/-- The frame of classes 0-3 to send, and the service pointers after it (R135). -/
def State.lowPick (s : State) (l : Nat) : Option Branch × Egress :=
  let e := s.egress l
  match ([3, 2, 1, 0].filter (fun c => bit (s.schedCfg l).strict c)).findSome? (s.classHead l) with
  | some b => (some b, e)
  | none =>
    if [0, 1, 2, 3].any (fun c => !bit (s.schedCfg l).strict c && (s.classHead l c).isSome) then dwrr l 300 e s else (none, e)

/-- The logical port can start a frame: it is up and active, its die forwards, the wire is free (R135, R157). -/
def State.canStart (s : State) (l : Nat) : Bool :=
  let p := s.lp l
  p.enabled && p.up && decide (p.power = 0 ∧ p.moving = none ∧ p.loop ≠ 3) && s.dieForwards (s.coreOfLport l) &&
  !s.halted (portOf l) && decide ((s.egress l).freeAt ≤ s.time.mono)

/-- The head class 7 frame, when it ends no later than the close of the window open in a slot (R121), and that close. -/
def State.scheduledPick (s : State) (l : Nat) (slot : Milestone) : Option (Branch × Nat) :=
  match s.queue l 7, s.windowAt l slot with
  | b :: _, some (_, close) => if s.time.count.toNat + s.branchWire b ≤ close then some (b, close) else none
  | _, _ => none

/-- Class 7 may start at a dequeue: directly behind a class 7 frame of the same window, or directly behind a frame that
stood on the wire at a release instant (R121, R122). -/
def State.scheduledTurn (s : State) (l : Nat) : Bool :=
  let e := s.egress l
  decide (s.time.mono ≤ e.freeAt + 32768) &&
  (e.delayed || (decide (e.cls = 7) && decide (e.close ≠ none) && decide (e.close = (s.openWindow l).map (·.2))))

/-- The scheduler's choice when the port can start a frame, tier by tier (R135). -/
def serve (l : Nat) (sound : Bool) (s : State) : State :=
  let s := dropNoFit l s.fwd.branches.length s
  match if s.scheduledTurn l then s.scheduledPick l s.ms else none with
  | some (b, close) => dropNoFit l s.fwd.branches.length (transmit b sound (some close) s)
  | none =>
    let s := expirePicks l s.fwd.branches.length s
    match s.deadlinePick l with
    | some b => transmit b sound none (s.setEgress l { s.egress l with rr := fifoPlace s b.fifo })
    | none =>
      match s.lowPick l with
      | (some b, e) => transmit b sound none (s.setEgress l e)
      | (none, e) => s.setEgress l e

/-- DEQUEUE (R135). -/
def dequeueNow (l : Nat) (sound : Bool) (s : State) : State := if s.canStart l then serve l sound (land l s) else s

/-- The slot whose release instant on a logical port is now, to within 0.5 ns before or after its AT80 value (R119, R120). -/
def State.releaseSlot (s : State) (l : Nat) : Option Milestone :=
  let now := s.time.count.toNat
  let c := (s.calendar l).getD {}
  ([(now - 32768) / slotUnits, (now + 32768) / slotUnits].map (BitVec.ofNat 56)).find? (fun m =>
    match s.governs l m with
    | (some i, e) =>
      let at_ := m.toNat * slotUnits + c.offsetOf i
      bit e 15 && decide (at_ ≤ now + 32768 ∧ now ≤ at_ + 32768)
    | (none, _) => false)

/-- RELEASE_INSTANT (R120 to R122): a release instant has come. `sound` says that the internal CRC of the frame holds (R57). -/
def releaseNow (l : Nat) (sound : Bool) (s : State) : State :=
  match if (s.core (s.coreOfLport l)).running then s.releaseSlot l else none with
  | none => s
  | some m =>
    let s := dropNoFit l s.fwd.branches.length s
    match s.queue l 7 with
    | [] => s
    | _ :: _ =>
      let g := s.egress l
      if s.canStart l then
        match s.scheduledPick l m with
        | some (b, close) => dropNoFit l s.fwd.branches.length (transmit b sound (some close) (land l s))
        | none => s
      else if decide (s.time.mono < g.freeAt ∧ g.cls ≠ 7) then
        let s := s.setEgress l { g with delayed := true }
        if s.time.mono < g.endAt then countBy { cls := some 7 } 2 l 7 1 s else s
      else s

/-- WINDOW_CLOSE (R123): a window of the active calendar closes at the milestone in progress. -/
def closeWindow (l : Nat) (s : State) : State :=
  match s.calendar l with
  | none => s
  | some c =>
    let m := s.ms.toNat
    if (s.core (s.coreOfLport l)).running && decide (0 < m ∧ 0 < s.closesOf l c (m - 1) m) then meetCloses l 1 s else s

/-- EPOCH_MISMATCH (R261): the epoch set is not empty and does not hold the epoch of an active calendar. -/
def epochCheck (l : Nat) (s : State) : State :=
  match s.calendar l with
  | none => s
  | some c =>
    if decide (s.hier.epochs.any (· ≠ 0) = true ∧ c.e ∉ s.hier.epochs) then
      raise .warn 0x710D (evLport l ++ toBe 4 c.e) { s with hier.epochMismatch := true }
    else s

/-- CALENDAR_SWAP (R127): the swap milestone has been reached, or skipped by a step (R130); the calendar is held to the
hierarchy epoch set (R261). On a frozen die it waits for the
thaw (R237, R239). -/
def swapCalendar (l : Nat) (s : State) : State :=
  match tfind s.fwd.swaps l with
  | none => s
  | some w =>
    if later w.at_ s.ms || s.frozenDie (s.coreOfLport l) then s
    else
      let s := { s with fwd.active := tput s.fwd.active l (s.shadowOf l), fwd.swaps := tdel s.fwd.swaps l }
      let s := { s with fwd.removals := tdel s.fwd.removals l }
      let s := releaseEpochs s
      epochCheck l (raiseAt (s.coreOfLport l) .note 0x4301 (evLport l ++ ms8 w.at_) (dropNoFit l s.fwd.branches.length s))

/-- CALENDAR_REMOVAL (R129): the first cycle start at or after the commit milestone has come. On a frozen die it waits for the
thaw (R237, R239). -/
def removalNow (l : Nat) (s : State) : State :=
  match tfind s.fwd.removals l, s.calendar l with
  | some n, some c =>
    if !later n (BitVec.ofNat 56 (s.ms.toNat / c.e * c.e)) && !s.frozenDie (s.coreOfLport l) then removeCalendar l s else s
  | _, _ => s

/-- What a move of the count from one milestone to another does to the calendars (R130): the closes that a forward step
skips are met, and a class 7 frame on the wire whose window's close now falls before its end is counted. -/
def stepCalendars (before : Milestone) (shift : Int) (s : State) : State :=
  let s := (s.fwd.egress).foldl (fun s e =>
    match e.2.close with
    | some c =>
      if decide (s.time.mono < e.2.endAt ∧ e.2.cls = 7 ∧ c < s.time.count.toNat + (e.2.endAt - s.time.mono)) then
        countBy { cls := some 7 } 2 e.1 8 1 s else s
    | none => s) s
  if 0 < shift then
    (s.fwd.active).foldl (fun s c =>
      if (s.core (s.coreOfLport c.1)).running then meetCloses c.1 (s.closesOf c.1 c.2 before.toNat s.ms.toNat) s else s) s
  else s

end Sys2Proof.Machine
end

