-- ==== Sys2Proof/Machine/Pipeline.lean ====
section
/-! DEFINITION. The ingress MAC and the forwarding pipeline (03_forwarding_pipeline): receive checks, the stages of R68,
mirroring, punting and injection. -/

namespace Sys2Proof.Machine

/-! ### Receiving -/

/-- The pipelines forward frames from the network (R332). -/
def State.forwards (s : State) : Bool :=
  decide (s.power.mode = .service) || (decide (s.power.mode = .shed) && decide (s.power.restoreMode = .service))

/-- Ingress has stopped at every MAC (Table 14.6 step 6, MODE_SET KEEP). -/
def State.ingressStopped (s : State) : Bool :=
  (match s.power.dormant with | .entry n => decide (6 ≤ n) | .exit => true | .none => false) ||
  decide (s.power.transition = some .keep)

/-- A port's ingress FIFO. -/
def State.fifo (s : State) (p : Nat) : List RxFrame := tget s.fwd.fifos p []

/-- Bytes of a use of an ingress FIFO that are stored at a monotonic instant: bytes come evenly between its first and last. -/
def FifoUse.held (u : FifoUse) (t : Nat) : Nat :=
  if u.freed ≤ t then 0 else if u.stop ≤ t then u.bytes else u.bytes * (t - u.start) / (u.stop - u.start)

/-- The room that a frame takes in an ingress FIFO from its first byte on, released at an instant. -/
def RxFrame.use (f : RxFrame) (freed : Nat) : FifoUse :=
  { start := f.arrivalMono, stop := f.endMono, bytes := f.data.length + 4, freed := freed }

/-- The uses of a port's ingress FIFO as of now: the frames it holds, those that left or were dropped in the last 10 us, and
`mates`, the frames still arriving on the port's other logical ports: time since their start-of-frame delimiter, and the bytes
stored of each so far. -/
def State.fifoUses (s : State) (p : Nat) (mates : List (Nat × Nat)) : List FifoUse :=
  (s.fifo p).map (fun f => f.use (s.time.mono + 1)) ++ tget s.fwd.fifoPast p [] ++
  mates.map (fun m => { start := s.time.mono - m.1, stop := s.time.mono, bytes := m.2, freed := s.time.mono + 1 })

/-- The monotonic instant of the `k`-th byte of a frame of `n` bytes that took `ago` to arrive, the first being 0. -/
def State.byteAt (s : State) (ago n k : Nat) : Nat := s.time.mono - ago + (k + 1) * ago / max 1 n

/-- The first byte of an arriving frame that finds no room in the 32 KiB of the FIFO, judged at the byte's own instant (R53). -/
def State.noRoomAt (s : State) (p : Nat) (mates : List (Nat × Nat)) (ago n : Nat) : Option Nat :=
  let us := s.fifoUses p mates
  (List.range n).find? (fun k => decide (32768 < (us.map (·.held (s.byteAt ago n k))).sum + k + 1))

/-- Notes that a frame's room in a port's FIFO was released; uses released 10 us ago or earlier are forgotten. -/
def freeRoom (p : Nat) (u : FifoUse) (s : State) : State :=
  let us := (tget s.fwd.fifoPast p []).filter (fun v => decide (s.time.mono < v.freed + 10 * micro))
  { s with fwd.fifoPast := tput s.fwd.fifoPast p (u :: us) }

/-- The MTU in effect on a logical port at a monotonic instant (R54). -/
def LportFwd.mtuAt (c : LportFwd) (t : Nat) : Nat :=
  (((c.mtuPast.filter (fun m => decide (t < m.1))).getLast?).map (·.2)).getD c.mtu

/-- Counts a frame that ingress drops under a code of Table 3.11. DESIGN CHOICE (log entry 58): its filters see the destination address
that its bytes spell, of a frame dropped as RX_FCS_ERR too. -/
def dropIn (l code : Nat) (cls : Option Nat) (host : Bool) (d : List Byte) (s : State) : State :=
  countBy (ctxOf (parse s.fwd.etWaymark d) cls host none) 3 l code 1 s

/-- A logical port receives frames: enabled, up, its receiver not looped to the partner (R160). -/
def State.receives (s : State) (l : Nat) : Bool :=
  let p := s.lp l
  p.enabled && p.up && decide (p.power ≠ 2 ∧ p.loop ≠ 3)

/-- The frame that a receiver sees (R160): in a near-end loop the next frame that the port itself sent and none of the partner's,
else the one that arrives; none when that is no frame of the kind that the command names. -/
def inLoop (l : Nat) (mine : List Byte → Bool) (frame : List Byte) (s : State) : Option (List Byte) × State :=
  if s.loopsBack l then
    match tget s.fwd.loopback l [] with
    | [] => (none, s)
    | f :: r =>
      if mine f then (some f, { s with fwd.loopback := if r.isEmpty then tdel s.fwd.loopback l else tput s.fwd.loopback l r })
      else (none, s)
  else (if mine frame then some frame else none, s)

/-- EtherType of a MAC control frame. -/
def isMacControl (f : List Byte) : Bool := decide (fld f 12 2 = 0x8808)

/-- The size checks of the MAC (R54): the code of Table 3.11 under which it drops a frame whose first byte came `ago`. -/
def sizeDrop (l ago : Nat) (frame : List Byte) (s : State) : Option Nat :=
  if frame.length < 64 then some 2
  else if (s.fwdCfg l).mtuAt (s.time.mono - ago) < frame.length then some 3 else none

/-- A frame that is no AX or MAC control frame arrives whole (R53, R54, R379): the size checks, then the room of the FIFO byte by
byte, and the arrival instant with TIME_VALID as both stood at its start-of-frame delimiter (R63, R65). -/
def storeArrival (l ago : Nat) (mates : List (Nat × Nat)) (frame : List Byte) (s : State) : State :=
    let s := { s with board.active := if s.board.active.contains l then s.board.active else l :: s.board.active }
    let d := frame.take (frame.length - 4)
    let p := portOf l
    let (at_, valid) := s.instantAgo ago
    let f : RxFrame :=
      { lport := l, data := d, arrival := at_, arrivalValid := valid, arrivalMono := s.time.mono - ago
        endMono := s.time.mono, fcsOk := decide (fcs d = frame.drop (frame.length - 4)) }
    match sizeDrop l ago frame s with
    | some code =>
      let cut := (s.fwdCfg l).mtuAt (s.time.mono - ago)
      dropIn l code none false d (freeRoom p (f.use (if code = 3 then s.byteAt ago frame.length cut else s.time.mono)) s)
    | none =>
      if s.ingressStopped then dropIn l 0x11 none false d s
      else
        match s.noRoomAt p mates ago frame.length with
        | some k =>
          dropIn l (if s.frozenDie (s.coreOfLport l) then 5 else 4) none false d
            (freeRoom p (f.use (s.byteAt ago frame.length k)) s)
        | none =>
          let s := { s with fwd.fifos := tput s.fwd.fifos p (s.fifo p ++ [f]) }
          let c := ctxOf (parse s.fwd.etWaymark d) none false none
          countBy c 1 l (castIndex d) 1 (countBy c 1 l 1 frame.length (countBy c 1 l 0 1 s))

/-- RX_FRAME: the MAC receives a frame whole (R54). `frame` runs from destination address to FCS, `ago` is the time since its
start-of-frame delimiter, and `mates` the frames then arriving on the port's other logical ports. AX frames and MAC control
frames are the MAC's own (R60). -/
def receive (l ago : Nat) (mates : List (Nat × Nat)) (frame : List Byte) (s : State) : State :=
  if !s.receives l then s
  else
    match inLoop l (fun f => !decide (fld f 12 2 = s.fwd.etAx) && !isMacControl f) frame s with
    | (some f, s) => storeArrival l ago mates f s
    | (none, s) => s

/-! ### Taking a frame into a pipeline -/

/-- The first number from `start` on, round `n`, that a test accepts. -/
def roundRobin (n start : Nat) (ok : Nat → Bool) : Option Nat :=
  ((List.range n).map (fun i => (start + i) % n)).find? ok

/-- A PIPE-injected frame waits for a pipeline. -/
def State.injectFor (s : State) (pl : Nat) : Option Inject :=
  s.fwd.injectHead.filter (fun i => decide (pipelineOf (portOf i.lport) = pl))

/-- An input of a pipeline has a whole frame: 0 and 1 its ports, 2 the inject ring (R52). -/
def State.inputReady (s : State) (pl i : Nat) : Bool :=
  if i = 2 then (s.injectFor pl).isSome
  else !(s.fifo (2 * pl + i)).isEmpty && !s.halted (2 * pl + i)

/-- The pipeline of a CORE die takes its next frame: the frame, and whether the host injected it (R52). -/
def takeFrame (pl : Nat) (s : State) : Option (RxFrame × Bool) × State :=
  if !(s.core (if s.part.cores = 2 ∧ 24 ≤ pl then 1 else 0)).running || decide (s.part.pipelines ≤ pl) then (none, s)
  else
    match roundRobin 3 (tget s.fwd.nextInput pl 0) (s.inputReady pl) with
    | none => (none, s)
    | some i =>
      let s := { s with fwd.nextInput := tput s.fwd.nextInput pl ((i + 1) % 3) }
      if i = 2 then
        match s.fwd.injectHead with
        | none => (none, s)
        | some j =>
          (some ({ lport := j.lport, data := j.data, arrival := s.fwd.injectAt, arrivalValid := s.fwd.injectValid
                   arrivalMono := s.fwd.injectMono, endMono := s.time.mono, fcsOk := true }, true),
           { s with fwd.injectHead := none })
      else
        let p := 2 * pl + i
        let q := s.fifo p
        match roundRobin 4 (tget s.fwd.nextLport p 0) (fun k => q.any (fun f => decide (f.lport = 4 * p + k))) with
        | none => (none, s)
        | some k =>
          match q.find? (fun f => decide (f.lport = 4 * p + k)) with
          | none => (none, s)
          | some f =>
            (some (f, false), freeRoom p (f.use s.time.mono)
              { s with fwd.nextLport := tput s.fwd.nextLport p ((k + 1) % 4), fwd.fifos := tput s.fwd.fifos p (q.erase f) })

/-! ### Lookup -/

/-- What the stages decide for a frame. `route` is the next hop whose rewrite applies. -/
inductive Decision where
  | drop (code : Nat)
  | punt (reason : Nat)
  | port (l : Nat)
  | group (g : Nat)
  deriving DecidableEq, Repr

/-- A decision of stages 2 to 5 is a drop, which a later stage leaves (R87). -/
def Decision.drops : Decision → Bool
  | .drop _ => true
  | _ => false

/-- The results of stages 2 to 4 (R68). -/
structure Lookup where
  decision : Decision
  /-- L2 result kind, coded as L2_WRITE -/
  kind : Nat
  /-- the next hop of a routed frame -/
  route : Option NextHop := none
  deriving DecidableEq, Repr

/-- The VID of a frame: its outer tag's, or the port VLAN ID of an untagged or priority-tagged frame (R68, log entry 34). -/
def vidOf (cfg : LportFwd) (p : Parsed) : Nat := if p.vlans = 0 ∨ p.vid = 0 then cfg.pvid else p.vid

/-- Bits of a prefix of an address agree (R71). -/
def prefixMatch (width plen : Nat) (a b : BitVec 128) : Bool :=
  decide (a.toNat % 2 ^ width / 2 ^ (width - plen) = b.toNat % 2 ^ width / 2 ^ (width - plen))

/-- The longest matching route of a table (R71). -/
def longest (width : Nat) (t : List Route) (a : BitVec 128) : Option Route :=
  (t.filter (fun r => prefixMatch width r.plen r.addr a)).foldl
    (fun b r => match b with | none => some r | some o => if o.plen < r.plen then some r else b) none

/-- The selection hash of R73. -/
def ecmpHash (seed : BitVec 32) (p : Parsed) (vid : Nat) (d : List Byte) : Nat :=
  let key :=
    if p.ip4.isSome then toBe 4 p.sip.toNat ++ toBe 4 p.dip.toNat ++ toBe 1 p.proto ++ toBe 2 p.l4src ++ toBe 2 p.l4dst
    else if p.ip6.isSome then toBe 16 p.sip.toNat ++ toBe 16 p.dip.toNat ++ toBe 1 p.proto ++ toBe 2 p.l4src ++ toBe 2 p.l4dst
    else d.take 12 ++ toBe 2 vid ++ toBe 2 p.etherType
  (crc32c (toBe 4 seed.toNat ++ key)).toNat % 65536

/-- A next hop can be selected: it is no FORWARD entry, or its logical port is up (R74). -/
def State.hopUp (s : State) (i : Nat) : Bool :=
  match tfind s.fwd.nexthops i with
  | some h => decide (h.kind ≠ 0) || !s.portDown h.lport
  | none => true

/-- ECMP selection (R73, R74): the next-hop index, none when every entry's port is down. -/
def ecmpPick (s : State) (members : List Nat) (h : Nat) : Option Nat :=
  let n := members.length
  (roundRobin n (h * n / 65536) (fun i => s.hopUp (getAt members i 0))).map (fun i => getAt members i 0)

/-- The IP header of a routed frame passes the checks of R72. -/
def ipHeaderOk (p : Parsed) (d : List Byte) : Bool :=
  match p.ip4, p.ip6 with
  | some o, _ =>
    let ihl := fld d o 1 % 16
    decide (fld d o 1 / 16 = 4 ∧ 5 ≤ ihl ∧ sum16 ((d.drop o).take (4 * ihl)) = 65535 ∧ o + fld d (o + 2) 2 ≤ d.length)
  | none, some o => decide (fld d o 1 / 16 = 6 ∧ o + 40 + fld d (o + 4) 2 ≤ d.length)
  | none, none => false

/-- TTL or hop limit. -/
def ttlOf (p : Parsed) (d : List Byte) : Nat :=
  match p.ip4, p.ip6 with
  | some o, _ => fld d (o + 8) 1
  | none, some o => fld d (o + 7) 1
  | none, none => 0

/-- The drop reasons that a frame which has reached a lookup can have in a pipeline (R87, Table 3.11). -/
def lookedUpReasons : List Nat := [0x06, 0x07, 0x08, 0x09, 0x0A, 0x0B, 0x0C, 0x0D, 0x0F, 0x10, 0x11, 0x13]

/-- A free drop reason of a frame that has reached a lookup: the spec names none for a next hop of kind DROP or one that was never
written (log entry 35). -/
def freeReason (s : State) : Decision × State :=
  let (v, s) := draw 12 s
  (.drop (getAt lookedUpReasons v 0x13), s)

/-- What a next hop decides (Table 13.4). -/
def hopDecision (h : Option NextHop) (s : State) : Lookup × State :=
  match h with
  | none => let (d, s) := freeReason s; ({ decision := d, kind := 2 }, s)
  | some h =>
    if h.kind = 0 then ({ decision := .port h.lport, kind := 2, route := some h }, s)
    else if h.kind = 1 then ({ decision := .punt 7, kind := 2 }, s)
    else let (d, s) := freeReason s; ({ decision := d, kind := 2 }, s)

/-- Stages 3 and 4 on a frame with a ROUTE result (R71 to R74). DESIGN CHOICE (log entry 58): the header is checked before the lookup,
and the TTL after LPM and ECMP and before the next hop. -/
def routeLookup (p : Parsed) (vid : Nat) (d : List Byte) (s : State) : Lookup × State :=
  if !ipHeaderOk p d then ({ decision := .drop 6, kind := 2 }, s)
  else
    let hit := if p.ip4.isSome then longest 32 s.fwd.lpm4 p.dip
      else longest 128 (s.fwd.lpm6s ++ s.fwd.lpm6l) p.dip
    match hit with
    | none => ({ decision := if s.fwd.l3MissPunt then .punt 4 else .drop 9, kind := 2 }, s)
    | some r =>
      let hop := if r.ecmp then ecmpPick s (tget s.fwd.ecmp r.index []) (ecmpHash s.fwd.seed p vid d) else some r.index
      match hop with
      | none => ({ decision := .drop 0x0B, kind := 2 }, s)
      | some i =>
        if ttlOf p d ≤ 1 then ({ decision := if s.fwd.ttlDrop then .drop 0x0A else .punt 5, kind := 2 }, s)
        else hopDecision (tfind s.fwd.nexthops i) s

/-- Stages 2 to 4 (R69 to R74). DESIGN CHOICE (log entry 58): on a miss the L2 result that the ACL key shows is that of the miss action:
DROP 4, PUNT 3, FLOOD 1. -/
def lookupFrame (l : Nat) (p : Parsed) (d : List Byte) (s : State) : Lookup × State :=
  let cfg := s.fwdCfg l
  let vid := vidOf cfg p
  match s.fwd.l2.find? (fun e => decide (e.vid = vid ∧ e.mac.toNat = daOf d)) with
  | none =>
    (if cfg.l2Miss = 0 then { decision := .drop 7, kind := 4 }
     else if cfg.l2Miss = 1 then { decision := .punt 2, kind := 3 }
     else { decision := .group cfg.missGroup, kind := 1 }, s)
  | some e =>
    match e.kind with
    | 0 => ({ decision := if e.target = l then .drop 8 else .port e.target, kind := 0 }, s)
    | 1 => ({ decision := .group e.target, kind := 1 }, s)
    | 2 => routeLookup p vid d s
    | 3 => ({ decision := .punt 3, kind := 3 }, s)
    | _ => ({ decision := .drop 0x13, kind := 4 }, s)

/-! ### ACL and classification -/

/-- The ACL key of a frame (Table 13.5). -/
def aclKey (s : State) (l : Nat) (p : Parsed) (d : List Byte) (r : Lookup) : List Byte :=
  let tag := if p.v1 then fld d (p.tagAt + 2) 1 / 2 % 8 else 0
  toBe 2 l ++ toBe 2 (vidOf (s.fwdCfg l) p) ++ toBe 1 p.pcp ++ toBe 1 p.dscp ++ toBe 1 p.proto ++ toBe 1 p.tcpFlags ++
  d.take 6 ++ (d.drop 6).take 6 ++ toBe 2 p.etherType ++ toBe 2 p.l4src ++ toBe 2 p.l4dst ++
  toBe 1 (tag * 32 + flag p.v1 * 16 + r.kind * 2 + flag p.short) ++ toBe 1 (flag r.route.isSome) ++
  toBe 16 p.sip.toNat ++ toBe 16 p.dip.toNat ++ [0, 0, 0, 0]

/-- A byte of a key block that an entry without V6 does not compare: the upper bytes of the addresses. -/
def aclSkips (v6 : Bool) (i : Nat) : Bool := !v6 && decide ((28 ≤ i ∧ i < 40) ∨ (44 ≤ i ∧ i < 56))

/-- An ACL entry matches a key. -/
def AclEntry.hits (e : AclEntry) (key : List Byte) : Bool :=
  (List.range 64).all (fun i => aclSkips e.v6 i ||
    decide (getAt key i 0 &&& getAt e.mask i 0 = getAt e.key i 0 &&& getAt e.mask i 0))

/-- The lowest-indexed entry that matches (R78). -/
def State.aclMatch (s : State) (key : List Byte) : Option (Nat × AclEntry) := s.fwd.acl.find? (fun e => e.2.hits key)

/-- The decision after the ACL (Table 3.7). DESIGN CHOICE (log entry 58): L2_SAME_PORT is judged on the L2 FORWARD entry alone, so that a
REDIRECT overrides it and may send a frame back. -/
def aclDecision (e : Option (Nat × AclEntry)) (d : Decision) : Decision :=
  match e with
  | none => d
  | some (_, e) =>
    match e.action with
    | 1 => .drop 0x0C
    | 2 => .punt 1
    | 3 => if e.redirectGroup then .group e.redirect else .port e.redirect
    | _ => d

/-- The assigned class (R79). -/
def classify (s : State) (l : Nat) (p : Parsed) (d : List Byte) (e : Option (Nat × AclEntry)) : Nat :=
  let cfg := s.fwdCfg l
  match e.bind (fun e => e.2.setClass) with
  | some c => c
  | none =>
    if cfg.trustTag && p.v1 then fld d (p.tagAt + 2) 1 / 2 % 8
    else if cfg.trustDscp && (p.ip4.isSome || p.ip6.isSome) then getAt s.fwd.dscpMap p.dscp 0
    else if cfg.trustPcp && decide (0 < p.vlans) then getAt s.fwd.pcpMap p.pcp 0
    else cfg.defaultClass

/-- Class budget of a logical port in ns (R131). -/
def State.budget (s : State) (l cls : Nat) : Nat := getAt (tget s.fwd.budgets l [100000, 100000, 100000]) (cls - 4) 0

/-- The deadline of a frame of classes 4-6 (R131). -/
def deadlineFor (s : State) (l cls : Nat) (p : Parsed) (d : List Byte) (arrival : AT80) : BitVec 48 :=
  if !deadlineClass cls then 0
  else if p.v1 && bit (fld d (p.tagAt + 2) 1) 0 && (s.fwdCfg l).trustTag && s.timeValid then BitVec.ofNat 48 (fld d (p.tagAt + 6) 6)
  else deadlineOf arrival + BitVec.ofNat 48 (s.budget l cls)

/-! ### Punting -/

/-- A frame takes a token of its reason's bucket (R85). -/
def takeToken (reason : Nat) (s : State) : Bool × State :=
  let b := tget s.fwd.buckets reason {}
  let credit := min (b.burst * second) (b.credit + (s.time.mono - b.at_) * b.rate)
  if second ≤ credit then
    (true, { s with fwd.buckets := tput s.fwd.buckets reason { b with credit := credit - second, at_ := s.time.mono } })
  else (false, { s with fwd.buckets := tput s.fwd.buckets reason { b with credit := credit, at_ := s.time.mono } })

/-- The punt record of Table 3.8. -/
def puntRecord (f : Frame) (l reason acl : Nat) (trunc tagged : Bool) : List Byte :=
  toBe 10 (if f.arrivalValid then f.arrival.toNat else 0) ++ toBe 2 f.data.length ++ toBe 2 (l * 128) ++ toBe 1 reason ++
  toBe 1 (f.cls * 32) ++ toBe 2 acl ++ toBe 1 (flag trunc * 128 + flag f.arrivalValid * 64 + flag tagged * 32) ++
  List.replicate 13 0

/-- Punts a frame (R84, R85); the answer says whether it went to the ring. -/
def punt (f : Frame) (l reason acl : Nat) (trunc tagged : Bool) (s : State) : Bool × State :=
  let fate : Fate := { stage := 1, punt := true }
  let (ok, s) := takeToken reason s
  if !ok then (false, pushTag f { fate with drop := 0x0F } (dropIn l 0x0F (some f.cls) f.injected f.data s))
  else
    let (ok, s) := ringPush .punt (puntRecord f l reason acl trunc tagged ++ f.data) s
    if !ok then (false, pushTag f { fate with drop := 0x10 } (dropIn l 0x10 (some f.cls) f.injected f.data s))
    else (true, pushTag f fate (countBy (s.frameCtx f none) 1 l 9 1 s))

/-! ### Egress resolution, mirroring, enqueue -/

/-- A routed frame: TTL decremented, the IPv4 checksum updated, the next hop's MAC and VID (R72); an untagged frame takes a
VLAN tag 0x8100 of PCP 0 for the VID (log entry 58). The source MAC is that of each egress logical port (`egressOf`). -/
def rewriteRouted (h : NextHop) (p : Parsed) (d : List Byte) : List Byte :=
  let d := match p.ip4, p.ip6 with
    | some o, _ => putIp4Word d o 8 (fld d (o + 8) 2 - 256)
    | none, some o => putAt d (o + 7) (toBe 1 (fld d (o + 7) 1 - 1))
    | none, none => d
  let d := if 0 < p.vlans then putAt d 14 (toBe 2 (fld d 14 2 / 4096 * 4096 + h.vid))
    else d.take 12 ++ toBe 2 0x8100 ++ toBe 2 h.vid ++ d.drop 12
  putAt d 0 (toBe 6 h.dmac.toNat)

/-- Egress resolution of a frame on a logical port (R80, R124): the code under which it is dropped there, if any. -/
def egressDrop (s : State) (l : Nat) (f : Frame) : Option Nat :=
  if (s.fwdCfg l).mtu < egressSize s l f then some 0x0E
  else if f.cls = 7 ∧ s.calendar l = none then some 0x32
  else none

/-- A frame is admitted on its targets. -/
def admitOn (mcast : Bool) (targets : List Nat) (f : Frame) (s : State) : State :=
  if mcast then admitMulticast targets f s else targets.foldl (fun s l => admitTo l false f s) s

/-- Class 7 frames at the head of a queue that fit no window are discarded (R124). -/
def settleClass7 (targets : List Nat) (f : Frame) (s : State) : State :=
  if f.cls = 7 then targets.foldl (fun s l => dropNoFit l s.fwd.branches.length s) s else s

/-- Targets that took a branch of a frame, between two states, or for which it waits to cross the Causeway. -/
def taken (before after : State) (targets : List Nat) : List Nat :=
  targets.filter (fun l => after.fwd.branches.any (fun b => decide (b.lport = l ∧ before.fwd.nextCopy ≤ b.copy)) ||
    (after.fwd.crossings.drop before.fwd.crossings.length).any (fun c => c.targets.contains l))

/-- A mirror session. -/
def State.session (s : State) (n : Nat) : Mirror := tget s.fwd.mirrors n {}

/-- The enabled sessions, in number order, with a selector. -/
def State.sessions (s : State) (sel : Mirror → Bool) : List Nat :=
  (List.range 8).filter (fun n => decide ((s.session n).destKind ≠ 2) && sel (s.session n))

/-- Makes one mirror copy of a frame under a session (R81 to R83). -/
def mirrorCopy (n : Nat) (f : Frame) (s : State) : State :=
  let m := s.session n
  let f := { f with data := if m.truncate then f.data.take 128 else f.data, routed := false, owed := [] }
  let cut := m.truncate && decide (128 < f.data.length)
  if m.destKind = 1 then (punt f f.lport 6 f.acl cut f.tagged s).2
  else
    let c := { f with cls := m.cls, deadline := deadlineFor s f.lport m.cls (parse f.wm f.data) f.data f.arrival }
    match egressDrop s m.dest c with
    | some code => refuse m.dest code 1 true c s
    | none => settleClass7 [m.dest] c (admitTo m.dest true c s)

/-- An egress copy: the frame as its egress logical port would send it (R82). -/
def egressCopy (n l : Nat) (f : Frame) (s : State) : State :=
  let e := egressOf s l false f
  mirrorCopy n { e with hopDone := f.hopDone || e.hopDone } s

/-- The copies that a branch which has been enqueued owes are made (R82). -/
def copyBranch (b : Branch) (s : State) : State :=
  match s.copyOf b.copy with
  | none => s
  | some c => (c.frame.owed.filter (fun o => decide (o.2 = b.lport))).foldl (fun s o => egressCopy o.1 b.lport c.frame s) s

/-- The copies of every branch in a queue that still owes them are made: an enqueue makes them, an entry into a residue line
does not (R82). -/
def makeCopies (s : State) : State :=
  let owing := s.fwd.branches.filter (fun b => b.owes && decide (b.residue = none))
  let s := { s with fwd.branches := s.fwd.branches.map (fun b => if b.residue = none then { b with owes := false } else b) }
  owing.foldl (fun s b => copyBranch b s) s

/-- The egress copies that a frame calls for on the logical ports that take it: sessions in number order (R82). -/
def State.egressMatches (s : State) (got : List Nat) : List (Nat × Nat) :=
  (s.sessions (fun m => m.egress.any got.contains)).flatMap (fun n => ((s.session n).egress.filter got.contains).map (fun t => (n, t)))

/-- A frame is admitted on its targets with the egress copies it owes, which its enqueues make before a class 7 frame that fits
no window goes (R82, R124). -/
def sendTo (mcast : Bool) (targets : List Nat) (f : Frame) (s : State) : State :=
  settleClass7 targets f (makeCopies (admitOn mcast targets f s))

/-- A frame and its decision pass stages 7 and 8 (R68): `asIs` is the frame as received. DESIGN CHOICE (log entry 58): the copy of an ACL
mirror is of the frame as received, and a session that matches more than once (by ACL and ingress, or on several egress ports)
takes a copy for each match. -/
def deliver (l : Nat) (aclSession : Option Nat) (asIs f : Frame) (d : Decision)
    (mcast : Bool) (all : List Nat) (s : State) : State :=
  let gone := all.filterMap (fun t => (egressDrop s t f).map (fun c => (t, c)))
  let targets := all.filter (fun t => (egressDrop s t f).isNone)
  let early := (aclSession.toList.filter (fun n => decide ((s.session n).destKind ≠ 2))) ++
    s.sessions (fun m => m.ingress.contains l)
  let late := s.egressMatches (taken s (admitOn mcast targets { f with tag := none } s) targets)
  let copies := min 2 (early.length + late.length)
  let extra := early.length + late.length - copies
  let isPunt := match d with | .punt _ => true | _ => false
  let branches := targets.length + copies + flag isPunt
  let f := { f with
    owed := late.take (2 - early.length)
    tag := f.tag.map (fun i => { i with
      branches := max 1 branches, mcast := mcast, aclIndex := f.acl, length := f.size, lookup := s.time.mono }) }
  let asIs := { asIs with tag := f.tag, cls := f.cls, deadline := f.deadline }
  let s := gone.foldl (fun s g => countClass (s.frameCtx f none) 4 20 g.1 f.cls (outIndex g.2) 1 s) s
  let s := match d with
    | .drop code => dropIn l code (some f.cls) f.injected f.data s
    | _ => s
  let s := if branches = 0 then
      pushTag f { stage := 1, drop := match d with | .drop code => code | _ => ((gone.head?).map (·.2)).getD 0 } s
    else s
  let (punted, s) := match d with
    | .punt reason => punt f l reason f.acl false f.tagged s
    | _ => (false, s)
  let s := admitOn mcast targets f s
  let s := if punted || !targets.isEmpty then countBy (s.frameCtx f none) 3 l 0 1 s else s
  let s := (early.take 2).foldl (fun s n => mirrorCopy n asIs s) s
  let s := settleClass7 targets f (makeCopies s)
  if 0 < extra then countBy (s.frameCtx f none) 1 l 10 extra s else s

/-- The targets of a decision: whether multicast, and the logical ports (R76). -/
def targetsOf (s : State) (l : Nat) (d : Decision) : Bool × List Nat :=
  match d with
  | .port t => (false, [t])
  | .group g =>
    let m := tget s.fwd.groups g {}
    (true, if m.hairpin then m.ports else m.ports.filter (· ≠ l))
  | _ => (false, [])

/-- Frame tagging of an accepted frame (R387): the LFSR advances, and the frame is tagged when its low K bits are 0. -/
def tagPick (pl : Nat) (r : RxFrame) (s : State) : Option TagInfo × State :=
  if s.ctr.tagK = 0 ∨ bit s.ctr.tagPipelines pl = false then (none, s)
  else
    let x := lfsrStep (tget s.ctr.lfsrs pl s.ctr.tagSeed)
    let s := { s with ctr.lfsrs := tput s.ctr.lfsrs pl x }
    if x.toNat % 2 ^ s.ctr.tagK = 0 ∧ s.power.stage = 0 then
      (some { id := s.ctr.tagId, lport := r.lport, stepCount := s.time.stepCount, pipeline := pl },
        countDevice 14 { s with ctr.tagId := s.ctr.tagId + 1 })
    else (none, s)

/-- A shedding stage drops the frames of a class at ingress (R79, Table 14.4). -/
def shedAtIngress (s : State) (cls : Nat) : Bool :=
  decide (4 ≤ s.power.stage ∧ cls ≤ 6) || decide (5 ≤ s.power.stage)

/-- A frame with a good FCS passes the stages of R68. -/
def forward (pl : Nat) (r : RxFrame) (host : Bool) (s : State) : State :=
  let l := r.lport
  let d := r.data
  let (tag, s) := tagPick pl r s
  let base : Frame := { data := d, input := some l, pipeline := some pl, arrival := r.arrival, arrivalValid := r.arrivalValid
                        injected := host, arrivalMono := r.arrivalMono, tag := tag, wm := s.fwd.etWaymark, lport := l }
  let p := parse s.fwd.etWaymark d
  let s := if p.waymark && !p.v1 then countBy (ctxOf p none host none) 1 l 8 1 s else s
  let single := fun (code stage : Nat) (f : Frame) (s : State) =>
    pushTag { f with tag := f.tag.map (fun i => { i with branches := 1, length := f.size, lookup := s.time.mono }) }
      { stage := stage, drop := code } (dropIn l code (if stage = 0 then none else some f.cls) host f.data s)
  if !s.forwards then single 0x11 0 base s
  else
    let cfg := s.fwdCfg l
    if cfg.tagIn = 1 ∧ p.waymark = false ∧ 16320 < d.length + 4 + 16 then single 0x0D 0 base s
    else
      let (look, s) := lookupFrame l p d s
      let hit := s.aclMatch (aclKey s l p d look)
      let cls := classify s l p d hit
      let f0 := { base with cls := cls, deadline := deadlineFor s l cls p d r.arrival, acl := (hit.map (·.1)).getD 0xFFFF
                            tagged := p.v1 }
      let dec := aclDecision hit look.decision
      if shedAtIngress s cls && !dec.drops then single 0x11 1 f0 s
      else
        let f1 := tagAction s.fwd.etWaymark cfg.tagIn false f0
        let (mcast, targets) := targetsOf s l dec
        let f2 := match look.route with
          | some h => if targets.isEmpty then f1 else
              { f1 with data := rewriteRouted h (parse s.fwd.etWaymark f1.data) f1.data, routed := true }
          | none => f1
        deliver l (hit.bind (fun e => e.2.mirror)) f0 f2 dec mcast targets s

/-- A DIRECT-injected frame is enqueued on its logical port in its class (R86, R91). -/
def injectDirect (i : Inject) (s : State) : State :=
  let f : Frame :=
    { data := i.data, input := none, pipeline := none, cls := i.cls, arrival := s.time.count, arrivalValid := s.timeValid
      injected := true, arrivalMono := s.time.mono, wm := s.fwd.etWaymark, lport := i.lport
      deadline := if deadlineClass i.cls then deadlineOf s.time.count + BitVec.ofNat 48 (s.budget i.lport i.cls) else 0 }
  match egressDrop s i.lport f with
  | some code => refuse i.lport code 1 false f s
  | none =>
    let late := s.egressMatches (taken s (admitOn false [i.lport] f s) [i.lport])
    let s := sendTo false [i.lport] { f with owed := late.take 2 } s
    if 2 < late.length then countBy (s.frameCtx f none) 1 i.lport 10 (late.length - 2) s else s

/-- INJECT_FRAME (R86): the device takes the next record of the inject ring, unless a PIPE-injected frame still waits. -/
def injectNow (record : List Byte) (s : State) : State :=
  match s.ringOf .inject with
  | none => s
  | some k =>
    let g := s.ring k
    let n := fld record 2 2
    let size := 16 + n + (16 - (16 + n) % 16) % 16
    if s.fwd.injectHead.isSome || decide ((g.prod - g.cons).toNat < size) || decide (record.length < 16 + n) then s
    else
      let s := s.setRing k { g with cons := g.cons + BitVec.ofNat 32 size }
      let w := fld record 0 2
      let i : Inject := { mode := w / 16384, lport := w / 32 % 512, cls := w / 4 % 8, data := (record.drop 16).take n }
      if decide (n < 60 ∨ 16316 < n ∨ 2 ≤ i.mode) || !s.provided i.lport then countDevice 0 s
      else if i.mode = 0 then
        { s with fwd.injectHead := some i, fwd.injectAt := s.time.count, fwd.injectValid := s.timeValid, fwd.injectMono := s.time.mono }
      else injectDirect i s

/-! ### Events of the buffers -/

/-- What the MAC does with a MAC control frame that has passed its size checks (R98, R102). -/
def actOnControl (l : Nat) (frame : List Byte) (s : State) : State :=
    let d := frame.take (frame.length - 4)
    let c := ctxOf (parse s.fwd.etWaymark d) none false none
    if fcs d ≠ frame.drop (frame.length - 4) then countBy c 3 l 1 1 s
    else
      match fld d 14 2 with
      | 0x0101 =>
        let s := countBy c 1 l 5 1 s
        (List.range 8).foldl (fun s p =>
          if bit (fld d 16 2) p then
            let st := s.pfcPort l p
            s.setPfcPort l p { st with incoming := st.incoming ++ [(s.time.mono + 400 * 65536, fld d (18 + 2 * p) 2)] }
          else s) s
      | 0x0001 => countBy c 1 l 6 1 s
      | _ => countBy c 1 l 7 1 s

/-- MAC_CONTROL_RX (R54, R98, R102): a MAC control frame with its FCS, whose first byte came `ago`; only AX frames are exempt from
the size checks. -/
def macControl (l ago : Nat) (frame : List Byte) (s : State) : State :=
  if !s.receives l then s
  else
    match inLoop l isMacControl frame s with
    | (none, s) => s
    | (some f, s) =>
      match sizeDrop l ago f s with
      | some code => dropIn l code none false (f.take (f.length - 4)) s
      | none => actOnControl l f s

/-- Length of a pause of some quanta at a logical port's rate, in 2^-16 ns (R102). -/
def State.quantaTime (s : State) (l quanta : Nat) : Nat :=
  if s.gbps l = 0 then 0 else quanta * 512 * 65536 / s.gbps l

/-- PFC_PAUSE_START (R102): 400 ns after a PFC frame its pause takes hold, replacing the remaining time. -/
def pauseStart (l p : Nat) (s : State) : State :=
  let st := s.pfcPort l p
  match st.incoming with
  | [] => s
  | (t, q) :: r =>
    if s.time.mono < t then s
    else s.setPfcPort l p { st with incoming := r, pausedUntil := if q = 0 then none else some (t + s.quantaTime l q) }

/-- PFC_PAUSE_END (R102): the pause time has run out. -/
def pauseEnd (l p : Nat) (s : State) : State :=
  let st := s.pfcPort l p
  match st.pausedUntil with
  | some t => if t ≤ s.time.mono then s.setPfcPort l p { st with pausedUntil := none } else s
  | none => s

/-- XOFF_REPEAT (R100, R238): half the sent quanta has elapsed since the last XOFF, and no XON has fallen due or a freeze
stands. -/
def repeatXoff (l p : Nat) (s : State) : State :=
  let st := s.pfcPort l p
  if (st.due || st.freeze) && st.xoffSent && (s.lp l).up && decide (2 * (s.time.mono - st.lastXoff) ≥ s.quantaTime l st.quanta)
  then repeatNow l p s else s

/-- PORT_HOLD_END (R106, R107): the hold ends at a milestone with the link still down, and the port is flushed; on a frozen die
it waits for the thaw (R237). -/
def holdEnd (l : Nat) (s : State) : State :=
  match tfind s.fwd.held l with
  | some t =>
    if s.time.running && s.linkIsDown l && !s.frozenDie (s.coreOfLport l) && decide (t + tget s.fwd.holds l 2000 * micro ≤ s.time.mono) then
      flush l true { s with fwd.held := tdel s.fwd.held l }
    else s
  | none => s

/-- The residue lines of a CORE die that hold a frame: pipeline, logical port, class, in the order of R113 from a
pipeline on. -/
def State.lines (s : State) (d start : Nat) : List (Nat × Nat × Nat) :=
  let n := s.part.pipelines
  (((s.fwd.branches.filter (fun b => decide (b.residue ≠ none ∧ s.coreOfLport b.lport = d))).map
    (fun b => (b.fifo.getD 0, b.lport, b.cls))).dedup).mergeSort
    (fun a b => decide (((a.1 + n - start) % n * 384 + a.2.1) * 8 + a.2.2 ≤ ((b.1 + n - start) % n * 384 + b.2.1) * 8 + b.2.2))

/-- Tries the frames of a residue line from its head (R112, R113): `n` bounds them. -/
def retryLine (p l cls : Nat) : Nat → State → State
  | 0, s => s
  | n + 1, s =>
    match s.line p l cls with
    | [] => s
    | b :: _ =>
      match s.copyOf b.copy with
      | none => retryLine p l cls n (unlink b s)
      | some c =>
        let k := b.residue.getD 0
        if !s.portDown l && s.queueFits (s.coreOfLport l) l cls c.cells then
          retryLine p l cls n (makeCopies (enqueue b c.frame { s with fwd.branches := s.fwd.branches.erase b }))
        else if k ≤ 1 then retryLine p l cls n (discard 0x26 2 true b s)
        else s

/-- Every frame that waits in a line and is not at its last retry has one retry fewer. -/
def ageLines (d : Nat) (s : State) : State :=
  { s with fwd.branches := s.fwd.branches.map (fun b =>
      if s.coreOfLport b.lport = d then { b with residue := b.residue.map (· - 1) } else b) }

/-- The frames that waited to cross the CORE0-CORE1 segment cross in their order, when it has retrained and the domain on the
sending side runs (R17): each passes admission now. -/
def crossNow (s : State) : State :=
  let go := fun (c : Crossing) =>
    (s.core c.frame.side).running && (c.targets.all (fun l => !s.mustWait (s.coreOfLport l) c.frame))
  let rest := s.fwd.crossings.filter (fun c => !go c)
  (s.fwd.crossings.filter go).foldl (fun s c =>
    let s := if c.mcast then admitMulticast c.targets c.frame s
      else c.targets.foldl (fun s l => admitTo l c.mirror c.frame s) s
    settleClass7 c.targets c.frame (makeCopies s)) { s with fwd.crossings := rest }

/-- RESIDUE_RETRY (R113, R114): on each CORE die that is not frozen, expired heads go, then every line is retried. A line
of a held port waits. -/
def residueRetry (s : State) : State :=
  let s := [0, 1].foldl (fun s d =>
    if (s.core d).running then
      let ls := s.lines d s.fwd.residueStart
      let s := ls.foldl (fun s k => expireHead (fun s => (s.line k.1 k.2.1 k.2.2).head?) 4 s) s
      ageLines d (ls.foldl (fun s k =>
        if s.portDown k.2.1 then s else retryLine k.1 k.2.1 k.2.2 (s.line k.1 k.2.1 k.2.2).length s) s)
    else s) s
  { s with fwd.residueStart := if s.part.pipelines = 0 then 0 else (s.fwd.residueStart + 1) % s.part.pipelines }

end Sys2Proof.Machine
end

