-- ==== Sys2Proof/Machine/HierOps.lean ====
section
/-! DEFINITION. Managers and workers (10_hierarchy): in-band frames, routing, announcements, roles, and notifications to
every transport. -/

namespace Sys2Proof.Machine

/-! ### Parents and routes -/

/-- The port that parent candidate `i` names: its reference table entry is of KIND 2 (R244). -/
def State.candPort (s : State) (i : Nat) : Option Nat :=
  let c := getAt s.hier.candidates i 0xFF
  if c < 16 ∧ (s.refEntry c).kind = 2 then some (s.refEntry c).index else none

/-- A port's partner is this device's manager: timing link up, MGR 1, NODE the manager's (R244). -/
def State.managerOn (s : State) (q : Nat) : Bool :=
  (s.lp (s.timingLport q)).up && (s.link q).peerMgr && decide ((s.link q).peerNode = s.hier.manager)

/-- Parent candidate `i` qualifies (R244). -/
def State.candOk (s : State) (i : Nat) : Bool := ((s.candPort i).map s.managerOn).getD false

/-- The first candidate that qualifies (R244). -/
def State.firstCand (s : State) : Option Nat := (List.range 3).find? s.candOk

/-- The port is one of the parent candidates (R246, R248). -/
def State.isCandidate (s : State) (q : Nat) : Bool := (List.range 3).any (fun i => decide (s.candPort i = some q))

/-- No parent candidate is named (R244). -/
def State.noCandidates (s : State) : Bool := s.hier.candidates.all (fun c => decide (c = 0xFF))

/-- The command parent port: that of the candidate in use while it qualifies (R244, R265); on a device that has no candidate, the
port its enrolment arrived on while it meets the conditions of R244 (R249, log entry 14). -/
def State.upPort (s : State) : Option Nat :=
  match s.hier.parent with
  | some i => if s.candOk i then s.candPort i else none
  | none => if s.noCandidates then s.hier.parentPort.filter s.managerOn else none

/-- The candidate that names a port (R244). -/
def State.candOf (s : State) (q : Nat) : Option Nat := (List.range 3).find? (fun i => decide (s.candPort i = some q))

/-- A node lies in a range. -/
def inRange (d first last : BitVec 18) : Bool := decide (first ≤ d ∧ d ≤ last)

/-- Where an in-band packet for a node goes (R255). -/
inductive Hop where
  | here
  | port (q : Nat)
  | nowhere
  deriving DecidableEq, Repr

/-- The first case of R255 that applies to a target node. -/
def State.hopOf (s : State) (d : BitVec 18) : Hop :=
  if d = 0 ∨ d = 0x3FFFF ∨ (d = s.hier.node ∧ s.hier.role ≠ .unenrolled) then .here
  else match s.hier.workers.find? (fun w => inRange d w.2.first w.2.last) with
    | some w => .port w.1
    | none =>
      if s.hier.role ≠ .unenrolled ∧ inRange d s.hier.node s.hier.last = true then .nowhere
      else if s.hier.role = .orphan ∨ s.hier.role = .root then .nowhere
      else match s.upPort with
        | some q => .port q
        | none => .nowhere

/-! ### Frames -/

/-- The fabric key in use (R252). -/
def State.keyNow (s : State) : Option (List Byte) := if s.hier.keyInUse then s.hier.fabricKey else none

/-- Bytes 16 to 27 of an in-band frame (Table 10.1). -/
def inbandFields (source : BitVec 18) (sendMs : Milestone) : List Byte := toBe 4 source.toNat ++ toBe 8 sendMs.toNat

/-- An in-band frame on a logical port, padded, less its FCS (Table 10.1): `pkt` is the packet with its tag. -/
def inbandBytes (s : State) (l hops : Nat) (fields pkt : List Byte) : List Byte :=
  let d := [0x01, 0x80, 0xC2, 0x00, 0x00, 0x0E] ++ s.macOf l ++ toBe 2 s.fwd.etCommand ++ [0x10, BitVec.ofNat 8 hops] ++
    fields ++ pkt
  d ++ List.replicate (60 - d.length) 0

/-- Sends an in-band frame through the queues of a port (R257); one above the MTU counts as HIER_OVERSIZE. -/
def sendOn (q hops : Nat) (fields pkt : List Byte) (s : State) : State :=
  let l := s.timingLport q
  let f : Frame :=
    { data := inbandBytes s l hops fields pkt, input := none, pipeline := none, cls := s.hier.cls, arrival := s.time.count
      arrivalValid := s.timeValid, injected := true, arrivalMono := s.time.mono
      deadline := if deadlineClass s.hier.cls then deadlineOf s.time.count + BitVec.ofNat 48 (s.budget l s.hier.cls) else 0 }
  if (s.fwdCfg l).mtu < f.size then countDevice 6 s else admitTo l false f s

/-- Builds and tags a packet under a key and sends it on a port (R252); `body` is the packet with AUTH set, less its tag. -/
def sendTagged (key : List Byte) (q : Nat) (body : List Byte) (s : State) : State :=
  let fields := inbandFields s.hier.node s.ms
  sendOn q 0 fields (body ++ tagOf key (fields ++ body)) s

/-- Sends a packet on a port under the fabric key in use; without one nothing leaves. -/
def originateOn (q kind flags opcode : Nat) (seq : BitVec 32) (target : BitVec 18) (params : List Byte) (s : State) : State :=
  match s.keyNow with
  | none => s
  | some k => sendTagged k q (packet kind (flags + 1) opcode seq target params) s

/-- The next in-band sequence of this device (R290). -/
def takeSeq (s : State) : BitVec 32 × State := (s.cmd.inbandSeq, { s with cmd.inbandSeq := s.cmd.inbandSeq + 1 })

/-- Sends an announcement to node 0 on every worker port (Table 10.2). -/
def announce (opcode : Nat) (params : List Byte) (s : State) : State :=
  s.hier.workers.foldl (fun s w =>
    let (n, s) := takeSeq s
    originateOn w.1 0 0 opcode n 0 params s) s

/-- ANNOUNCE_STEP (Table 10.2): mode 0 step, 1 load. -/
def announceStep (m : Milestone) (mode : Nat) (value : BitVec 80) (s : State) : State :=
  announce 0x0D20 (ms8 m ++ [BitVec.ofNat 8 mode] ++ List.replicate 7 0 ++ toBe 10 value.toNat) s

/-- Sends a notification to the transport that accepted a command (R286). -/
def notify (dst : Option Source) (opcode : Nat) (params : List Byte) (s : State) : State :=
  match dst with
  | some (.inband _ node _ _) =>
    let seq := s.cmd.notifyInband
    let s := { s with cmd.notifyInband := seq + 1 }
    match s.hopOf node, s.keyNow with
    | .port q, some _ => originateOn q 2 0 opcode seq node params s
    | _, _ => countDevice 12 s
  | _ => notifyLocal dst opcode params s

/-! ### Roles -/

/-- The right of way of a transport returns to none (R296). -/
def rowRelease (holder cause : Nat) (s : State) : State :=
  if s.cmd.holder = holder ∧ holder ≠ 0 then
    raise .note 0x5103 [BitVec.ofNat 8 holder, BitVec.ofNat 8 cause] { s with cmd.holder := 0, cmd.lease := 0 }
  else s

/-- The device becomes ORPHAN (R266). -/
def becomeOrphan (s : State) : State :=
  let s := raise .error 0x7102 (node4 s.hier.manager) { s with hier.role := .orphan, hier.parent := none, hier.parentPort := none }
  rowRelease 3 4 s

/-- The device becomes UNENROLLED (R251, R264): node ID, range, fabric key and parent state clear. -/
def becomeUnenrolled (s : State) : State :=
  let manager := s.hier.manager
  let s := { s with
    hier.role := .unenrolled, hier.node := 0, hier.last := 0, hier.manager := 0, hier.depth := 0, hier.parent := none
    hier.parentPort := none, hier.fabricKey := none, hier.keyInUse := false, hier.oldKey := none, hier.orphanQ := []
    hier.noParentSince := none }
  rowRelease 3 4 (raise .warn 0x710C (node4 manager) s)

/-- The device is ENROLLED again (R266): the EVENT_MIRROR notifications it holds leave ahead of new ones (R264, `mirrorNext`). -/
def rejoin (s : State) : State := { s with hier.role := .enrolled, hier.noParentSince := none }

/-- A port entry closes a loop: the partner's NODE lies within this device's own range (R245). -/
def State.closesLoop (s : State) (q : Nat) : Bool :=
  decide (s.hier.role ≠ .unenrolled) && (s.link q).lastRx.isSome && inRange (s.link q).peerNode s.hier.node s.hier.last

end Sys2Proof.Machine
end

