-- ==== Sys2Proof/Machine/Occur.lean ====
section
/-! DEFINITION. What every command runs in: time elapses, the command has its effect, and what follows the state without a
command of its own is brought up to date. -/

namespace Sys2Proof.Machine

/-- The DPLL state calls for a CLK_OUT output to be squelched (Table 9.7). -/
def ClkOut.squelchIn (c : ClkOut) (d : DpllState) : Bool :=
  c.enable && decide ((c.squelch = 1 ∧ d = .lost) ∨ (c.squelch = 2 ∧ (d = .lost ∨ d = .holdover)))

/-- One output follows the DPLL state; a squelch records event 0x2440 (R236). -/
def squelchIt (n : Nat) (s : State) : State :=
  let c := tget s.clk.outs n {}
  let q := c.squelchIn s.ref.dpll
  if q = c.squelched then s
  else
    let s := { s with clk.outs := tput s.clk.outs n { c with squelched := q } }
    if q then raise .warn 0x2440 [BitVec.ofNat 8 n] s else s

/-- One output follows what it depends on: its squelch, then its start or stop (R236). -/
def squelchOut (s : State) (n : Nat) : State := followOut n (squelchIt n s)

/-- Every CLK_OUT output follows the DPLL state (R236). -/
def squelchAll (s : State) : State := (s.clk.outs.map (·.1)).foldl squelchOut s

/-- A worker watches its parent candidates: the instant since which none qualifies (R265). -/
def trackParent (s : State) : State :=
  if s.hier.role ≠ .enrolled then s
  else match s.firstCand, s.hier.noParentSince with
    | some _, _ => { s with hier.noParentSince := none }
    | none, none => { s with hier.noParentSince := some s.time.mono }
    | none, some _ => s

/-- What follows every command's own effect: the watch on the parents, the CLK_OUT outputs, the ready block. -/
def finish (s : State) : State := settle (squelchAll (trackParent s))

/-- What every command runs in: time elapses, the command has its effect, and what follows it is brought up to date. -/
def occur (dt : Nat) (s : State) (f : State → State) : Host.Outcome State Fault Refusal :=
  .next (finish (f (s.advance dt)))

end Sys2Proof.Machine
end

