-- ==== Sys2Proof/Machine/Operands.lean ====
section
/-! DEFINITION. Packets and their operands: the opcode table (13_command_reference), the packet format (Table 12.1), the
size rules R315 and R443, and the checks that parameter fields share (R10, R311, R313, R314). -/

namespace Sys2Proof

open Sys2Proof.Machine

/-- How a layout fixes the size of its parameters (R315, R443). -/
inductive Layout where
  /-- exactly this many bytes, rounded up to a whole word -/
  | fixed (bytes : Nat)
  /-- an R315 list of entries of a size -/
  | list (entry : Nat)
  /-- a base, and a field at an offset, of a width, that counts items of a size -/
  | sized (base off width item : Nat)
  deriving DecidableEq, Repr

/-- Code, kind and layout of an opcode (Tables 13.2 to 13.15). -/
def Op.info : Op → Nat × OpKind × Layout
  | .deviceInfo => (0x0101, .free, .fixed 0)
  | .rowClaim => (0x0102, .free, .fixed 4)
  | .rowYield => (0x0103, .free, .fixed 0)
  | .cmdSync => (0x0104, .free, .fixed 0)
  | .cmdStatus => (0x0105, .read, .fixed 4)
  | .mgmtConfig => (0x0106, .write, .fixed 20)
  | .modeSet => (0x0107, .write, .fixed 4)
  | .modeStatus => (0x0108, .read, .fixed 0)
  | .avsRequest => (0x0109, .write, .fixed 4)
  | .avsStatus => (0x010A, .read, .fixed 0)
  | .shedConfig => (0x010B, .write, .fixed 4)
  | .padRelease => (0x010C, .write, .fixed 0)
  | .dormantConfig => (0x010D, .write, .fixed 4)
  | .vigilRead => (0x010E, .read, .fixed 0)
  | .vigilScratch => (0x010F, .write, .fixed 52)
  | .tableRestore => (0x0110, .write, .fixed 4)
  | .portBreakout => (0x0201, .write, .fixed 20)
  | .portConfig => (0x0202, .write, .fixed 8)
  | .portEnable => (0x0203, .write, .fixed 4)
  | .portDisable => (0x0204, .write, .fixed 4)
  | .portStatus => (0x0205, .read, .fixed 4)
  | .laneTxEq => (0x0206, .write, .fixed 12)
  | .laneRxConfig => (0x0207, .write, .fixed 4)
  | .lanePower => (0x0208, .write, .fixed 8)
  | .laneLoop => (0x0209, .write, .fixed 4)
  | .prbsConfig => (0x020A, .write, .fixed 4)
  | .prbsStatus => (0x020B, .read, .fixed 4)
  | .fecHistogram => (0x020C, .read, .fixed 4)
  | .laneStatus => (0x020D, .read, .fixed 4)
  | .l2Write => (0x0301, .write, .list 12)
  | .l2Delete => (0x0302, .write, .list 8)
  | .lpmWrite => (0x0303, .write, .list 24)
  | .lpmDelete => (0x0304, .write, .list 20)
  | .nexthopWrite => (0x0305, .write, .list 16)
  | .ecmpWrite => (0x0306, .write, .sized 4 2 2 2)
  | .aclWrite => (0x0307, .write, .list 140)
  | .aclDelete => (0x0308, .write, .fixed 4)
  | .mcgroupWrite => (0x0309, .write, .list 52)
  | .lportFwdConfig => (0x030A, .write, .fixed 16)
  | .classMaps => (0x030B, .write, .fixed 72)
  | .mirrorSession => (0x030C, .write, .fixed 104)
  | .puntConfig => (0x030D, .write, .fixed 60)
  | .ethertypes => (0x030E, .write, .fixed 8)
  | .ecmpSeed => (0x030F, .write, .fixed 4)
  | .tableRead => (0x0310, .read, .fixed 8)
  | .tableUsage => (0x0311, .read, .fixed 0)
  | .poolsConfig => (0x0401, .pend, .fixed 36)
  | .poolsEnable => (0x0402, .write, .fixed 4)
  | .queueConfig => (0x0403, .write, .fixed 16)
  | .pfcConfig => (0x0404, .write, .fixed 40)
  | .portHold => (0x0405, .write, .fixed 8)
  | .mcastConfig => (0x0406, .write, .fixed 4)
  | .bufferStatus => (0x0407, .read, .fixed 8)
  | .calendarWrite => (0x0501, .pend, .sized 36 10 2 2)
  | .calendarEnable => (0x0502, .write, .fixed 4)
  | .calendarDisable => (0x0503, .write, .fixed 4)
  | .calendarRead => (0x0504, .read, .fixed 8)
  | .calendarStatus => (0x0505, .read, .fixed 4)
  | .schedConfig => (0x0506, .write, .fixed 16)
  | .deadlineBudget => (0x0507, .write, .fixed 16)
  | .timeGet => (0x0601, .read, .fixed 0)
  | .timeSet => (0x0602, .write, .fixed 12)
  | .timeStep => (0x0603, .write, .fixed 8)
  | .timeStepCancel => (0x0604, .action, .fixed 0)
  | .timeAcceptJump => (0x0605, .write, .fixed 0)
  | .timeThresholds => (0x0606, .write, .fixed 8)
  | .timeScale => (0x0607, .write, .fixed 4)
  | .compareClaim => (0x0610, .write, .fixed 4)
  | .compareArm => (0x0611, .write, .fixed 28)
  | .compareDisarm => (0x0612, .write, .fixed 4)
  | .compareRelease => (0x0613, .write, .fixed 4)
  | .compareStatus => (0x0614, .read, .fixed 0)
  | .timingConfig => (0x0620, .write, .fixed 4)
  | .axConfig => (0x0621, .write, .fixed 8)
  | .linkAsym => (0x0622, .write, .fixed 12)
  | .axStatus => (0x0623, .read, .fixed 4)
  | .ptpPortConfig => (0x0624, .write, .fixed 24)
  | .ptpClockConfig => (0x0625, .write, .fixed 20)
  | .ptpStatus => (0x0626, .read, .fixed 4)
  | .reftableWrite => (0x0701, .pend, .sized 4 1 1 12)
  | .reftableEnable => (0x0702, .write, .fixed 0)
  | .refMonitorConfig => (0x0703, .write, .fixed 12)
  | .dpllConfig => (0x0704, .write, .fixed 24)
  | .refForce => (0x0705, .write, .fixed 4)
  | .refClear => (0x0706, .write, .fixed 4)
  | .refStatus => (0x0707, .read, .fixed 0)
  | .dpllStatus => (0x0708, .read, .fixed 0)
  | .clockStatus => (0x0801, .read, .fixed 0)
  | .rampProfile => (0x0802, .pend, .sized 4 0 1 4)
  | .rampStart => (0x0803, .write, .fixed 4)
  | .rampStatus => (0x0804, .read, .fixed 0)
  | .clkOutConfig => (0x0805, .write, .fixed 24)
  | .lanePllConfig => (0x0806, .write, .fixed 8)
  | .tioClaim => (0x0901, .write, .fixed 4)
  | .tioRelease => (0x0902, .write, .fixed 4)
  | .tdcConfig => (0x0903, .pend, .fixed 48)
  | .tdcEnable => (0x0904, .write, .fixed 4)
  | .tdcDisable => (0x0905, .write, .fixed 4)
  | .tdcStatus => (0x0906, .read, .fixed 0)
  | .tdcResult => (0x0907, .read, .fixed 4)
  | .counterRead => (0x0A01, .read, .fixed 8)
  | .snapshotConfig => (0x0A02, .write, .fixed 4)
  | .snapshotNow => (0x0A03, .write, .fixed 0)
  | .filterConfig => (0x0A04, .write, .fixed 44)
  | .stickyClear => (0x0A05, .write, .fixed 4)
  | .tagConfig => (0x0A06, .write, .fixed 16)
  | .recorderRead => (0x0B01, .read, .fixed 4)
  | .recorderFreeze => (0x0B02, .write, .fixed 4)
  | .recorderConfig => (0x0B03, .write, .fixed 4)
  | .recorderStatus => (0x0B04, .read, .fixed 0)
  | .calExport => (0x0C01, .read, .fixed 8)
  | .calStage => (0x0C02, .pend, .sized 8 4 4 1)
  | .calImport => (0x0C03, .write, .fixed 0)
  | .calWrite => (0x0C04, .write, .fixed 12)
  | .calStatus => (0x0C05, .read, .fixed 0)
  | .hierStatus => (0x0D01, .read, .fixed 4)
  | .hierConfig => (0x0D02, .write, .fixed 16)
  | .keyProvision => (0x0D03, .write, .fixed 32)
  | .fabricKeySet => (0x0D04, .write, .fixed 32)
  | .enroll => (0x0D05, .action, .fixed 52)
  | .releaseWorker => (0x0D06, .action, .fixed 4)
  | .fabricKeyRoll => (0x0D07, .write, .fixed 32)
  | .hierEpochs => (0x0D08, .write, .fixed 32)
  | .enrollReq => (0x0D10, .inbandOnly, .fixed 56)
  | .release => (0x0D11, .inbandOnly, .fixed 0)
  | .announceStep => (0x0D20, .inbandOnly, .fixed 28)
  | .announceTimescale => (0x0D21, .inbandOnly, .fixed 12)
  | .announceEpochs => (0x0D22, .inbandOnly, .fixed 40)
  | .announceSettings => (0x0D23, .inbandOnly, .fixed 24)
  | .announceKey => (0x0D24, .inbandOnly, .fixed 48)
  | .testBist => (0x0E01, .write, .fixed 4)
  | .testStatus => (0x0E02, .read, .fixed 0)

/-- Opcode. -/
def Op.code (o : Op) : Nat := o.info.1

/-- Kind (Table 13.1). -/
def Op.kind (o : Op) : OpKind := o.info.2.1

/-- Layout of the parameters. -/
def Op.layout (o : Op) : Layout := o.info.2.2

/-- Every opcode that a packet can name as a command, in the order of the tables. -/
def Op.all : List Op :=
  ([
    [.deviceInfo, .rowClaim, .rowYield, .cmdSync, .cmdStatus, .mgmtConfig, .modeSet, .modeStatus, .avsRequest, .avsStatus, .shedConfig, .padRelease, .dormantConfig, .vigilRead, .vigilScratch, .tableRestore, .portBreakout, .portConfig, .portEnable, .portDisable, .portStatus, .laneTxEq],
    [.laneRxConfig, .lanePower, .laneLoop, .prbsConfig, .prbsStatus, .fecHistogram, .laneStatus, .l2Write, .l2Delete, .lpmWrite, .lpmDelete, .nexthopWrite, .ecmpWrite, .aclWrite, .aclDelete, .mcgroupWrite, .lportFwdConfig, .classMaps, .mirrorSession, .puntConfig, .ethertypes, .ecmpSeed],
    [.tableRead, .tableUsage, .poolsConfig, .poolsEnable, .queueConfig, .pfcConfig, .portHold, .mcastConfig, .bufferStatus, .calendarWrite, .calendarEnable, .calendarDisable, .calendarRead, .calendarStatus, .schedConfig, .deadlineBudget, .timeGet, .timeSet, .timeStep, .timeStepCancel, .timeAcceptJump, .timeThresholds],
    [.timeScale, .compareClaim, .compareArm, .compareDisarm, .compareRelease, .compareStatus, .timingConfig, .axConfig, .linkAsym, .axStatus, .ptpPortConfig, .ptpClockConfig, .ptpStatus, .reftableWrite, .reftableEnable, .refMonitorConfig, .dpllConfig, .refForce, .refClear, .refStatus, .dpllStatus, .clockStatus],
    [.rampProfile, .rampStart, .rampStatus, .clkOutConfig, .lanePllConfig, .tioClaim, .tioRelease, .tdcConfig, .tdcEnable, .tdcDisable, .tdcStatus, .tdcResult, .counterRead, .snapshotConfig, .snapshotNow, .filterConfig, .stickyClear, .tagConfig, .recorderRead, .recorderFreeze, .recorderConfig, .recorderStatus],
    [.calExport, .calStage, .calImport, .calWrite, .calStatus, .hierStatus, .hierConfig, .keyProvision, .fabricKeySet, .enroll, .releaseWorker, .fabricKeyRoll, .hierEpochs, .enrollReq, .release, .announceStep, .announceTimescale, .announceEpochs, .announceSettings, .announceKey, .testBist, .testStatus]] : List (List Op)).flatten

/-- The command that an opcode names; none for an unassigned opcode or one of kind N (R318). -/
def Op.ofCode (code : Nat) : Option Op := Op.all.find? (fun o => decide (o.code = code))

/-! ### Packets -/

/-- A packet without its tag (Table 12.1). -/
def Req.body (r : Req) (code : Nat) : List Byte :=
  let n := r.params.length + (if r.ms.isSome then 8 else 0)
  [0x4F, 0x4A, BitVec.ofNat 8 (r.version * 16 + r.kind),
    BitVec.ofNat 8 (r.rsvFlags * 16 + flag r.broadcast * 8 + flag r.ms.isSome * 4 + flag r.force * 2 + flag r.tag.isSome)] ++
  toBe 2 code ++ toBe 2 (n / 4) ++ toBe 4 r.seq.toNat ++ toBe 4 (r.rsvTarget * 2 ^ 18 + r.target.toNat) ++
  (match r.ms with | some m => toBe 8 m.toNat | none => []) ++ r.params

/-- A whole packet (Table 12.1). -/
def Req.bytes (r : Req) (code : Nat) : List Byte := r.body code ++ r.tag.getD []

/-- Size of a packet (R283). -/
def Req.size (r : Req) : Nat :=
  16 + r.params.length + (if r.ms.isSome then 8 else 0) + (match r.tag with | some t => t.length | none => 0)

/-- What bytes delivered by a transport spell. -/
inductive Parse where
  /-- the MAGIC is wrong -/
  | badMagic
  /-- the size check of R283 fails; the header fields that are there -/
  | badSize (code : Nat) (seq : BitVec 32)
  /-- an AT_MILESTONE packet whose parameters cannot hold the commit milestone -/
  | noMilestone (code : Nat) (r : Req)
  /-- an opcode and a packet -/
  | packet (code : Nat) (r : Req)
  deriving DecidableEq, Repr

/-- What the header of a packet says, without parameters (Table 12.1). -/
def headOf (src : Source) (bs : List Byte) : Req :=
  let fl := fld bs 3 1
  { src := src, version := fld bs 2 1 / 16, kind := fld bs 2 1 % 16, rsvFlags := fl / 16, broadcast := bit fl 3, ms := none
    force := bit fl 1, tag := none, seq := BitVec.ofNat 32 (fld bs 8 4)
    rsvTarget := fld bs 12 4 / 2 ^ 18, target := BitVec.ofNat 18 (fld bs 12 4), params := [] }

/-- Reads a packet from bytes that a transport delivered (Table 12.1, R283). -/
def parsePacket (src : Source) (bs : List Byte) : Parse :=
  if fld bs 0 2 ≠ 0x4F4A ∨ bs.length < 2 then .badMagic
  else
    let fl := fld bs 3 1
    let n := 4 * fld bs 6 2
    let auth := bit fl 0
    if bs.length < 16 ∨ 4092 < n ∨ bs.length ≠ 16 + n + (if auth then 16 else 0) then
      .badSize (fld bs 4 2) (BitVec.ofNat 32 (fld bs 8 4))
    else
      let body := (bs.drop 16).take n
      let at_ := bit fl 2
      let r : Req :=
        { headOf src bs with
          ms := if at_ && decide (8 ≤ n) then some (BitVec.ofNat 64 (fld body 0 8)) else none
          tag := if auth then some (bs.drop (16 + n)) else none
          params := if at_ && decide (8 ≤ n) then body.drop 8 else body }
      if at_ && decide (n < 8) then .noMilestone (fld bs 4 2) r else .packet (fld bs 4 2) r

/-- A reply as a packet, less its tag (R285, Table 12.2). -/
def Reply.body (p : Reply) (node : BitVec 18) (tagged : Bool) : List Byte :=
  let data := p.data ++ List.replicate ((4 - p.data.length % 4) % 4) 0
  [0x4F, 0x4A, 0x11, BitVec.ofNat 8 (flag tagged)] ++ toBe 2 p.opcode ++ toBe 2 ((12 + data.length) / 4) ++
  toBe 4 p.seq.toNat ++ toBe 4 node.toNat ++
  toBe 4 (p.status.code * 2 ^ 24 + p.reason.code * 2 ^ 16 + p.detail % 65536) ++ toBe 8 p.commit.toNat ++ data

/-! ### Refusals and field checks -/

/-- A refusal with a reason and a detail. -/
def refused (reason : Reason) (detail : Nat) : Rej := { status := .refused, reason := reason, detail := detail % 65536 }

/-- A BUSY with a reason and a detail (R310). -/
def busy (reason : Reason) (detail : Nat) : Rej := { status := .busy, reason := reason, detail := detail % 65536 }

/-- The refusal when a condition does not hold. -/
def need (ok : Bool) (r : Rej) : Option Rej := if ok then none else some r

/-- The first failure of a list of checks, in order (R291). -/
def firstRej (l : List (Option Rej)) : Option Rej := l.findSome? id

/-- RANGE with the byte offset of a field (R314). -/
def rangeAt (off : Nat) : Rej := refused .range off

/-- A reserved field of `n` bytes at an offset is 0 (R10). -/
def rsvOk (p : List Byte) (off n : Nat) : Option Rej := need (decide (fld p off n = 0)) (rangeAt off)

/-- A field of `n` bytes at an offset lies between bounds (R314). -/
def within (p : List Byte) (off n lo hi : Nat) : Option Rej :=
  need (decide (lo ≤ fld p off n ∧ fld p off n ≤ hi)) (rangeAt off)

/-- The size rule of an opcode on its parameters (R315, R443): LENGTH_MISMATCH, or RANGE for a COUNT of 0. -/
def sizeCheck (o : Op) (p : List Byte) : Option Rej :=
  match o.layout with
  | .fixed n =>
    need (decide (p.length = ceilDiv n 4 * 4)) (refused .lengthMismatch (ceilDiv n 4))
  | .list e =>
    if p.length < 4 then some (refused .lengthMismatch 0)
    else if p.length ≠ ceilDiv (4 + fld p 0 2 * e) 4 * 4 then some (refused .lengthMismatch ((p.length - 4) / e))
    else firstRej [need (decide (fld p 0 2 ≠ 0)) (rangeAt 0), rsvOk p 2 2]
  | .sized base off width item =>
    if p.length < off + width then some (refused .lengthMismatch ((off + width + 3) / 4))
    else
      let words := ceilDiv (base + fld p off width * item) 4
      need (decide (p.length = words * 4)) (refused .lengthMismatch words)

/-- A logical port field of 2 bytes (R58, R311, R2): RANGE above 383, DIE_ABSENT, BREAKOUT_MISMATCH. `d` is the detail of
the last two, and `p` the projected configuration. -/
def lportField (p : State) (v off d : Nat) : Option Rej :=
  firstRej [need (decide (v < 384)) (rangeAt off), need (decide (portOf v < p.part.ports)) (refused .dieAbsent d),
    need (p.provided v) (refused .breakoutMismatch d)]

/-- A port field of 1 byte (R311, R2). -/
def portField (p : State) (v off d : Nat) : Option Rej :=
  firstRej [need (decide (v < 96)) (rangeAt off), need (decide (v < p.part.ports)) (refused .dieAbsent d)]

/-- A CORE die field of 1 byte. -/
def coreField (p : State) (v off d : Nat) : Option Rej :=
  firstRej [need (decide (v < 2)) (rangeAt off), need (decide (v < p.part.cores)) (refused .dieAbsent d)]

/-- Checks made on each entry of a list, in entry order; the offset of an entry within the parameters is given. -/
def eachEntry (off size : Nat) (check : Nat → List Byte → Option Rej) : List (List Byte) → Option Rej
  | [] => none
  | e :: r => match check off e with
    | some x => some x
    | none => eachEntry (off + size) size check r

/-- The ready functions that a command needs, as bit numbers in the order they are judged (R313): a die that the part
does not have is passed over, since R2 names DIE_ABSENT for it. -/
inductive Need where
  | fn (bit : Nat)
  | core
  | coreDie (die : Nat)
  | lanes (port : Nat)
  deriving DecidableEq, Repr

/-- The refusal of a need that is not met: NOT_READY with the bit number (R291 step 8). -/
def needRej (s : State) : Need → Option Rej
  | .fn b => need (s.ready b) (refused .notReady b)
  | .core => (s.coreDies.find? (fun d => !s.ready (5 + d))).map (fun d => refused .notReady (5 + d))
  | .coreDie d => if d < s.part.cores then need (s.ready (5 + d)) (refused .notReady (5 + d)) else none
  | .lanes p => if p < s.part.ports then need (s.ready (32 + p)) (refused .notReady (32 + p)) else none

/-- The CORE die that owns the logical port of a field. -/
def dieOfField (s : State) (p : List Byte) (off : Nat) : List Need :=
  if p.length < off + 2 then [] else
    let l := fld p off 2
    if portOf l < s.part.ports then [.coreDie (s.coreOfLport l)] else []

/-- The Needs column of an opcode (R313), and CAUSEWAY for MODE_SET SERVICE (R366); a field that LENGTH leaves out names nothing (R443). -/
def Op.needs (o : Op) (s : State) (p : List Byte) : List Need :=
  let byte := fun (off : Nat) (f : Nat → Need) => if p.length ≤ off then [] else [f (fld p off 1)]
  let lanesLport := if p.length < 2 then [] else [Need.lanes (portOf (fld p 0 2))]
  match o with
  | .vigilRead | .vigilScratch => [.fn 0]
  | .tableRestore | .poolsConfig | .poolsEnable => byte 0 .coreDie
  | .bufferStatus => byte 4 .coreDie
  | .portBreakout | .laneTxEq | .laneRxConfig | .prbsConfig | .prbsStatus | .timingConfig | .linkAsym | .axStatus =>
    byte 0 .lanes
  | .axConfig | .ptpPortConfig => byte 0 .lanes ++ [.fn 3]
  | .portConfig | .portDisable | .lanePower | .laneLoop | .fecHistogram => lanesLport
  | .l2Write | .l2Delete | .lpmWrite | .lpmDelete | .nexthopWrite | .ecmpWrite | .aclWrite | .aclDelete | .mcgroupWrite
  | .classMaps | .mirrorSession | .puntConfig | .ecmpSeed | .tableRead | .tableUsage | .mcastConfig => [.core]
  | .lportFwdConfig | .queueConfig | .pfcConfig | .portHold | .calendarWrite | .calendarDisable | .calendarRead
  | .calendarStatus | .schedConfig | .deadlineBudget => dieOfField s p 0
  | .calendarEnable => dieOfField s p 0 ++ [.fn 3]
  | .timeGet | .timeSet | .timeStep | .timeStepCancel | .timeAcceptJump | .timeThresholds | .timeScale | .compareClaim
  | .compareArm | .compareDisarm | .compareRelease | .compareStatus | .ptpClockConfig | .ptpStatus | .hierConfig
  | .enroll | .releaseWorker | .fabricKeyRoll | .hierEpochs | .enrollReq | .announceStep | .announceTimescale
  | .announceEpochs | .announceSettings | .announceKey => [.fn 3]
  | .reftableWrite | .refMonitorConfig | .dpllConfig | .refForce | .refClear | .refStatus | .dpllStatus | .rampProfile
  | .rampStart | .rampStatus | .clkOutConfig | .lanePllConfig | .tioClaim | .tioRelease | .tdcConfig | .tdcDisable
  | .tdcStatus | .tdcResult | .testBist => [.fn 2]
  | .reftableEnable | .tdcEnable => [.fn 2, .fn 3]
  | .counterRead | .snapshotConfig | .snapshotNow | .filterConfig | .stickyClear | .tagConfig => [.fn 9]
  | .recorderRead | .recorderFreeze | .recorderConfig | .recorderStatus => [.fn 8]
  | .calExport | .calStage | .calImport | .calWrite | .calStatus | .keyProvision | .fabricKeySet => [.fn 1]
  | .modeSet => if decide (1 ≤ p.length ∧ fld p 0 1 = 4) then [.fn 4] else []
  | .deviceInfo | .rowClaim | .rowYield | .cmdSync | .cmdStatus | .mgmtConfig | .modeStatus | .avsRequest
  | .avsStatus | .shedConfig | .padRelease | .dormantConfig | .portEnable | .portStatus | .laneStatus | .ethertypes
  | .clockStatus | .hierStatus | .release | .testStatus => []

/-- The needs of an opcode include ALMANAC (R298). -/
def Op.needsAlmanac (o : Op) : Bool :=
  match o with
  | .axConfig | .ptpPortConfig | .calendarEnable | .timeGet | .timeSet | .timeStep | .timeStepCancel | .timeAcceptJump
  | .timeThresholds | .timeScale | .compareClaim | .compareArm | .compareDisarm | .compareRelease | .compareStatus
  | .ptpClockConfig | .ptpStatus | .hierConfig | .enroll | .releaseWorker | .fabricKeyRoll | .hierEpochs | .enrollReq
  | .announceStep | .announceTimescale | .announceEpochs | .announceSettings | .announceKey | .reftableEnable
  | .tdcEnable => true
  | _ => false

/-- TOTAL and RETURNED of an R316 list, then the entries from START that fit in `room` bytes, each of `size` bytes. -/
def listReply (start room size : Nat) (items : List (List Byte)) : List Byte :=
  let fit := (items.drop start).take ((room - 8) / size)
  toBe 4 items.length ++ toBe 4 fit.length ++ fit.flatten

end Sys2Proof
end

