-- ==== Sys2Proof/Machine/BufferCommands.lean ====
section
/-! DEFINITION. Families 0x04 and 0x05, buffers, calendars and deadline service (04_buffers_and_queues,
05_scheduled_and_deadline_service, Tables 13.6 and 13.7): the checks, effects and replies of their commands. -/

namespace Sys2Proof.Machine

/-! ### Pools -/

/-- POOLS_CONFIG. -/
def checkPoolsConfig (r : Req) (p _s : State) : Option Rej :=
  let q := r.params
  firstRej [coreField p (fld q 0 1) 0 0, rsvOk q 1 3, (List.range 6).findSome? (fun i => within q (4 + 4 * i) 4 0 524288),
    (List.range 7).findSome? (fun i => within q (28 + i) 1 0 3), rsvOk q 35 1]

/-- A pool set from the parameters of POOLS_CONFIG. -/
def poolSetOf (q : List Byte) : PoolSet :=
  { sizes := (List.range 6).map (fun i => fld q (4 + 4 * i) 4), classMap := (List.range 7).map (fun i => fld q (28 + i) 1) }

/-- The parameters of POOLS_CONFIG for a pool set. -/
def poolSetBytes (d : Nat) (v : PoolSet) : List Byte :=
  [BitVec.ofNat 8 d, 0, 0, 0] ++ v.sizes.flatMap (toBe 4) ++ v.classMap.flatMap (toBe 1) ++ [0]

/-- POOLS_CONFIG takes effect at acceptance (R95, R297). -/
def pendPoolsConfig (r : Req) (s : State) : State :=
  { s with fwd.poolsPending := tput s.fwd.poolsPending (fld r.params 0 1) (poolSetOf r.params) }

/-- The pending pool set of a die. -/
def State.poolPending (s : State) (d : Nat) : PoolSet := tget s.fwd.poolsPending d {}

/-- POOLS_ENABLE (R95). -/
def checkPoolsEnable (r : Req) (p s : State) : Option Rej :=
  let d := fld r.params 0 1
  let v := s.poolPending d
  firstRej [coreField p d 0 0, rsvOk r.params 1 3, need (decide (v.sizes.sum ≤ 524288)) (refused .poolOvercommit d),
    ((List.range 7).find? (fun c => decide (getAt v.sizes (getAt v.classMap c 0) 0 = 0))).map
      (fun c => refused .configIncomplete c),
    if getAt v.sizes 4 0 = 0 then
      (p.fwd.pfc.find? (fun e => decide (e.2.lossless ≠ 0))).map (fun e => refused .configIncomplete e.1)
    else none]

/-- What POOLS_ENABLE stages at acceptance: the pending set as checked, in the layout of POOLS_CONFIG. -/
def stagePoolsEnable (r : Req) (s : State) : Req :=
  { r with params := poolSetBytes (fld r.params 0 1) (s.poolPending (fld r.params 0 1)) }

/-- POOLS_ENABLE at its commit milestone (R95, R96). -/
def applyPoolsEnable (r : Req) (_c : Nat) (s : State) : State :=
  { s with fwd.pools := tput s.fwd.pools (fld r.params 0 1) (poolSetOf r.params) }

/-! ### Queues, PFC, holds -/

/-- QUEUE_CONFIG (R103 to R105). -/
def checkQueueConfig (r : Req) (p _s : State) : Option Rej :=
  let q := r.params
  let ecn := fld q 4 1
  firstRej [lportField p (fld q 0 2) 0 0, within q 2 1 0 6, need (decide (-7 ≤ sfld q 3 1 ∧ sfld q 3 1 ≤ 3)) (rangeAt 3),
    within q 4 1 0 2, rsvOk q 5 1,
    if ecn = 0 then none
    else firstRej [within q 6 2 0 256,
      if ecn = 1 then firstRej [within q 8 4 0 524288, within q 12 4 0 524288]
      else firstRej [within q 8 4 1 4294967295, within q 12 4 1 4294967295],
      need (decide (fld q 8 4 < fld q 12 4)) (rangeAt 8)]]

/-- QUEUE_CONFIG at its commit milestone. -/
def applyQueueConfig (r : Req) (_c : Nat) (s : State) : State :=
  let q := r.params
  let v : QueueCfg := { k := sfld q 3 1, ecn := fld q 4 1, pmax := fld q 6 2, min := fld q 8 4, max := fld q 12 4 }
  { s with fwd.queues := tput s.fwd.queues (8 * fld q 0 2 + fld q 2 1) v }

/-- PFC_CONFIG (R99, R95). -/
def checkPfcConfig (r : Req) (p _s : State) : Option Rej :=
  let q := r.params
  firstRej [lportField p (fld q 0 2) 0 0, rsvOk q 3 1, (List.range 7).findSome? (fun i => within q (4 + i) 1 0 7), rsvOk q 11 1,
    need (decide (fld q 16 4 ≤ fld q 12 4)) (rangeAt 16), within q 20 2 1 65535, rsvOk q 22 2,
    need (decide (fld q 2 1 = 0) || p.coreDies.all (fun d => decide (p.poolSize d 4 ≠ 0)))
      (refused .configIncomplete (fld q 0 2))]

/-- PFC_CONFIG at its commit milestone: XON goes out for a priority that loses its lossless enable while XOFF stands
(R100). -/
def applyPfcConfig (r : Req) (_c : Nat) (s : State) : State :=
  let q := r.params
  let l := fld q 0 2
  let v : PfcCfg :=
    { lossless := fld q 2 1, classMap := (List.range 7).map (fun i => fld q (4 + i) 1), xoff := fld q 12 4, xon := fld q 16 4
      quanta := fld q 20 2, headroom := (List.range 8).map (fun i => fld q (24 + 2 * i) 2) }
  let s := { s with fwd.pfc := tput s.fwd.pfc l v }
  (List.range 8).foldl (fun s p =>
    let st := s.pfcPort l p
    if st.due && !bit v.lossless p then
      let s' := s.setPfcPort l p { st with due := false, xoffSent := false }
      if st.xoffSent && (s.lp l).up then sendPfc l p 0 s' else s'
    else pfcCheck l p s) s

/-- PORT_HOLD (R106). -/
def checkPortHold (r : Req) (p _s : State) : Option Rej :=
  firstRej [lportField p (fld r.params 0 2) 0 0, rsvOk r.params 2 2, within r.params 4 4 0 100000]

/-- PORT_HOLD at its commit milestone. -/
def applyPortHold (r : Req) (_c : Nat) (s : State) : State :=
  { s with fwd.holds := tput s.fwd.holds (fld r.params 0 2) (fld r.params 4 4) }

/-- MCAST_CONFIG (R113). -/
def checkMcastConfig (r : Req) (p _s : State) : Option Rej :=
  firstRej [rsvOk r.params 1 3, need (decide (p.part.cores = 2)) (refused .dieAbsent 1)]

/-- MCAST_CONFIG at its commit milestone. -/
def applyMcastConfig (r : Req) (_c : Nat) (s : State) : State := { s with fwd.residueLimit := fld r.params 0 1 }

/-- BUFFER_STATUS. -/
def checkBufferStatus (r : Req) (p _s : State) : Option Rej :=
  firstRej [coreField p (fld r.params 4 1) 4 0, within r.params 5 1 0 3, rsvOk r.params 6 2]

/-- BUFFER_STATUS: the sections of R322. -/
def readBufferStatus (r : Req) (room : Nat) (s : State) : List Byte × State :=
  let q := r.params
  let d := fld q 4 1
  let mine := s.allLports.filter (fun l => decide (s.coreOfLport l = d))
  (match fld q 5 1 with
   | 0 => listReply (fld q 0 4) room 8 ((List.range 6).map (fun p =>
       toBe 4 (s.poolUse d p) ++ toBe 4 (tget s.fwd.peaks (6 * d + p) 0)))
   | 1 => listReply (fld q 0 4) room 8 (mine.flatMap (fun l => (List.range 8).map (fun c =>
       toBe 2 l ++ toBe 1 c ++ [0] ++ toBe 4 (s.queueLen l c))))
   | 2 => listReply (fld q 0 4) room 8 ((s.lines d 0).map (fun k =>
       toBe 1 k.1 ++ toBe 1 k.2.2 ++ toBe 2 k.2.1 ++ toBe 4 (s.line k.1 k.2.1 k.2.2).length))
   | _ => listReply (fld q 0 4) room 12 (mine.flatMap (fun l => (List.range 8).map (fun p =>
       toBe 2 l ++ toBe 1 p ++ toBe 1 (flag (s.pfcPort l p).xoffSent) ++ toBe 4 (s.pfcCells l p) ++
       toBe 4 (s.headroomCells l p)))), s)

/-! ### Calendars -/

/-- The entries that CALENDAR_WRITE carries. -/
def calendarEntries (q : List Byte) : List Nat := (List.range (fld q 10 2)).map (fun i => fld q (36 + 2 * i) 2)

/-- The reserved bits [6:3] of a calendar entry are 0. -/
def entryOk (v : Nat) : Bool := decide (v / 8 % 16 = 0)

/-- CALENDAR_WRITE (R117). -/
def checkCalendarWrite (r : Req) (p s : State) : Option Rej :=
  let q := r.params
  let n := fld q 10 2
  firstRej [lportField p (fld q 0 2) 0 0, within q 2 2 1 4096, need (decide (fld q 2 2 ≤ fld q 4 4)) (rangeAt 4),
    need (decide (fld q 8 2 ≤ fld q 2 2)) (rangeAt 8),
    need (decide (n ≤ 2028 ∧ fld q 8 2 + n ≤ fld q 2 2)) (rangeAt 10),
    need (entryOk (fld q 12 2) && !bit (fld q 12 2) 15) (rangeAt 12), within q 14 2 64 16320, within q 16 1 1 255, rsvOk q 17 3,
    (List.range 8).findSome? (fun i => within q (20 + 2 * i) 2 0 1023),
    (List.range n).findSome? (fun i => need (entryOk (fld q (36 + 2 * i) 2)) (rangeAt (36 + 2 * i))),
    need (decide (n % 2 = 0 ∨ fld q (36 + 2 * n) 2 = 0)) (rangeAt (36 + 2 * n)),
    need (decide (tfind s.fwd.swaps (fld q 0 2) = none)) (refused .gateActive (fld q 0 2))]

/-- CALENDAR_WRITE takes effect on the shadow at acceptance (R116, R323). -/
def pendCalendarWrite (r : Req) (s : State) : State :=
  let q := r.params
  let l := fld q 0 2
  let es := (calendarEntries q).zipIdx.foldl (fun t e => tput t (fld q 8 2 + e.2) e.1) (s.shadowOf l).entries
  let v : Calendar :=
    { n := fld q 2 2, e := fld q 4 4, entries := es, idle := fld q 12 2, minFrame := fld q 14 2, windowLimit := fld q 16 1
      offsets := (List.range 8).map (fun i => fld q (20 + 2 * i) 2) }
  { s with fwd.shadow := tput s.fwd.shadow l v }

/-- The lowest compare unit that neither the device nor a pending commit claims. -/
def freeUnit (p s : State) : Option Nat := (List.range 32).find? (fun u => !(s.unit u).claimed && !(p.unit u).claimed)

/-- CALENDAR_ENABLE (R126), in the order of that rule. -/
def checkCalendarEnable (r : Req) (p s : State) : Option Rej :=
  let l := fld r.params 0 2
  let c := s.shadowOf l
  let d := p.coreOfLport l
  firstRej [need (decide (l < 384)) (rangeAt 0), rsvOk r.params 2 2, need s.timeValid (refused .timeInvalid l),
    need (decide (portOf l < p.part.ports)) (refused .dieAbsent 0), need (p.provided l) (refused .breakoutMismatch l),
    need (!decide (p.poolSize d 5 = 0) || c.gated.isEmpty) (refused .configIncomplete l),
    (c.windows.find? (fun w => decide (c.duration w < wireTime (p.gbps l) c.minFrame))).map
      (fun w => refused .calendarOverrun w.1),
    need ((s.epochUnit c.e).isSome || (freeUnit p s).isSome) (refused .tableFull l)]

/-- CALENDAR_ENABLE while a swap is pending (R126). -/
def busyCalendarEnable (r : Req) (_p s : State) : Option Rej :=
  (tfind s.fwd.swaps (fld r.params 0 2)).map (fun w => busy .refConflict (w.at_.toNat % 65536))

/-- The swap milestone of a CALENDAR_ENABLE that commits at `n` (R127): the first multiple of the new epoch at or after
`n` and at or after the end of the N slots of the active calendar's cycle at `n`. -/
def swapMilestone (s : State) (l n : Nat) : Nat :=
  let e := (s.shadowOf l).e
  let m := match s.calendar l with
    | some c => max n (n / c.e * c.e + c.n)
    | none => n
  ceilDiv m e * e

/-- CALENDAR_ENABLE at acceptance (R127, R128): the swap is pending, and the epoch's unit is claimed and armed. -/
def acceptCalendarEnable (r : Req) (n : Milestone) (p s : State) : Milestone × State :=
  let l := fld r.params 0 2
  let c := swapMilestone s l n.toNat
  let e := (s.shadowOf l).e
  let s := match s.epochUnit e, freeUnit p s with
    | none, some u =>
      s.setUnit u { claimed := true, function := 4, armed := true, periodic := true, target := BitVec.ofNat 80 (c * slotUnits)
                    period := e * slotUnits }
    | _, _ => s
  let idle := match s.calendar l with
    | some k => n.toNat / k.e * k.e + k.n
    | none => c
  (BitVec.ofNat 56 c,
    { s with fwd.swaps := tput s.fwd.swaps l { at_ := BitVec.ofNat 56 c, idleFrom := BitVec.ofNat 56 idle } })

/-- A command on one logical port with two bytes of padding. -/
def checkLportOnly (r : Req) (p _s : State) : Option Rej :=
  firstRej [lportField p (fld r.params 0 2) 0 0, rsvOk r.params 2 2]

/-- CALENDAR_DISABLE at its commit milestone (R129): a pending swap is cancelled, and the removal waits for a cycle start. -/
def applyCalendarDisable (r : Req) (_c : Nat) (s : State) : State :=
  let l := fld r.params 0 2
  let s := { s with fwd.swaps := tdel s.fwd.swaps l }
  let s := releaseEpochs s
  if (s.calendar l).isSome then removalNow l { s with fwd.removals := tput s.fwd.removals l s.ms } else s

/-- CALENDAR_READ. -/
def checkCalendarRead (r : Req) (p _s : State) : Option Rej :=
  firstRej [lportField p (fld r.params 0 2) 0 0, within r.params 2 1 0 1, rsvOk r.params 3 1]

/-- CALENDAR_READ: the parameters of CALENDAR_WRITE for the calendar selected. -/
def readCalendar (r : Req) (room : Nat) (s : State) : List Byte × State :=
  let q := r.params
  let l := fld q 0 2
  let first := fld q 4 2
  match if fld q 2 1 = 1 then some (s.shadowOf l) else s.calendar l with
  | none => (List.replicate 36 0, s)
  | some c =>
    let n := min (min (first + fld q 6 2) c.n - first) ((room - 36) / 2)
    (toBe 2 l ++ toBe 2 c.n ++ toBe 4 c.e ++ toBe 2 first ++ toBe 2 n ++ toBe 2 c.idle ++ toBe 2 c.minFrame ++
      toBe 1 c.windowLimit ++ [0, 0, 0] ++ c.offsets.flatMap (toBe 2) ++
      (List.range n).flatMap (fun i => toBe 2 (c.entry (first + i))), s)

/-- CALENDAR_STATUS. -/
def readCalendarStatus (r : Req) (_room : Nat) (s : State) : List Byte × State :=
  let l := fld r.params 0 2
  let swap := tfind s.fwd.swaps l
  let e := match s.calendar l with
    | some c => some c.e
    | none => swap.map (fun _ => (s.shadowOf l).e)
  let entry := (s.governs l s.ms).1.getD 0xFFFF
  (toBe 1 (match s.calendar l, swap with | none, none => 0 | some _, none => 1 | some _, some _ => 2 | none, some _ => 3) ++
   toBe 1 ((e.bind s.epochUnit).getD 0xFF) ++ toBe 2 entry ++ [0, 0, 0, 0] ++ toBe 8 ((swap.map (·.at_.toNat)).getD 0), s)

/-- SCHED_CONFIG (R133, R135). -/
def checkSchedConfig (r : Req) (p _s : State) : Option Rej :=
  let q := r.params
  firstRej [lportField p (fld q 0 2) 0 0, within q 2 1 0 15, rsvOk q 3 1,
    (List.range 4).findSome? (fun i => within q (4 + i) 1 1 255), rsvOk q 14 2]

/-- SCHED_CONFIG at its commit milestone. -/
def applySchedConfig (r : Req) (_c : Nat) (s : State) : State :=
  let q := r.params
  let v : SchedCfg := { strict := fld q 2 1, weights := (List.range 4).map (fun i => fld q (4 + i) 1)
                        tolerance := (List.range 3).map (fun i => fld q (8 + 2 * i) 2) }
  { s with fwd.sched := tput s.fwd.sched (fld q 0 2) v }

/-- DEADLINE_BUDGET (R131). -/
def checkDeadlineBudget (r : Req) (p _s : State) : Option Rej :=
  let q := r.params
  firstRej [lportField p (fld q 0 2) 0 0, rsvOk q 2 2, (List.range 3).findSome? (fun i => within q (4 + 4 * i) 4 1 4294967295)]

/-- DEADLINE_BUDGET at its commit milestone. -/
def applyDeadlineBudget (r : Req) (_c : Nat) (s : State) : State :=
  let q := r.params
  { s with fwd.budgets := tput s.fwd.budgets (fld q 0 2) ((List.range 3).map (fun i => fld q (4 + 4 * i) 4)) }

end Sys2Proof.Machine
end

