-- ==== Sys2Proof/Machine/MeasureOps.lean ====
section
/-! DEFINITION. TDC channels (11_time_interval_measurement): stamps, queues, gates, the fit and its report. -/

namespace Sys2Proof.Machine

/-- A quotient whose rounding the spec leaves open: rounded down, or up when it is not whole (log entry 29). -/
def openDiv (a : Int) (b : Nat) (s : State) : Int × State :=
  if b = 0 then (0, s)
  else if a % b = 0 then (a / b, s)
  else
    let (up, s) := drawBit s
    (if up then a / b + 1 else a / b, s)

/-- The AT80 instants at which window `k` of a channel starts and stops (R275). -/
def TdcCfg.window (c : TdcCfg) (k : Nat) : AT80 × AT80 :=
  let d := BitVec.ofNat 80 (k * c.period * 65536)
  (c.start + d, c.stop + d)

/-- A count has reached an instant (R11). -/
def reached (count target : AT80) : Bool := decide (0 ≤ sdiff count target)

/-- A gate of a channel opens at an instant (R275). -/
def openGate (n : Nat) (at_ : AT80) (mono : Nat) (s : State) : State :=
  let c := s.chan n
  if !c.enabled || c.gate.isSome then s
  else s.setChan n { c with gate := some {
    opened := at_, openedMono := mono, lostBefore := c.lostPending, edgeBefore := c.lastEdge, tv := s.timeValid } }

/-- A gate of a channel closes at an instant; its report follows (R281). -/
def closeGate (n : Nat) (at_ : AT80) (mono : Nat) (closed : Bool) (s : State) : State :=
  let c := s.chan n
  match c.gate with
  | none => s
  | some g =>
    s.setChan n { c with gate := none, gateSeq := c.gateSeq + 1
                         closing := c.closing ++ [({ g with tv := g.tv && s.timeValid }, at_, mono, closed)] }

/-- The first window of a series, from one on, whose gate has not closed (R276). -/
def freeWindow (closed : List Nat) (k : Nat) : Nat :=
  ((List.range (closed.length + 1)).find? (fun i => !closed.contains (k + i))).map (k + ·) |>.getD k

/-- The window series of a channel moves on after a window (R275). -/
def windowOver (n : Nat) (s : State) : State :=
  let c := s.chan n
  if c.cfg.period = 0 then s.setChan n { c with done := true }
  else
    let closed := c.window :: c.closed
    s.setChan n { c with closed := closed, window := freeWindow closed (c.window + 1) }

/-- A channel stops (R278, R279): an open gate closes now and its report carries CLOSED. -/
def disableChannel (n : Nat) (s : State) : State :=
  let s := closeGate n s.time.count s.time.mono true s
  s.setChan n { s.chan n with enabled := false }

/-- Every enabled channel is disabled (R279). -/
def disableChannels (s : State) : State :=
  (List.range 16).foldl (fun s n => if (s.chan n).enabled then disableChannel n s else s) s

/-- A channel is enabled at its commit milestone (R275, R277). -/
def enableChannel (n : Nat) (source : Source) (s : State) : State :=
  let c := s.chan n
  let s := s.setChan n { c with enabled := true, source := some source, window := 0, closed := [], done := false }
  if c.cfg.arm = 0 then openGate n s.time.count s.time.mono s else s

/-- What the calibration set makes of a raw stamp of a pin, in 2^-16 ns rounded down (R270, Table 16.3): TDC_LAT `k` is taken off and
TDC_LIN of the fine code added on a channel; the raw stamp is the edge with the latency that the factory set corrects (log entry 27). -/
def tdcShift (k : Nat) (s : State) : Int :=
  let fine := (Config.fineCode (s.time.count.setWidth 16)).toNat
  let lin := if k < 16 then calValue s.cal.set 6 (256 * k + fine) else 0
  (lin - calValue s.cal.set 7 k) * 65536 / 1000000

/-- A transition on pin `k` of item 7 is stamped: the stamp holds AT80 to 2^-12 ns (R270). -/
def stampOf (k : Nat) (s : State) : AT80 := ((s.time.count + BitVec.ofInt 80 (tdcShift k s)) >>> 4) <<< 4

/-- The same stamp on the monotonic counter (R280). -/
def stampMono (k : Nat) (s : State) : Nat := ((s.time.mono : Int) + tdcShift k s).toNat / 16 * 16

/-- A stamp record (Table 11.1). -/
def stampRecord (s : State) (n : Nat) (falling : Bool) (lost : Nat) : List Byte :=
  toBe 10 (stampOf n s).toNat ++
  [BitVec.ofNat 8 (n * 16 + flag falling * 8 + flag (decide (lost ≠ 0)) * 4 + flag s.timeValid * 2 + flag s.time.rotating)] ++
  toBe 1 s.time.stepCount.toNat ++ toBe 4 (satNat 32 lost)

/-- A transition of a gate pin (R275): it opens or closes the gates of the channels it serves. -/
def gateEdge (pin : Nat) (level : Bool) (s : State) : State :=
  (List.range 16).foldl (fun s n =>
    let c := s.chan n
    if !c.enabled || decide (c.cfg.arm ≠ 1 ∨ c.cfg.gatePin ≠ pin) then s
    else if level != c.cfg.activeLow then openGate n (stampOf (16 + pin) s) (stampMono (16 + pin) s) s
    else match c.gate with
      | none => s
      | some g =>
        if stampMono (16 + pin) s < g.openedMono + 655360 then
          s.setChan n { c with gate := none, queue := c.queue.take (c.queue.length - g.queued), lostPending := g.lostBefore
                               lastEdge := g.edgeBefore }
        else closeGate n (stampOf (16 + pin) s) (stampMono (16 + pin) s) false s) s

/-- A WINDOW gate opens once the count, or the stamp of an edge, has reached its start and not its stop (R275, R276). -/
def windowOpen (n : Nat) (t : AT80) (s : State) : State :=
  let c := s.chan n
  let (a, b) := c.cfg.window c.window
  if c.enabled && !c.done && decide (c.cfg.arm = 2) && reached t a && !reached t b then
    openGate n a (s.time.mono - (sdiff s.time.count a).toNat) s
  else s

/-- A WINDOW gate closes once the count, or the stamp of an edge, has reached its stop (R275, R276). -/
def windowClose (n : Nat) (t : AT80) (s : State) : State :=
  let c := s.chan n
  let (_, b) := c.cfg.window c.window
  if c.enabled && c.gate.isSome && decide (c.cfg.arm = 2) && reached t b then
    windowOver n (closeGate n b (s.time.mono - (sdiff s.time.count b).toNat) false s)
  else s

/-- An edge arrives on a channel (R270 to R274, R280): a stamp at or after a window's stop belongs to the next gate (R275). -/
def takeEdge (n : Nat) (falling : Bool) (s : State) : State :=
  let c := s.chan n
  if !c.enabled || decide ((c.cfg.edgeSel = 0 ∧ falling = true) ∨ (c.cfg.edgeSel = 1 ∧ falling = false)) then s
  else
  let s := if c.cfg.arm = 2 then windowOpen n (stampOf n s) (windowClose n (stampOf n s) s) else s
  let c := s.chan n
  match c.gate with
  | none => s
  | some g =>
    if (c.lastEdge.map (fun t => decide (s.time.mono < t + 262144))).getD false then
      countDevice (15 + n) (s.setChan n { c with gate := some { g with spacing := true } })
    else
      let sat := decide (4294967295 ≤ g.edges)
      let fit := c.cfg.fit && !sat
      let g1 := { g with edges := g.edges + 1, stamps := if fit then stampMono n s :: g.stamps else g.stamps
                         saturated := g.saturated || (c.cfg.fit && sat) }
      let c1 := { c with lastEdge := some s.time.mono, gate := some g1 }
      if g.edges % c.cfg.decimation ≠ 0 then s.setChan n c1
      else if 4096 ≤ c.queue.length then
        s.setChan n { c1 with lostPending := satNat 32 (c.lostPending + 1), gate := some { g1 with lost := satNat 32 (g1.lost + 1) } }
      else
        s.setChan n { c1 with queue := c.queue ++ [stampRecord s n falling c.lostPending], lostPending := 0
                              gate := some { g1 with queued := g1.queued + 1 } }

/-- The first window of a periodic series whose stop lies after a count (R276). -/
def firstWindow (c : TdcCfg) (count : AT80) : Nat :=
  let d := sdiff count c.stop
  if d < 0 then 0 else d.toNat / (c.period * 65536) + 1

/-- What a move of the count does to the gates (R276, R280): open gates carry STEP; a window whose stop a forward step
passes closes at the step; a once window left wholly in the past is reported with N = 0. -/
def stepGates (old : AT80) (s : State) : State :=
  let now := s.time.count
  let forward := decide (0 < sdiff now old)
  (List.range 16).foldl (fun s n =>
    let c := s.chan n
    let s := match c.gate with
      | some g => s.setChan n { c with gate := some { g with stepped := true } }
      | none => s
    if !c.enabled || decide (c.cfg.arm ≠ 2) || c.done then s
    else
      let past := reached now (c.cfg.window c.window).2
      let s := if c.gate.isSome then
          (if forward && past then windowOver n (closeGate n now s.time.mono false s) else s)
        else if decide (c.cfg.period = 0) && past then
          let s := openGate n now s.time.mono s
          let s := match (s.chan n).gate with
            | some g => s.setChan n { s.chan n with gate := some { g with stepped := true } }
            | none => s
          windowOver n (closeGate n now s.time.mono false s)
        else s
      let c := s.chan n
      if c.gate.isNone && decide (c.cfg.period ≠ 0) then s.setChan n { c with window := freeWindow c.closed (firstWindow c.cfg now) }
      else s) s

/-! ### The fit -/

/-- The least-squares line through stamps `t_k` in order (R280): N, the slope as a fraction, and the sum of the stamps.
The slope is `num / den` units of 2^-16 ns. -/
def fitLine (ts : List Int) : Nat × Int × Int × Int :=
  let n := ts.length
  let sk : Int := (List.range n).foldl (fun (a : Int) (k : Nat) => a + (k : Int)) 0
  let st := ts.foldl (· + ·) 0
  let skk : Int := (List.range n).foldl (fun (a : Int) (k : Nat) => a + (k : Int) * (k : Int)) 0
  let skt := (ts.zipIdx).foldl (fun (a : Int) (e : Int × Nat) => a + (e.2 : Int) * e.1) 0
  (n, (n : Int) * skt - sk * st, (n : Int) * skk - sk * sk, st)

/-- The fitted figures of a gate (Table 11.3): FIT_STAMP, PERIOD, FOFFSET, RESID_RMS, RESID_MAX. The last digit of each is
open where the figure is not whole (log entry 29). -/
def fitFigures (nominal : Nat) (g : Gate) (close : AT80) (closeMono : Nat) (s : State) : (List Byte) × State :=
  let ts : List Int := g.stamps.reverse.map (fun (t : Nat) => (t : Int) - (closeMono : Int))
  let (n, num, den, st) := fitLine ts
  if n < 3 ∨ num ≤ 0 then (List.replicate 36 0, s)
  else
    let sk : Int := (n : Int) * (n - 1) / 2
    let nd := n * den.toNat
    let kc : Int := (n - 1) / 2
    let (mid, s) := openDiv (st * den + num * ((n : Int) * kc - sk)) nd s
    let (period, s) := openDiv (num * 4294967296) den.toNat s
    let (foff, s) :=
      if nominal = 0 then ((0 : Int), s)
      else openDiv ((1000000000 * 65536 * den - nominal * num) * 1000000000000000000) (nominal * num.toNat) s
    let rs := ts.zipIdx.map (fun (e : Int × Nat) => (e.1 * n * den - st * den - num * ((n : Int) * (e.2 : Int) - sk)).natAbs)
    let sq := (rs.map (fun r => r * r)).sum
    let (ms, s) := openDiv ((sq * 1000000 * 1000000 : Nat) : Int) (n * nd * nd * 65536 * 65536) s
    let root := isqrt ms.toNat
    let (up, s) := if root * root = ms.toNat then (false, s) else drawBit s
    let (mx, s) := openDiv ((rs.foldl max 0 * 1000000 : Nat) : Int) (nd * 65536) s
    (toBe 10 (close + BitVec.ofInt 80 mid).toNat ++ toBe 10 period.toNat ++ toBeInt 8 (satInt 64 foff) ++
      toBe 4 (satNat 32 (root + flag up)) ++ toBe 4 (satNat 32 mx.toNat), s)

/-- The report of a gate that has closed (Table 11.3). -/
def gateReport (n seq : Nat) (g : Gate) (close : AT80) (closeMono : Nat) (closed : Bool) (s : State) : List Byte × State :=
  let (fit, s) := fitFigures (s.chan n).cfg.nominal g close closeMono s
  ([BitVec.ofNat 8 (n * 16), BitVec.ofNat 8 (flag g.stepped * 128 + flag g.spacing * 64 + flag g.saturated * 32 + flag closed * 16 +
      flag g.tv * 8)] ++ toBe 2 seq ++ toBe 4 g.stamps.length ++ toBe 4 g.lost ++ toBe 10 g.opened.toNat ++
    toBe 10 close.toNat ++ fit ++ List.replicate 28 0, s)

/-- Stores the reports of the gates of a channel that have closed, and sends TDC_REPORT while CMD is ready (R281). -/
def storeReports (n : Nat) : Nat → State → State
  | 0, s => s
  | fuel + 1, s =>
    let c := s.chan n
    match c.closing with
    | [] => s
    | (g, close, mono, closed) :: rest =>
      let seq := (c.gateSeq.toNat + 65536 - c.closing.length % 65536) % 65536
      let (rep, s) := gateReport n seq g close mono closed s
      let s := s.setChan n { s.chan n with closing := rest, reports := (rep :: c.reports).take 4 }
      storeReports n fuel (if s.ready 10 then notify c.source 0x0908 rep s else s)

end Sys2Proof.Machine
end

