-- ==== Sys2Proof/Machine/TimeOps.lean ====
section
/-! DEFINITION. The Almanac (02_almanac_time): moves and restarts of the count, the compare units, the time-state machine. -/

namespace Sys2Proof.Machine

/-! ### Compare units -/

/-- Target `k` of a unit's series (R48). -/
def Compare.nth (c : Compare) (k : Nat) : AT80 := c.target + BitVec.ofNat 80 (k * c.period)

/-- The target a unit waits for (R48). -/
def Compare.due (c : Compare) : AT80 := c.nth (if c.periodic then c.next else 0)

/-- The first `k` of a series whose target lies after a count (R48, R49). -/
def Compare.after (c : Compare) (count : AT80) : Nat :=
  let d := sdiff count c.target
  if d < 0 then 0 else if c.period = 0 then 0 else d.toNat / c.period + 1

/-- The nanosecond part of an AT80 instant. -/
def nsOf (a : AT80) : BitVec 64 := (a >>> 16).setWidth 64

/-- The nanosecond count has reached a target's (R47, n = 64). -/
def nsReached (count target : AT80) : Bool := decide (0 ≤ sdiff (nsOf count) (nsOf target))

/-- Status word of a compare unit (Table 2.10). -/
def Compare.word (c : Compare) : Nat :=
  flag c.claimed * 2 ^ 31 + flag c.armed * 2 ^ 30 + flag c.fired * 2 ^ 29 + flag c.late * 2 ^ 28 + c.function * 2 ^ 24 +
  c.resource * 2 ^ 16 + c.skipped

/-- A unit drives a pin (Table 2.8). -/
def Compare.drives (c : Compare) : Bool := decide (c.function = 1 ∨ c.function = 2)

/-- A unit's pulse is in progress at a monotonic instant. -/
def Compare.pulsing (c : Compare) (mono : Nat) : Bool := (c.pulseEnd.map (fun t => decide (mono < t))).getD false

/-- The level that a unit drives on its pin (Table 2.9): low until it is armed, then the idle level of its polarity and the other one
in a pulse. -/
def Compare.level (c : Compare) (mono : Nat) : Bool := c.armed && (c.pulsing mono != c.activeLow)

/-- A unit's target fires now: a late one in a slot after that in which it turned late, any other once the count has reached it
(R47). -/
def State.fires (s : State) (c : Compare) : Bool :=
  c.claimed && c.armed && !(c.fired && !c.periodic) && s.time.running &&
  (if c.latePending then decide (s.ms ≠ c.lateSince) else nsReached s.time.count c.due)

/-- How much earlier than its instant an edge of a unit's pin is launched, fs (R370, R376): its OUT_LAT entry, and no correction while
item 8 is not valid or has no entry of the pin. -/
def State.outLat (s : State) (c : Compare) : Int :=
  let i := if c.function = 1 then c.resource else 4 + c.resource
  if bit s.cal.valid 8 && calHas s.cal.set 8 i then calValue s.cal.set 8 i else 0

/-- What a unit's pin shows, which boundary values take the place of while a boundary-scan instruction holds the pins (R426). -/
def State.drive (s : State) (o : Out) : State := if s.board.scan.isSome then s else s.emit o

/-- A firing's pulse (R48): it ends one width of elapsed time after its leading edge; a pulse in progress is extended and not started
again (R49). -/
def firePulse (u : Nat) (edge : AT80) (s : State) : State :=
  let c := s.unit u
  let ends := ((s.time.mono : Int) + sdiff edge s.time.count + (c.width * 65536 : Nat)).toNat
  let s1 := s.setUnit u { c with pulseEnd := some ends }
  if c.pulsing s.time.mono then s1 else s1.drive (.pulse u edge (!c.activeLow) (s.outLat c))

/-- COMPARE_FIRED (R445): `due` is the target that fired. -/
def notifyFired (u : Nat) (due edge : AT80) (s : State) : State :=
  let c := s.unit u
  if c.notify && decide (c.function ≠ 4) then
    notify c.source 0x0615 ([BitVec.ofNat 8 u, 0, 0, 0] ++ toBe 4 c.word ++ toBe 10 due.toNat ++ [0, 0] ++ toBe 10 edge.toNat ++
      [0, 0]) s
  else s

/-- A compare unit fires (R47, R48, R445). DESIGN CHOICE (log entry 57): LATE is the lateness of the
latest firing, so that a periodic unit's next firing on time clears it. -/
def fireUnit (u : Nat) (s : State) : State :=
  let c := s.unit u
  let late := c.latePending
  if !s.fires c then s
  else
    let s := if late then raise .warn 0x2105 [BitVec.ofNat 8 u] { s with time.compareLate := true } else s
    let edge := if late then atOf s.ms else c.due
    let s := s.setUnit u { c with
      fired := !c.periodic, late := late, latePending := false
      next := if c.periodic then (if late then c.after s.time.count else c.next + 1) else c.next }
    notifyFired u c.due edge (if c.drives && !(late && c.lateQuiet) then firePulse u edge s else s)

/-- A pulse ends one width after its leading edge (R48). -/
def endPulse (u : Nat) (s : State) : State :=
  let c := s.unit u
  match c.pulseEnd with
  | none => s
  | some t => if t ≤ s.time.mono then (s.setUnit u { c with pulseEnd := none }).drive (.pulseEnd u c.activeLow (s.outLat c)) else s

/-- A unit stops driving: its pulse in progress ends with it. -/
def stopUnit (c : Compare) : Compare := { c with armed := false, latePending := false, pulseEnd := none }

/-- Every unit whose target the count has reached fires before the count moves: the work of a milestone comes before the step that
applies at it (R43, R50). A wake alarm fires with what it wakes, by `alarmsReached`. -/
def fireReached (s : State) : State :=
  (s.time.compares.map (·.1)).foldl (fun s u =>
    if (s.unit u).latePending || decide ((s.unit u).function = 3) then s else fireUnit u s) s

/-- What a move of the count does to an armed unit (R49). A periodic unit with a late target pending keeps that target. -/
def stepUnit (old new : AT80) (c : Compare) : Compare :=
  let forward := decide (0 < sdiff new old)
  let slot : Milestone := (new >>> 24).setWidth 56
  if !c.armed then c
  else if c.periodic then
    let k := c.after new
    let k0 := if c.latePending then c.after old else c.next
    { c with next := if c.latePending then c.next else k, lateSince := slot
             skipped := if forward && decide (k0 < k) then satNat 16 (c.skipped + (k - k0)) else c.skipped }
  else if c.latePending then { c with lateSince := slot }
  else if forward && !c.fired && decide (0 < sdiff (nsOf new) (nsOf c.target)) then { c with latePending := true, lateSince := slot }
  else c

/-- What a move of the count does to the units (R49). -/
def stepUnits (old new : AT80) (s : State) : State :=
  { s with time.compares := s.time.compares.map (fun e => (e.1, stepUnit old new e.2)) }

/-! ### Moves of the count -/

/-- A phase within half a period of 6.4 ns, in fifths of 2^-16 ns. -/
def wrapLref (x : Int) : Int := if 1048576 < x % 2097152 then x % 2097152 - 2097152 else x % 2097152

/-- The phase that the rotation has still to take out (R221): it moves by 2^-12 ns, 80 fifths, in each LREF cycle of 6.4 ns. -/
def State.rotationLeft (s : State) : Int :=
  let done : Nat := 80 * ((s.time.mono - s.time.rotateFrom) * 5 / 2097152)
  let p := s.time.rotatePhase
  if !s.time.rotating then 0 else if 0 ≤ p then max 0 (p - done) else min 0 (p + done)

/-- The count has moved by an amount (R221): ASYN rotates by what brings the LREF edges back to multiples of 6.4 ns. -/
def rotateAclk (delta : Int) (s : State) : State :=
  let p := wrapLref (s.rotationLeft + 5 * delta)
  { s with time.rotating := decide (p ≠ 0), time.rotatePhase := p, time.rotateFrom := s.time.mono }

/-- ACLK_ROTATION_DONE (R221): the rotation has taken its phase out. -/
def rotationDone (s : State) : State := if s.rotationLeft = 0 then { s with time.rotating := false, time.rotatePhase := 0 } else s

/-- What a move of the count does to snapshots (R382): a forward move that skips a periodic milestone owes one snapshot, at the
first milestone after it; after a backward move a milestone is latched again. -/
def stepSnapshot (before : Milestone) (delta : Int) (s : State) : State :=
  let last := if s.time.count.toNat % slotUnits = 0 then s.ms - 1 else s.ms
  let owed := decide (0 < delta ∧ s.ctr.interval ≠ 0 ∧ before.toNat / s.ctr.interval < last.toNat / s.ctr.interval)
  { s with ctr.latched := none, ctr.skipped := if owed then some last else s.ctr.skipped }

/-- The count moves by a signed amount (R40 to R43, R49, R130, R221, R276): kind 0 step, 1 set, 2 load, 3 accepted jump,
4 announced. -/
def moveCount (kind : Nat) (delta : Int) (s : State) : State :=
  let s := stopOuts (BitVec.ofInt 80 delta) (fireReached s)
  let old := s.time.count
  let before := s.ms
  let new := old + BitVec.ofInt 80 delta
  let s := rotateAclk delta { s with time.count := new, time.stepCount := s.time.stepCount + 1 }
  let s := raise .note 0x2103 (BitVec.ofNat 8 kind :: toBe 10 (BitVec.ofInt 80 delta).toNat) s
  stepGates old (stepCalendars before delta (stepSnapshot before delta (stepUnits old new s)))

/-- A load of the count (Table 2.3): the move, then the state and event TIME_LOADED with its source. TIME_VALID rises with the
loaded count, so that no record holds an AT80 of the count before (R39). -/
def loadCount (value : AT80) (state : TimeState) (kind source entry : Nat) (s : State) : State :=
  let s := moveCount kind (sdiff value s.time.count) s
  raise .note 0x2106 (toBe 10 value.toNat ++ [BitVec.ofNat 8 source, BitVec.ofNat 8 entry]) { s with time.state := state }

/-- The pending step or set (R41): a TIME_STEP or TIME_SET. DESIGN CHOICE (log entry 57): a step that the manager announced is none, so
that it neither shows in STEP_PENDING nor is cancelled by GUARD entry or a restart. -/
def State.pendingStep (s : State) : Option Commit :=
  s.cmd.commits.find? (fun c => decide (c.op = .timeSet ∨ c.op = .timeStep))

/-- The pending step or set is cancelled (R41): cause 0 command, 1 GUARD entry, 2 restart. -/
def cancelStep (cause : Nat) (s : State) : State :=
  match s.pendingStep with
  | none => s
  | some c =>
    raise .warn 0x2104 (ms8 c.ms ++ [BitVec.ofNat 8 cause])
      { s with cmd.commits := s.cmd.commits.filter (fun x => !decide (x.op = .timeSet ∨ x.op = .timeStep)) }

/-- The Vigil coarse time as an AT80 instant (R30, Table 14.9). -/
def State.coarseAt (s : State) : AT80 :=
  BitVec.ofNat 80 (s.coarseNow * 2000000000)

/-- The Almanac stops and returns to UNSET (R30). -/
def stopTime (s : State) : State :=
  { s with time.running := false, time.state := .unset, time.rotating := false, time.loadEntry := none, time.excess := 0
           time.within := 0, time.stoppedAt := if s.time.running then some s.time.count else s.time.stoppedAt }

/-- The count starts (R30): from the coarse time when that is valid, else from 0; a restart cancels a pending step and is
a step for the compare units (R49). -/
def startTime (s : State) : State :=
  let start : AT80 := if s.power.coarseValid then s.coarseAt else 0
  let old := s.time.stoppedAt
  let s := { s with time.running := true, time.count := start, time.stoppedAt := none, time.state := .unset }
  match old with
  | none => s
  | some o => cancelStep 2 (stepGates o (stepUnits o start s))

/-! ### Time offset estimates -/

/-- An entry is a time reference (02): a port entry, or PPS_IN0 or PPS_IN1. -/
def State.timeRef (s : State) (e : Nat) : Bool := decide ((s.refEntry e).kind = 1 ∨ (s.refEntry e).kind = 2)

/-- The selected reference is a time reference. -/
def State.timeSelected (s : State) : Option Nat := s.ref.selected.filter s.timeRef

end Sys2Proof.Machine
end

