-- ==== Sys2Proof/Machine/RefOps.lean ====
section
/-! DEFINITION. References and the DPLL (08_references_and_holdover), and the time offset estimates that drive the
Almanac's state machine (R36 to R38, Table 2.3). Frequencies are in units of 10^-18. -/

namespace Sys2Proof.Machine

/-- One ppb in units of 10^-18. -/
def ppb : Int := 1000000000

/-! ### History and holdover -/

/-- The history samples in use now: 60 s to 60 s + W old (R210, R211). -/
def State.usable (s : State) : List Int :=
  (s.ref.history.filter (fun h =>
    decide (h.1 + 60 * second ≤ s.time.mono ∧ s.time.mono ≤ h.1 + (60 + s.ref.historyW) * second))).map (·.2)

/-- The history is valid (R211). -/
def State.histValid (s : State) : Bool := decide (60 ≤ s.usable.length)

/-- The holdover estimate as of now (R211): the mean of the samples in use. -/
def estimateNow (s : State) : Int × State := openDiv s.usable.sum s.usable.length s

/-- A fault: the samples of the 60 s before it are discarded (R210), the one 60 s old among them (Table 8.7, log entry 42). -/
def histFault (s : State) : State :=
  { s with ref.history := s.ref.history.filter (fun h => decide (h.1 + 60 * second < s.time.mono)) }

/-- A value moved toward 0 by an amount. -/
def toward0 (v : Int) (d : Nat) : Int := if 0 ≤ v then max 0 (v - d) else min 0 (v + d)

/-- The remaining pull offset now (R208): it closes at the slope limit. -/
def State.pullNow (s : State) : Int :=
  if s.ref.pulling then toward0 s.ref.pull (s.ref.slope * (s.time.mono - s.ref.movedAt) / 1000000000000) else s.ref.pull

/-- The output frequency now: the holdover estimate in HOLDOVER, moving to nominal at 1 ppb/s in LOST (R212, R213). -/
def State.freqNow (s : State) : Int :=
  match s.ref.dpll with
  | .holdover => s.ref.holdEst
  | .lost => toward0 s.ref.frequency (1000000000 * (s.time.mono - s.ref.movedAt) / second)
  | _ => s.ref.frequency

/-- Fixes what moves with time: the pull and the frequency as they stand now. -/
def fixRef (s : State) : State :=
  { s with ref.pull := s.pullNow, ref.frequency := s.freqNow, ref.movedAt := s.time.mono }

/-- An offset lies within the lock window (R208, R209). -/
def State.inLockWindow (s : State) (v : Int) : Bool := decide (v.natAbs * 1000 ≤ s.ref.window * 65536)

/-- A slope-limited pull of an offset starts (R208). -/
def startPull (offset : Int) (s : State) : State :=
  { s with ref.pull := offset, ref.pulling := !s.inLockWindow offset, ref.movedAt := s.time.mono, ref.inWindow := 0, ref.outWindow := 0 }

/-- The DPLL has nothing to follow (Table 8.6): cause 0 no reference selectable, 1 GUARD. -/
def loseRef (cause : Nat) (s : State) : State :=
  if s.ref.dpll = .acquiring ∨ s.ref.dpll = .locked then
    let s := fixRef s
    if s.histValid then
      let (e, s) := estimateNow s
      raise .warn 0x2307 [BitVec.ofNat 8 cause]
        { s with ref.dpll := .holdover, ref.holdEst := e, ref.frequency := e, ref.holdFrom := some s.time.mono, ref.pulling := false }
    else
      raise .error 0x2308 [BitVec.ofNat 8 cause] { s with ref.dpll := .lost, ref.pulling := false, ref.holdFrom := none }
  else s

/-- The DPLL returns to FREE_RUN and its history clears (Table 8.6); what it had selected it selects again. -/
def freeRun (s : State) : State :=
  { s with ref.dpll := .freeRun, ref.history := [], ref.selected := none, ref.switchTo := none, ref.pulling := false, ref.pull := 0
           ref.buildOut := 0, ref.frequency := 0, ref.holdFrom := none, ref.inWindow := 0, ref.outWindow := 0, ref.phaseError := 0
           ref.movedAt := s.time.mono }

/-! ### Entries -/

/-- A port entry offers time now (R193): a valid AX exchange with TV = 1, or a completed IEEE 1588 exchange, within the
AX silence limit. -/
def State.portTime (s : State) (q : Nat) : Bool :=
  let k := s.link q
  let fresh := fun (t : Option Nat) => (t.map (fun t => decide (s.time.mono ≤ t + k.silence * second))).getD false
  (k.axEnable && fresh k.lastTv) || (k.ptp.enable && decide (k.ptp.state = 9) && fresh k.ptp.lastDone)

/-- An entry is time-capable (R193, R199, Table 8.9). -/
def State.timeCap (s : State) (e : Nat) : Bool :=
  let r := s.refEntry e
  r.enable && ((decide (r.kind = 1) && (s.mon e).signal) || (decide (r.kind = 2) && s.portTime r.index))

/-- An entry ranks (R199). -/
def State.ranks (s : State) (e : Nat) : Bool :=
  (s.refEntry e).enable && decide ((s.mon e).qual = .qualified ∨ (s.mon e).qual = .softFault)

/-- The keys of R199, in order. -/
def State.rankKeys (s : State) (e : Nat) : List Nat :=
  [(s.refEntry e).priority, flag (decide ((s.mon e).qual ≠ .qualified)), flag (!s.timeCap e), flag (decide (s.ref.selected ≠ some e)), e]

/-- Keys compared lexicographically: the first list is smaller. -/
def keysLess : List Nat → List Nat → Bool
  | [], _ => false
  | _, [] => false
  | a :: r, b :: t => decide (a < b) || (decide (a = b) && keysLess r t)

/-- The first of a list of entries in the ranking (R199). -/
def State.firstRanked (s : State) (es : List Nat) : Option Nat :=
  es.foldl (fun b e => match b with
    | none => some e
    | some o => if keysLess (s.rankKeys e) (s.rankKeys o) then some e else some o) none

/-- The selection that R200 and R202 call for. -/
def State.desired (s : State) : Option Nat :=
  match s.ref.forced.filter s.ranks with
  | some f => some f
  | none =>
    match s.ref.revertive, s.ref.selected.filter (fun e => (s.refEntry e).enable && decide ((s.mon e).qual = .qualified)) with
    | false, some e => some e
    | _, _ => s.firstRanked ((List.range 16).filter s.ranks)

/-- An entry becomes DISQUALIFIED (Table 8.4): event 0x2303 when it ranked, and a fault when it was selected. -/
def disqualify (e reason : Nat) (s : State) : State :=
  let m := s.mon e
  let ranked := decide (m.qual = .qualified ∨ m.qual = .softFault)
  let s := s.setMon e { m with qual := .disqualified, since := none, reason := reason }
  let s := if ranked then raise .warn 0x2303 [BitVec.ofNat 8 e, BitVec.ofNat 8 reason] s else s
  if ranked && decide (s.ref.selected = some e) then histFault s else s

/-- An entry loses its signal (R198). -/
def signalLoss (e : Nat) (s : State) : State :=
  if !(s.refEntry e).enable || decide (16 ≤ e) then s
  else
    let m := s.mon e
    let s := s.setMon e { m with signal := false }
    if m.qual = .disqualified then s else disqualify e 2 s

/-- The source of an entry offers nothing (Table 8.1, R183, R344, R407): a port whose timing lane is lost, whose timing logical port
is disabled or whose lanes are off in DORMANT; a management port with LOS or LOL, or off. Of the other kinds a REF_SIGNAL_LOSS row
says so. -/
def State.sourceGone (s : State) (e : Nat) : Bool :=
  let r := s.refEntry e
  match r.kind with
  | 2 => (s.link r.index).laneLost || !(s.lp (s.timingLport r.index)).enabled || s.asleep
  | 3 => !s.port.mgmt.locked || s.asleep || decide (6 ≤ s.power.stage)
  | _ => false

/-- The source of an entry yields a sample (Table 8.1, R170): it offers something, and a port's active timing lane is locked. -/
def State.sourceHeard (s : State) (e : Nat) : Bool :=
  !s.sourceGone e && (decide ((s.refEntry e).kind ≠ 2) || s.phaseLane (s.refEntry e).index) && !(s.mon e).looped

/-- Every enabled entry whose source is gone loses its signal (R198). -/
def loseSources (s : State) : State :=
  (List.range 16).foldl (fun s e => if (s.mon e).signal && s.sourceGone e then signalLoss e s else s) s

/-- Selection is evaluated (R198, R201, R202): a switch that it calls for waits for the next milestone. -/
def evaluate (s : State) : State :=
  let s := loseSources s
  let s := { s with ref.forced := s.ref.forced.filter s.ranks }
  let d := s.desired
  { s with ref.switchTo := if d = s.ref.selected then none else some d }

/-! ### Switching -/

/-- The DPLL follows a selected entry from an offset (R207, R208): the pull of a reference that offers time, else the kept
build-out. -/
def follow (e : Nat) (offset : Int) (s : State) : State :=
  let s := { fixRef s with ref.resume := false }
  let pulls := s.timeRef e && s.timeCap e && decide (offset.natAbs ≤ s.time.jumpThr * 65536) && s.timeValid
  let s := if pulls then startPull offset { s with ref.buildOut := 0 }
    else { s with ref.pull := 0, ref.pulling := false, ref.inWindow := 0, ref.outWindow := 0, ref.buildOut := offset }
  if (s.ref.dpll = .acquiring ∨ s.ref.dpll = .locked) ∧ !s.ref.pulling then s
  else { s with ref.dpll := .acquiring, ref.holdFrom := none }

/-- REF_SWITCH (R201, R207): the switch that selection called for takes effect. -/
def switchRef (offset : Int) (s : State) : State :=
  match s.ref.switchTo with
  | none => s
  | some target =>
    let code := fun (o : Option Nat) => BitVec.ofNat 8 (o.getD 0xFF)
    let old := s.ref.selected
    let s := { s with ref.selected := target, ref.switchTo := none, ref.switches := (s.ref.switches + 1) % 2 ^ 32
                      time.excess := 0, time.within := 0 }
    let s := raise .note 0x2304 [code old, code target] s
    match target with
    | none => loseRef 0 s
    | some e => if s.time.state = .guard then s else follow e offset s

/-! ### Estimates and GUARD -/

/-- The Almanac enters GUARD (R36, R214). -/
def enterGuard (e : Nat) (offset : Int) (s : State) : State :=
  let s := { s with time.state := .guard, time.jumpRefused := true, time.excess := 0, time.within := 0 }
  let s := raise .error 0x2101 (BitVec.ofNat 8 e :: off8 offset) (cancelStep 1 s)
  histFault (loseRef 1 s)

/-- The Almanac leaves GUARD for FOLLOWING (R38, Table 8.6): cause 0 three estimates, 1 TIME_ACCEPT_JUMP. The DPLL follows the
selected entry again, from an offset that is pulled or built out. -/
def exitGuard (cause : Nat) (residual : Int) (s : State) : State :=
  let s := raise .note 0x2102 [BitVec.ofNat 8 cause] { s with time.state := .following, time.excess := 0, time.within := 0 }
  match s.ref.selected with
  | none => s
  | some e => follow e residual s

/-- An offset of the selected time reference is closed by a slope-limited pull, no build-out against it being kept (R193, R208). -/
def closeOffset (offset : Int) (s : State) : State :=
  let s := startPull offset (fixRef { s with ref.buildOut := 0, ref.resume := false })
  if s.ref.pulling && decide (s.ref.dpll = .locked) then { s with ref.dpll := .acquiring } else s

/-- A time offset estimate from an entry (R36, Table 2.3); only the selected time reference yields estimates. `back` says that the
entry had offered no time before it (R193). -/
def estimate (e : Nat) (offset : Int) (back : Bool) (s : State) : State :=
  if s.timeSelected ≠ some e then s
  else
    let beyond := decide (s.time.jumpThr * 65536 < offset.natAbs)
    let s := { s with time.offset := offset, ref.resume := s.ref.resume || back }
    match s.time.state with
    | .unset => { s with time.loadEntry := some e }
    | .guard =>
      if beyond then { s with time.within := 0 }
      else if 2 ≤ s.time.within then exitGuard 0 offset s
      else { s with time.within := s.time.within + 1 }
    | .host =>
      if beyond then
        if 2 ≤ s.time.excess then enterGuard e offset s else { s with time.excess := s.time.excess + 1 }
      else follow e offset { s with time.excess := 0, time.state := .following }
    | .following =>
      if beyond then
        if 2 ≤ s.time.excess then enterGuard e offset s else { s with time.excess := s.time.excess + 1 }
      else
        let s := { s with time.excess := 0 }
        if s.ref.resume || decide (s.ref.buildOut ≠ 0) then closeOffset offset s else s

/-- TIME_LOADED (Table 2.3): the reference time is loaded at the milestone after the first estimate in UNSET, and
announced. -/
def loadReference (s : State) : State :=
  match s.time.loadEntry with
  | none => s
  | some e =>
    let s := { s with time.loadEntry := none }
    if s.time.state = .unset ∧ s.time.running then
      let m := s.ms
      let value := s.time.count + BitVec.ofInt 80 s.time.offset
      let s := loadCount value .following 2 1 e { s with time.excess := 0 }
      let s := announceStep m 1 value s
      if s.ref.selected = some e then follow e 0 s else s
    else s

/-- An offset between the output and the phase input of the selected entry as measured now, which lies outside the block (log entry
29): within the jump threshold for a time reference, of any size for another. -/
def measured (s : State) : Int × State :=
  let (m, s) := draw (if s.timeSelected.isSome then s.time.jumpThr * 65536 + 1 else 2 ^ 63) s
  let (neg, s) := drawBit s
  (if neg then -(m : Int) else m, s)

/-- TIME_ACCEPT_JUMP at its milestone (R38): a step when the latest estimate is 1 s or less, else a load; what is left is pulled, or
built out against a frequency-only reference (R207). -/
def acceptJump (s : State) : State :=
  if s.time.state ≠ .guard then s
  else
    let d := s.time.offset
    let m := s.ms
    let s := if d.natAbs ≤ second then announceStep m 0 (BitVec.ofInt 80 d) (moveCount 3 d s)
      else
        let value := s.time.count + BitVec.ofInt 80 d
        announceStep m 1 value (loadCount value .guard 3 1 (s.ref.selected.getD 0xFF) s)
    let (rest, s) := measured s
    exitGuard 1 rest s

/-! ### Monitors -/

/-- The drift of an entry over 16 s, once it has 17 samples (R196). -/
def RefMon.drift (m : RefMon) : Option Int := (getAt m.samples 16 none).map (fun o => m.offset - o)

/-- The check of a sample that fails, by its REASON (R197, Table 8.9): 4 capture range, 3 hard, 6 soft, 7 drift. -/
def failOf (s : State) (valid : Bool) (m : RefMon) : Option Nat :=
  let v := m.offset.natAbs
  if !valid then (if s.ref.capture * 1000000000000 < v then some 4 else none)
  else if s.ref.hard * 1000000000 < v then some 3
  else if s.ref.soft * 1000000000 < v then some 6
  else if (m.drift.map (fun d => decide (16 * s.ref.drift * 100000000 < d.natAbs))).getD false then some 7 else none

/-- The offset lies within 90 % of the soft threshold and the drift rate within 90 % of its limit (Table 8.4). -/
def calm (s : State) (m : RefMon) : Bool :=
  decide (m.offset.natAbs * 10 ≤ 9 * (s.ref.soft * 1000000000)) &&
  (m.drift.map (fun d => decide (d.natAbs * 10 ≤ 9 * (16 * s.ref.drift * 100000000)))).getD true

/-- The qualification time has passed since an instant (Table 8.4). -/
def State.qualified (s : State) (since : Nat) : Bool := decide (since + s.ref.qualTime * second ≤ s.time.mono)

/-- An entry becomes QUALIFIED. -/
def qualify (e : Nat) (m : RefMon) (s : State) : State :=
  raise .note 0x2301 [BitVec.ofNat 8 e] (s.setMon e { m with qual := .qualified, since := none })

/-- A sample milestone at which an entry has no sample (R196). -/
def missSample (e : Nat) (s : State) : State :=
  if (s.refEntry e).enable || !(s.mon e).samples.isEmpty then
    s.setMon e { s.mon e with samples := (none :: (s.mon e).samples).take 17 }
  else s

/-- The sample of one entry (R196, R197, Table 8.4). -/
def sampleEntry (valid : Bool) (e : Nat) (v : Int) (s : State) : State :=
  let m := s.mon e
  if !(s.refEntry e).enable || !s.sourceHeard e then missSample e s
  else
    let m := { m with signal := true, samples := (some v :: m.samples).take 17, offset := v }
    let s := s.setMon e m
    let bad := failOf s valid m
    match m.qual with
    | .disqualified =>
      if bad.isNone && !m.held then s.setMon e { m with qual := .qualifying, since := some s.time.mono } else s
    | .qualifying =>
      match bad with
      | some r => disqualify e r s
      | none => if s.qualified (m.since.getD s.time.mono) then qualify e m s else s
    | .qualified =>
      match bad with
      | none => s
      | some r =>
        if r = 3 ∨ r = 4 then disqualify e r s
        else
          let s := raise .warn 0x2302 [BitVec.ofNat 8 e, BitVec.ofNat 8 r]
            (s.setMon e { m with qual := .softFault, since := none, reason := r })
          if s.ref.selected = some e then histFault s else s
    | .softFault =>
      if bad = some 3 ∨ bad = some 4 then disqualify e (bad.getD 3) s
      else if calm s m then
        let t := m.since.getD s.time.mono
        if s.qualified t then qualify e m s else s.setMon e { m with since := some t }
      else s.setMon e { m with since := none }

/-- Pairs of entries whose disagreement R203 judges. -/
def State.pairsNow (s : State) : List (Nat × Nat) :=
  (List.range 16).flatMap (fun a => (upto (a + 1) 16).filterMap (fun b =>
    if (s.refEntry a).enable && (s.refEntry b).enable && decide ((s.mon a).qual = .qualified ∧ (s.mon b).qual = .qualified ∧
      (s.refEntry a).priority = (s.refEntry b).priority) then some (a, b) else none))

/-- Two entries' latest offsets differ by more than the disagreement limit (R203). -/
def State.differ (s : State) (a b : Nat) : Bool :=
  decide (s.ref.disagree * 1000000000 < ((s.mon a).offset - (s.mon b).offset).natAbs)

/-- The arbiter of a pair disqualifies and holds the one it differs from alone (R204, R206). -/
def arbitrate (a b : Nat) (s : State) : State :=
  match s.firstRanked ((List.range 16).filter (fun e => s.ranks e && decide (e ≠ a ∧ e ≠ b ∧ (s.mon e).qual = .qualified))) with
  | none => s
  | some c =>
    if s.differ c a = s.differ c b then s
    else
      let h := if s.differ c a then a else b
      let s := s.setMon h { s.mon h with qual := .disqualified, held := true, since := none, reason := 5 }
      let s := raise .warn 0x2309 [BitVec.ofNat 8 h, BitVec.ofNat 8 c] s
      if s.ref.selected = some h then histFault s else s

/-- Judges one pair at a sample (R203, R204). -/
def judgePair (s : State) (ab : Nat × Nat) : State :=
  let k := 16 * ab.1 + ab.2
  if !(s.pairsNow.contains ab) then { s with ref.pairs := tdel s.ref.pairs k }
  else if !s.differ ab.1 ab.2 then { s with ref.pairs := tdel s.ref.pairs k }
  else
    let n := min 4 (tget s.ref.pairs k 0 + 1)
    let first := decide (tget s.ref.pairs k 0 = 3)
    let s := { s with ref.pairs := tput s.ref.pairs k n }
    let s := if first then raise .warn 0x2305 [BitVec.ofNat 8 ab.1, BitVec.ofNat 8 ab.2] s else s
    let s := if first && decide (s.ref.selected = some ab.1 ∨ s.ref.selected = some ab.2) then histFault s else s
    if n = 4 then arbitrate ab.1 ab.2 s else s

/-- A pair that can no longer disagree is forgotten (R203). -/
def dropPairs (s : State) : State :=
  { s with ref.pairs := s.ref.pairs.filter (fun e => s.pairsNow.contains (e.1 / 16, e.1 % 16)) }

/-- Some pair disagrees (R203), or an entry is in such a pair. -/
def State.disagreeing (s : State) (e : Option Nat) : Bool :=
  s.ref.pairs.any (fun p => decide (p.2 = 4) && s.pairsNow.contains (p.1 / 16, p.1 % 16) &&
    (match e with | none => true | some x => decide (p.1 / 16 = x ∨ p.1 % 16 = x)))

/-- A history sample (R210): it is kept as long as the longest history window reaches (Table 8.5). -/
def historySample (output : Int) (s : State) : State :=
  if s.ref.dpll = .locked then
    { s with ref.history :=
        (s.time.mono, output) :: s.ref.history.filter (fun h => decide (s.time.mono ≤ h.1 + (60 + 86400) * second)) }
  else s

/-- The monitor base as an offset from the oscillator's nominal frequency (R196): the current holdover estimate while the history
is valid. -/
def monitorBase (s : State) : Int × State := if s.histValid then estimateNow s else (0, s)

/-- The correction of the oscillator's frequency by OSC_COEF, 10^-18 (R377, R370): offset, linear and quadratic in CORE0's temperature
against its T_CAL, and ageing since the coefficients were written; each term whose value the set does not hold counts as 0. -/
def oscCorrection (s : State) : Int × State :=
  let c := fun (i : Nat) => if bit s.cal.valid 9 && calHas s.cal.set 9 i then calValue s.cal.set 9 i else 0
  let x := match tfind s.cal.temps 0 with
    | some t => if bit s.cal.valid 5 && calHas s.cal.set 5 0 then t - calValue s.cal.set 5 0 else 0
    | none => 0
  let day := 86400 * second
  openDiv ((64 * c 0 + 8 * c 1 * x + c 2 * x * x) * day + 64 * c 3 * (s.time.mono - s.cal.coefAt : Nat)) (64 * day) s

/-- What a monitor sample does (R196, R203, R210, R377): a history sample while LOCKED, every enabled entry's sample, and the pairs.
`samples` and `output` are frequencies relative to the oscillator at OSC_SEL's frequency; DEDUCED (log entry 42): the correction adds to
them. -/
def takeSamples (samples : List (Option Int)) (output : Int) (s : State) : State :=
  let valid := s.histValid
  let (corr, s) := oscCorrection s
  let output := output + corr
  let (base, s) := monitorBase (loseSources s)
  let s := historySample output s
  let s := (List.range 16).foldl (fun s e =>
    match getAt samples e none with | some v => sampleEntry valid e (v + corr - base) s | none => missSample e s) s
  let s := dropPairs (s.pairsNow.foldl judgePair s)
  if s.ref.dpll = .locked ∨ s.ref.dpll = .acquiring then { s with ref.frequency := output } else s

/-- REF_MONITOR_SAMPLE, at a milestone whose number is a multiple of 3,906,250 (R196). -/
def monitorSample (samples : List (Option Int)) (output : Int) (s : State) : State :=
  if s.ms.toNat % 3906250 = 0 then takeSamples samples output s else s

/-- The loop bandwidth in effect, 0.1 mHz (R215): at most 0.1 Hz while a PPS_IN entry is selected. -/
def State.loopBandwidth (s : State) : Nat :=
  match s.ref.selected with
  | some e => if (s.refEntry e).kind = 1 then min s.ref.bandwidth 1000 else s.ref.bandwidth
  | none => s.ref.bandwidth

/-- The phase error of a DPLL cycle (R36, R177, R209). The phase input is the one before while estimates beyond the jump threshold
are being counted, the phase sample of a port that offers time, and `phase`, the input less the output phase, of any other. -/
def phaseErrorOf (e : Nat) (phase : Int) (s : State) : Int × State :=
  let r := s.refEntry e
  if 0 < s.time.excess then (s.ref.phaseError, s)
  else if decide (r.kind = 2) && s.timeCap e && (s.link r.index).resolved && s.phaseLane r.index then
    let (v, s) := openDiv (s.link r.index).thetaPh 5 s
    (v - s.ref.buildOut, s)
  else (phase - s.ref.buildOut, s)

/-- DPLL_CYCLE (R209, Table 8.6): `phase` is the reference's phase input minus the output phase. -/
def dpllCycle (phase : Int) (s : State) : State :=
  match s.ref.selected with
  | none => s
  | some e =>
    if s.time.state = .guard ∨ (s.ref.dpll ≠ .acquiring ∧ s.ref.dpll ≠ .locked) then s
    else
      let (err, s) := phaseErrorOf e phase s
      let s := fixRef s
      let inside := s.inLockWindow err
      let s := { s with ref.phaseError := err, ref.pulling := s.ref.pulling && !s.inLockWindow s.ref.pull
                        ref.inWindow := if inside then s.ref.inWindow + 1 else 0, ref.outWindow := if inside then 0 else s.ref.outWindow + 1 }
      if s.ref.dpll = .acquiring ∧ s.ref.lockN ≤ s.ref.inWindow then
        raise .note 0x2306 [BitVec.ofNat 8 e] { s with ref.dpll := .locked }
      else if s.ref.dpll = .locked ∧ s.ref.lockN ≤ s.ref.outWindow then
        raise .warn 0x230A [BitVec.ofNat 8 e] { s with ref.dpll := .acquiring }
      else s

/-- HOLDOVER_EXPIRY (R212). -/
def holdoverExpiry (s : State) : State :=
  match s.ref.holdFrom with
  | none => s
  | some t =>
    if s.ref.dpll = .holdover ∧ t + s.ref.validity * second ≤ s.time.mono then
      raise .error 0x2308 [2] { fixRef s with ref.dpll := .lost, ref.holdFrom := none }
    else s

/-- A reference table comes into service (R195, R202, Table 2.3): an entry with the same KIND and INDEX keeps what the monitors
hold of it, and a disabled one is DISQUALIFIED (Table 8.4). -/
def serveTable (table : Tbl RefEntry) (s : State) : State :=
  let old := s.ref.table
  let mon := fun (e : Nat) =>
    let a : RefEntry := tget old e {}
    let b : RefEntry := tget table e {}
    let same := decide (a.kind = b.kind ∧ a.index = b.index)
    if same then (if b.enable then s.mon e else { s.mon e with qual := .disqualified, since := none, reason := 1 })
    else if !b.enable then ({} : RefMon)
    else { qual := .qualifying, signal := true, since := some s.time.mono, reason := 0, held := false }
  let mons := (List.range 16).map (fun e => (e, mon e))
  let s := { s with ref.table := table, ref.mons := mons, ref.forced := none }
  let s := dropPairs s
  if s.time.state = .following ∧ !((List.range 16).any (fun e => (s.refEntry e).enable && s.timeRef e)) then
    { s with time.state := .host, time.excess := 0 } else s

end Sys2Proof.Machine
end

