-- ==== Sys2Proof/Machine/PowerOps.lean ====
section
/-! DEFINITION. Modes, voltage requests, CCLK ramps, shedding, loss of the oscillator, DORMANT (09_clock_synthesis,
14_power_modes, 15_bring_up_and_readiness). -/

namespace Sys2Proof.Machine

/-! ### Modes -/

/-- A change of mode, with event 0x1101 (R333). -/
def setMode (m : Mode) (s : State) : State :=
  if s.power.mode = m then s
  else raise .note 0x1101 [BitVec.ofNat 8 s.power.mode.code, BitVec.ofNat 8 m.code] { s with power.mode := m }

/-- Every enabled logical port of the part. -/
def State.enabledPorts (s : State) : List Nat := s.allLports.filter (fun l => (s.lp l).enabled)

/-- Entry to TIMING-ONLY, TEST or SAFE: every logical port that is not time-critical is disabled and flushed (R332). -/
def restrictPorts (s : State) : State :=
  (s.enabledPorts.filter (fun l => !s.critical l)).foldl (fun s l => disablePort l s) s

/-- The device enters SAFE because forwarding failed (Table 14.2, R240, R435). -/
def enterSafe (s : State) : State :=
  if s.power.mode = .service ∨ s.power.mode = .shed ∨ s.power.mode = .timingOnly ∨ s.power.mode = .test then
    restrictPorts (setMode .safe s) else s

/-! ### Voltage requests -/

/-- A voltage request (R334): the first attempt is one AVSBus write. -/
def requestVolt (owner : AvsOwner) (r mv : Nat) (s : State) : State :=
  (s.setRail r { s.rail r with requested := mv, state := 1, attempts := 1, since := s.time.mono, owner := owner }).emit (.avs r mv)

/-- Requests a voltage on each VDD_CORE rail present. -/
def requestCores (owner : AvsOwner) (mv : Nat → Nat) (s : State) : State :=
  s.coreDies.foldl (fun s d => requestVolt owner d (mv d) s) s

/-- A VDD_CORE rail waits for an acknowledgement. -/
def State.coresWaiting (s : State) : Bool := s.coreDies.any (fun d => decide ((s.rail d).state = 1))

/-- Every VDD_CORE rail's last request is acknowledged. -/
def State.coresAcked (s : State) : Bool := s.coreDies.all (fun d => decide ((s.rail d).state = 2))

/-! ### CCLK -/

/-- Where CCLK stands `e` units of time after a ramp at a whole frequency begins, in MHz times 65536000000 (R229). -/
def rampPos (profile : List (Nat × Nat)) : Nat → Nat → Nat → Nat → Nat
  | 0, f, _, _ => f * milli
  | fuel + 1, f, target, e =>
    if f = target then f * milli
    else if f < target then
      let slope := ((profile.filter (fun p => decide (p.1 ≤ f))).getLast?.map (·.2)).getD 1
      let stop := min target ((((profile.map (·.1)).find? (fun b => decide (f < b)))).getD target)
      if (stop - f) * milli ≤ e * slope then rampPos profile fuel stop target (e - ceilDiv ((stop - f) * milli) slope)
      else f * milli + e * slope
    else
      let seg := ((profile.filter (fun p => decide (p.1 < f))).getLast?).getD (1600, 1)
      let stop := max target seg.1
      if (f - stop) * milli ≤ e * seg.2 then
        if stop = target then target * milli else rampPos profile fuel stop target (e - ceilDiv ((f - stop) * milli) seg.2)
      else f * milli - e * seg.2

/-- CCLK now in MHz times 65536000000. -/
def State.cclkPos (s : State) : Nat :=
  match s.clk.ramp with
  | none => s.clk.cclk * milli
  | some r => rampPos s.clk.profile 10 r.start r.target (s.time.mono - r.from_)

/-- CCLK in whole MHz; the rounding of a frequency between two is open (log entry 29). -/
def cclkMhz (s : State) : Nat × State :=
  let p := s.cclkPos
  if p % milli = 0 then (p / milli, s)
  else
    let (up, s) := drawBit s
    (p / milli + flag up, s)

/-- A CCLK ramp begins (R230, R233). -/
def startRamp (owner : RampOwner) (target : Nat) (s : State) : State :=
  { s with clk.ramp := some { target := target, start := s.clk.cclk, from_ := s.time.mono, owner := owner } }

/-- A ramp that takes the place of a host ramp begins at the next milestone (R233). -/
def delayRamp (wait : Bool) (s : State) : State :=
  if wait then { s with clk.ramp := s.clk.ramp.map (fun r => { r with from_ := r.from_ + slotUnits }) } else s

/-- CCLK is gated on purpose: a shedding ramp in progress ends without an event of its own, since R233 names a host's. -/
def dropRamp (s : State) : State := { s with clk.ramp := none }

/-- A ramp ends where it stands (R233): cause 0 shedding, 1 loss of lock. A restore that ran it ends with it, and the next
attempt waits for a further dwell (R335, R341, log entry 50). -/
def abandonRamp (cause : Nat) (s : State) : State :=
  match s.clk.ramp with
  | none => s
  | some r =>
    let (f, s) := cclkMhz s
    let s := if r.owner = RampOwner.restore then
        { s with power.restoring := false, power.stageDone := true, power.restoredAt := s.time.mono } else s
    raise .warn 0x2421 (toBe 2 f ++ [BitVec.ofNat 8 cause]) { s with clk.cclk := f, clk.ramp := none }

/-! ### Shedding -/

/-- A restore in progress ends where it stands (R341): a ramp ends, a pending voltage request completes. -/
def stopRestore (s : State) : State :=
  if s.power.restoring then
    let s := match s.clk.ramp with
      | some r => if r.owner = RampOwner.restore then abandonRamp 0 s else s
      | none => s
    let s := if s.power.stage = 5 then
        s.coreDies.foldl (fun s d => s.setCore d { s.core d with
          cclkLock := false, bclkLock := false, running := false, reset := false }) { s with clk.cclk := 0 } else s
    { s with power.restoring := false, power.stageDone := true }
  else s

/-- A trigger has asserted (R339, R341). -/
def asserted (s : State) : State :=
  let s := if s.triggers ≠ 0 then stopRestore s else s
  if s.power.trigCrit && decide (s.power.stage < 5) then { s with power.jumpToFive := true } else s

/-- A trigger may have cleared: the dwell counts from here (R340). -/
def clearing (before : Nat) (s : State) : State :=
  if before ≠ s.triggers ∧ before % 32 ≠ 0 then { s with power.clearedAt := s.time.mono } else s

/-- The highest ceiling of the triggers asserted (Table 14.3), 0 when none is. -/
def State.ceiling (s : State) : Nat :=
  if bit s.triggers 4 || bit s.triggers 1 then 6 else if s.triggers ≠ 0 then 4 else 0

/-- The device turns the management port off (R407): its link goes down (R296). -/
def mgmtOff (s : State) : State := rowRelease 2 3 { s with power.mgmtUp := false }

/-- What a stage does as it applies (Table 14.4). -/
def stageEffect (k : Nat) (s : State) : State :=
  match k with
  | 2 =>
    let held := match s.clk.ramp with | some r => r.start | none => s.clk.cclk
    let wait := s.clk.ramp.isSome
    let s := abandonRamp 0 { s with power.cclkBefore := held, power.voltBefore := [(s.rail 0).acked, (s.rail 1).acked] }
    let s := { s with power.stageDone := false }
    if s.clk.cclk ≤ 1600 then requestCores .shed (fun d => s.fusedAt d 1600) s else delayRamp wait (startRamp .shed 1600 s)
  | 3 =>
    let go := s.enabledPorts.filter (fun l => (s.lp l).sheddable && !s.critical l)
    let s := go.foldl (fun s l =>
      movePower l 2 { s with power.shedPorts := tput s.power.shedPorts l ((s.lp l).moving.getD (s.lp l).power) }) s
    { s with power.stageDone := go.all (fun l => (s.lp l).moving.isNone) }
  | 5 =>
    let gone := s.enabledPorts.filter (fun l => !s.critical l)
    let kept := s.power.shedPorts
    let s := gone.foldl (fun s l => disablePort l s) s
    let s := dropRamp s
    let s := s.coreDies.foldl (fun s d => s.setCore d { s.core d with
          cclkLock := false, bclkLock := false, running := false, frozen := none, reset := false }) s
    { s with power.shedPorts := kept, power.disabledPorts := gone, clk.cclk := 0, power.stageDone := true }
  | 6 =>
    let s := mgmtOff (loseSources (disableChannels s))
    linksDown (s.enabledPorts.filter s.critical) { s with power.stageDone := true }
  | _ => { s with power.stageDone := true }

/-- A stage applies (R338): SHED from SERVICE or TIMING-ONLY, event 0x1102. -/
def applyStage (k : Nat) (s : State) : State :=
  let s := if s.power.mode = .service ∨ s.power.mode = .timingOnly then
      setMode .shed { s with power.restoreMode := s.power.mode } else s
  let s := { s with power.stage := k, power.stageAt := s.ms }
  stageEffect k (raise .warn 0x1102 [BitVec.ofNat 8 k, BitVec.ofNat 8 s.triggers] s)

/-- Stages apply in this mode (R342). -/
def State.sheds (s : State) : Bool :=
  !decide (s.power.mode = .keep ∨ s.power.mode = .bringUp ∨ s.power.mode = .dormant) && decide (s.power.dormant = .none)

/-- SHED_STAGE (R339): the stages that fall due at this milestone. -/
def shedStage (s : State) : State :=
  if !s.sheds then s
  else if s.power.jumpToFive && decide (s.power.stage < 5) then
    (upto (s.power.stage + 1) 6).foldl (fun s k => applyStage k s) { s with power.jumpToFive := false }
  else if s.power.stage = 0 then (if s.triggers = 0 then s else applyStage 1 s)
  else if decide (s.power.stage < s.ceiling) && s.power.stageDone && !s.power.restoring &&
      decide (4096 ≤ sdiff s.ms s.power.stageAt) then applyStage (s.power.stage + 1) s
  else s

/-- Filtered counters named by a FILTER_CONFIG restart from 0 with their sticky bits clear (R386). -/
def restartFilters (ks : List Nat) (s : State) : State :=
  { s with ctr.live := s.ctr.live.filter (fun e => !(ks.map (ctrKey 10 0)).contains e.1) }

/-- The highest stage is restored (R340): the next counts from here; at stage 0 SHED ends (R342). -/
def finishRestore (s : State) : State :=
  let k := s.power.stage
  let s := { s with power.stage := k - 1, power.stageDone := true, power.restoring := false, power.restoredAt := s.time.mono }
  if k = 1 then
    let s := restartFilters s.ctr.restarts { s with ctr.restarts := [] }
    if s.power.mode = .shed then
      setMode s.power.restoreMode (raise .note 0x1103 [BitVec.ofNat 8 s.power.restoreMode.code] s)
    else s
  else s

/-- Every stored frame leaves the buffer of a CORE die, and every frame that waits on its side of the Causeway goes (R240); their
tag records carry PORT_FLUSH. -/
def flushDie (d : Nat) (s : State) : State :=
  let gone := s.fwd.crossings.filter (fun c => decide (c.frame.side = d))
  let s := (s.fwd.branches.filter (fun b => (s.copyOf b.copy).any (fun c => decide (c.die = d)))).foldl
    (fun s b => discard 0x24 2 false b s) { s with fwd.crossings := s.fwd.crossings.filter (fun c => !decide (c.frame.side = d)) }
  gone.foldl (fun s c => c.targets.foldl (fun s l =>
    pushTag c.frame { lport := l, stage := 2, drop := 0x24, mirror := c.mirror } s) s) s

/-- The highest stage begins to restore (Table 14.4). -/
def restoreStage (s : State) : State :=
  match s.power.stage with
  | 2 => requestCores .restore (fun d => getAt s.power.voltBefore d 0) { s with power.restoring := true }
  | 3 =>
    let back := s.power.shedPorts
    finishRestore (back.foldl (fun s e => if (s.lp e.1).enabled then movePower e.1 e.2 s else s) { s with power.shedPorts := [] })
  | 5 =>
    let s := s.coreDies.foldl (fun s d => (flushDie d s).setCore d { s.core d with cclkLock := true, bclkLock := true, reset := true }) s
    { s with power.restoring := true, clk.cclk := 1600 }
  | 6 => finishRestore ((s.enabledPorts.filter s.critical).foldl (fun s l => startLink l s) s)
  | _ => finishRestore s

/-- Stage 5 is restored once every CORE die is ready: the ports it disabled are enabled again; those that stage 3 holds go
back to L-DEEP. -/
def restoreFive (s : State) : State :=
  let gone := s.power.disabledPorts
  let s := gone.foldl (fun s l => enablePort l s) { s with power.disabledPorts := [] }
  let s := gone.foldl (fun s l => if (tfind s.power.shedPorts l).isSome then movePower l 2 s else s) s
  finishRestore s

/-- SHED_RESTORE (R340). -/
def shedRestore (s : State) : State :=
  if s.sheds && decide (s.power.stage ≠ 0 ∧ s.triggers = 0) && s.power.stageDone && !s.power.restoring &&
      decide (max s.power.clearedAt s.power.restoredAt + s.power.dwell * milli ≤ s.time.mono) then restoreStage s
  else s

/-- A low-power transition ended: stage 3 is complete once every port it moved is in L-DEEP. -/
def stageThreeCheck (s : State) : State :=
  if s.power.stage = 3 ∧ !s.power.stageDone then
    { s with power.stageDone := s.power.shedPorts.all (fun e => decide ((s.lp e.1).power = 2 ∧ (s.lp e.1).moving = none) ||
      !(s.lp e.1).enabled) }
  else s

/-- CCLK stood within 0.05 % of a ramp's target already 10 us ago, and a ramp never turns back (R231). -/
def State.rampSettled (s : State) (r : Ramp) : Bool :=
  let at_ := rampPos s.clk.profile 10 r.start r.target (s.time.mono - 10 * micro - r.from_)
  decide (r.from_ + 10 * micro ≤ s.time.mono ∧ ((at_ : Int) - (r.target * milli : Nat)).natAbs * 2000 ≤ r.target * milli)

/-- RAMP_DONE (R231, Table 14.4): the ramp ends once CCLK has stayed within 0.05 % of its target for 10 us. -/
def rampDone (s : State) : State :=
  match s.clk.ramp with
  | none => s
  | some r =>
    if !s.rampSettled r then s
    else
      let s := raise .note 0x2420 (toBe 2 r.target) { s with clk.cclk := r.target, clk.ramp := none }
      match r.owner with
      | .shed => requestCores .shed (fun d => s.fusedAt d 1600) s
      | .restore => finishRestore s
      | _ => s

/-! ### KEEP and failed requests -/

/-- A failed voltage request writes the Vigil failure record (R335, Table 14.10). -/
def failRecord (rail attempts phase : Nat) (s : State) : State :=
  { s with power.failure :=
    { pending := true, code := 0x1106, rail := rail, attempts := attempts, phase := phase, powerCycles := s.power.powerCycles
      opSeconds := s.power.opSeconds } }

/-- The device leaves for KEEP (Table 14.2). -/
def toKeep (s : State) : State := enterKeep (setMode .keep s)

/-- The voltages of start-up step 4 (Table 15.4): the fused 1,600 MHz voltage, or 0.75 V on VDD_LD. -/
def State.bootVolt (s : State) (r : Nat) : Nat := if r < 2 then s.fusedAt r 1600 else 750

/-- A voltage request is acknowledged (R334): V_ack changes, and what waited for it goes on. -/
def avsAck (r : Nat) (s : State) : State :=
  let v := s.rail r
  if v.state ≠ 1 then s
  else
    let s := s.setRail r { v with acked := v.requested, state := 2 }
    match v.owner with
    | .bringUp =>
      match s.avsRails.find? (fun k => decide (r < k)) with
      | some k => requestVolt .bringUp k (s.bootVolt k) s
      | none => { s with power.bootStep := 5 }
    | .shed => if s.coresWaiting then s else { s with power.stageDone := true }
    | .restore =>
      if s.power.restoring && s.coresAcked then
        if s.power.cclkBefore ≤ s.clk.cclk then finishRestore s else startRamp .restore s.power.cclkBefore s
      else s
    | _ => s

/-- An attempt of a voltage request failed (R334, R335): a further attempt, or the request has failed. -/
def avsTimeout (r : Nat) (s : State) : State :=
  let v := s.rail r
  if v.state ≠ 1 then s
  else if v.attempts < 4 then (s.setRail r { v with attempts := v.attempts + 1, since := s.time.mono }).emit (.avs r v.requested)
  else
    let s := s.setRail r { v with state := 3 }
    let ev := BitVec.ofNat 8 r :: toBe 2 v.requested
    match v.owner with
    | .bringUp => toKeep (failRecord r 4 0 s)
    | .dormantExit => toKeep (failRecord r 4 1 s)
    | .host | .dormantEntry => raise .error 0x1107 ev s
    | .shed =>
      let s := raise .error 0x1107 ev s
      if s.coresWaiting then s else { s with power.stageDone := true }
    | .restore => raise .error 0x1107 ev { s with power.restoring := false, power.restoredAt := s.time.mono }

/-! ### The clock chain -/

/-- Cells stored on a CORE die. -/
def State.cellsOn (s : State) (d : Nat) : Nat := ((s.fwd.copies.filter (fun c => decide (c.die = d))).map (·.cells)).sum

/-- The oscillator is lost (R219, R222, R433): every clock of the chain is gated, links go down, time and the DPLL start
over, TDC channels stop. -/
def oscLoss (s : State) : State :=
  let s := raise .fatal 0x2401 [] s
  let s := disableChannels s
  let s := mgmtOff (linksDown (s.enabledPorts.filter (fun l => (s.lp l).up)) s)
  let s := abandonRamp 1 s
  let s := if s.power.restoring then
      { s with power.restoring := false, power.stageDone := true, power.restoredAt := s.time.mono } else s
  let s := s.coreDies.foldl (fun s d => s.setCore d { s.core d with
    cclkLock := false, bclkLock := false, running := false, frozen := none, reset := false }) s
  let s := { s with clk.oscOk := false, clk.oscLost := true, clk.oscLostAt := s.time.mono, clk.asynLock := false, clk.cclk := 0
                    clk.lanePlls := [], clk.mclkBoot := true }
  freeRun (stopTime s)

/-- The chain runs again from step 6 on (R219, Table 15.4): ASYN locks, MCLK moves to ACLK and the count restarts. -/
def chainStart (s : State) : State :=
  startTime { s with clk.oscOk := true, clk.oscLost := false, clk.oscTimeout := false, clk.asynLock := true
                     clk.mclkBoot := decide (s.power.mode = .dormant) }

/-- CCLK at 1,600 MHz and BCLK lock on each CORE die that can be reached, and the forwarding domain is cleared (step 9). -/
def coresStart (s : State) : State :=
  let s := s.coreDies.foldl (fun s d =>
    if decide (d = 1) && s.segFailed 6 then s
    else (flushDie d s).setCore d { cclkLock := true, bclkLock := true, running := true, initialised := true }) s
  { s with clk.cclk := 1600, fwd.fifos := [], fwd.injectHead := none }

/-- The lane pairs of every LANE die that can be reached (step 10). -/
def State.lanePairs (s : State) : List Nat :=
  ((List.range s.part.ports).filter (fun p => !s.laneCut p)).flatMap (fun p => (List.range 4).map (4 * p + ·))

/-- The enabled logical ports start their links (R146, R149). -/
def startLinks (ls : List Nat) (s : State) : State := ls.foldl (fun s l => startLink l s) s

/-! ### CORE PLLs -/

/-- The CCLK or buffer PLL of a CORE die goes out of lock (R237, R238): the forwarding domain freezes, unless the other PLL
has frozen it or a reset holds it. -/
def freezeDie (die : Nat) (pll : CorePll) (s : State) : State :=
  let c := s.core die
  if s.part.cores ≤ die ∨ s.clk.cclk = 0 ∨ !(c.cclkLock || c.bclkLock || c.frozen.isSome || c.reset) then s
  else
    let locks := match pll with | .cclk => { c with cclkLock := false } | .bclk => { c with bclkLock := false }
    let s := raiseAt die .error 0x2410 [BitVec.ofNat 8 die, match pll with | .cclk => 0 | .bclk => 1] s
    let s := if s.clk.ramp.isSome && decide (pll = .cclk) then
        let from_ := (s.clk.ramp.map (·.start)).getD 1600
        let s := abandonRamp 1 s
        { s with clk.cclk := from_ }
      else s
    let locks := { locks with lostAt := s.time.mono }
    if c.frozen.isSome || !(c.cclkLock && c.bclkLock) then s.setCore die locks
    else
      let ports := s.enabledPorts.filter (fun l => decide (s.coreOfLport l = die))
      let s := (ports.filter (fun l => (s.lp l).up)).foldl (fun s l => abortFrame l s) s
      let s := s.setCore die { locks with running := false, frozen := some s.time.mono, frozenFrom := s.ms }
      ports.foldl (fun s l => freezeXoff l s) s

/-- Logical ports whose pipelines lie on a CORE die and that may hold the XOFF of a freeze. -/
def State.portsOn (s : State) (die : Nat) : List Nat :=
  ((s.fwd.pfcPort.map (fun e => e.1 / 8)).dedup).filter (fun l => decide (s.coreOfLport l = die))

/-- The forwarding domain of a CORE die is reset (R240): flushed, tables and counters kept; a third reset within 3,600 s
takes the device to SAFE. -/
def resetDie (die : Nat) (s : State) : State :=
  let cells := s.cellsOn die
  let s := flushDie die s
  let s := s.setCore die { s.core die with running := false, reset := true, frozen := none }
  let s := (s.portsOn die).foldl (fun s l => thawXoff l s) s
  let recent := s.time.mono :: s.clk.fwdResets.filter (fun t => decide (s.time.mono < t + 3600 * second))
  let s := raiseAt die .error 0x2412 (BitVec.ofNat 8 die :: toBe 4 cells) { s with clk.fwdResets := recent }
  if 3 ≤ recent.length then enterSafe (raiseAt die .fatal 0x2413 [BitVec.ofNat 8 die] s) else s

/-! ### DORMANT -/

/-- DORMANT entry begins (R343). -/
def beginDormant (s : State) : State :=
  { s with
    power.dormant := .entry 1, power.transition := some .dormant, power.heldMode := s.power.mode, power.wake := none
    power.entryCompat := s.power.compat, power.dormantVolt := [(s.rail 0).acked, (s.rail 1).acked]
    power.dormantCclk := (match s.clk.ramp with | some r => r.target | none => s.clk.cclk)
    power.dormantPorts := s.enabledPorts }

/-- The mode that exit ends in, before a lost bank is known (R350). -/
def State.exitMode (s : State) (named : Option Mode) : Mode :=
  match named with
  | some m => m
  | none => if s.power.heldMode = .shed then .timingOnly else s.power.heldMode

/-- DORMANT exit begins at the wake milestone (Table 14.7): the voltages held before entry are requested. -/
def beginExit (named : Option Mode) (s : State) : State :=
  let s := { s with power.dormant := .exit, power.wake := some named, power.transition := some (s.exitMode named) }
  if s.power.vddTime then requestCores .dormantExit (fun d => getAt s.power.dormantVolt d 0) s else s

/-- A wake (R347): it starts the exit in DORMANT, is held during entry, and merges into a wake in progress. -/
def wakeUp (named : Option Mode) (s : State) : State :=
  match s.power.dormant with
  | .entry _ => { s with power.wake := match s.power.wake with | some (some m) => some (some m) | _ => some named }
  | .exit => s
  | .none => if s.power.mode = .dormant then beginExit named s else s

/-- An abort waits: compatibility, and a wake before A5 (R346). -/
def State.aborting (s : State) : Bool := s.power.entryCompat && s.power.wake.isSome

/-- DORMANT_ENTRY: the step of Table 14.6 in progress ends. -/
def dormantStep (s : State) : State :=
  match s.power.dormant with
  | .entry n =>
    if 2 ≤ n ∧ s.aborting then s
    else
      let next := fun (s : State) => { s with power.dormant := .entry (n + 1) }
      match n with
      | 3 => next (if s.timeValid then loadCoarse s else s)
      | 4 => next { s with power.padsLatched := true }
      | 5 => next { s with power.entryCompat := s.aborting }
      | 6 => next (s.coreDies.foldl (fun s d => flushDie d s) { s with fwd.fifos := [], fwd.injectHead := none })
      | 7 =>
        let s := linksDown (s.enabledPorts.filter (fun l => (s.lp l).up)) (dropRamp (disableChannels s))
        let s := s.coreDies.foldl (fun s d => s.setCore d { s.core d with
          cclkLock := false, bclkLock := false, running := false, frozen := none, reset := false }) s
        mgmtOff (loseSources (next (requestCores .dormantEntry (fun _ => 600)
          { s with clk.cclk := 0, clk.lanePlls := [], clk.mclkBoot := true, power.restoring := false })))
      | 8 =>
        if s.coresWaiting then s
        else
          let s := setMode .dormant (raise .note 0x1108 [] { s with power.dormant := .none, power.transition := none })
          match s.power.wake with
          | some named => beginExit named (raise .note 0x110B [] s)
          | none => s
      | _ => next s
  | _ => s

/-- DORMANT_ABORT (R346): the entry is abandoned at the abort point reached. -/
def dormantAbort (s : State) : State :=
  match s.power.dormant with
  | .entry n =>
    if 2 ≤ n ∧ n ≤ 6 ∧ s.aborting then
      raise .note 0x110A [BitVec.ofNat 8 (n - 1)]
        { s with power.dormant := .none, power.transition := none, power.wake := none
                 power.padsLatched := s.power.padsLatched && decide (n < 5) }
    else s
  | _ => s

/-! ### Retention banks -/

/-- The routes of a table that lie in another of its `n` banks than bank `b`; which lie where is open (log entry 59). -/
def leaveBank (n b : Nat) (t : List Route) : List Route := t.filter (fun r => decide (Config.bankOf r.plen r.addr % n ≠ b))

/-- The contents of a retention bank of a die are cleared (R348, Table 14.8). -/
def clearBank (die b : Nat) (s : State) : State :=
  let mine := fun (l : Nat) => decide (s.coreOfLport l = die)
  match b with
  | 0 => { s with fwd.lpm4 := leaveBank 4 0 s.fwd.lpm4 }
  | 1 => { s with fwd.lpm4 := leaveBank 4 1 s.fwd.lpm4 }
  | 2 => { s with fwd.lpm4 := leaveBank 4 2 s.fwd.lpm4 }
  | 3 => { s with fwd.lpm4 := leaveBank 4 3 s.fwd.lpm4 }
  | 4 => { s with fwd.lpm6s := leaveBank 2 0 s.fwd.lpm6s }
  | 5 => { s with fwd.lpm6s := leaveBank 2 1 s.fwd.lpm6s }
  | 6 => { s with fwd.lpm6l := [] }
  | 7 => { s with fwd.l2 := [] }
  | 8 => { s with fwd.nexthops := [], fwd.ecmp := [] }
  | 9 => { s with fwd.acl := [] }
  | 10 =>
    { s with fwd.groups := [], fwd.mirrors := [], fwd.dscpMap := List.replicate 64 0, fwd.pcpMap := List.replicate 8 0
             fwd.buckets := [], fwd.l3MissPunt := false, fwd.ttlDrop := false }
  | 11 =>
    releaseEpochs { s with fwd.active := s.fwd.active.filter (fun e => !mine e.1), fwd.shadow := s.fwd.shadow.filter (fun e => !mine e.1)
                           fwd.swaps := s.fwd.swaps.filter (fun e => !mine e.1), fwd.removals := s.fwd.removals.filter (fun e => !mine e.1) }
  | 12 =>
    { s with fwd.lportFwd := s.fwd.lportFwd.filter (fun e => !mine e.1), fwd.holds := s.fwd.holds.filter (fun e => !mine e.1)
             port.lports := s.port.lports.map (fun e => if mine e.1 then (e.1, { e.2 with type := 0, medium := 0 }) else e)
             port.breakout := s.port.breakout.filter (fun e => !mine (4 * e.1)) }
  | 13 =>
    { s with fwd.pools := tdel s.fwd.pools die, fwd.queues := s.fwd.queues.filter (fun e => !mine (e.1 / 8))
             fwd.pfc := s.fwd.pfc.filter (fun e => !mine e.1), fwd.sched := s.fwd.sched.filter (fun e => !mine e.1)
             fwd.budgets := s.fwd.budgets.filter (fun e => !mine e.1) }
  | 14 => { s with ctr.filters := [], ctr.tagK := 0, ctr.tagPipelines := 2 ^ s.part.pipelines - 1, ctr.tagSeed := 1 }
  | 15 => { s with fwd.poolsPending := tdel s.fwd.poolsPending die, fwd.shadow := s.fwd.shadow.filter (fun e => !mine e.1)
                   ref.pending := [] }
  | _ => s

/-- The bits of a mask over the sixteen banks. -/
def bankList (m : BitVec 16) : List Nat := (List.range 16).filter (fun b => m.getLsbD b)

/-- Marks banks of a die as lost. -/
def markLost (die : Nat) (m : BitVec 16) (s : State) : State :=
  if die = 0 then { s with power.lost0 := s.power.lost0 ||| m } else { s with power.lost1 := s.power.lost1 ||| m }

/-- Banks whose check failed on a die (R348): a mirrored bank is copied from the other die where it passes; every other is
lost, cleared, marked and reported. -/
def checkBanks (die : Nat) (bad other : BitVec 16) (s : State) : State :=
  let mirrored : BitVec 16 := if s.part.cores = 2 then 0x07FF else 0
  let copied := bad &&& mirrored &&& ~~~other
  let gone := bad &&& ~~~copied
  let s := if copied = 0 then s else raiseAt die .warn 0x6202 (BitVec.ofNat 8 die :: toBe 2 copied.toNat) s
  if gone = 0 then s
  else
    let s := markLost die gone ((bankList gone).foldl (fun s b => clearBank die b s) s)
    raiseAt die .error 0x6201 (BitVec.ofNat 8 die :: toBe 2 gone.toNat) s

/-- A memory self-test that ends on a CORE die leaves all sixteen of its banks lost (R349). -/
def bistLost (die : Nat) (b : Bist) (s : State) : State :=
  if b.test = 0 ∧ die < s.part.cores then checkBanks die 0xFFFF 0xFFFF s else s

end Sys2Proof.Machine
end

