-- ==== Sys2Proof/Machine/CalCommands.lean ====
section
/-! DEFINITION. Families 0x0C and 0x0E, calibration and self-tests (16_calibration, Tables 13.13 and 13.15): the calibration set,
and the checks, effects and replies of the commands. `p` is the committed configuration with every pending commit applied
(R300), `s` the device. -/

namespace Sys2Proof.Machine

/-! ### The calibration set -/

/-- Items of the set (Table 16.3). -/
def calItems : List Nat := upto 1 10

/-- A number in a set. -/
def calField (set : List Host.Cell) (o n : Nat) : Nat := beNat (memBytes set o n)

/-- The region of an item matches its ITEM_CRC (Table 16.2). -/
def itemCrcOk (set : List Host.Cell) (i : Nat) : Bool :=
  decide (calField set (256 + 4 * i) 4 = (crc32c (memBytes set (calBase i) (calSize i))).toNat)

/-- HEADER_CRC matches bytes 0 to 4,091. -/
def headerCrcOk (set : List Host.Cell) : Bool := decide (calField set 4092 4 = (crc32c (memBytes set 0 4092)).toNat)

/-- IMPORTING (Table 16.2). -/
def calImporting (set : List Host.Cell) : Bool := bit (memByte set 6).toNat 0

/-- The items of a set that are valid, bit i for item i (R370). -/
def calValid (set : List Host.Cell) : Nat :=
  if calImporting set || !headerCrcOk set then 0 else calItems.foldl (fun n i => if itemCrcOk set i then n + 2 ^ i else n) 0

/-- A set with WRITE_COUNT one higher, mod 2^32, and HEADER_CRC written. -/
def sealSet (set : List Host.Cell) : List Host.Cell :=
  let set := memWrite set 8 (toBe 4 ((calField set 8 4 + 1) % 2 ^ 32))
  memWrite set 4092 (toBe 4 (crc32c (memBytes set 0 4092)).toNat)

/-- FACTORY (Table 16.2). -/
def calFactory (set : List Host.Cell) : Nat := calField set 80 8

/-- A set with one entry replaced, as R372 writes it: the value, the item's CRC and FACTORY bit, WRITE_COUNT, HEADER_CRC. -/
def writeEntry (set : List Host.Cell) (item index : Nat) (value : List Byte) : List Host.Cell :=
  let set := memWrite set (calBase item + 8 * index) value
  let set := memWrite set (256 + 4 * item) (toBe 4 (crc32c (memBytes set (calBase item) (calSize item))).toNat)
  let f := calFactory set
  sealSet (memWrite set 80 (toBe 8 (if bit f item then f - 2 ^ item else f)))

/-- The set in use is replaced; its items are judged again once it has been loaded (R370, R371). -/
def useSet (set : List Host.Cell) (s : State) : State :=
  { s with cal.set := set, cal.valid := if s.cal.loaded then calValid set else s.cal.valid }

/-- A CAL_WRITE enters the journal (R373): its item times 65,536 plus its index, and its value. -/
def journalEntry (item index : Nat) (value : List Byte) (s : State) : State :=
  { s with cal.journal := some (item * 65536 + index, value) }

/-- A journalled CAL_WRITE is applied (R373). -/
def applyJournal (s : State) : State :=
  match s.cal.journal with
  | none => s
  | some (k, v) => useSet (writeEntry s.cal.set (k / 65536) (k % 65536) v) { s with cal.journal := none }

/-- The set is loaded at step 10 (R371, R373). -/
def loadCal (s : State) : State :=
  let s := applyJournal s
  let s := useSet s.cal.set { s with cal.loaded := true }
  let s := if calImporting s.cal.set then raise .error 0x6104 [] s else s
  let bad := calItems.foldl (fun n i => if bit s.cal.valid i then n else n + 2 ^ i) 0
  if bad = 0 then s else raise .error 0x6101 (toBe 8 bad) s

/-! ### Reading and staging -/

/-- OFFSET and BYTES of CAL_EXPORT and CAL_STAGE (R329). -/
def checkCalRange (r : Req) (_p _s : State) : Option Rej :=
  let o := fld r.params 0 4
  let n := fld r.params 4 4
  firstRej [need (decide (o % 4 = 0 ∧ o < 262144)) (rangeAt 0),
    need (decide (n % 4 = 0 ∧ 4 ≤ n ∧ n ≤ 4000 ∧ o + n ≤ 262144)) (rangeAt 4)]

/-- CAL_EXPORT. -/
def checkCalExport (r : Req) (p s : State) : Option Rej := checkCalRange r p s

/-- CAL_EXPORT returns bytes of the set as stored (R374). -/
def readCalExport (r : Req) (_room : Nat) (s : State) : List Byte × State :=
  let o := fld r.params 0 4
  let n := fld r.params 4 4
  (toBe 4 o ++ toBe 4 n ++ memBytes s.cal.set o n, s)

/-- CAL_STAGE. -/
def checkCalStage (r : Req) (p s : State) : Option Rej := checkCalRange r p s

/-- CAL_STAGE fills bytes of the staging copy (R329). -/
def pendCalStage (r : Req) (s : State) : State :=
  let o := fld r.params 0 4
  let n := fld r.params 4 4
  { s with cal.staging := memWrite s.cal.staging o ((r.params.drop 8).take n), cal.staged := (o, n) :: s.cal.staged }

/-- How far runs cover without a gap from an offset on. -/
def coverFrom (runs : List (Nat × Nat)) : Nat → Nat → Nat
  | 0, o => o
  | fuel + 1, o => coverFrom runs fuel (runs.foldl (fun e r => if r.1 ≤ o ∧ e < r.1 + r.2 then r.1 + r.2 else e) o)

/-- The first block of 4 KiB that has not been staged whole (Table 13.13). -/
def State.unstaged (s : State) : Option Nat :=
  (List.range 64).find? (fun b => decide (coverFrom s.cal.staged s.cal.staged.length (4096 * b) < 4096 * (b + 1)))

/-- A byte of the set that an entry or a header field of Table 16.2 holds; every other is reserved (R368). -/
def calAllowed (o : Nat) : Bool :=
  decide (o < 6 ∨ (8 ≤ o ∧ o < 12) ∨ (16 ≤ o ∧ o < 88) ∨ (260 ≤ o ∧ o < 296) ∨ (4092 ≤ o ∧ o < 4096)) ||
  calItems.any (fun i => decide (calBase i ≤ o ∧ o < calBase i + 8 * calEntries i))

/-- The integrity check of a staged set (R375). -/
def stagedSound (set : List Host.Cell) : Bool :=
  decide (calField set 0 4 = 0x4F4A434C ∧ calField set 4 2 = 1) && set.all (fun c => calAllowed c.1) && headerCrcOk set &&
  calItems.all (itemCrcOk set)

/-! ### Entries in use -/

/-- The ports whose calibration an entry belongs to (Table 16.3, R370). -/
def entryPorts (item index : Nat) : List Nat :=
  match item with
  | 1 => [index / 4]
  | 2 => [index / 4]
  | 3 => [index / 16]
  | 4 => [index / 2]
  | 5 => if index < 2 then [] else upto (16 * (index - 2)) (16 * (index - 1))
  | _ => []

/-- An entry must not become absent: its port has an enabled logical port or is time-critical (R372). -/
def portHolds (p : State) (item index : Nat) : Option Rej :=
  ((entryPorts item index).find? (fun q =>
    decide (q < p.part.ports) && ((p.lportsOf q).any (fun l => (p.lp l).enabled) || p.portCritical q))).map (fun q => refused .gateActive q)

/-- A channel uses an entry of item 6 or 7 (R370). -/
def entryOfChannel (c : TdcCfg) (item index n : Nat) : Bool :=
  decide ((item = 6 ∧ index / 256 = n) ∨ (item = 7 ∧ index = n) ∨ (item = 7 ∧ c.arm = 1 ∧ index = 16 + c.gatePin))

/-- An entry of items 6 or 7 must not be written: its channel is enabled (R372). -/
def channelHolds (p s : State) (item index : Nat) : Option Rej :=
  ((List.range 16).find? (fun n => ((s.chan n).enabled || (p.chan n).enabled) && entryOfChannel (p.chan n).cfg item index n)).map
    (fun n => refused .gateActive n)

/-- INDEX names a port or a die that the part lacks (R2, Table 16.3). -/
def calIndexAbsent (p : Part) (item index : Nat) : Bool :=
  match item with
  | 1 | 2 => decide (p.ports ≤ index / 4)
  | 3 => decide (p.ports ≤ index / 16)
  | 4 => decide (p.ports ≤ index / 2)
  | 5 => !p.hasDie index
  | _ => false

/-- CAL_WRITE (R372). -/
def checkCalWrite (r : Req) (p s : State) : Option Rej :=
  let q := r.params
  let item := fld q 0 2
  let index := fld q 2 2
  let v := fld q 4 8
  firstRej [within q 0 2 1 9, need (decide (index < calEntries item)) (rangeAt 2),
    need (!calIndexAbsent p.part item index) (refused .dieAbsent 0),
    need (!decide (item = 3 ∧ index % 8 = 0 ∧ v ≠ 0)) (rangeAt 4),
    if v = calAbsent then portHolds p item index else none, channelHolds p s item index]

/-- CAL_WRITE at its commit milestone (R372, R373). -/
def applyCalWrite (r : Req) (_c : Nat) (s : State) : State :=
  let q := r.params
  let item := fld q 0 2
  let index := fld q 2 2
  let ev := toBe 2 item ++ toBe 2 index
  let factory := bit (calFactory s.cal.set) item
  let s := applyJournal (journalEntry item index ((q.drop 4).take 8) s)
  let s := if item = 9 then { s with cal.coefAt := s.time.mono } else s
  let s := raise .note 0x6102 ev s
  if factory then raise .warn 0x6105 ev s else s

/-- The item and index of an entry that begins at an offset. -/
def entryAt (o : Nat) : Option (Nat × Nat) :=
  (calItems.find? (fun i => decide (calBase i ≤ o ∧ o < calBase i + 8 * calEntries i ∧ o % 8 = 0))).map (fun i => (i, (o - calBase i) / 8))

/-- An entry that a staged set makes absent is in use (R375). -/
def importHolds (p s : State) (c : Host.Cell) : Option Rej :=
  if c.2 ≠ 0x80 then none
  else match entryAt c.1 with
    | none => none
    | some (i, k) =>
      if calHas s.cal.staging i k || !calHas p.cal.set i k then none
      else firstRej [portHolds p i k, channelHolds p s i k]

/-- CAL_IMPORT, in the order of R375. -/
def checkCalImport (_r : Req) (p s : State) : Option Rej :=
  let set := s.cal.staging
  firstRej [s.unstaged.map (fun b => refused .configIncomplete b), need (stagedSound set) (rangeAt 0xFFFF),
    ((List.range 8).find? (fun d => decide (calField set (16 + 8 * d) 8 ≠ if s.part.hasDie d then (getAt s.serials d 0).toNat else 0))).map
      (fun d => refused .calSerialMismatch d),
    set.findSome? (importHolds p s)]

/-- What acceptance of a CAL_IMPORT keeps: the set that it checked; staging starts over. -/
def acceptCalImport (s : State) : State := { s with cal.importing := s.cal.importing ++ [s.cal.staging], cal.staged := [] }

/-- CAL_IMPORT at its commit milestone: the oldest set kept replaces the stored one (R375). -/
def applyCalImport (_r : Req) (_c : Nat) (s : State) : State :=
  match s.cal.importing with
  | [] => s
  | set :: rest =>
    let new := sealSet set
    raise .warn 0x6103 (toBe 4 (calField new 8 4)) (useSet new { s with cal.importing := rest, cal.coefAt := s.time.mono })

/-- CAL_STATUS. -/
def readCalStatus (_r : Req) (_room : Nat) (s : State) : List Byte × State :=
  (toBe 8 s.cal.valid ++ memBytes s.cal.set 80 8 ++ memBytes s.cal.set 16 64, s)

/-! ### Self-tests -/

/-- TEST_BIST (R331). -/
def checkTestBist (r : Req) (p s : State) : Option Rej :=
  let q := r.params
  firstRej [within q 0 1 0 7, need (p.part.hasDie (fld q 0 1)) (refused .dieAbsent 0), within q 1 1 0 1, rsvOk q 2 2,
    need (decide (s.power.mode = .test)) (refused .mode s.power.mode.code)]

/-- A self-test of a die. -/
def State.bist (s : State) (d : Nat) : Bist := tget s.power.bists d {}

/-- TEST_BIST while a test runs on the die (Table 13.15). -/
def busyTestBist (r : Req) (p s : State) : Option Rej :=
  let d := fld r.params 0 1
  need (decide ((s.bist d).state ≠ 1 ∧ (p.bist d).state ≠ 1)) (busy .refConflict d)

/-- TEST_BIST at its commit milestone starts the test, in TEST mode. -/
def applyTestBist (r : Req) (_c : Nat) (s : State) : State :=
  if s.power.mode ≠ .test then s
  else { s with power.bists := tput s.power.bists (fld r.params 0 1) { state := 1, test := fld r.params 1 1, failures := 0 } }

/-- TEST_STATUS. -/
def readTestStatus (_r : Req) (_room : Nat) (s : State) : List Byte × State :=
  ((List.range 8).flatMap (fun d => [BitVec.ofNat 8 (s.bist d).state, BitVec.ofNat 8 (s.bist d).test, 0, 0] ++ toBe 4 (s.bist d).failures), s)

end Sys2Proof.Machine
end

