-- ==== Sys2Proof/Machine/ClockCommands.lean ====
section
/-! DEFINITION. Family 0x08, clock synthesis (09_clock_synthesis, Table 13.10): the checks, effects and replies of its commands.
`p` is the committed configuration with every pending commit applied (R300), `s` the device. -/

namespace Sys2Proof.Machine

/-! ### Status -/

/-- The clock status word (Table 9.9). -/
def clockWord (s : State) : Nat × State :=
  let (f, s) := cclkMhz s
  let recent := (s.clk.fwdResets.filter (fun t => decide (s.time.mono < t + 3600 * second))).length
  (s.power.oscSel * 2 ^ 29 + flag s.clk.oscOk * 2 ^ 28 + flag s.clk.asynLock * 2 ^ 27 + flag (s.core 0).cclkLock * 2 ^ 26 +
    flag (s.core 0).bclkLock * 2 ^ 25 + flag (s.core 1).cclkLock * 2 ^ 24 + flag (s.core 1).bclkLock * 2 ^ 23 +
    flag (s.core 0).frozen.isSome * 2 ^ 22 + flag (s.core 1).frozen.isSome * 2 ^ 21 + flag s.clk.ramp.isSome * 2 ^ 20 +
    ((List.range 4).foldl (fun n i => n + flag (s.outOn i) * 2 ^ i) 0) * 2 ^ 16 + min 15 recent * 2 ^ 12 + f, s)

/-- CLOCK_STATUS. -/
def readClockStatus (_r : Req) (_room : Nat) (s : State) : List Byte × State :=
  let (w, s) := clockWord s
  (toBe 4 w, s)

/-! ### Ramps -/

/-- A segment of a ramp profile: breakpoint and slope. -/
def rampSegments (q : List Byte) : List (Nat × Nat) := (List.range (fld q 0 1)).map (fun i => (fld q (4 + 4 * i) 2, fld q (6 + 4 * i) 2))

/-- The breakpoints rise strictly from 1,600 MHz and stay below 2,100 MHz, each slope is 1 to 1,000 MHz/ms (R229). -/
def profileCheck : Nat → Nat → List (Nat × Nat) → Option Rej
  | _, _, [] => none
  | off, low, (b, v) :: r =>
    firstRej [need (decide (low ≤ b ∧ b < 2100) && (decide (off ≠ 4) || decide (b = 1600))) (rangeAt off),
      need (decide (1 ≤ v ∧ v ≤ 1000)) (rangeAt (off + 2)), profileCheck (off + 4) (b + 1) r]

/-- RAMP_PROFILE (R229). -/
def checkRampProfile (r : Req) (_p s : State) : Option Rej :=
  let q := r.params
  firstRej [within q 0 1 1 8, rsvOk q 1 3, profileCheck 4 0 (rampSegments q), need s.clk.ramp.isNone (refused .rampActive 0)]

/-- RAMP_PROFILE takes the place of the profile. -/
def pendRampProfile (r : Req) (s : State) : State := { s with clk.profile := rampSegments r.params }

/-- What R230 asks of one CORE die for an upward target: an acknowledged voltage that covers it. -/
def rampVolt (p s : State) (target d : Nat) : Option Rej :=
  if target ≤ s.fmax d (s.rail d).acked then none
  else
    let covers := fun (v : Rail) => decide (v.state = 1 ∧ target ≤ s.fmax d v.requested)
    some (refused (if covers (s.rail d) || covers (p.rail d) then .voltageNotReady else .freqLimit) d)

/-- RAMP_START (R230): a target that is the current step is refused nothing further. -/
def checkRampStart (r : Req) (p s : State) : Option Rej :=
  let q := r.params
  let t := fld q 0 2
  let upward := decide (s.clk.cclk < t)
  firstRej [need (cclkSteps.contains t) (rangeAt 0), rsvOk q 2 2,
    s.coreDies.findSome? (fun d => need (s.ready (5 + d)) (refused .notReady d)),
    need (s.clk.ramp.isNone && p.clk.ramp.isNone) (refused .rampActive 0),
    need (!(upward && decide (2 ≤ s.power.stage))) (refused .shedActive 0),
    if upward then s.coreDies.findSome? (rampVolt p s t) else none]

/-- RAMP_START names the step that CCLK is at: it returns OK and starts nothing (R230). -/
def rampIdle (r : Req) (s : State) : Bool := decide (fld r.params 0 2 = s.clk.cclk)

/-- The acknowledged voltage of every CORE die covers a step, and so does a request that awaits its acknowledgement (R232). -/
def State.voltCovers (s : State) (t : Nat) : Bool :=
  s.coreDies.all (fun d =>
    let v := s.rail d
    decide (t ≤ s.fmax d v.acked) && (decide (v.state ≠ 1) || decide (t ≤ s.fmax d v.requested)))

/-- RAMP_START at its commit milestone: the ramp begins, unless by then another runs, CCLK is stopped, shedding stage 2 holds
CCLK down, or the voltages no longer cover the target (R232, log entry 50). -/
def applyRampStart (r : Req) (_c : Nat) (s : State) : State :=
  let t := fld r.params 0 2
  if s.clk.ramp.isSome || decide (s.clk.cclk = 0 ∨ s.clk.cclk = t) ||
      (decide (s.clk.cclk < t) && (decide (2 ≤ s.power.stage) || !s.voltCovers t)) then s
  else startRamp .host t s

/-- The target of RAMP_STATUS: a free value while no ramp runs (log entry 29). -/
def rampTarget (s : State) : Nat × State :=
  match s.clk.ramp with
  | some r => (r.target, s)
  | none => draw 65536 s

/-- The segment of the profile that holds CCLK; a free value while CCLK is stopped (log entry 29). -/
def rampSegment (s : State) : Nat × State :=
  if s.cclkPos = 0 then draw 256 s else ((s.clk.profile.filter (fun e => decide (e.1 * milli ≤ s.cclkPos))).length - 1, s)

/-- RAMP_STATUS. -/
def readRampStatus (_r : Req) (_room : Nat) (s : State) : List Byte × State :=
  let (f, s) := cclkMhz s
  let (t, s) := rampTarget s
  let (g, s) := rampSegment s
  (toBe 2 f ++ toBe 2 t ++ [BitVec.ofNat 8 g, 0, 0, 0] ++
    s.coreDies.flatMap (fun d => (s.fused d).flatMap (toBe 2) ++ toBe 2 (s.rail d).acked ++ [0, 0]), s)

/-! ### Outputs and lane PLLs -/

/-- CLK_OUT_CONFIG (R234, Table 9.7). -/
def checkClkOutConfig (r : Req) (_p _s : State) : Option Rej :=
  let q := r.params
  let p := fld q 4 8
  let d := fld q 12 2
  firstRej [within q 0 1 0 3, within q 1 1 0 1, within q 2 1 0 2, rsvOk q 3 1, within q 4 8 1 (2 ^ 40 - 1), within q 12 2 1 65535,
    need (decide (1000 * d ≤ p ∧ p ≤ 250000000 * d)) (rangeAt 4), rsvOk q 14 2,
    need (decide (fld q 16 8 * p < d * 256000000000)) (rangeAt 16)]

/-- CLK_OUT_CONFIG at its commit milestone (R236): at a change the series in progress ends, and a new one starts as its own
conditions say. -/
def applyClkOutConfig (r : Req) (_c : Nat) (s : State) : State :=
  let q := r.params
  let n := fld q 0 1
  let set := fun (c : ClkOut) =>
    { c with enable := bit (fld q 1 1) 0, squelch := fld q 2 1, p := fld q 4 8, q := fld q 12 2, offset := fld q 16 8 }
  let c := tget s.clk.outs n {}
  let s := if set c = c then s else stopOut n 0 s
  { s with clk.outs := tmod s.clk.outs n {} set }

/-- LANE_PLL_CONFIG (R224). -/
def checkLanePllConfig (r : Req) (_p _s : State) : Option Rej :=
  let q := r.params
  firstRej [within q 0 2 1 1000, rsvOk q 2 2, within q 4 4 64 65536]

/-- LANE_PLL_CONFIG at its commit milestone. -/
def applyLanePllConfig (r : Req) (_c : Nat) (s : State) : State :=
  { s with clk.laneWindow := fld r.params 0 2, clk.laneN := fld r.params 4 4 }

end Sys2Proof.Machine
end

