-- ==== Sys2Proof/Machine/CounterCommands.lean ====
section
/-! DEFINITION. Families 0x0A and 0x0B, counters, tagging and the event recorder (17_counters_and_tagging, 18_event_recorder,
Table 13.12): snapshots, and the checks, effects and replies of the commands. `p` is the committed configuration with every
pending commit applied (R300), `s` the device. -/

namespace Sys2Proof.Machine

/-! ### Snapshots -/

/-- A snapshot that is latched whole becomes the window (R383). -/
def changeOver (s : State) : State :=
  match s.ctr.latching with
  | none => s
  | some v => { s with ctr.window := v, ctr.latching := none, ctr.snapSeq := s.ctr.snapSeq + 1 }

/-- Every counter is latched now (R381): `untimed` while no milestones fall. One that is still being latched completes
first. -/
def takeSnapshot (untimed : Bool) (s : State) : State :=
  if !s.ready 9 then s
  else
    let s := changeOver (landAll s)
    { s with ctr.latching := some { ms := if untimed then 0 else s.ms, untimed := untimed, counters := s.ctr.live }
             ctr.latched := some (s.ms, s.time.mono), ctr.skipped := none }

/-- A snapshot has been latched at the milestone in progress, at this instant of the monotonic counter's milestone. -/
def State.latchedNow (s : State) : Bool :=
  match s.ctr.latched with
  | some (m, t) => decide (m = s.ms ∧ s.time.mono < t + slotUnits)
  | none => false

/-- The milestone in progress takes a periodic snapshot (R381), or the one that a forward step owes (R382). -/
def State.periodic (s : State) : Bool :=
  decide (s.ctr.interval ≠ 0 ∧ s.ms.toNat % s.ctr.interval = 0) || (s.ctr.skipped.map (fun m => decide (s.ms ≠ m))).getD false

/-- The die that holds a counter is cut off from CORE0 (R378). -/
def State.counterCut (s : State) (group inst : Nat) : Bool :=
  match group with
  | 1 => s.laneCut (portOf inst)
  | 2 => s.laneCut (portOf inst)
  | 3 => decide (48 ≤ portOf inst) && s.segFailed 6
  | 4 => decide (48 ≤ portOf inst) && s.segFailed 6
  | 5 => s.laneCut (portOf inst)
  | 6 => s.laneCut (portOf inst)
  | 7 => s.laneCut (inst / 8)
  | 8 => s.laneCut inst
  | _ => false

/-- A counter of the snapshot window: value and sticky bit (R378, R383). -/
def State.latched (s : State) (group inst index : Nat) : Nat × Bool :=
  if s.counterCut group inst then (0, false) else tget s.ctr.window.counters (ctrKey group inst index) (0, false)

/-- SNAP_MS (Table 17.3). -/
def State.snapMs (s : State) : Nat := flag s.ctr.window.untimed * 2 ^ 63 + s.ctr.window.ms.toNat

/-- Port of an instance of a group, none for the groups that CORE0 holds (Table 17.1). -/
def ctrPort (group inst : Nat) : Option Nat :=
  if group ≤ 6 then some (portOf inst) else if group = 7 then some (inst / 8) else if group = 8 then some inst else none

/-- COUNTER_READ (R378, R383). -/
def checkCounterRead (r : Req) (p _s : State) : Option Rej :=
  let g := fld r.params 4 2
  let i := fld r.params 6 2
  firstRej [need (decide (1 ≤ g ∧ g ≤ 10)) (rangeAt 4), need (decide (i < ctrInstances g)) (rangeAt 6),
    need (((ctrPort g i).map (fun q => decide (q < p.part.ports))).getD true) (refused .dieAbsent 0)]

/-- One instance of a group from the latest snapshot. -/
def readCounterRead (r : Req) (room : Nat) (s : State) : List Byte × State :=
  let g := fld r.params 4 2
  let i := fld r.params 6 2
  let items := (List.range (ctrPer g)).map (fun k =>
    let c := s.latched g i k
    toBe 8 (flag c.2 * 2 ^ 63 + c.1))
  (toBe 8 s.snapMs ++ listReply (fld r.params 0 4) (room - 8) 8 items, s)

/-- SNAPSHOT_CONFIG. -/
def checkSnapshotConfig (r : Req) (_p _s : State) : Option Rej :=
  need (decide (fld r.params 0 4 = 0 ∨ 3906 ≤ fld r.params 0 4)) (rangeAt 0)

/-- SNAPSHOT_CONFIG at its commit milestone (R381). -/
def applySnapshotConfig (r : Req) (_c : Nat) (s : State) : State := { s with ctr.interval := fld r.params 0 4 }

/-- SNAPSHOT_NOW at its commit milestone: the snapshot that the milestone takes (R381). -/
def applySnapshotNow (_r : Req) (_c : Nat) (s : State) : State := s

/-! ### Filters -/

/-- A filter. -/
def State.filter (s : State) (k : Nat) : Filter := tget s.ctr.filters k {}

/-- Used indexes of a group that FILTER_CONFIG can name (Table 17.2). -/
def eventIndexes : Nat → Nat
  | 1 => 12 | 2 => 9 | 3 => 20 | 4 => 20 | 5 => 32 | _ => 0

/-- FILTER_CONFIG (R384, R385). -/
def checkFilterConfig (r : Req) (p _s : State) : Option Rej :=
  let q := r.params
  let k := fld q 0 1
  let chain := bit (fld q 1 1) 1
  let region := fld q 8 2
  firstRej [within q 0 1 0 63, need (decide (fld q 1 1 < 4) && !(chain && decide (k % 2 = 1))) (rangeAt 1),
    need (decide (fld q 3 1 < eventIndexes (fld q 2 1))) (rangeAt 2),
    if fld q 4 2 = 0x1FF then none else lportField p (fld q 4 2) 4 0,
    within q 7 1 0 2, need (decide (region = 0xFFFF ∨ (region < 16 ∧ region % 8 < 6))) (rangeAt 8),
    need (decide (region = 0xFFFF ∨ region / 8 < p.part.cores)) (refused .dieAbsent 0), rsvOk q 10 2,
    need (decide (fld q 12 16 ≤ fld q 28 16)) (rangeAt 28),
    need (!(decide (k % 2 = 1) && (p.filter (k - 1)).chain)) (refused .gateActive k),
    need (!(chain && (p.filter (k + 1)).enable)) (refused .gateActive k)]

/-- FILTER_CONFIG at its commit milestone (R386): the named counters restart, or wait for the restoration of stage 1. -/
def applyFilterConfig (r : Req) (_c : Nat) (s : State) : State :=
  let q := r.params
  let k := fld q 0 1
  let chain := bit (fld q 1 1) 1
  let ks := if chain || (s.filter k).chain then [k, k + 1] else [k]
  let f : Filter :=
    { enable := bit (fld q 1 1) 0, chain := chain, group := fld q 2 1, index := fld q 3 1, lport := fld q 4 2, classes := fld q 6 1
      origin := fld q 7 1, region := fld q 8 2, lo := BitVec.ofNat 128 (fld q 12 16), hi := BitVec.ofNat 128 (fld q 28 16) }
  let s := { s with ctr.filters := tput s.ctr.filters k f }
  if 1 ≤ s.power.stage then { s with ctr.restarts := s.ctr.restarts ++ ks.filter (fun x => !s.ctr.restarts.contains x) }
  else restartFilters ks s

/-- STICKY_CLEAR. -/
def checkStickyClear (r : Req) (_p _s : State) : Option Rej :=
  let g := fld r.params 0 2
  firstRej [need (decide ((1 ≤ g ∧ g ≤ 10) ∨ g = 0xFFFF)) (rangeAt 0), rsvOk r.params 2 2]

/-- A counter's key lies in a group. -/
def inGroup (g key : Nat) : Bool := decide (ctrOffset g ≤ key ∧ key < ctrOffset g + 8 * (ctrInstances g * ctrPer g))

/-- STICKY_CLEAR at its commit milestone, after the latch of any snapshot (R380). -/
def applyStickyClear (r : Req) (_c : Nat) (s : State) : State :=
  let g := fld r.params 0 2
  { s with ctr.live := s.ctr.live.map (fun e => if decide (g = 0xFFFF) || inGroup g e.1 then (e.1, (e.2.1, false)) else e) }

/-- TAG_CONFIG (R387). -/
def checkTagConfig (r : Req) (p s : State) : Option Rej :=
  let q := r.params
  let k := fld q 0 1
  firstRej [need (decide (k = 0 ∨ (4 ≤ k ∧ k ≤ 24))) (rangeAt 0), rsvOk q 1 3,
    need (decide (fld q 4 8 < 2 ^ 48)) (rangeAt 4), need (decide (fld q 4 8 < 2 ^ p.part.pipelines)) (refused .dieAbsent 0),
    need (decide (fld q 12 4 ≠ 0)) (rangeAt 12),
    need (decide (k = 0) || (s.ringOf .tag).isSome) (refused .configIncomplete 0)]

/-- TAG_CONFIG at its commit milestone: each LFSR is loaded with SEED and advanced 65,536 steps for each pipeline below its
own (R387). -/
def applyTagConfig (r : Req) (_c : Nat) (s : State) : State :=
  let q := r.params
  let seed := BitVec.ofNat 32 (fld q 12 4)
  { s with ctr.tagK := fld q 0 1, ctr.tagPipelines := fld q 4 8, ctr.tagSeed := seed
           ctr.lfsrs := (List.range s.part.pipelines).map (fun n => (n, lfsrSteps (65536 * n) seed)) }

/-! ### The event recorder -/

/-- A record placed by its SEQ, earliest first by signed difference (R401). -/
def placeRecord (r : Record) : List Record → List Record
  | [] => [r]
  | x :: t => if later x.seq r.seq then r :: x :: t else x :: placeRecord r t

/-- The stored records in SEQ order. -/
def State.stored (s : State) : List Record := (s.log.slots.map (·.2)).foldl (fun l r => placeRecord r l) []

/-- RECORDER_READ: at most 63 records by position (R401). -/
def readRecorderRead (r : Req) (room : Nat) (s : State) : List Byte × State :=
  (listReply (fld r.params 0 4) (min room (8 + 63 * 64)) 64 (s.stored.map Record.bytes), s)

/-- RECORDER_FREEZE. -/
def checkRecorderFreeze (r : Req) (_p _s : State) : Option Rej := firstRej [within r.params 0 1 0 1, rsvOk r.params 1 3]

/-- RECORDER_FREEZE at its commit milestone (R393). -/
def applyRecorderFreeze (r : Req) (_c : Nat) (s : State) : State :=
  { s with log.frozen := if fld r.params 0 1 = 1 then some s.time.mono else none }

/-- RECORDER_CONFIG. -/
def checkRecorderConfig (r : Req) (_p _s : State) : Option Rej :=
  firstRej [within r.params 0 1 1 255, within r.params 1 1 0 3, rsvOk r.params 2 2]

/-- RECORDER_CONFIG at its commit milestone (R394). -/
def applyRecorderConfig (r : Req) (_c : Nat) (s : State) : State :=
  { s with log.rate := fld r.params 0 1, log.ringSeverity := fld r.params 1 1 }

/-- RECORDER_STATUS (R402). -/
def readRecorderStatus (_r : Req) (_room : Nat) (s : State) : List Byte × State :=
  (toBe 4 s.log.slots.length ++ toBe 4 s.log.next.toNat ++ toBe 4 s.log.dropped ++ toBe 4 s.log.frozenSuppressed ++
    [BitVec.ofNat 8 (flag s.log.frozen.isSome), 0, 0, 0], s)

end Sys2Proof.Machine
end

