-- ==== Sys2Proof/Machine/DeviceCommands.lean ====
section
/-! DEFINITION. Family 0x01, device, modes and power (12_command_interface, 14_power_modes, Table 13.2): the checks, effects
and replies of its commands. `p` is the committed configuration with every pending commit applied (R300), `s` the device. -/

namespace Sys2Proof.Machine

/-! ### Identification and the right of way -/

/-- ID_PART (Table 12.7). -/
def State.idPart (s : State) : Nat := 0x4F4A0000 + s.part.idCode

/-- ID_REV (Table 12.7). -/
def State.idRev (s : State) : Nat :=
  (match s.stepping with | .a0 => 0xA0 | .b0 => 0xB0) * 2 ^ 24 + (match s.variant with | .ca => 0xCA | .cb => 0xCB) * 2 ^ 16 +
  (List.range 8).foldl (fun n d => if s.part.hasDie d then n + 2 ^ d else n) 0

/-- FW_VERSION (Table 12.7): 0 while BOOT is not ready. -/
def State.fwVersion (s : State) : Nat := if s.ready 1 then s.power.fwVersion.toNat else 0

/-- DIE_SERIAL of a die code: 0 for an absent die (Table 12.7). -/
def State.serial (s : State) (d : Nat) : Nat := if s.part.hasDie d then (getAt s.serials d 0).toNat else 0

/-- DEVICE_INFO. -/
def readDeviceInfo (_r : Req) (_room : Nat) (s : State) : List Byte × State :=
  (toBe 4 s.idPart ++ toBe 4 s.idRev ++ toBe 4 s.fwVersion ++ (List.range 8).flatMap (fun d => toBe 8 (s.serial d)) ++
    toBe 6 s.macBase.toNat ++ [0, 0], s)

/-- ROW_CLAIM (R295). -/
def checkRowClaim (r : Req) (_p s : State) : Option Rej :=
  firstRej [within r.params 0 4 0 3600,
    need (decide (s.cmd.holder = 0 ∨ s.cmd.holder = r.src.code) || r.force) (refused .noRightOfWay s.cmd.holder)]

/-- ROW_CLAIM takes the right of way and sets its lease (R295). -/
def actRowClaim (r : Req) (_room : Nat) (s : State) : List Byte × State :=
  let old := s.cmd.holder
  let new := r.src.code
  let s := { s with cmd.holder := new, cmd.lease := fld r.params 0 4, cmd.leaseFrom := s.time.mono }
  let ev := [BitVec.ofNat 8 new, BitVec.ofNat 8 old]
  let s := if old = new then s else if old = 0 then raise .note 0x5101 ev s else raise .warn 0x5102 ev s
  ([BitVec.ofNat 8 new, 0, 0, 0], s)

/-- ROW_YIELD (R295). -/
def checkRowYield (r : Req) (_p s : State) : Option Rej :=
  need (decide (s.cmd.holder = r.src.code)) (refused .noRightOfWay s.cmd.holder)

/-- ROW_YIELD gives the right of way up (R296). -/
def actRowYield (r : Req) (_room : Nat) (s : State) : List Byte × State := ([], rowRelease r.src.code 0 s)

/-- The sequence state of a local transport. -/
def State.seqOf (s : State) (src : Source) : Sequence :=
  match src with | .pcie _ => s.cmd.pcieSeq | .mgmt _ _ => s.cmd.mgmtSeq | .inband _ _ _ _ => {}

/-- A state with the sequence state of a local transport changed. -/
def State.setSeq (s : State) (src : Source) (q : Sequence) : State :=
  match src with
  | .pcie _ => { s with cmd.pcieSeq := q }
  | .mgmt _ _ => { s with cmd.mgmtSeq := q }
  | .inband _ _ _ _ => s

/-- CMD_SYNC clears the reply cache of its transport; L is its own sequence like that of any packet (R293). -/
def actCmdSync (r : Req) (_room : Nat) (s : State) : List Byte × State :=
  ([], s.setSeq r.src { s.seqOf r.src with cache := [] })

/-- A commit placed behind those of its milestone and earlier ones (R300). -/
def placeCommit (c : Commit) : List Commit → List Commit
  | [] => [c]
  | x :: r => if later x.ms c.ms then c :: x :: r else x :: placeCommit c r

/-- The pending commits in milestone order, those of one milestone in the order accepted (R300). -/
def sortCommits (cs : List Commit) : List Commit := cs.foldl (fun l c => placeCommit c l) []

/-- L of a transport as CMD_STATUS gives it: undefined until a first packet is processed (R292, log entry 29). -/
def lastShown (l : Option (BitVec 32)) (s : State) : Nat × State :=
  match l with
  | some v => (v.toNat, s)
  | none => draw (2 ^ 32) s

/-- CMD_STATUS. -/
def readCmdStatus (r : Req) (room : Nat) (s : State) : List Byte × State :=
  let end_ := s.cmd.leaseFrom + s.cmd.lease * second
  let (left, s) := if s.cmd.holder = 0 ∨ s.cmd.lease = 0 then ((0 : Int), s)
    else openDiv ((end_ - s.time.mono : Nat) : Int) second s
  let (a, s) := lastShown s.cmd.pcieSeq.last s
  let (b, s) := lastShown s.cmd.mgmtSeq.last s
  let (c, s) := lastShown s.cmd.inbandLast s
  let items := (sortCommits s.cmd.commits).map (fun k => toBe 8 k.ms.toNat ++ toBe 2 k.op.code ++ [BitVec.ofNat 8 k.req.src.code, 0])
  ([BitVec.ofNat 8 s.cmd.holder, 0, 0, 0] ++ toBe 4 left.toNat ++ toBe 4 a ++ toBe 4 b ++ toBe 4 c ++
    ([9, 10, 11, 12] : List Nat).flatMap (fun i => toBe 4 (s.counter 9 0 i % 2 ^ 32)) ++
    listReply (fld r.params 0 4) (room - 36) 12 items, s)

/-- MGMT_CONFIG (R289). -/
def checkMgmtConfig (r : Req) (_p _s : State) : Option Rej :=
  let q := r.params
  firstRej [within q 0 1 0 2, within q 1 1 0 1, within q 2 2 1 65535,
    match fld q 0 1 with
    | 0 => rsvOk q 4 16
    | 1 => rsvOk q 4 12
    | _ => none,
    need (decide (fld q 1 1 = 1 ∨ r.src.code = 1)) (refused .mode 0)]

/-- MGMT_CONFIG at its commit milestone. -/
def applyMgmtConfig (r : Req) (_c : Nat) (s : State) : State :=
  let q := r.params
  { s with cmd.mgmt := { family := fld q 0 1, auth := decide (fld q 1 1 = 1), udpPort := fld q 2 2, address := (q.drop 4).take 16 } }

/-! ### Modes -/

/-- A DORMANT entry runs. -/
def State.entering (s : State) : Bool := match s.power.dormant with | .entry _ => true | _ => false

/-- Table 14.2 provides MODE_SET of a target in a mode; during DORMANT entry and in DORMANT a MODE_SET to TIMING-ONLY or
SERVICE is a wake (R347). -/
def modeAllowed (s : State) (m : Mode) : Bool :=
  let now := s.power.mode
  match m with
  | .keep => decide (now ≠ .keep)
  | .dormant => decide (now = .service ∨ now = .shed ∨ now = .timingOnly ∨ now = .safe)
  | .timingOnly => s.entering || decide (now = .service ∨ now = .shed ∨ now = .test ∨ now = .safe ∨ now = .dormant)
  | .service => s.entering || decide (now = .timingOnly ∨ now = .dormant)
  | .test => decide (now = .timingOnly)
  | .safe => decide (now = .service ∨ now = .shed ∨ now = .timingOnly ∨ now = .test)
  | _ => false

/-- MODE_SET (R333, R346, R354, Table 13.2). -/
def checkModeSet (r : Req) (p s : State) : Option Rej :=
  let q := r.params
  match Mode.ofCode (fld q 0 1) with
  | none => some (rangeAt 0)
  | some m =>
    firstRej [rsvOk q 1 3, need (modeAllowed p m) (refused .mode p.power.mode.code),
      if m = .service then ([0, 1] : List Nat).findSome? (fun d => need (decide (p.lost d = 0)) (refused .retentionLost d)) else none,
      need (!(decide (m = .service ∨ m = .test) && decide (s.power.stage ≠ 0))) (refused .shedActive 0),
      need (!(decide (m = .dormant) && r.ms.isSome && p.power.compat)) (refused .compatMode 0)]

/-- Loops, PRBS and BIST end as TEST is left (Table 14.2). -/
def endTests (s : State) : State :=
  let s := (s.power.bists.filter (fun e => decide (e.2.state = 1))).foldl (fun s e => bistLost e.1 e.2 s) s
  { s with port.lports := s.port.lports.map (fun e => (e.1, { e.2 with loop := 0 }))
           port.lanes := s.port.lanes.map (fun e => (e.1, { e.2 with prbsGen := 0, prbsChk := 0 }))
           power.bists := s.power.bists.map (fun e => (e.1, if e.2.state = 1 then { e.2 with state := 0 } else e.2)) }

/-- MODE_SET at its commit milestone: a wake during DORMANT entry and in DORMANT (R347), else the transition of Table 14.2
starts; one that the mode then reached no longer provides changes nothing. -/
def applyModeSet (r : Req) (_c : Nat) (s : State) : State :=
  match Mode.ofCode (fld r.params 0 1) with
  | none => s
  | some m =>
    if !modeAllowed s m then s
    else if (s.entering || decide (s.power.mode = .dormant)) && decide (m = .timingOnly ∨ m = .service) then wakeUp (some m) s
    else
      let old := s.power.mode
      match m with
      | .dormant => beginDormant s
      | .keep => { s with power.transition := some .keep }
      | .timingOnly =>
        let s := { s with power.transition := some .timingOnly }
        if old = .shed then restrictPorts { s with power.restoreMode := .timingOnly }
        else
          let s := if old = .test then endTests s else s
          let s := if old = .safe then { s with clk.fwdResets := [] } else s
          restrictPorts (setMode .timingOnly s)
      | .service => setMode .service { s with power.transition := some .service }
      | _ => restrictPorts (setMode m { s with power.transition := some m })

/-- MODE_STATUS. -/
def readModeStatus (_r : Req) (_room : Nat) (s : State) : List Byte × State :=
  ([BitVec.ofNat 8 s.power.mode.code, BitVec.ofNat 8 s.power.stage,
    match s.power.transition with | some m => BitVec.ofNat 8 m.code | none => 0xFF,
    BitVec.ofNat 8 s.triggers, BitVec.ofNat 8 (flag s.power.padsLatched), 0, 0, 0], s)

/-! ### Voltages, shedding, pads -/

/-- AVS_REQUEST (R232, R334): the rail's die, the range of its voltage, and what a running ramp or the current step forbids. -/
def checkAvsRequest (r : Req) (p s : State) : Option Rej :=
  let q := r.params
  let rail := fld q 0 1
  let mv := fld q 2 2
  firstRej [within q 0 1 0 7, need (p.part.hasDie rail) (refused .dieAbsent 0), rsvOk q 1 1,
    within q 2 2 700 (if rail < 2 then 850 else 800),
    if 2 ≤ rail then none
    else firstRej [need (!((s.clk.ramp.isSome || p.clk.ramp.isSome) && decide (mv < (s.rail rail).acked))) (refused .rampActive 0),
      need (decide (p.fusedAt rail s.clk.cclk ≤ mv)) (refused .freqLimit 0)]]

/-- AVS_REQUEST on a rail whose request awaits acknowledgement (R310). -/
def busyAvsRequest (r : Req) (p s : State) : Option Rej :=
  let rail := fld r.params 0 1
  need (decide ((s.rail rail).state ≠ 1 ∧ (p.rail rail).state ≠ 1)) (busy .refConflict rail)

/-- AVS_REQUEST at its commit milestone (R334). A VDD_CORE voltage below what a ramp that has begun since, or the step reached
since, needs is not requested (R232, log entry 50). -/
def applyAvsRequest (r : Req) (_c : Nat) (s : State) : State :=
  let rail := fld r.params 0 1
  let mv := fld r.params 2 2
  if decide (rail < 2) && ((s.clk.ramp.isSome && decide (mv < (s.rail rail).acked)) || decide (mv < s.fusedAt rail s.clk.cclk)) then s
  else requestVolt .host rail mv s

/-- AVS_STATUS. -/
def readAvsStatus (_r : Req) (_room : Nat) (s : State) : List Byte × State :=
  ((List.range 8).flatMap (fun r =>
    let v := s.rail r
    toBe 2 v.requested ++ toBe 2 v.acked ++ [BitVec.ofNat 8 v.state, BitVec.ofNat 8 v.attempts, BitVec.ofNat 8 (flag v.alert), 0]), s)

/-- SHED_CONFIG. -/
def checkShedConfig (r : Req) (_p _s : State) : Option Rej :=
  firstRej [within r.params 0 1 0 7, rsvOk r.params 1 1, within r.params 2 2 10 10000]

/-- What a change of the triggers starts: the dwell of one that cleared, and R339 and R341 for one that asserted. -/
def triggersMoved (before : Nat) (s : State) : State :=
  let s := clearing before s
  if (List.range 5).any (fun i => bit s.triggers i && !bit before i) then asserted s else s

/-- SHED_CONFIG at its commit milestone (R337, R340). -/
def applyShedConfig (r : Req) (_c : Nat) (s : State) : State :=
  triggersMoved s.triggers { s with power.trigEnable := fld r.params 0 1, power.dwell := fld r.params 2 2 }

/-- PAD_RELEASE. -/
def checkPadRelease (_r : Req) (p _s : State) : Option Rej := need p.power.padsLatched (refused .mode 0)

/-- PAD_RELEASE at its commit milestone (R345). -/
def applyPadRelease (_r : Req) (_c : Nat) (s : State) : State := raise .note 0x110C [] { s with power.padsLatched := false }

/-- DORMANT_CONFIG. -/
def checkDormantConfig (r : Req) (_p _s : State) : Option Rej :=
  firstRej [within r.params 0 1 0 1, within r.params 1 1 1 3, rsvOk r.params 2 2]

/-- DORMANT_CONFIG at its commit milestone. -/
def applyDormantConfig (r : Req) (_c : Nat) (s : State) : State :=
  { s with power.compat := decide (fld r.params 0 1 = 1), power.wakeEn := fld r.params 1 1 }

/-! ### The Vigil domain and lost banks -/

/-- The sixteen bytes of the Vigil failure record (Table 14.10). -/
def FailureRecord.bytes (f : FailureRecord) : List Byte :=
  [BitVec.ofNat 8 (128 * flag f.pending), 0] ++ toBe 2 f.code ++
  [BitVec.ofNat 8 f.rail, BitVec.ofNat 8 f.attempts, BitVec.ofNat 8 f.phase] ++ toBe 4 f.powerCycles.toNat ++ toBe 5 f.opSeconds.toNat

/-- VIGIL_READ. -/
def readVigilRead (_r : Req) (_room : Nat) (s : State) : List Byte × State :=
  let v := s.power
  (toBe 8 v.opSeconds.toNat ++ toBe 4 v.powerCycles.toNat ++ [0, 0, 0, 0] ++
    toBe 8 (flag v.coarseValid * 2 ^ 63 + (if v.coarseValid then s.coarseNow else s.coarseBase)) ++ v.failure.bytes ++ v.scratch, s)

/-- VIGIL_SCRATCH. -/
def checkVigilScratch (r : Req) (_p _s : State) : Option Rej :=
  let q := r.params
  firstRej [within q 0 1 16 63, within q 1 1 1 (min 48 (64 - fld q 0 1)), rsvOk q 2 2]

/-- VIGIL_SCRATCH at its commit milestone (R351). -/
def applyVigilScratch (r : Req) (_c : Nat) (s : State) : State :=
  let q := r.params
  { s with power.scratch := putAt s.power.scratch (fld q 0 1 - 16) ((q.drop 4).take (fld q 1 1)) }

/-- TABLE_RESTORE (R349). -/
def checkTableRestore (r : Req) (p _s : State) : Option Rej :=
  let d := fld r.params 0 1
  firstRej [coreField p d 0 0, rsvOk r.params 1 3, need (decide (p.lost d ≠ 0)) (refused .mode 0)]

/-- TABLE_RESTORE at its commit milestone (R349): the die's marks clear, and event 0x6203 when none is left. -/
def applyTableRestore (r : Req) (_c : Nat) (s : State) : State :=
  let d := fld r.params 0 1
  let marked := decide (s.power.lost0 ≠ 0 ∨ s.power.lost1 ≠ 0)
  let s := if d = 0 then { s with power.lost0 := 0 } else { s with power.lost1 := 0 }
  if marked && decide (s.power.lost0 = 0 ∧ s.power.lost1 = 0) then raise .note 0x6203 [] s else s

end Sys2Proof.Machine
end

