-- ==== Sys2Proof/Machine/ForwardCommands.lean ====
section
/-! DEFINITION. Family 0x03, forwarding tables (03_forwarding_pipeline, Tables 13.4 and 13.5): the checks, effects and
replies of its commands. -/

namespace Sys2Proof.Machine

/-- An entry's logical port: R58 with the field's byte offset as detail (R77). -/
def entryLport (p : State) (l off : Nat) : Option Rej := lportField p l off off

/-- A bit of a port bitmap names a logical port that is absent (R311): the detail is its byte. -/
def bitmapCheck (p : State) (bs : List Byte) (off : Nat) : Option Rej :=
  (bitmapPorts bs).findSome? (fun l => lportField p l (off + l / 8) (off + l / 8))

/-- The first index at which a key is new and the table has no room (R77). -/
def firstFull {α : Type} [DecidableEq α] (cap : Nat) : Nat → List α → List α → Option Nat
  | _, _, [] => none
  | i, have_, k :: r =>
    if have_.contains k then firstFull cap (i + 1) have_ r
    else if cap ≤ have_.length then some i
    else firstFull cap (i + 1) (k :: have_) r

/-- TABLE_FULL with the index of the first entry that does not fit. -/
def fullRej (o : Option Nat) : Option Rej := o.map (fun i => refused .tableFull i)

/-! ### L2 -/

/-- An entry of L2_WRITE. -/
def l2Entry (e : List Byte) : L2Entry :=
  { vid := fld e 0 2, mac := BitVec.ofNat 48 (fld e 2 6), kind := fld e 8 1, target := fld e 10 2 }

/-- Fields of an L2 entry (R69). -/
def l2Field (p : State) (o : Nat) (e : List Byte) : Option Rej :=
  let v := l2Entry e
  firstRej [need (decide (v.vid < 4096)) (rangeAt o), need (decide (v.kind ≤ 4)) (rangeAt (o + 8)),
    need (decide (fld e 9 1 = 0)) (rangeAt (o + 9)),
    if v.kind = 0 then entryLport p v.target (o + 10)
    else need (decide (if v.kind = 1 then v.target < 32768 else v.target = 0)) (rangeAt (o + 10))]

/-- L2_WRITE (R69, R77). -/
def checkL2Write (r : Req) (p _s : State) : Option Rej :=
  let es := entries r.params 12
  firstRej [eachEntry 4 12 (l2Field p) es,
    fullRej (firstFull 262144 0 (p.fwd.l2.map (fun e => (e.vid, e.mac))) (es.map (fun e => ((l2Entry e).vid, (l2Entry e).mac))))]

/-- A table of L2 entries with one added or replaced. -/
def putL2 (t : List L2Entry) (e : L2Entry) : List L2Entry :=
  if t.any (fun x => decide (x.vid = e.vid ∧ x.mac = e.mac)) then
    t.map (fun x => if x.vid = e.vid ∧ x.mac = e.mac then e else x)
  else t ++ [e]

/-- L2_WRITE at its commit milestone. -/
def applyL2Write (r : Req) (_c : Nat) (s : State) : State :=
  { s with fwd.l2 := ((entries r.params 12).map l2Entry).foldl putL2 s.fwd.l2 }

/-- The keys of L2_DELETE. -/
def l2Keys (r : Req) : List (Nat × BitVec 48) :=
  ((entries r.params 8).map (fun e => (fld e 0 2, BitVec.ofNat 48 (fld e 2 6)))).dedup

/-- L2_DELETE. -/
def checkL2Delete (r : Req) (_p _s : State) : Option Rej :=
  eachEntry 4 8 (fun o e => need (decide (fld e 0 2 < 4096)) (rangeAt o)) (entries r.params 8)

/-- L2_DELETE at its commit milestone (R321). -/
def applyL2Delete (r : Req) (_c : Nat) (s : State) : State :=
  let ks := l2Keys r
  { s with fwd.l2 := s.fwd.l2.filter (fun e => !ks.contains (e.vid, e.mac)) }

/-- DELETED of L2_DELETE, judged on the projected table (R321). -/
def replyL2Delete (r : Req) (p : State) : List Byte :=
  toBe 4 ((l2Keys r).countP (fun k => p.fwd.l2.any (fun e => decide ((e.vid, e.mac) = k))))

/-! ### Routes -/

/-- Address bits of a family. -/
def familyWidth (v6 : Nat) : Nat := if v6 = 0 then 32 else 128

/-- An address with the bits behind its prefix cleared. -/
def maskAddr (width plen a : Nat) : BitVec 128 := BitVec.ofNat 128 (a / 2 ^ (width - plen) * 2 ^ (width - plen))

/-- The table of a route: 0 IPv4, 1 IPv6 short, 2 IPv6 long. -/
def lpmTable (v6 plen : Nat) : Nat := if v6 = 0 then 0 else if plen ≤ 64 then 1 else 2

/-- An entry of LPM_WRITE: its table and route. -/
def lpmEntry (e : List Byte) : Nat × Route :=
  let v6 := fld e 0 1
  (lpmTable v6 (fld e 1 1),
    { plen := fld e 1 1, addr := maskAddr (familyWidth v6) (fld e 1 1) (fld e 8 16), ecmp := decide (fld e 2 1 = 1)
      index := fld e 4 2 })

/-- FAMILY, PLEN and the unused address bytes of a route, with the offset of the address. DESIGN CHOICE (log entry 58): an IPv4 entry
whose other twelve address bytes are not 0 is refused with RANGE, and address bits beyond PLEN are cleared (`maskAddr`). -/
def lpmKeyField (o a : Nat) (e : List Byte) : Option Rej :=
  firstRej [need (decide (fld e 0 1 ≤ 1)) (rangeAt o), need (decide (fld e 1 1 ≤ familyWidth (fld e 0 1))) (rangeAt (o + 1)),
    need (decide (fld e 0 1 = 1 ∨ fld e a 12 = 0)) (rangeAt (o + a))]

/-- Fields of a route. -/
def lpmField (o : Nat) (e : List Byte) : Option Rej :=
  firstRej [need (decide (fld e 0 1 ≤ 1)) (rangeAt o), need (decide (fld e 1 1 ≤ familyWidth (fld e 0 1))) (rangeAt (o + 1)),
    need (decide (fld e 2 1 ≤ 1)) (rangeAt (o + 2)), need (decide (fld e 3 1 = 0)) (rangeAt (o + 3)),
    need (decide (fld e 2 1 = 0 ∨ fld e 4 2 < 16384)) (rangeAt (o + 4)), need (decide (fld e 6 2 = 0)) (rangeAt (o + 6)),
    lpmKeyField o 8 e]

/-- The routes of a table. -/
def State.routes (s : State) (t : Nat) : List Route :=
  if t = 0 then s.fwd.lpm4 else if t = 1 then s.fwd.lpm6s else s.fwd.lpm6l

/-- A state with the routes of a table changed. -/
def State.setRoutes (s : State) (t : Nat) (rs : List Route) : State :=
  if t = 0 then { s with fwd.lpm4 := rs } else if t = 1 then { s with fwd.lpm6s := rs } else { s with fwd.lpm6l := rs }

/-- Entries of a route table (Table 3.5). -/
def lpmSize : Nat → Nat
  | 0 => 2097152 | 1 => 1048576 | _ => 524288

/-- The keys of a route table, each paired with the table's number. -/
def State.routeKeys (s : State) (t : Nat) : List (Nat × Nat × BitVec 128) := (s.routes t).map (fun r => (t, r.plen, r.addr))

/-- The first entry of a write for which one of the three route tables has no room (R77). -/
def lpmFull (p : State) (es : List (Nat × Route)) : Option Nat :=
  ([0, 1, 2].filterMap (fun t =>
    let mine := (es.zipIdx.filter (fun e => e.1.1 == t))
    (firstFull (lpmSize t) 0 (p.routeKeys t) (mine.map (fun e => (e.1.1, e.1.2.plen, e.1.2.addr)))).bind
      (fun i => (mine[i]?).map (·.2)))).min?

/-- LPM_WRITE (R75, R77). -/
def checkLpmWrite (r : Req) (p _s : State) : Option Rej :=
  let es := (entries r.params 24).map lpmEntry
  firstRej [eachEntry 4 24 lpmField (entries r.params 24),
    (es.find? (fun e => e.2.ecmp && (tget p.fwd.ecmp e.2.index []).isEmpty)).map (fun e => refused .groupEmpty e.2.index),
    fullRej (lpmFull p es)]

/-- A route table with one route added or replaced. -/
def putRoute (t : List Route) (e : Route) : List Route :=
  if t.any (fun x => decide (x.plen = e.plen ∧ x.addr = e.addr)) then
    t.map (fun x => if x.plen = e.plen ∧ x.addr = e.addr then e else x)
  else t ++ [e]

/-- LPM_WRITE at its commit milestone. -/
def applyLpmWrite (r : Req) (_c : Nat) (s : State) : State :=
  ((entries r.params 24).map lpmEntry).foldl (fun s e => s.setRoutes e.1 (putRoute (s.routes e.1) e.2)) s

/-- The keys of LPM_DELETE. -/
def lpmKeys (r : Req) : List (Nat × Nat × BitVec 128) :=
  ((entries r.params 20).map (fun e =>
    (lpmTable (fld e 0 1) (fld e 1 1), fld e 1 1, maskAddr (familyWidth (fld e 0 1)) (fld e 1 1) (fld e 4 16)))).dedup

/-- LPM_DELETE. -/
def checkLpmDelete (r : Req) (_p _s : State) : Option Rej :=
  eachEntry 4 20 (fun o e => firstRej [need (decide (fld e 0 1 ≤ 1)) (rangeAt o),
    need (decide (fld e 1 1 ≤ familyWidth (fld e 0 1))) (rangeAt (o + 1)), need (decide (fld e 2 2 = 0)) (rangeAt (o + 2)),
    lpmKeyField o 4 e]) (entries r.params 20)

/-- LPM_DELETE at its commit milestone (R321). -/
def applyLpmDelete (r : Req) (_c : Nat) (s : State) : State :=
  let ks := lpmKeys r
  [0, 1, 2].foldl (fun s t => s.setRoutes t ((s.routes t).filter (fun e => !ks.contains (t, e.plen, e.addr)))) s

/-- DELETED of LPM_DELETE. -/
def replyLpmDelete (r : Req) (p : State) : List Byte :=
  toBe 4 ((lpmKeys r).countP (fun k => (p.routeKeys k.1).contains k))

/-! ### Next hops and ECMP -/

/-- An entry of NEXTHOP_WRITE. -/
def hopEntry (e : List Byte) : Nat × NextHop :=
  (fld e 0 2, { kind := fld e 2 1, lport := fld e 4 2, vid := fld e 6 2, dmac := BitVec.ofNat 48 (fld e 8 6) })

/-- NEXTHOP_WRITE (R77). -/
def checkNexthopWrite (r : Req) (p _s : State) : Option Rej :=
  eachEntry 4 16 (fun o e => firstRej [need (decide (fld e 2 1 ≤ 2)) (rangeAt (o + 2)),
    need (decide (fld e 3 1 = 0)) (rangeAt (o + 3)), entryLport p (fld e 4 2) (o + 4),
    need (decide (fld e 6 2 < 4096)) (rangeAt (o + 6)), need (decide (fld e 14 2 = 0)) (rangeAt (o + 14))])
    (entries r.params 16)

/-- NEXTHOP_WRITE at its commit milestone. -/
def applyNexthopWrite (r : Req) (_c : Nat) (s : State) : State :=
  { s with fwd.nexthops := ((entries r.params 16).map hopEntry).foldl (fun t e => tput t e.1 e.2) s.fwd.nexthops }

/-- The members of ECMP_WRITE. -/
def ecmpMembers (r : Req) : List Nat := (List.range (fld r.params 2 2)).map (fun i => fld r.params (4 + 2 * i) 2)

/-- Member entries of every group but one. -/
def otherMembers (p : State) (g : Nat) : Nat := ((p.fwd.ecmp.filter (fun e => e.1 != g)).map (fun e => e.2.length)).sum

/-- A route names an ECMP group. -/
def groupNamed (p : State) (g : Nat) : Bool :=
  [0, 1, 2].any (fun t => (p.routes t).any (fun r => r.ecmp && decide (r.index = g)))

/-- ECMP_WRITE (R75). -/
def checkEcmpWrite (r : Req) (p _s : State) : Option Rej :=
  let q := r.params
  let g := fld q 0 2
  let n := fld q 2 2
  firstRej [need (decide (g < 16384)) (rangeAt 0), need (decide (n ≤ 1024)) (rangeAt 2),
    need (decide (n % 2 = 0 ∨ fld q (4 + 2 * n) 2 = 0)) (rangeAt (4 + 2 * n)),
    need (!(decide (n = 0) && groupNamed p g)) (refused .groupEmpty g),
    need (decide (otherMembers p g + n ≤ 262144)) (refused .tableFull (262144 - otherMembers p g))]

/-- ECMP_WRITE at its commit milestone: the whole group is replaced. -/
def applyEcmpWrite (r : Req) (_c : Nat) (s : State) : State :=
  let m := ecmpMembers r
  let g := fld r.params 0 2
  { s with fwd.ecmp := if m.isEmpty then tdel s.fwd.ecmp g else tput s.fwd.ecmp g m }

/-! ### ACL -/

/-- A valid bit and three bits, as SET_CLASS and MIRROR carry them. -/
def optional3 (v : Nat) : Option Nat := if bit v 7 then some (v % 8) else none

/-- An entry of ACL_WRITE. -/
def aclEntry (e : List Byte) : Nat × AclEntry :=
  (fld e 0 2, { v6 := decide (fld e 2 1 = 1), action := fld e 3 1, setClass := optional3 (fld e 4 1)
                mirror := optional3 (fld e 5 1), redirectGroup := decide (fld e 6 1 = 1), redirect := fld e 8 2
                key := (e.drop 12).take 64, mask := (e.drop 76).take 64 })

/-- The reserved bits of a key block (Table 13.5). -/
def keyField (o : Nat) (k : List Byte) : Option Rej :=
  firstRej [need (decide (fld k 0 2 < 512)) (rangeAt o), need (decide (fld k 2 2 < 4096)) (rangeAt (o + 2)),
    need (decide (fld k 4 1 < 8)) (rangeAt (o + 4)), need (decide (fld k 5 1 < 64)) (rangeAt (o + 5)),
    need (decide (fld k 27 1 < 2)) (rangeAt (o + 27)), need (decide (fld k 60 4 = 0)) (rangeAt (o + 60))]

/-- Fields of an ACL entry (R78). -/
def aclField (p : State) (o : Nat) (e : List Byte) : Option Rej :=
  firstRej [need (decide (fld e 0 2 < 32768 ∧ (fld e 2 1 = 1 → fld e 0 2 % 2 = 0))) (rangeAt o),
    need (decide (fld e 2 1 ≤ 1)) (rangeAt (o + 2)), need (decide (fld e 3 1 ≤ 3)) (rangeAt (o + 3)),
    need (decide (fld e 4 1 / 8 % 16 = 0)) (rangeAt (o + 4)), need (decide (fld e 5 1 / 8 % 16 = 0)) (rangeAt (o + 5)),
    need (decide (fld e 6 1 ≤ 1)) (rangeAt (o + 6)), need (decide (fld e 7 1 = 0)) (rangeAt (o + 7)),
    if fld e 3 1 = 3 ∧ fld e 6 1 = 0 then entryLport p (fld e 8 2) (o + 8)
    else need (decide (fld e 3 1 ≠ 3 ∨ fld e 8 2 < 32768)) (rangeAt (o + 8)),
    need (decide (fld e 10 2 = 0)) (rangeAt (o + 10)), keyField (o + 12) ((e.drop 12).take 64),
    keyField (o + 76) ((e.drop 76).take 64)]

/-- ACL_WRITE (R77, R78). -/
def checkAclWrite (r : Req) (p _s : State) : Option Rej := eachEntry 4 140 (aclField p) (entries r.params 140)

/-- An ACL without what stands at an index: an IPv6 entry also stands at the index behind its own. -/
def aclClear (t : Tbl AclEntry) (i : Nat) : Tbl AclEntry :=
  t.filter (fun e => decide (e.1 ≠ i) && !(e.2.v6 && decide (e.1 + 1 = i)))

/-- An ACL with one entry written. -/
def aclPut (t : Tbl AclEntry) (e : Nat × AclEntry) : Tbl AclEntry :=
  tput (if e.2.v6 then aclClear (aclClear t e.1) (e.1 + 1) else aclClear t e.1) e.1 e.2

/-- ACL_WRITE at its commit milestone. -/
def applyAclWrite (r : Req) (_c : Nat) (s : State) : State :=
  { s with fwd.acl := ((entries r.params 140).map aclEntry).foldl aclPut s.fwd.acl }

/-- ACL_DELETE. -/
def checkAclDelete (r : Req) (_p _s : State) : Option Rej :=
  let q := r.params
  firstRej [need (decide (fld q 0 2 < 32768)) (rangeAt 0),
    need (decide (1 ≤ fld q 2 2 ∧ fld q 0 2 + fld q 2 2 ≤ 32768)) (rangeAt 2)]

/-- ACL_DELETE at its commit milestone. -/
def applyAclDelete (r : Req) (_c : Nat) (s : State) : State :=
  let a := fld r.params 0 2
  let b := a + fld r.params 2 2
  { s with fwd.acl := s.fwd.acl.filter (fun e =>
      !decide (a ≤ e.1 ∧ e.1 < b) && !(e.2.v6 && decide (a ≤ e.1 + 1 ∧ e.1 + 1 < b))) }

/-! ### Groups, port settings, maps -/

/-- MCGROUP_WRITE (R77). -/
def checkMcgroupWrite (r : Req) (p _s : State) : Option Rej :=
  eachEntry 4 52 (fun o e => firstRej [need (decide (fld e 0 2 < 32768)) (rangeAt o),
    need (decide (fld e 2 1 ≤ 1)) (rangeAt (o + 2)), need (decide (fld e 3 1 = 0)) (rangeAt (o + 3)),
    bitmapCheck p ((e.drop 4).take 48) (o + 4)]) (entries r.params 52)

/-- MCGROUP_WRITE at its commit milestone. -/
def applyMcgroupWrite (r : Req) (_c : Nat) (s : State) : State :=
  { s with fwd.groups := (entries r.params 52).foldl (fun t e =>
      tput t (fld e 0 2) { hairpin := bit (fld e 2 1) 0, ports := bitmapPorts ((e.drop 4).take 48) }) s.fwd.groups }

/-- LPORT_FWD_CONFIG: MTU_RANGE before any other field check (R55). -/
def checkLportFwdConfig (r : Req) (p _s : State) : Option Rej :=
  let q := r.params
  firstRej [need (decide (64 ≤ fld q 2 2 ∧ fld q 2 2 ≤ 16320)) (refused .mtuRange (fld q 0 2)),
    lportField p (fld q 0 2) 0 0, within q 4 2 1 4094, within q 6 1 0 3, within q 7 1 0 3, within q 8 1 0 7,
    within q 9 1 0 7, within q 10 1 0 2, rsvOk q 11 1, within q 12 2 0 32767, rsvOk q 14 2]

/-- LPORT_FWD_CONFIG at its commit milestone. -/
def applyLportFwdConfig (r : Req) (_c : Nat) (s : State) : State :=
  let q := r.params
  let l := fld q 0 2
  let t := fld q 8 1
  let v : LportFwd :=
    { mtu := fld q 2 2, mtuPast := (s.time.mono, (s.fwdCfg l).mtu) ::
        (s.fwdCfg l).mtuPast.filter (fun m => decide (s.time.mono < m.1 + 10 * micro))
      pvid := fld q 4 2, tagIn := fld q 6 1, tagOut := fld q 7 1, trustTag := bit t 2, trustDscp := bit t 1, trustPcp := bit t 0
      defaultClass := fld q 9 1, l2Miss := fld q 10 1, missGroup := fld q 12 2 }
  { s with fwd.lportFwd := tput s.fwd.lportFwd l v }

/-- CLASS_MAPS (R79). -/
def checkClassMaps (r : Req) (_p _s : State) : Option Rej := (List.range 72).findSome? (fun i => within r.params i 1 0 7)

/-- CLASS_MAPS at its commit milestone. -/
def applyClassMaps (r : Req) (_c : Nat) (s : State) : State :=
  { s with fwd.dscpMap := (List.range 64).map (fun i => fld r.params i 1)
           fwd.pcpMap := (List.range 8).map (fun i => fld r.params (64 + i) 1) }

/-- MIRROR_SESSION (R81). -/
def checkMirrorSession (r : Req) (p _s : State) : Option Rej :=
  let q := r.params
  firstRej [within q 0 1 0 7, within q 1 1 0 2, if fld q 1 1 = 0 then lportField p (fld q 2 2) 2 0 else none,
    within q 4 1 0 7, within q 5 1 0 1, rsvOk q 6 2, bitmapCheck p ((q.drop 8).take 48) 8,
    bitmapCheck p ((q.drop 56).take 48) 56]

/-- MIRROR_SESSION at its commit milestone. -/
def applyMirrorSession (r : Req) (_c : Nat) (s : State) : State :=
  let q := r.params
  let m : Mirror :=
    { destKind := fld q 1 1, dest := fld q 2 2, cls := fld q 4 1, truncate := decide (fld q 5 1 = 1)
      ingress := bitmapPorts ((q.drop 8).take 48), egress := bitmapPorts ((q.drop 56).take 48) }
  { s with fwd.mirrors := tput s.fwd.mirrors (fld q 0 1) m }

/-- PUNT_CONFIG (R85). -/
def checkPuntConfig (r : Req) (_p _s : State) : Option Rej :=
  let q := r.params
  firstRej [within q 0 1 0 3, rsvOk q 1 3, (List.range 7).findSome? (fun i =>
    firstRej [within q (4 + 8 * i) 4 0 1000000, within q (8 + 8 * i) 2 1 4096, rsvOk q (10 + 8 * i) 2])]

/-- PUNT_CONFIG at its commit milestone: each bucket keeps the tokens it has, up to its new burst. -/
def applyPuntConfig (r : Req) (_c : Nat) (s : State) : State :=
  let q := r.params
  { s with fwd.l3MissPunt := bit (fld q 0 1) 1, fwd.ttlDrop := bit (fld q 0 1) 0
           fwd.buckets := (List.range 7).foldl (fun t i =>
             let b := tget t (i + 1) {}
             let burst := fld q (8 + 8 * i) 2
             let credit := min (b.burst * second) (b.credit + (s.time.mono - b.at_) * b.rate)
             tput t (i + 1) { rate := fld q (4 + 8 * i) 4, burst := burst, credit := min (burst * second) credit
                              at_ := s.time.mono }) s.fwd.buckets }

/-- An EtherType that R61 refuses on its own. -/
def etherTypeBad (v : Nat) : Bool :=
  decide (v < 0x0600) || [0x0800, 0x86DD, 0x8100, 0x88A8, 0x8808].contains v

/-- The EtherTypes of a list, in order, each sound and none equal to an earlier one (R61): the index of the first bad. -/
def etherTypesBad (vs : List Nat) : Option Nat :=
  (List.range vs.length).find? (fun i => etherTypeBad (getAt vs i 0) || (vs.take i).contains (getAt vs i 0))

/-- ETHERTYPES (R61); R260 is checked with the hierarchy. -/
def checkEthertypes (r : Req) (_p _s : State) : Option Rej :=
  let q := r.params
  firstRej [(etherTypesBad [fld q 0 2, fld q 2 2, fld q 4 2]).map (fun i => rangeAt (2 * i)), rsvOk q 6 2]

/-- ETHERTYPES at its commit milestone. -/
def applyEthertypes (r : Req) (_c : Nat) (s : State) : State :=
  let q := r.params
  { s with fwd.etWaymark := fld q 0 2, fwd.etAx := fld q 2 2, fwd.etCommand := fld q 4 2 }

/-- ECMP_SEED at its commit milestone (R73). -/
def applyEcmpSeed (r : Req) (_c : Nat) (s : State) : State := { s with fwd.seed := BitVec.ofNat 32 (fld r.params 0 4) }

/-! ### Reads -/

/-- TABLE_READ: for ECMP, START is a group index. -/
def checkTableRead (r : Req) (_p _s : State) : Option Rej :=
  let q := r.params
  firstRej [need (!decide (fld q 4 1 = 5 ∧ 16384 ≤ fld q 0 4)) (rangeAt 0), within q 4 1 0 7, rsvOk q 5 3]

/-- A route in the layout of LPM_WRITE. -/
def routeBytes (v6 : Nat) (r : Route) : List Byte :=
  toBe 1 v6 ++ toBe 1 r.plen ++ [BitVec.ofNat 8 (flag r.ecmp), 0] ++ toBe 2 r.index ++ [0, 0] ++ toBe 16 r.addr.toNat

/-- SET_CLASS or MIRROR as ACL_WRITE carries it. -/
def optionalByte (o : Option Nat) : Byte := BitVec.ofNat 8 (match o with | some v => 128 + v | none => 0)

/-- TABLE_READ (R316, R321). -/
def readTable (r : Req) (room : Nat) (s : State) : List Byte × State :=
  let q := r.params
  let start := fld q 0 4
  (match fld q 4 1 with
   | 0 => listReply start room 12 (s.fwd.l2.map (fun e =>
       toBe 2 e.vid ++ toBe 6 e.mac.toNat ++ toBe 1 e.kind ++ [0] ++ toBe 2 e.target))
   | 1 => listReply start room 24 (s.fwd.lpm4.map (routeBytes 0))
   | 2 => listReply start room 24 (s.fwd.lpm6s.map (routeBytes 1))
   | 3 => listReply start room 24 (s.fwd.lpm6l.map (routeBytes 1))
   | 4 => listReply start room 16 (s.fwd.nexthops.map (fun e =>
       toBe 2 e.1 ++ toBe 1 e.2.kind ++ [0] ++ toBe 2 e.2.lport ++ toBe 2 e.2.vid ++ toBe 6 e.2.dmac.toNat ++ [0, 0]))
   | 5 =>
     let m := tget s.fwd.ecmp start []
     toBe 2 start ++ toBe 2 m.length ++ m.flatMap (toBe 2)
   | 6 => listReply start room 140 (s.fwd.acl.map (fun e =>
       toBe 2 e.1 ++ [BitVec.ofNat 8 (flag e.2.v6)] ++ toBe 1 e.2.action ++ [optionalByte e.2.setClass, optionalByte e.2.mirror] ++
       [BitVec.ofNat 8 (flag e.2.redirectGroup), 0] ++ toBe 2 e.2.redirect ++ [0, 0] ++ e.2.key ++ e.2.mask))
   | _ => listReply start room 52 (s.fwd.groups.map (fun e =>
       toBe 2 e.1 ++ [BitVec.ofNat 8 (flag e.2.hairpin), 0] ++ portBitmap e.2.ports)), s)

/-- TABLE_USAGE: USED and FREE of each table (Table 3.5). -/
def readTableUsage (_r : Req) (_room : Nat) (s : State) : List Byte × State :=
  let used := [(s.fwd.l2.length, 262144), (s.fwd.lpm4.length, 2097152), (s.fwd.lpm6s.length, 1048576),
    (s.fwd.lpm6l.length, 524288), (s.fwd.nexthops.length, 65536), ((s.fwd.ecmp.map (fun e => e.2.length)).sum, 262144),
    ((s.fwd.acl.map (fun e => 1 + flag e.2.v6)).sum, 32768), (s.fwd.groups.length, 32768)]
  (used.flatMap (fun e => toBe 4 e.1 ++ toBe 4 (e.2 - e.1)), s)

end Sys2Proof.Machine
end

