-- ==== Sys2Proof/Machine/LinkTime.lean ====
section
/-! DEFINITION. Link time transfer (07_link_time_transfer): phase samples, skew, AX exchanges, latencies, asymmetry, fallback,
IEEE 1588. Phase quantities are in fifths of 2^-16 ns, so that the period of 6.4 ns is whole. -/

namespace Sys2Proof.Machine

/-- A quotient rounded to the nearest whole number, where the spec does not say which way a half goes (log entry 29). -/
def openRound (a : Int) (b : Nat) (s : State) : Int × State :=
  if b = 0 then (0, s)
  else if (2 * a + b) % (2 * b) = 0 then
    let (up, s) := drawBit s
    (if up then (2 * a + b) / (2 * b) else (2 * a + b) / (2 * b) - 1, s)
  else ((2 * a + b) / (2 * b), s)

/-- 6.4 ns in fifths of 2^-16 ns (R170). -/
def periodP : Int := 2097152

/-- 1.6 ns in fifths of 2^-16 ns (R171). -/
def slipP : Nat := 524288

/-! ### Latencies -/

/-- The latency of a port, direction 0 transmit or 1 receive, in 2^-16 ns at the temperature of the last compensation
milestone (R169, R180); its rounding to 2^-16 ns is open (log entry 29). -/
def latency (port dir : Nat) (s : State) : Int × State :=
  let rate := typeRate (s.lp (s.timingLport port)).type - 1
  let base := calValue s.cal.set (1 + dir) (4 * port + rate)
  let die := laneDieOf port
  let shift := match tfind s.cal.temps die with
    | some t => calValue s.cal.set 4 (2 * port + dir) * (t - calValue s.cal.set 5 die)
    | none => 0
  openDiv ((8 * base + shift) * 65536) 8000000 s

/-- The wire instant of a stamp taken now (R168, R169): the instant at the active lane's plane, less the skew of that lane against
the configured one, plus the transmit latency or minus the receive latency. -/
def wireNow (port dir : Nat) (s : State) : AT80 × State :=
  let (v, s) := latency port dir s
  let k := s.link port
  (s.time.count + BitVec.ofInt 80 ((if dir = 0 then v else -v) - 16 * (k.corr - k.base)), s)

/-! ### Asymmetry, phase and skew -/

/-- The coefficient A in use, 0.001 ppm (R181, R182). -/
def Link.coef (k : Link) : Int := if k.estimate then k.estA.getD k.coefA else k.coefA

/-- The receive-direction delay d * (1 + A) in 2^-16 ns (R176). -/
def rxDelay (d a : Int) (s : State) : Int × State := openDiv (d * (1000000000 + a)) 1000000000 s

/-- The phase sample of a port at a milestone (R170, R171): `phi` in 2^-12 ns. -/
def phaseSample (port phi : Nat) (s : State) : State :=
  let k := s.link port
  if s.time.rotating || !s.phaseLane port then s
  else
    let (drx, s) := rxDelay k.d k.coef s
    let phi := 80 * ((phi : Int) - k.corr)
    let raw := 5 * drx - phi
    let k := { k with phi := some phi, raw := raw }
    if !k.resolved then s.setLink port k
    else
      let t := raw + k.n * periodP
      let n := if periodP < 2 * (t - k.thetaPh) then k.n - 1 else if 2 * (t - k.thetaPh) < -periodP then k.n + 1 else k.n
      s.setLink port { k with n := n, thetaPh := raw + n * periodP }

/-- The skew sample of another lane of the timing logical port (R172, R182): known after 512 samples. -/
def skewSample (port lane : Nat) (skew : Int) (s : State) : State :=
  let v := s.lane port lane
  if !v.locked then s
  else
    let v := { v with skewCount := v.skewCount + 1, skewSum := v.skewSum + skew, meanCount := v.meanCount + 1, meanSum := v.meanSum + skew }
    if v.skewCount < 512 then s.setLane port lane v
    else
      let (m, s) := openDiv v.skewSum 512 s
      s.setLane port lane { v with skewCount := 0, skewSum := 0, skew := some m }

/-- The lane of the timing logical port, other than the active one, whose turn of the skew measurement comes next (R172). -/
def State.nextSkewLane (s : State) (port : Nat) : Option Nat :=
  let k := s.link port
  ((List.range 8).map (fun i => (k.skewLane + 1 + i) % 8)).find? (fun j => s.timingLane port j && decide (j ≠ k.activeLane))

/-- The skew measurement of a port at a milestone (R172): the lane whose turn it is, and no other. -/
def skewTurn (port lane : Nat) (skew : Int) (s : State) : State :=
  if s.time.rotating || !s.phaseLane port || decide (s.nextSkewLane port ≠ some lane) then s
  else skewSample port lane skew (s.setLink port { s.link port with skewLane := lane })

/-- The active timing lane changes to a lane whose skew against the old one is `skew` when known: skews refer to the new
lane from here (R168, R172). -/
def moveActive (port lane : Nat) (skew : Option Int) (s : State) : State :=
  let old := (s.link port).activeLane
  let s := (List.range 8).foldl (fun s j =>
    let v := s.lane port j
    let rel := if j = old then (if v.locked then some 0 else none) else v.skew
    let w := match skew, rel with
      | some a, some b => if j = lane then none else some (b - a)
      | _, _ => none
    s.setLane port j { v with skew := w, skewCount := 0, skewSum := 0, meanCount := 0, meanSum := 0 }) s
  s.setLink port { s.link port with activeLane := lane, laneLost := false }

/-- The next lane of the timing logical port in rotation after the active one with LOS and LOL clear (R183). -/
def State.fallbackLane (s : State) (port : Nat) : Option Nat :=
  let a := (s.link port).activeLane
  ((List.range 7).map (fun i => (a + 1 + i) % 8)).find? (fun j => s.timingLane port j && (s.lane port j).locked)

/-- The selected reference entry is this port's. -/
def State.followsPort (s : State) (port : Nat) : Bool :=
  match s.ref.selected with
  | some e => decide ((s.refEntry e).kind = 2 ∧ (s.refEntry e).index = port)
  | none => false

/-- Every enabled reference entry of a port loses its signal (R183, R198, Table 8.1). -/
def portSignalLoss (port : Nat) (s : State) : State :=
  (List.range 16).foldl (fun s e =>
    if (s.refEntry e).enable && decide ((s.refEntry e).kind = 2 ∧ (s.refEntry e).index = port) then signalLoss e s else s) s

/-- The phase input after a fallback to a lane of unknown skew is recovery (R183, R208, R210): a fault for the history, and a
slope-limited pull of an offset that comes from outside (log entry 29) while the DPLL follows the port. -/
def recoverPhase (s : State) : State :=
  let s := histFault s
  if s.time.state = .guard ∨ (s.ref.dpll ≠ .acquiring ∧ s.ref.dpll ≠ .locked) then s
  else
    let (v, s) := measured s
    closeOffset v s

/-- TIMING_FALLBACK (R183): the active timing lane has failed. -/
def timingFallback (port : Nat) (s : State) : State :=
  let k := s.link port
  let a := k.activeLane
  if s.part.ports ≤ port ∨ s.timingLane port a = false ∨ (s.lane port a).locked = true then s
  else
    let ev := fun (j : Nat) => [BitVec.ofNat 8 port, BitVec.ofNat 8 a, BitVec.ofNat 8 j]
    match s.fallbackLane port with
    | none =>
      if k.laneLost then s
      else portSignalLoss port
        (raiseAt (laneDieOf port) .error 0x2204 [BitVec.ofNat 8 port, BitVec.ofNat 8 a] (s.setLink port { k with laneLost := true }))
    | some j =>
      match (s.lane port j).skew with
      | some v =>
        let s := moveActive port j (some v) s
        raiseAt (laneDieOf port) .note 0x2202 (ev j) (s.setLink port { s.link port with corr := k.corr + v })
      | none =>
        let s := moveActive port j none s
        let s := raiseAt (laneDieOf port) .warn 0x2203 (ev j) (s.setLink port { s.link port with corr := k.base })
        if s.followsPort port then recoverPhase s else s

/-- The active timing lane becomes the configured one, whose skew against the lane left is known (R165, R185): the phase samples
go on corrected by that skew, and the stamps refer to the new lane's plane. -/
def moveToConfigured (port lane : Nat) (skew : Int) (s : State) : State :=
  let c := (s.link port).corr + skew
  let s := moveActive port lane (some skew) s
  s.setLink port { s.link port with corr := c, base := c }

/-- TIMING_REVERT (R185): the configured lane has been locked for 4,096 milestones with its skew known. -/
def timingRevert (port : Nat) (s : State) : State :=
  let k := s.link port
  let v := s.lane port k.confLane
  if !k.revert || decide (k.activeLane = k.confLane) || decide (s.part.ports ≤ port) || !v.locked then s
  else match v.skew, v.lockedAt with
    | some a, some t =>
      if t + 4096 * slotUnits ≤ s.time.mono then
        raiseAt (laneDieOf port) .note 0x2205 [BitVec.ofNat 8 port, BitVec.ofNat 8 k.confLane] (moveToConfigured port k.confLane a s)
      else s
    | _, _ => s

/-- The estimate of A of a port in ESTIMATE mode at a compensation milestone (R182). -/
def estimateA (port : Nat) (s : State) : State :=
  let k := s.link port
  let clear := fun (s : State) => (List.range 8).foldl (fun s j =>
    s.setLane port j { s.lane port j with meanCount := 0, meanSum := 0 }) s
  if !k.estimate then clear s
  else
    let mean := fun (j : Nat) => if j = k.activeLane then ((0 : Int), 1) else ((s.lane port j).meanSum, (s.lane port j).meanCount)
    let (sa, ca) := mean k.laneA
    let (sb, cb) := mean k.laneB
    let cal := calValue s.cal.set 3 (16 * port + 8 + k.laneA) - calValue s.cal.set 3 (16 * port + 8 + k.laneB)
    let s := clear s
    if ca = 0 ∨ cb = 0 ∨ k.d ≤ 0 then s
    else
      let num := (sa * cb - sb * ca) * 15625 - 64 * cal * (ca * cb : Nat)
      let (a, s) := openDiv (k.dispersion * 1000000000 * 1024 * num) (64 * (ca * cb) * 65536 * 2 * k.d.toNat * 15625) s
      if a.natAbs ≤ 100000000 then s.setLink port { s.link port with estA := some a }
      else raiseAt (laneDieOf port) .warn 0x2208 (BitVec.ofNat 8 port :: off8 a) s

/-- The temperature difference across a Causeway segment at the latest comparison, 0.125 C (R13, R434). -/
def State.segTemp (s : State) (g : Nat) : Int :=
  let t := fun (d : Nat) => tget s.cal.temps d 0
  if g = 6 then t 0 - t 1 else t (if s.part.cores = 2 ∧ 3 ≤ g then 1 else 0) - t (2 + g)

/-- Segments whose differences have both returned within 30 °C and 120 mV since they retrained may retrain again (R434). -/
def rearm (s : State) : State :=
  { s with power.retrained := s.power.retrained.filter (fun e =>
      !decide ((s.segTemp e.1).natAbs ≤ 240 ∧ (e.1 = 6 → s.power.coreDiff.natAbs ≤ 120))) }

/-- TEMPERATURE_COMPENSATION (R180, R182, R434) at a 4,096th milestone: `temps` gives each die's temperature in 0.125 C, in die-code
order. -/
def compensate (temps : List Int) (s : State) : State :=
  if s.ms.toNat % 4096 ≠ 0 then s
  else
    let s := rearm
      { s with cal.temps := (List.range 8).filterMap (fun d => if s.part.hasDie d then some (d, getAt temps d 0) else none) }
    (List.range s.part.ports).foldl (fun s p => estimateA p s) s

/-! ### Almanac exchange -/

/-- MGR of a port (R246). -/
def State.offersTime (s : State) (port : Nat) : Bool := decide (s.hier.role ≠ .unenrolled) && !s.isCandidate port

/-- The link of a port's timing logical port carries messages (R174). -/
def State.axLink (s : State) (port : Nat) : Bool :=
  let v := s.lp (s.timingLport port)
  decide (port < s.part.ports) && v.up && decide (v.loop ≠ 3) && !(decide (v.power = 2) && v.moving.isNone)

/-- An AX message (Table 7.2), FCS included. -/
def axBytes (s : State) (port : Nat) (stamp : AT80) : List Byte :=
  let k := s.link port
  let (es, et, er) := k.echo.getD (0, 0, 0)
  let d := [0x01, 0x80, 0xC2, 0x00, 0x00, 0x0E] ++ s.macOf (s.timingLport port) ++ toBe 2 s.fwd.etAx ++
    [0x10, BitVec.ofNat 8 (128 * flag s.timeValid + 64 * flag k.echo.isSome + 32 * flag (s.offersTime port) + k.activeLane)] ++
    toBe 2 k.axSeq.toNat ++ toBe 2 es.toNat ++ node4 s.hier.node ++ toBe 10 stamp.toNat ++ toBe 10 et.toNat ++ toBe 10 er.toNat ++
    List.replicate 6 0
  d ++ fcs d

/-- Units of 2^-16 ns from one AX instant to the next at 2^k messages a second (R173). -/
def axPeriod (k : Nat) : Nat := second / 2 ^ k

/-- Now is an AX instant of a port (R173): a whole multiple of 10^9 / rate ns of the count. -/
def State.axInstant (s : State) (port : Nat) : Bool := decide (s.time.count.toNat % axPeriod (s.link port).rateLog2 = 0)

/-- An AX message that starts now on a logical port would still be on the wire at the first release instant of a reserved window, or
would start within one (R125, R174). -/
def State.axBarred (s : State) (l : Nat) : Bool :=
  let now := s.time.count.toNat
  [s.ms, s.nextMs].any (fun m => match s.windowAt l m, s.calendar l with
    | some (w, close), some c => decide (close < now + wireTime (s.gbps l) 64 + c.duration w ∧ now < close)
    | _, _ => false)

/-- An AX message leaves now (R173), and the wire is busy until the next frame can start. -/
def axGo (port : Nat) (s : State) : State :=
  let l := s.timingLport port
  let (t, s) := wireNow port 0 (land l s)
  let b := axBytes s port t
  let s := countTime port 0 (sendFrame l (.ax port b) b s)
  let s := s.setEgress l { s.egress l with freeAt := s.time.mono + frameTime (s.gbps l) 64 }
  let k := s.link port
  s.setLink port { k with axSeq := k.axSeq + 1, axSent := k.axSent + 1, axDue := false }

/-- A waiting AX message leaves at the first frame boundary that no reserved window bars (R125, R174). -/
def axTry (port : Nat) (s : State) : State :=
  let l := s.timingLport port
  if (s.link port).axDue && (s.link port).axEnable && s.axLink port && decide ((s.egress l).freeAt ≤ s.time.mono) && !s.axBarred l then
    axGo port s
  else s

/-- AX_SEND (R173, R174): at an AX instant a message falls due, merged with one that waits; it leaves at once where the rules let
it. -/
def axSendNow (port : Nat) (s : State) : State :=
  if !(s.link port).axEnable || !s.axLink port then s
  else axTry port (if s.axInstant port then s.setLink port { s.link port with axDue := true } else s)

/-- What the LANE-die MAC inserts ahead of a frame of a logical port: the AX message that waits, on a timing logical port (R174). -/
def axAhead (l : Nat) (s : State) : State := if s.timingLport (portOf l) = l then axTry (portOf l) s else s

/-- A port entry comes to close a loop, or no longer does (R245). -/
def loopCheck (port : Nat) (s : State) : State :=
  let closes := s.closesLoop port
  (List.range 16).foldl (fun s e =>
    let r := s.refEntry e
    if !r.enable || decide (r.kind ≠ 2 ∨ r.index ≠ port) || (s.mon e).looped == closes then s
    else
      let s := s.setMon e { s.mon e with looped := closes }
      if closes then signalLoss e (raise .error 0x7109 [BitVec.ofNat 8 e] s) else s) s

/-- Every port entry is judged again, for this device's own range has changed (R245). -/
def loopChecks (s : State) : State := (List.range s.part.ports).foldl (fun s q => loopCheck q s) s

/-- n takes the value nearest to an exchange estimate (R171). -/
def resolveN (port : Nat) (raw target : Int) (s : State) : State :=
  let (n, s) := openRound (target - raw) periodP.toNat s
  s.setLink port { s.link port with n := n, raw := raw, resolved := true, miss := 0, thetaPh := raw + n * periodP }

/-- The check of n against a valid exchange (R171). The first exchange resolves n on the phase of the last milestone under the delay
that it gives; a slip on the selected port is a fault for the history (R210). -/
def checkN (port : Nat) (drx : Int) (s : State) : State :=
  let k := s.link port
  let target := 5 * k.thetaX
  if !k.resolved then
    match k.phi with
    | some phi => resolveN port (5 * drx - phi) target s
    | none => s
  else if (k.thetaPh - target).natAbs ≤ slipP then s.setLink port { k with miss := 0 }
  else if k.miss < 15 then s.setLink port { k with miss := k.miss + 1 }
  else
    let s := raiseAt (laneDieOf port) .warn 0x2201 [BitVec.ofNat 8 port] (countTime port 6 (resolveN port k.raw target s))
    if s.followsPort port then histFault s else s

/-- An offset estimate of a port reaches the Almanac when the port is the selected time reference (R177); `back` says that
the port had offered no time (R193). -/
def portEstimate (port : Nat) (offset : Int) (back : Bool) (s : State) : State :=
  match s.ref.selected with
  | some e => if (s.refEntry e).kind = 2 ∧ (s.refEntry e).index = port then estimate e offset back s else s
  | none => s

/-- AX_RESUMED when the silence was recorded (R178). -/
def resumeTime (port : Nat) (s : State) : State :=
  let k := s.link port
  if k.silent then raiseAt (laneDieOf port) .note 0x2207 [BitVec.ofNat 8 port] (s.setLink port { k with silent := false }) else s

/-- A completed exchange (R176): the four stamps, as this device has them. -/
def exchange (port : Nat) (t1 t2 t3 t4 : AT80) (tv : Bool) (s : State) : State :=
  let twice := ((t4 - t1) - (t3 - t2)).toInt
  if twice < 0 ∨ 2 * 65536000000 < twice then countTime port 5 s
  else
    let (d, s) := openDiv twice 2 s
    let (drx, s) := rxDelay d (s.link port).coef s
    let theta := (t3 + BitVec.ofInt 80 drx - t4).toInt
    let back := !s.portTime port
    let s := resumeTime port s
    let now := some s.time.mono
    let k := s.link port
    let s := s.setLink port { k with d := d, thetaX := theta, lastValid := now, lastTv := if tv then now else k.lastTv }
    let s := checkN port drx s
    if tv then portEstimate port theta back s else s

/-- The worker of a port has been heard from: an AX message with its NODE (R267). -/
def workerHeard (port : Nat) (s : State) : State :=
  match tfind s.hier.workers port with
  | some w => if w.first = (s.link port).peerNode then
      { s with hier.workers := tput s.hier.workers port { w with absent := false, heardAt := some s.time.mono } } else s
  | none => s

/-- A frame with the AX EtherType is taken off the wire and checked (R175, R176). -/
def axTake (port : Nat) (f : List Byte) (s : State) : State :=
  let k := s.link port
  let d := f.take 60
  if f.length ≠ 64 ∨ f.drop 60 ≠ fcs d ∨ fld f 14 1 / 16 ≠ 1 then countTime port 2 s
  else if !k.axEnable then countTime port 3 s
  else
    let s := countTime port 1 s
    let (t4, s) := wireNow port 1 s
    let fl := fld f 15 1
    let tx := BitVec.ofNat 80 (fld f 24 10)
    let s := s.setLink port { s.link port with
      echo := some (BitVec.ofNat 16 (fld f 16 2), tx, t4), lastRx := some s.time.mono, peerTv := bit fl 7, peerMgr := bit fl 5
      peerNode := BitVec.ofNat 18 (fld f 20 4) }
    let s := workerHeard port (loopCheck port s)
    if !bit fl 6 then s
    else
      let back := sdiff k.axSeq (BitVec.ofNat 16 (fld f 18 2))
      if back < 1 ∨ 16 < back ∨ k.axSent < back.toNat then countTime port 4 s
      else exchange port (BitVec.ofNat 80 (fld f 34 10)) (BitVec.ofNat 80 (fld f 44 10)) tx t4 (bit fl 7) s

/-- AX_RECEIVE (R175, R176): a frame with the AX EtherType whose start-of-frame delimiter arrives now. -/
def axReceiveNow (port : Nat) (f : List Byte) (s : State) : State :=
  let l := s.timingLport port
  if !s.receives l || decide (s.part.ports ≤ port) then s
  else match inLoop l (fun f => decide (fld f 12 2 = s.fwd.etAx)) f s with
    | (some f, s) => axTake port f s
    | (none, s) => s

/-- AX_SILENT (R178, R188): no valid exchange for the silence limit. -/
def axSilentNow (port : Nat) (s : State) : State :=
  let k := s.link port
  let last := max k.axFrom (max (k.lastValid.getD 0) (k.ptp.lastDone.getD 0))
  if !(k.axEnable || (k.ptp.enable && decide (k.ptp.state = 9))) || k.silent || decide (s.time.mono < last + k.silence * second) then s
  else raiseAt (laneDieOf port) .warn 0x2206 [BitVec.ofNat 8 port] (s.setLink port { k with silent := true })

/-! ### PPS inputs -/

/-- PPS_IN_PULSE (R192): the distance from the pulse, less DELAY, to the nearest whole second of the local count. -/
def ppsPulse (input : Nat) (s : State) : State :=
  match s.ref.selected with
  | none => s
  | some e =>
    let r := s.refEntry e
    if r.kind ≠ 1 ∨ r.index ≠ input then s
    else
      let t : Int := (s.time.count.toNat : Int) - r.delay * 256
      let (n, s) := openRound t second s
      estimate e (n * second - t) false s

/-! ### IEEE 1588 -/

/-- The device's clock identity (PTP_CLOCK_CONFIG). -/
def State.ptpIdentity (s : State) : BitVec 64 := s.port.ptpClock.identity.getD (getAt s.serials 0 0)

/-- The attributes that the device announces as its own: priority1, class, accuracy, variance, priority2, identity. -/
def State.ptpOwn (s : State) : List Nat :=
  let c := s.port.ptpClock
  [c.priority1, c.clockClass, c.accuracy, c.variance, c.priority2, s.ptpIdentity.toNat]

/-- The ports that run a PTP port. -/
def State.ptpPorts (s : State) : List Nat := (List.range s.part.ports).filter (fun p => (s.link p).ptp.enable)

/-- The announce interval of a PTP port in 2^-16 ns. -/
def PtpPort.announceInterval (v : PtpPort) : Nat :=
  if v.announceLog < 0 then second / 2 ^ v.announceLog.natAbs else second * 2 ^ v.announceLog.natAbs

/-- A foreign master qualifies at an instant, as IEEE 1588-2019 has it by default: two Announces within the last four announce
intervals, the latest within the announce receipt timeout of three, and stepsRemoved below 255. -/
def PtpPort.qualifies (v : PtpPort) (now : Nat) (f : Foreign) : Bool :=
  let i := v.announceInterval
  match f.times with
  | [a, b] => decide (now ≤ a + 3 * i ∧ now ≤ b + 4 * i ∧ f.steps < 255)
  | _ => false

/-- The data set that a foreign master of a port offers, in the order in which IEEE 1588-2019 compares data sets. -/
def Foreign.keys (port : Nat) (f : Foreign) : List Nat := f.quality ++ [f.steps, f.sender.toNat, port]

/-- The best qualified foreign master of a PTP port. -/
def State.ptpErbest (s : State) (p : Nat) : Option Foreign :=
  let v := (s.link p).ptp
  (v.foreigns.filter (v.qualifies s.time.mono)).foldl (fun b f => match b with
    | some g => if keysLess (f.keys p) (g.keys p) then some f else some g
    | none => some f) none

/-- The best foreign master of any PTP port, with the port. -/
def State.ptpBest (s : State) : Option (Nat × Foreign) :=
  s.ptpPorts.foldl (fun b p => match b, s.ptpErbest p with
    | none, some v => some (p, v)
    | some (q, w), some v => if keysLess (v.keys p) (w.keys q) then some (p, v) else some (q, w)
    | b, none => b) none

/-- The state of a PTP port: as configured under external configuration, else by the default BMCA of IEEE 1588-2019, which
the spec takes by reference. -/
def State.ptpDecide (s : State) (p : Nat) : Nat :=
  let v := (s.link p).ptp
  let own := s.ptpOwn ++ [0, s.ptpIdentity.toNat, 0]
  if s.port.ptpClock.external then (if v.config = 0 then 7 else v.config)
  else match s.ptpBest with
    | none => 6
    | some (q, e) =>
      if s.port.ptpClock.clockClass ≤ 127 then
        (match s.ptpErbest p with | some b => if keysLess (b.keys p) own then 7 else 6 | none => 6)
      else if keysLess own (e.keys q) then 6
      else if q = p then 9
      else if (s.ptpErbest p).map (·.quality) = some e.quality then 7 else 6

/-- Every PTP port takes the state that the state decision gives it, and a slave port its parent. -/
def ptpRun (s : State) : State :=
  s.ptpPorts.foldl (fun s p =>
    let k := s.link p
    let st := s.ptpDecide p
    let parent := if st = 9 then ((s.ptpErbest p).map (·.sender)).getD k.ptp.parent else k.ptp.parent
    if k.ptp.state = st then s.setLink p { k with ptp := { k.ptp with parent := parent } }
    else s.setLink p { k with ptp := { k.ptp with state := st, parent := parent, sync := none, awaiting := none, delayReq := none } }) s

/-- A PTP port hears an Announce: the foreign master's latest two, and no master that has been silent for four intervals. -/
def PtpPort.hear (v : PtpPort) (now : Nat) (m : PtpMsg) : PtpPort :=
  let old := ((v.foreigns.find? (fun f => decide (f.sender = m.identity))).map (·.times)).getD []
  let rest := v.foreigns.filter (fun f => decide (f.sender ≠ m.identity ∧ now ≤ f.times.headD 0 + 4 * v.announceInterval))
  { v with foreigns := { sender := m.identity, quality := m.quality, steps := m.steps, times := (now :: old).take 2 } :: rest }

/-- A timestamp and a correction as an AT80 instant, or none outside its range (R32). -/
def ofPtp (m : PtpMsg) : Option AT80 :=
  let t : Int := ((m.seconds.toNat * 1000000000 + m.nanos.toNat : Nat) : Int) * 65536 + m.correction
  if 999999999 < m.nanos.toNat ∨ t < 0 ∨ ((2 ^ 80 : Nat) : Int) ≤ t then none else some (BitVec.ofInt 80 t)

/-- A message with a timestamp: whole nanoseconds in the timestamp, the fraction on the correction (R31). -/
def withStamp (m : PtpMsg) (t : AT80) : PtpMsg :=
  let ns := t.toNat / 65536
  { m with seconds := BitVec.ofNat 48 (ns / 1000000000), nanos := BitVec.ofNat 32 (ns % 1000000000)
           correction := m.correction + ((t.toNat % 65536 : Nat) : Int) }

/-- A message of this device with no timestamp. -/
def ptpMsgOf (s : State) (kind : Nat) (seq : BitVec 16) : PtpMsg :=
  { kind := kind, domain := s.port.ptpClock.domain, twoStep := false, sequence := seq, seconds := 0, nanos := 0, correction := 0
    identity := s.ptpIdentity, quality := [], steps := 0, utcOffset := s.time.utcOffset, leap := flag s.time.leap61 * 2 + flag s.time.leap59 }

/-- The attributes and the stepsRemoved that an Announce carries: those of the grandmaster the device follows. -/
def State.ptpGrandmaster (s : State) : List Nat × Nat :=
  match s.ptpBest with
  | some (q, e) =>
    if s.port.ptpClock.clockClass ≤ 127 ∨ keysLess (s.ptpOwn ++ [0, s.ptpIdentity.toNat, 0]) (e.keys q) = true then (s.ptpOwn, 0)
    else (e.quality, e.steps + 1)
  | none => (s.ptpOwn, 0)

/-- An IEEE 1588 message leaves a port with the MAC address of the timing logical port as source (R444); the pads of a near-end
loop are idle (R160). -/
def sendPtp (port : Nat) (m : PtpMsg) (s : State) : State :=
  let l := s.timingLport port
  if s.loopsBack l then s else s.emit (.ptp port m (s.macOf l))

/-- PTP messages run in the firmware: PTP ports send and handle nothing while the controller is stopped (R188). -/
def State.ptpRuns (s : State) (port : Nat) : Bool := (s.link port).ptp.enable && s.cmd.controllerUp && s.axLink port

/-- A completed Sync and Delay_Req pair of a slave (R188): delay, asymmetry by A (Table 7.5), offset and estimate. -/
def ptpDone (port : Nat) (t1 t2 t3 t4 : AT80) (s : State) : State :=
  let twice := ((t2 - t1) + (t4 - t3)).toInt
  let (d, s) := openDiv twice 2 s
  let (drx, s) := rxDelay d (s.link port).coef s
  let theta := (t1 + BitVec.ofInt 80 drx - t2).toInt
  let back := !s.portTime port
  let s := resumeTime port s
  let k := s.link port
  let s := s.setLink port { k with ptp := { k.ptp with meanDelay := d, offset := theta, lastDone := some s.time.mono, delayReq := none } }
  portEstimate port theta back s

/-- PTP_MESSAGE (R32, R187, R188): a message arrives on a PTP port now. -/
def ptpReceive (port : Nat) (m : PtpMsg) (s : State) : State :=
  if !s.ptpRuns port || s.loopsBack (s.timingLport port) || decide (m.domain ≠ s.port.ptpClock.domain) then s
  else
    let (rx, s) := wireNow port 1 s
    let k := s.link port
    let v := k.ptp
    let put := fun (v : PtpPort) (s : State) => s.setLink port { k with ptp := v }
    let bad := put { v with badMsg := (v.badMsg + 1) % 2 ^ 32 } s
    match m.kind with
    | 11 =>
      let v := { v with announceRx := (v.announceRx + 1) % 2 ^ 32 }
      ptpRun (put (if m.identity = s.ptpIdentity then v else v.hear s.time.mono m) s)
    | 0 =>
      let v := { v with syncRx := (v.syncRx + 1) % 2 ^ 32 }
      if v.state ≠ 9 then put v s
      else if m.twoStep then put { v with awaiting := some (m.sequence, rx - BitVec.ofInt 80 m.correction) } s
      else match ofPtp m with
        | none => bad
        | some t1 => put { v with sync := some ((t1.toNat : Int), rx), awaiting := none } s
    | 8 =>
      match v.awaiting, ofPtp m with
      | some (q, t2), some t1 =>
        if v.state = 9 ∧ q = m.sequence then put { v with sync := some ((t1.toNat : Int), t2), awaiting := none } s else s
      | some _, none => bad
      | none, _ => s
    | 1 =>
      if v.state ≠ 6 ∨ s.timeValid = false then s
      else
        let r := withStamp { ptpMsgOf s 9 m.sequence with correction := m.correction } rx
        sendPtp port r s
    | 9 =>
      match v.delayReq, v.sync, ofPtp m with
      | some (q, t3), some (t1, t2), some t4 =>
        if v.state = 9 ∧ q = m.sequence then ptpDone port (BitVec.ofInt 80 t1) t2 t3 t4 s else s
      | some _, some _, none => bad
      | _, _, _ => s
    | _ => s

/-- PTP_SEND_INTERVAL (R188): the port sends a Sync (0), a Delay_Req (1) or an Announce (11) by its state; a message with a
timestamp is not sent while TIME_VALID is 0 (R39). -/
def ptpSend (port kind : Nat) (s : State) : State :=
  if !s.ptpRuns port then s
  else
    let s := ptpRun s
    let k := s.link port
    let v := k.ptp
    match kind with
    | 0 =>
      if v.state ≠ 6 ∨ s.timeValid = false then s
      else
        let (t, s) := wireNow port 0 s
        let s := s.setLink port { k with ptp := { v with txSeq := v.txSeq + 1 } }
        if v.twoStep then
          sendPtp port (withStamp (ptpMsgOf s 8 v.txSeq) t) (sendPtp port { ptpMsgOf s 0 v.txSeq with twoStep := true } s)
        else sendPtp port (withStamp (ptpMsgOf s 0 v.txSeq) t) s
    | 1 =>
      if v.state ≠ 9 then s
      else
        let (t, s) := wireNow port 0 s
        let w := { v with delayReq := some (v.delaySeq, t), delaySeq := v.delaySeq + 1, delayReqTx := (v.delayReqTx + 1) % 2 ^ 32 }
        sendPtp port (ptpMsgOf s 1 v.delaySeq) (s.setLink port { k with ptp := w })
    | 11 =>
      if v.state ≠ 6 then s
      else
        let s := s.setLink port { k with ptp := { v with announceSeq := v.announceSeq + 1 } }
        let (quality, steps) := s.ptpGrandmaster
        sendPtp port { ptpMsgOf s 11 v.announceSeq with quality := quality, steps := steps } s
    | _ => s

end Sys2Proof.Machine
end

