-- ==== Sys2Proof/Machine/HierCommands.lean ====
section
/-! DEFINITION. Family 0x0D, managers and workers (10_hierarchy, Table 13.14): the checks, effects and replies of its commands,
and what its announcements carry. `p` is the committed configuration with every pending commit applied (R300), `s` the device. -/

namespace Sys2Proof.Machine

/-! ### Status and configuration -/

/-- PARENT of Table 10.5: the candidate whose port is the command parent port. -/
def State.parentShown (s : State) : Nat :=
  match s.upPort with
  | none => 3
  | some q => (s.candOf q).getD 3

/-- The word of Table 10.5. -/
def State.hierWord (s : State) : Nat :=
  s.hier.role.code * 2 ^ 30 + flag s.hier.deviceKey.isSome * 2 ^ 29 + flag s.hier.keyInUse * 2 ^ 28 +
  flag s.hier.oldKey.isSome * 2 ^ 27 + flag s.hier.epochMismatch * 2 ^ 26 + s.hier.depth * 2 ^ 22 + s.parentShown * 2 ^ 20 +
  s.hier.node.toNat

/-- HIER_STATUS: the counts are those of the DEVICE group. -/
def readHierStatus (r : Req) (room : Nat) (s : State) : List Byte × State :=
  let items := s.hier.workers.map (fun w =>
    [BitVec.ofNat 8 w.1, BitVec.ofNat 8 (flag w.2.absent), 0, 0] ++ node4 w.2.first ++ node4 w.2.last)
  (toBe 4 s.hierWord ++ node4 s.hier.manager ++ node4 s.hier.node ++ node4 s.hier.last ++ s.hier.epochs.flatMap (toBe 4) ++
    ms8 s.hier.replayFloor ++ (upto 1 9).flatMap (fun i => toBe 8 (s.counter 9 0 i)) ++
    listReply (fld r.params 0 4) (room - 120) 12 items, s)

/-- A candidate field of HIER_CONFIG names an entry of KIND 2 (R244). -/
def candKind (p : State) (q : List Byte) (i : Nat) : Option Rej :=
  let c := fld q (2 + i) 1
  need (decide (c = 0xFF ∨ (c < 16 ∧ (p.refEntry c).kind = 2))) (rangeAt (2 + i))

/-- A candidate of HIER_CONFIG closes no loop (R245). -/
def candLoop (p s : State) (q : List Byte) (i : Nat) : Option Rej :=
  let c := fld q (2 + i) 1
  need (decide (c = 0xFF) || !s.closesLoop (p.refEntry c).index) (refused .parentLoop c)

/-- HIER_CONFIG (R242, R244, R245), its own refusals in the order of Table 13.14. -/
def checkHierConfig (r : Req) (p s : State) : Option Rej :=
  let q := r.params
  let fl := fld q 0 1
  let root := bit fl 0
  let first := fld q 8 4
  let last := fld q 12 4
  firstRej [need (decide (fl / 32 = 0) && !bit fl 2 && decide (fl / 8 % 4 ≤ 2)) (rangeAt 0), within q 1 1 0 6, rsvOk q 5 3,
    if root then none else firstRej [rsvOk q 8 4, rsvOk q 12 4],
    if !root then none
    else firstRej [need p.hier.fabricKey.isSome (refused .keyAbsent 0), need (decide (p.hier.role = .unenrolled)) (refused .mode 0),
      need (decide (1 ≤ first ∧ first ≤ 0x3FFFF)) (rangeAt 8), need (decide (first ≤ last ∧ last ≤ 0x3FFFE)) (rangeAt 12),
      ([0, 1, 2] : List Nat).findSome? (fun i => need (decide (fld q (2 + i) 1 = 0xFF)) (rangeAt (2 + i)))],
    ([0, 1, 2] : List Nat).findSome? (candKind p q), ([0, 1, 2] : List Nat).findSome? (candLoop p s q)]

/-- HIER_CONFIG at its commit milestone: the port in use stays the command parent port where a candidate still names it, and else
one that qualifies takes over at the next milestone (R244, R265). ROOT gives the device its range (R242, R245). -/
def applyHierConfig (r : Req) (_c : Nat) (s : State) : State :=
  let q := r.params
  let fl := fld q 0 1
  let cands := (List.range 3).map (fun i => fld q (2 + i) 1)
  let up := (s.hier.parent.bind s.candPort).or s.hier.parentPort
  let s := { s with hier.cls := fld q 1 1, hier.mirrorUp := bit fl 1, hier.eventSink := fl / 8 % 4, hier.candidates := cands }
  let s := { s with hier.parent := up.bind s.candOf, hier.parentPort := if s.noCandidates then s.hier.parentPort else none }
  if bit fl 0 && decide (s.hier.role = .unenrolled) then
    loopChecks { s with
      hier.role := .root, hier.node := BitVec.ofNat 18 (fld q 8 4), hier.last := BitVec.ofNat 18 (fld q 12 4)
      hier.manager := 0, hier.depth := 0, hier.keyInUse := true }
  else s

/-! ### Keys -/

/-- KEY_PROVISION (R247). -/
def checkKeyProvision (_r : Req) (p _s : State) : Option Rej := need p.hier.deviceKey.isNone (refused .mode 0)

/-- KEY_PROVISION at its commit milestone: the region is written once (R247). -/
def applyKeyProvision (r : Req) (_c : Nat) (s : State) : State :=
  { s with hier.deviceKey := some (s.hier.deviceKey.getD r.params) }

/-- FABRIC_KEY_SET (R247). -/
def checkFabricKeySet (_r : Req) (p _s : State) : Option Rej :=
  need (decide (p.hier.role = .unenrolled ∨ p.hier.role = .root)) (refused .mode 0)

/-- FABRIC_KEY_SET at its commit milestone; it changes nothing on a device that has been enrolled meanwhile (R247). -/
def applyFabricKeySet (r : Req) (_c : Nat) (s : State) : State :=
  if s.hier.role = .unenrolled ∨ s.hier.role = .root then { s with hier.fabricKey := some r.params } else s

/-- A new fabric key comes into use and the old one stays accepted for 7,812,500 milestones (R262). -/
def rollKey (key : List Byte) (s : State) : State :=
  raise .note 0x710B [] { s with hier.oldKey := s.hier.fabricKey, hier.fabricKey := some key, hier.rolledAt := s.ms }

/-- FABRIC_KEY_ROLL (Table 13.14). -/
def checkFabricKeyRoll (r : Req) (p _s : State) : Option Rej :=
  need (decide (r.src.code = 1 ∧ p.hier.role ≠ .unenrolled)) (refused .mode 0)

/-- FABRIC_KEY_ROLL at its milestone (R262). -/
def applyFabricKeyRoll (r : Req) (_c : Nat) (s : State) : State := if s.hier.keyInUse then rollKey r.params s else s

/-- The interval of R262 has run out and the old key is no longer accepted. -/
def rollEnd (s : State) : State :=
  if s.hier.oldKey.isSome && decide (7812500 ≤ sdiff s.ms s.hier.rolledAt) then { s with hier.oldKey := none } else s

/-! ### Epochs -/

/-- HIER_EPOCHS (Table 13.14). -/
def checkHierEpochs (_r : Req) (p _s : State) : Option Rej := need (decide (p.hier.role ≠ .unenrolled)) (refused .mode 0)

/-- A hierarchy epoch set comes into use and every active calendar is judged by it (R261). -/
def setEpochs (q : List Byte) (s : State) : State :=
  (s.fwd.active.map (·.1)).foldl (fun s l => epochCheck l s)
    { s with hier.epochs := (List.range 8).map (fun i => fld q (4 * i) 4), hier.epochMismatch := false }

/-- HIER_EPOCHS at its commit milestone. -/
def applyHierEpochs (r : Req) (_c : Nat) (s : State) : State := setEpochs r.params s

/-! ### Enrolling and releasing -/

/-- The ranges of this manager's workers, those of ENROLLs that wait included, with their ports. -/
def State.ranges (s : State) : List (Nat × BitVec 18 × BitVec 18) :=
  s.hier.workers.map (fun w => (w.1, w.2.first, w.2.last)) ++ s.hier.enrolling.map (fun e => (e.port, e.first, e.last))

/-- The levels of workers below the device at the far end of a port, which a re-enrolment takes along (R250). -/
def State.levelsBelow (s : State) (port : Nat) : Nat := Config.subtreeDepth (s.link port).peerNode

/-- ENROLL (R248, R250). -/
def checkEnroll (r : Req) (_p s : State) : Option Rej :=
  let q := r.params
  let port := fld q 0 1
  let again := bit (fld q 1 1) 0
  let node := fld q 4 4
  let last := fld q 8 4
  let others := s.ranges.filter (fun e => !(again && decide (e.1 = port)))
  firstRej [portField s port 0 0, within q 1 1 0 1, rsvOk q 2 2, need (!again || decide (fld q 12 40 = 0)) (rangeAt 12),
    need (decide (s.hier.role ≠ .unenrolled)) (refused .mode 0), need s.hier.fabricKey.isSome (refused .keyAbsent 0),
    need (decide (s.hier.depth < 8) && (!again || decide (s.hier.depth + 1 + s.levelsBelow port ≤ 8))) (refused .depthLimit port),
    need (decide (s.hier.node.toNat < node ∧ node ≤ s.hier.last.toNat)) (rangeAt 4),
    need (decide (node ≤ last ∧ last ≤ s.hier.last.toNat)) (rangeAt 8),
    ((others.find? (fun e => decide (node ≤ e.2.2.toNat ∧ e.2.1.toNat ≤ last))).map (fun e => refused .claimTaken e.1)),
    need (!(others.any (fun e => decide (e.1 = port))) && !s.isCandidate port) (refused .refConflict port),
    need (s.lp (s.timingLport port)).up (refused .notReady port)]

/-- ENROLL sends ENROLL_REQ and waits for the worker's answer (R248 to R250): the request of an enrolment is tagged under the
key that the worker unwraps, which is the fabric key. -/
def actEnroll (r : Req) (_room : Nat) (s : State) : List Byte × State :=
  let q := r.params
  let port := fld q 0 1
  let node := BitVec.ofNat 18 (fld q 4 4)
  let last := BitVec.ofNat 18 (fld q 8 4)
  let (n, s) := takeSeq s
  let body := node4 node ++ node4 last ++ node4 s.hier.node ++ [BitVec.ofNat 8 (s.hier.depth + 1), 0, 0, 0] ++ (q.drop 12).take 40
  let s := originateOn port 0 0 0x0D10 n 0 body s
  ([], { s with hier.enrolling := s.hier.enrolling ++
    [{ port := port, req := r, seq := n, first := node, last := last, sent := s.time.mono }] })

/-- RELEASE_WORKER (Table 13.14). -/
def checkReleaseWorker (r : Req) (_p s : State) : Option Rej :=
  let port := fld r.params 0 1
  firstRej [portField s port 0 0, rsvOk r.params 1 3, need (tfind s.hier.workers port).isSome (refused .mode 0)]

/-- RELEASE_WORKER sends RELEASE to the worker and frees its range (R251). -/
def actReleaseWorker (r : Req) (_room : Nat) (s : State) : List Byte × State :=
  let port := fld r.params 0 1
  match tfind s.hier.workers port with
  | none => ([], s)
  | some w =>
    let (n, s) := takeSeq s
    let s := originateOn port 0 0 0x0D11 n w.first [] s
    ([], { s with hier.workers := tdel s.hier.workers port })

/-- A worker's answer completes an ENROLL (R249): the worker is recorded when it answered OK. -/
def enrolled (e : Enrolling) (s : State) : State :=
  { s with hier.enrolling := s.hier.enrolling.filter (fun x => decide (x.port ≠ e.port))
           hier.workers := tput s.hier.workers e.port { first := e.first, last := e.last } }

/-- An ENROLL that waits is given up. -/
def enrolDone (port : Nat) (s : State) : State :=
  { s with hier.enrolling := s.hier.enrolling.filter (fun x => decide (x.port ≠ port)) }

/-! ### Announcements -/

/-- The announcement that an accepted write of the root, or an accepted announcement, makes to the workers (Table 10.2, R259):
`m` is the milestone at which it applies. A settings announcement carries the values as they will stand. -/
def announceWrite (op : Op) (r : Req) (m : Milestone) (after s : State) : State :=
  let q := r.params
  let settings := fun (s : State) =>
    announce 0x0D23 (ms8 m ++ toBe 4 after.time.jumpThr ++ toBe 4 after.time.stepThr ++ toBe 2 after.fwd.etWaymark ++
      toBe 2 after.fwd.etAx ++ toBe 2 after.fwd.etCommand ++ [0, 0]) s
  match op with
  | .timeScale =>
    announce 0x0D21 (ms8 m ++ q.take 2 ++ [BitVec.ofNat 8 (flag (bit (fld q 2 1) 1)), BitVec.ofNat 8 (flag (bit (fld q 2 1) 0))]) s
  | .timeThresholds => settings s
  | .ethertypes => settings s
  | .hierEpochs => announce 0x0D22 (ms8 m ++ q.take 32) s
  | .fabricKeyRoll =>
    match s.keyNow with
    | none => s
    | some k => announce 0x0D24 (ms8 m ++ keyWrap k q) s
  | .announceStep => announce 0x0D20 (ms8 m ++ q.drop 8) s
  | .announceTimescale => announce 0x0D21 (ms8 m ++ q.drop 8) s
  | .announceEpochs => announce 0x0D22 (ms8 m ++ q.drop 8) s
  | .announceSettings => announce 0x0D23 (ms8 m ++ q.drop 8) s
  | .announceKey => announce 0x0D24 (ms8 m ++ q.drop 8) s
  | _ => s

/-- ANNOUNCE_STEP: milestone, MODE, 7 reserved bytes, VALUE, 2 of padding (Table 10.2). -/
def checkAnnounceStep (r : Req) : Option Rej :=
  let q := r.params
  firstRej [rsvOk q 0 1, within q 8 1 0 1, rsvOk q 9 7,
    need (decide (fld q 8 1 = 1) || decide ((sfld q 16 10).natAbs ≤ second)) (rangeAt 16), rsvOk q 26 2]

/-- ANNOUNCE_STEP at its milestone (R42): a step, or a load, which in UNSET is that of TIME_SET (R259, Table 2.3) and else leaves
the time state as it is. -/
def applyAnnounceStep (r : Req) (_c : Nat) (s : State) : State :=
  let q := r.params
  let v := BitVec.ofNat 80 (fld q 16 10)
  if fld q 8 1 ≠ 1 then moveCount 4 (sfld q 16 10) s
  else if s.time.state = .unset then loadCount v .host 4 0 0xFF s
  else moveCount 4 (sdiff v s.time.count) s

/-- ANNOUNCE_TIMESCALE: UTC offset, LEAP61 and LEAP59, one byte each. -/
def checkAnnounceTimescale (r : Req) : Option Rej :=
  let q := r.params
  firstRej [rsvOk q 0 1, within q 10 1 0 1, within q 11 1 0 (1 - fld q 10 1)]

/-- ANNOUNCE_TIMESCALE at its milestone. -/
def applyAnnounceTimescale (r : Req) (_c : Nat) (s : State) : State :=
  { s with time.utcOffset := sfld r.params 8 2, time.leap61 := decide (fld r.params 10 1 = 1)
           time.leap59 := decide (fld r.params 11 1 = 1) }

/-- ANNOUNCE_EPOCHS. -/
def checkAnnounceEpochs (r : Req) : Option Rej := rsvOk r.params 0 1

/-- ANNOUNCE_EPOCHS at its milestone. -/
def applyAnnounceEpochs (r : Req) (_c : Nat) (s : State) : State := setEpochs (r.params.drop 8) s

/-- ANNOUNCE_KEY: the milestone's upper byte; the key itself is unwrapped at acceptance. -/
def checkAnnounceKey (r : Req) : Option Rej := rsvOk r.params 0 1

/-- ANNOUNCE_KEY at its milestone: `r` carries the unwrapped key. -/
def applyAnnounceKey (r : Req) (_c : Nat) (s : State) : State := if s.hier.keyInUse then rollKey r.params s else s

end Sys2Proof.Machine
end

