-- ==== Sys2Proof/Machine/TimeCommands.lean ====
section
/-! DEFINITION. Family 0x06, Almanac time, compare units, link time (02_almanac_time, 07_link_time_transfer, Table 13.8): the
checks, effects and replies of its commands. `p` is the committed configuration with every pending commit applied (R300), `s`
the device. -/

namespace Sys2Proof.Machine

/-- The milestone at which a write commits: the one it names, or the first after acceptance (R297, R299). -/
def commitMs (r : Req) (s : State) : Milestone :=
  match r.ms with
  | some m => m.setWidth 56
  | none => s.nextMs

/-! ### Time -/

/-- TIME_STATE_FLAGS of TIME_GET and the rest of its reply. -/
def readTimeGet (_r : Req) (_room : Nat) (s : State) : List Byte × State :=
  let t := s.time
  let pend := s.pendingStep
  let value : Nat := match pend with
    | none => 0
    | some c => if c.op = .timeSet then fld c.req.params 0 10 else (BitVec.ofInt 80 (sfld c.req.params 0 8)).toNat
  ([BitVec.ofNat 8 t.state.code, BitVec.ofNat 8 (flag t.jumpRefused * 4 + flag pend.isSome * 2 + flag s.timeValid)] ++
    toBe 1 t.stepCount.toNat ++ [BitVec.ofNat 8 (flag t.leap61 * 2 + flag t.leap59)] ++ toBeInt 2 t.utcOffset ++ [0, 0] ++
    toBe 10 t.count.toNat ++ [0, 0] ++ off8 t.offset ++ toBe 8 ((pend.map (·.ms.toNat)).getD 0) ++ toBe 10 value ++ [0, 0] ++
    toBe 4 t.jumpThr ++ toBe 4 t.stepThr, s)

/-- The refusals of Table 2.3 for TIME_SET and TIME_STEP. -/
def timeRefusal (s : State) (set : Bool) : Option Rej :=
  match s.time.state with
  | .unset => if set then none else some (refused .timeInvalid 0)
  | .host => none
  | .following => some (refused .refConflict 0)
  | .guard => some (refused .jumpGuard 0)

/-- TIME_SET (Table 2.3, R40). -/
def checkTimeSet (r : Req) (p s : State) : Option Rej :=
  let v := BitVec.ofNat 80 (fld r.params 0 10)
  firstRej [rsvOk r.params 10 2, timeRefusal s true,
    need (decide (s.time.state ≠ .host) || r.force ||
      decide ((sdiff v (atOf (commitMs r s))).natAbs ≤ p.time.stepThr * 65536)) (refused .stepTooLarge 0)]

/-- TIME_STEP (Table 2.3, R40). -/
def checkTimeStep (r : Req) (p s : State) : Option Rej :=
  let d := sfld r.params 0 8
  firstRej [timeRefusal s false, need (decide (d.natAbs ≤ second)) (rangeAt 0),
    need (r.force || decide (d.natAbs ≤ p.time.stepThr * 65536)) (refused .stepTooLarge 0)]

/-- A second step or set while one is pending (R41). -/
def busyStep (_r : Req) (_p s : State) : Option Rej :=
  s.pendingStep.map (fun c => busy .refConflict (c.ms.toNat % 65536))

/-- TIME_SET at its milestone (R40, Table 2.3): a load in UNSET, else a step of V less the milestone. DESIGN CHOICE (log entry 57): one
that was accepted in UNSET and comes due in FOLLOWING moves the count to V too, and the state stays FOLLOWING. -/
def applyTimeSet (r : Req) (_c : Nat) (s : State) : State :=
  let v := BitVec.ofNat 80 (fld r.params 0 10)
  if s.time.state = .unset then loadCount v .host 2 0 0xFF s else moveCount 1 (sdiff v (atOf s.ms)) s

/-- TIME_STEP at its milestone (R40). -/
def applyTimeStep (r : Req) (_c : Nat) (s : State) : State := moveCount 0 (sfld r.params 0 8) s

/-- An accepted step or set is announced to the workers (R42). -/
def announceOwnStep (op : Op) (r : Req) (m : Milestone) (s : State) : State :=
  let v := BitVec.ofNat 80 (fld r.params 0 10)
  match op with
  | .timeSet => if s.time.state = .unset then announceStep m 1 v s else announceStep m 0 (v - atOf m) s
  | .timeStep => announceStep m 0 (BitVec.ofInt 80 (sfld r.params 0 8)) s
  | _ => s

/-- TIME_STEP_CANCEL (R41): a step is pending and its milestone has not been reached. -/
def checkTimeStepCancel (_r : Req) (_p s : State) : Option Rej :=
  need ((s.pendingStep.map (fun c => later c.ms s.ms)).getD false) (refused .mode 0)

/-- TIME_STEP_CANCEL removes the pending step (R41). -/
def actTimeStepCancel (_r : Req) (_room : Nat) (s : State) : List Byte × State :=
  (toBe 8 ((s.pendingStep.map (·.ms.toNat)).getD 0), cancelStep 0 s)

/-- TIME_ACCEPT_JUMP (Table 2.3). -/
def checkTimeAcceptJump (_r : Req) (_p s : State) : Option Rej :=
  match s.time.state with
  | .unset => some (refused .timeInvalid 0)
  | .guard => none
  | _ => some (refused .mode 0)

/-- TIME_ACCEPT_JUMP at its milestone (R38). -/
def applyTimeAcceptJump (_r : Req) (_c : Nat) (s : State) : State := acceptJump s

/-- TIME_THRESHOLDS (R35). -/
def checkTimeThresholds (r : Req) (_p _s : State) : Option Rej :=
  firstRej [within r.params 0 4 1 1000000000, within r.params 4 4 1 1000000000]

/-- TIME_THRESHOLDS at its commit milestone. -/
def applyTimeThresholds (r : Req) (_c : Nat) (s : State) : State :=
  { s with time.jumpThr := fld r.params 0 4, time.stepThr := fld r.params 4 4 }

/-- TIME_SCALE (R33). -/
def checkTimeScale (r : Req) (_p _s : State) : Option Rej := firstRej [within r.params 2 1 0 2, rsvOk r.params 3 1]

/-- TIME_SCALE at its commit milestone. -/
def applyTimeScale (r : Req) (_c : Nat) (s : State) : State :=
  { s with time.utcOffset := sfld r.params 0 2, time.leap61 := bit (fld r.params 2 1) 1, time.leap59 := bit (fld r.params 2 1) 0 }

/-! ### Compare units -/

/-- Resources of a compare function (Table 2.8). -/
def compareResources : Nat → Nat
  | 1 => 4 | 2 => 16 | _ => 1

/-- The claimed unit that drives a resource (R46). -/
def State.driver (s : State) (function resource : Nat) : Option Nat :=
  (List.range 32).find? (fun u =>
    let c := s.unit u
    c.claimed && c.drives && decide (c.function = function ∧ c.resource = resource))

/-- The level of PPS_OUTn (R46): low until claimed and armed. -/
def State.ppsOut (s : State) (n : Nat) : Bool := ((s.driver 1 n).map (fun u => (s.unit u).level s.time.mono)).getD false

/-- The level of a TIO pin that drives (R268), none for a high-impedance input: a pulse-output pin is low until a compare unit drives
it. -/
def State.tioOut (s : State) (n : Nat) : Option Bool :=
  match tfind s.meas.pins n with
  | some p => if p.function = 1 then some (((s.driver 2 n).map (fun u => (s.unit u).level s.time.mono)).getD false) else none
  | none => none

/-- The unit that a COMPARE_CLAIM takes: the one named, or the lowest free one (R46). -/
def claimUnit (r : Req) (p : State) : Option Nat :=
  let u := fld r.params 0 1
  if u = 0xFF then (List.range 32).find? (fun k => !(p.unit k).claimed) else some u

/-- COMPARE_CLAIM (R46), in the order of that rule. -/
def checkCompareClaim (r : Req) (p _s : State) : Option Rej :=
  let q := r.params
  let u := fld q 0 1
  let f := fld q 1 1
  let x := fld q 2 1
  firstRej [need (decide (u < 32 ∨ u = 0xFF)) (rangeAt 0), within q 1 1 0 3, need (decide (x < compareResources f)) (rangeAt 2),
    rsvOk q 3 1,
    need (decide (f ≠ 2) || decide ((tfind p.meas.pins x).map (·.function) = some 1)) (refused .configIncomplete x),
    need (decide (u = 0xFF) || !(p.unit u).claimed) (refused .claimTaken u),
    if f = 1 ∨ f = 2 then (p.driver f x).map (fun v => refused .claimTaken v) else none,
    need (claimUnit r p).isSome (refused .tableFull 0)]

/-- COMPARE_CLAIM at its commit milestone: `u` is the unit that acceptance settled. -/
def applyCompareClaim (r : Req) (u : Nat) (s : State) : State :=
  s.setUnit u { claimed := true, function := fld r.params 1 1, resource := fld r.params 2 1 }

/-- The width that COMPARE_ARM sets, ns (Table 2.9). -/
def armWidth (q : List Byte) : Nat := if fld q 4 4 = 0 then 100000 else fld q 4 4

/-- The period that COMPARE_ARM sets, 2^-16 ns (Table 2.9). -/
def armPeriod (q : List Byte) : Nat := if fld q 20 8 = 0 then second else fld q 20 8

/-- A command on a claimed unit that no calendar owns (R324). -/
def ownedUnit (p : State) (u : Nat) : Option Rej :=
  firstRej [need (p.unit u).claimed (refused .configIncomplete 0), need (decide ((p.unit u).function ≠ 4)) (refused .mode 0)]

/-- COMPARE_ARM (Table 2.9, R324, R50). -/
def checkCompareArm (r : Req) (p s : State) : Option Rej :=
  let q := r.params
  let periodic := bit (fld q 1 1) 0
  firstRej [within q 0 1 0 31, within q 1 1 0 15, rsvOk q 2 2, need (decide (8 ≤ armWidth q)) (rangeAt 4), rsvOk q 18 2,
    need (!periodic || decide (0x400000 ≤ armPeriod q)) (rangeAt 20),
    need (!periodic || decide ((armWidth q + 8) * 65536 < armPeriod q)) (rangeAt 4),
    ownedUnit p (fld q 0 1), need s.timeValid (refused .timeInvalid 0)]

/-- COMPARE_ARM at its commit milestone replaces the unit's settings whole (R47, R50): a target before the milestone is
late and waits for the next one. -/
def applyCompareArm (r : Req) (_c : Nat) (s : State) : State :=
  let q := r.params
  let u := fld q 0 1
  let c := s.unit u
  let fl := fld q 1 1
  let target := BitVec.ofNat 80 (fld q 8 10)
  if !c.claimed || decide (c.function = 4) then s
  else
    s.setUnit u { claimed := true, function := c.function, resource := c.resource, armed := true, periodic := bit fl 0
                  activeLow := bit fl 1, notify := bit fl 2, lateQuiet := bit fl 3, target := target, period := armPeriod q
                  width := armWidth q, latePending := decide (0 < sdiff (nsOf (atOf s.ms)) (nsOf target)), lateSince := s.ms
                  source := some r.src, pulseEnd := c.pulseEnd }

/-- COMPARE_DISARM and COMPARE_RELEASE. -/
def checkCompareUnit (r : Req) (p _s : State) : Option Rej :=
  firstRej [within r.params 0 1 0 31, rsvOk r.params 1 3, ownedUnit p (fld r.params 0 1)]

/-- COMPARE_DISARM at its commit milestone keeps the claim. -/
def applyCompareDisarm (r : Req) (_c : Nat) (s : State) : State :=
  let u := fld r.params 0 1
  if (s.unit u).function = 4 then s else s.setUnit u (stopUnit (s.unit u))

/-- COMPARE_RELEASE at its commit milestone gives the claim up. DESIGN CHOICE (log entry 57): a pulse in progress ends with the unit,
without an end of its own in the output. -/
def applyCompareRelease (r : Req) (_c : Nat) (s : State) : State :=
  let u := fld r.params 0 1
  if (s.unit u).function = 4 then s else { s with time.compares := tdel s.time.compares u }

/-- COMPARE_STATUS. -/
def readCompareStatus (_r : Req) (_room : Nat) (s : State) : List Byte × State :=
  ((List.range 32).flatMap (fun u => toBe 4 (s.unit u).word), s)

/-! ### Link time -/

/-- TIMING_CONFIG (R165). -/
def checkTimingConfig (r : Req) (p s : State) : Option Rej :=
  let q := r.params
  let port := fld q 0 1
  let k := fld q 1 1
  firstRej [portField p port 0 0, within q 1 1 0 7, within q 2 1 0 1, rsvOk q 3 1,
    need (p.laneUsed port k) (refused .breakoutMismatch port),
    need (!p.portCritical port || decide ((s.link port).activeLane = k) || (s.lane port k).skew.isSome) (refused .refConflict port)]

/-- TIMING_CONFIG at its commit milestone (R165): a lane whose skew is known takes over as in a hitless fallback; without it,
which a time-critical port refuses, n is resolved anew. -/
def applyTimingConfig (r : Req) (_c : Nat) (s : State) : State :=
  let q := r.params
  let port := fld q 0 1
  let k := fld q 1 1
  let old := (s.link port).activeLane
  let s := s.setLink port { s.link port with confLane := k, revert := bit (fld q 2 1) 0 }
  if old = k then s.setLink port { s.link port with base := (s.link port).corr }
  else match (s.lane port k).skew with
    | some v =>
      let s := moveToConfigured port k v s
      if s.portCritical port then
        raiseAt (laneDieOf port) .note 0x2202 [BitVec.ofNat 8 port, BitVec.ofNat 8 old, BitVec.ofNat 8 k] s
      else s
    | none =>
      let s := moveActive port k none s
      s.setLink port { s.link port with corr := 0, base := 0, resolved := false, phi := none }

/-- AX_CONFIG (R187). -/
def checkAxConfig (r : Req) (p _s : State) : Option Rej :=
  let q := r.params
  let port := fld q 0 1
  firstRej [portField p port 0 0, within q 1 1 0 1, within q 2 1 0 12, rsvOk q 3 1, within q 4 2 1 3600, rsvOk q 6 2,
    need (!(decide (fld q 1 1 = 1) && (p.link port).ptp.enable)) (refused .refConflict port)]

/-- AX_CONFIG at its commit milestone. -/
def applyAxConfig (r : Req) (_c : Nat) (s : State) : State :=
  let q := r.params
  let port := fld q 0 1
  let k := s.link port
  let on := decide (fld q 1 1 = 1)
  s.setLink port { k with axEnable := on, rateLog2 := fld q 2 1, silence := fld q 4 2
                          axFrom := if on && !k.axEnable then s.time.mono else k.axFrom, silent := k.silent && on && k.axEnable
                          axDue := k.axDue && on }

/-- LINK_ASYM (R181, R182). -/
def checkLinkAsym (r : Req) (p _s : State) : Option Rej :=
  let q := r.params
  let port := fld q 0 1
  let est := decide (fld q 1 1 = 1)
  firstRej [portField p port 0 0, within q 1 1 0 1, within q 2 1 0 7, within q 3 1 0 7,
    need (decide ((sfld q 4 4).natAbs ≤ 100000000)) (rangeAt 4),
    need (!est || decide (fld q 2 1 ≠ fld q 3 1)) (rangeAt 3), need (!est || decide (sfld q 8 4 ≠ 0)) (rangeAt 8),
    need (!est || (p.timingLane port (fld q 2 1) && p.timingLane port (fld q 3 1))) (refused .breakoutMismatch 0)]

/-- LINK_ASYM at its commit milestone. -/
def applyLinkAsym (r : Req) (_c : Nat) (s : State) : State :=
  let q := r.params
  let port := fld q 0 1
  s.setLink port { s.link port with estimate := decide (fld q 1 1 = 1), laneA := fld q 2 1, laneB := fld q 3 1, coefA := sfld q 4 4
                                    dispersion := sfld q 8 4, estA := none }

/-- A monotonic instant lies within the silence limit of a port. -/
def State.fresh (s : State) (port : Nat) (t : Option Nat) : Bool :=
  (t.map (fun t => decide (s.time.mono ≤ t + (s.link port).silence * second))).getD false

/-- Timing status word of a port (Table 7.7). -/
def State.axWord (s : State) (port : Nat) : Nat :=
  let k := s.link port
  flag k.axEnable * 2 ^ 31 + flag (s.portCritical port) * 2 ^ 30 + flag (s.phaseLane port && k.resolved) * 2 ^ 29 +
  flag (s.fresh port k.lastValid) * 2 ^ 28 + flag (decide (k.activeLane ≠ k.confLane)) * 2 ^ 27 + k.activeLane * 2 ^ 24 +
  k.confLane * 2 ^ 21 +
  (if k.estimate then (if k.estA.isSome then 2 else 3) else if k.coefA = 0 then 0 else 1) * 2 ^ 19 + flag k.ptp.enable * 2 ^ 18 +
  flag (s.fresh port k.lastRx) * 2 ^ 17 +
  ((List.range 8).foldl (fun n j => if (s.lane port j).skew.isSome then n + 2 ^ j else n) 0) * 2 ^ 8

/-- AX_STATUS: the rounding of the phase sample to 2^-16 ns is open (log entry 29). -/
def readAxStatus (r : Req) (_room : Nat) (s : State) : List Byte × State :=
  let port := fld r.params 0 1
  let k := s.link port
  let (ph, s) := openDiv k.thetaPh 5 s
  (toBe 4 (s.axWord port) ++ off8 k.d ++ off8 k.thetaX ++ off8 ph ++ toBeInt 4 (satInt 32 k.coef) ++ [0, 0, 0, 0] ++
    (upto 1 7).flatMap (fun i => toBe 8 (s.counter 8 port i)) ++
    (List.range 8).flatMap (fun j => toBeInt 4 (satInt 32 ((s.lane port j).skew.getD 0))), s)

/-- PTP_PORT_CONFIG (Table 7.5, R187). -/
def checkPtpPortConfig (r : Req) (p _s : State) : Option Rej :=
  let q := r.params
  let port := fld q 0 1
  let inLog := fun (o : Nat) (lo hi : Int) => need (decide (lo ≤ sfld q o 1 ∧ sfld q o 1 ≤ hi)) (rangeAt o)
  let st := fld q 7 1
  firstRej [portField p port 0 0, within q 1 1 0 1, within q 2 1 0 2, within q 3 1 0 1, inLog 4 (-7) 0, inLog 5 (-7) 0, inLog 6 (-3) 4,
    need (decide (st = 0 ∨ st = 6 ∨ st = 7 ∨ st = 9)) (rangeAt 7), if fld q 2 1 = 1 then rsvOk q 8 12 else none,
    need (!(decide (fld q 1 1 = 1) && (p.link port).axEnable)) (refused .refConflict port),
    need (p.port.ptpClock.external || decide (st = 0)) (rangeAt 7)]

/-- PTP_PORT_CONFIG at its commit milestone. -/
def applyPtpPortConfig (r : Req) (_c : Nat) (s : State) : State :=
  let q := r.params
  let port := fld q 0 1
  let k := s.link port
  let on := decide (fld q 1 1 = 1)
  let base : PtpPort := if on && k.ptp.enable then k.ptp else { k.ptp with state := if on then 4 else 3, foreigns := [], sync := none
                                                                           awaiting := none, delayReq := none, parent := 0 }
  ptpRun (s.setLink port { k with ptp := { base with
    enable := on, transport := fld q 2 1, twoStep := decide (fld q 3 1 = 1), syncLog := sfld q 4 1, delayReqLog := sfld q 5 1
    announceLog := sfld q 6 1, config := fld q 7 1, address := (q.drop 8).take 16 } })

/-- PTP_CLOCK_CONFIG. -/
def checkPtpClockConfig (r : Req) (_p _s : State) : Option Rej :=
  let q := r.params
  firstRej [within q 1 1 0 1, within q 2 1 0 1, rsvOk q 7 1, rsvOk q 10 2]

/-- PTP_CLOCK_CONFIG that changes DOMAIN while a PTP port is enabled (R310). -/
def busyPtpClockConfig (r : Req) (p _s : State) : Option Rej :=
  need (decide (fld r.params 0 1 = p.port.ptpClock.domain) || p.ptpPorts.isEmpty) (busy .refConflict 0)

/-- PTP_CLOCK_CONFIG at its commit milestone. -/
def applyPtpClockConfig (r : Req) (_c : Nat) (s : State) : State :=
  let q := r.params
  ptpRun { s with port.ptpClock :=
    { domain := fld q 0 1, highAccuracy := decide (fld q 1 1 = 1), external := decide (fld q 2 1 = 1), priority1 := fld q 3 1
      priority2 := fld q 4 1, clockClass := fld q 5 1, accuracy := fld q 6 1, variance := fld q 8 2
      identity := some (BitVec.ofNat 64 (fld q 12 8)) } }

/-- PTP_STATUS, after the timeouts that have passed; a port that runs no PTP port reads DISABLED, 3 in IEEE 1588-2019. -/
def readPtpStatus (r : Req) (_room : Nat) (s : State) : List Byte × State :=
  let s := ptpRun s
  let v := (s.link (fld r.params 0 1)).ptp
  ([BitVec.ofNat 8 (if v.enable then v.state else 3), 0, 0, 0] ++ toBe 8 v.parent.toNat ++ off8 v.meanDelay ++ off8 v.offset ++
    toBe 4 v.syncRx ++ toBe 4 v.delayReqTx ++ toBe 4 v.announceRx ++ toBe 4 v.badMsg, s)

end Sys2Proof.Machine
end

