-- ==== Sys2Proof/Machine/MeasureCommands.lean ====
section
/-! DEFINITION. Family 0x09, timing pins and TDC channels (11_time_interval_measurement, 19_board_interfaces, Table 13.11): the
checks, effects and replies of its commands. `p` is the committed configuration with every pending commit applied (R300), `s`
the device. -/

namespace Sys2Proof.Machine

/-! ### Pins -/

/-- ELECTRICAL options that a function takes (Table 19.3, R418). -/
def electricalOk (f e : Nat) : Bool :=
  let term := e / 8192 % 4
  let drive := e / 2048 % 4
  let thr := e % 256
  decide (e < 32768 ∧ e / 256 % 4 = 0 ∧ term ≠ 3 ∧ drive ≠ 3) && decide (thr = 0 ∨ (20 ≤ thr ∧ thr ≤ 160)) &&
  (if f = 1 then decide (term = 0 ∧ e / 1024 % 2 = 0 ∧ thr = 0) else decide (drive = 0))

/-- TIO_CLAIM (R268, R418). -/
def checkTioClaim (r : Req) (p _s : State) : Option Rej :=
  let q := r.params
  firstRej [within q 0 1 0 15, within q 1 1 0 2, need (electricalOk (fld q 1 1) (fld q 2 2)) (rangeAt 2),
    need (tfind p.meas.pins (fld q 0 1)).isNone (refused .claimTaken (fld q 0 1))]

/-- TIO_CLAIM at its commit milestone. -/
def applyTioClaim (r : Req) (_c : Nat) (s : State) : State :=
  let q := r.params
  { s with meas.pins := tput s.meas.pins (fld q 0 1) { function := fld q 1 1, electrical := BitVec.ofNat 16 (fld q 2 2) } }

/-- TIO_RELEASE (R269). -/
def checkTioRelease (r : Req) (p s : State) : Option Rej :=
  let n := fld r.params 0 1
  firstRej [within r.params 0 1 0 15, rsvOk r.params 1 3, (p.driver 2 n).map (fun u => refused .claimTaken u),
    ((List.range 16).find? (fun e => (p.refEntry e).enable && decide ((p.refEntry e).kind = 4 ∧ (p.refEntry e).index = n))).map
      (fun e => refused .refConflict e),
    need (!((s.chan n).enabled || (p.chan n).enabled)) (refused .gateActive n)]

/-- TIO_RELEASE at its commit milestone. -/
def applyTioRelease (r : Req) (_c : Nat) (s : State) : State := { s with meas.pins := tdel s.meas.pins (fld r.params 0 1) }

/-! ### Channels -/

/-- Settings that TDC_CONFIG carries (Table 11.2). -/
def tdcSettings (q : List Byte) : TdcCfg :=
  { edgeSel := fld q 1 1, arm := fld q 2 1, gatePin := fld q 3 1 % 4, activeLow := bit (fld q 3 1) 7, decimation := fld q 4 4
    nominal := fld q 8 4, ring := fld q 12 1, fit := decide (fld q 13 1 = 1), start := BitVec.ofNat 80 (fld q 16 10)
    stop := BitVec.ofNat 80 (fld q 28 10), period := fld q 40 8 }

/-- TDC_CONFIG (Table 11.2, R277): the window is judged where ARM is WINDOW. -/
def checkTdcConfig (r : Req) (p s : State) : Option Rej :=
  let q := r.params
  let n := fld q 0 1
  let c := tdcSettings q
  let span := sdiff c.stop c.start
  let window := decide (c.arm = 2)
  firstRej [within q 0 1 0 15, within q 1 1 0 2, within q 2 1 0 2, need (decide (fld q 3 1 % 128 < 4)) (rangeAt 3), within q 4 4 1 65536,
    within q 8 4 0 250000000, need (decide (c.ring < 64 ∨ c.ring = 0xFF)) (rangeAt 12), within q 13 1 0 1, rsvOk q 14 2, rsvOk q 26 2,
    need (!window || decide (0 < span)) (rangeAt 28), rsvOk q 38 2,
    need (decide (c.period ≤ 2 ^ 40) && (!window || decide (c.period = 0 ∨ span ≤ c.period * 65536))) (rangeAt 40),
    need (!((s.chan n).enabled || (p.chan n).enabled)) (refused .gateActive 0)]

/-- TDC_CONFIG writes the settings of a channel. -/
def pendTdcConfig (r : Req) (s : State) : State :=
  let n := fld r.params 0 1
  s.setChan n { s.chan n with cfg := tdcSettings r.params }

/-- The calibration that a channel needs is valid and present (16, items 6 and 7). -/
def tdcCal (p : State) (n : Nat) (c : TdcCfg) : Bool :=
  bit p.cal.valid 6 && bit p.cal.valid 7 && (List.range 256).all (fun i => calHas p.cal.set 6 (256 * n + i)) &&
  calHas p.cal.set 7 n && (decide (c.arm ≠ 1) || calHas p.cal.set 7 (16 + c.gatePin))

/-- A ring descriptor is in service for TDC records. -/
def State.tdcRing (s : State) (d : Nat) : Bool :=
  decide (d < 64) && (s.ring d).enable && decide (RingKind.ofCode (s.ring d).kind.toNat = RingKind.tdc)

/-- TDC_ENABLE, in the order of R277. -/
def checkTdcEnable (r : Req) (p s : State) : Option Rej :=
  let n := fld r.params 0 1
  let c := (p.chan n).cfg
  let no := fun (cond : Nat) => refused .configIncomplete (n + 256 * cond)
  firstRej [within r.params 0 1 0 15, rsvOk r.params 1 3,
    need (decide ((tfind p.meas.pins n).map (·.function) = some 0)) (no 1), need (s.tdcRing c.ring) (no 2), need (tdcCal p n c) (no 3),
    need (decide (c.arm ≠ 2) || s.timeValid) (refused .timeInvalid n),
    need (!(decide (c.arm = 2 ∧ c.period = 0) && reached (atOf (commitMs r s)) c.stop)) (refused .milestonePast n),
    need (!(p.chan n).enabled) (refused .gateActive n)]

/-- TDC_ENABLE at its commit milestone (R275, R277). -/
def applyTdcEnable (r : Req) (_c : Nat) (s : State) : State :=
  let n := fld r.params 0 1
  if (s.chan n).enabled then s
  else
    let s := enableChannel n r.src s
    let c := s.chan n
    if c.cfg.arm = 2 ∧ c.cfg.period ≠ 0 then s.setChan n { c with window := firstWindow c.cfg s.time.count } else s

/-- TDC_DISABLE. -/
def checkTdcDisable (r : Req) (_p _s : State) : Option Rej := firstRej [within r.params 0 1 0 15, rsvOk r.params 1 3]

/-- TDC_DISABLE at its commit milestone (R278); a channel that is not enabled is left as it is. -/
def applyTdcDisable (r : Req) (_c : Nat) (s : State) : State :=
  let n := fld r.params 0 1
  if (s.chan n).enabled then disableChannel n s else s

/-- The 16 bytes of a channel in TDC_STATUS. -/
def tdcLine (s : State) (n : Nat) : List Byte :=
  let c := s.chan n
  [BitVec.ofNat 8 (flag c.enabled * 2 + flag c.gate.isSome), 0] ++ toBe 2 c.gateSeq.toNat ++ toBe 2 c.queue.length ++ [0, 0] ++
  toBe 4 (satNat 32 c.lostPending) ++ toBe 4 (s.counter 9 0 (15 + n) % 2 ^ 32)

/-- TDC_STATUS. -/
def readTdcStatus (_r : Req) (_room : Nat) (s : State) : List Byte × State := ((List.range 16).flatMap (tdcLine s), s)

/-- TDC_RESULT. -/
def checkTdcResult (r : Req) (_p _s : State) : Option Rej := firstRej [within r.params 0 1 0 15, rsvOk r.params 1 3]

/-- The latest gate reports of a channel, newest first (R281). -/
def readTdcResult (r : Req) (_room : Nat) (s : State) : List Byte × State :=
  let rs := (s.chan (fld r.params 0 1)).reports
  ([BitVec.ofNat 8 rs.length, 0, 0, 0] ++ rs.flatten, s)

end Sys2Proof.Machine
end

