-- ==== Sys2Proof/Machine/PortCommands.lean ====
section
/-! DEFINITION. Family 0x02, ports and lanes (06_serial_lanes, Table 13.3): the checks, effects and replies of its
commands. `p` is the committed configuration with every pending commit applied (R300), `s` the device. -/

namespace Sys2Proof.Machine

/-- Entry i of PORT_BREAKOUT: TYPE and MEDIUM. -/
def breakoutEntry (r : List Byte) (i : Nat) : Nat × Nat := (fld r (4 + 4 * i) 1, fld r (5 + 4 * i) 1)

/-- The fields of one entry of PORT_BREAKOUT (R144): within the breakout a type it provides, beyond it 0. -/
def breakoutField (r : List Byte) (b i : Nat) : Option Rej :=
  let o := 4 + 4 * i
  let (t, m) := breakoutEntry r i
  firstRej [need (decide (t = 0 ∨ (t ≤ 12 ∧ typeBreakout t = b ∧ i < b))) (rangeAt o),
    need (decide (m ≤ 2 ∧ (t = 0 → m = 0))) (rangeAt (o + 1)), rsvOk r (o + 2) 2]

/-- A logical port is named as a single destination (R144). -/
def namedSingle (p : State) (l : Nat) : Bool :=
  p.fwd.l2.any (fun e => decide (e.kind = 0 ∧ e.target = l)) ||
  p.fwd.nexthops.any (fun e => decide (e.2.kind = 0 ∧ e.2.lport = l)) ||
  p.fwd.acl.any (fun e => decide (e.2.action = 3 ∧ e.2.redirectGroup = false ∧ e.2.redirect = l)) ||
  p.fwd.mirrors.any (fun e => decide (e.2.destKind = 0 ∧ e.2.dest = l))

/-- The logical ports that a breakout removes (R145). -/
def removedPorts (p : State) (port b : Nat) : List Nat := (upto b (p.breakout port)).map (4 * port + ·)

/-- A loop or PRBS generator is active on a lane or its logical port. -/
def laneTesting (p : State) (port k : Nat) : Bool :=
  decide ((p.lane port k).prbsGen ≠ 0) || decide ((p.lp (p.lportOfLane port k)).loop ≠ 0)

/-- PORT_BREAKOUT (R144). -/
def checkPortBreakout (r : Req) (p _s : State) : Option Rej :=
  let q := r.params
  let port := fld q 0 1
  let b := fld q 1 1
  let gone := removedPorts p port b
  firstRej [portField p port 0 port, need (decide (b = 1 ∨ b = 2 ∨ b = 4)) (rangeAt 1), rsvOk q 2 2,
    (List.range 4).findSome? (breakoutField q b),
    (gone.find? (namedSingle p)).map (fun l => refused .breakoutMismatch l),
    (gone.find? p.critical).map (fun l => refused .refConflict l),
    need (!(List.range 8).any (laneTesting p port) && !(p.lportsOf port).any (fun l => decide ((p.lp l).loop ≠ 0)))
      (refused .mode port)]

/-- A removed logical port (R145): disabled and flushed, its calendar and its bitmap bits gone. -/
def removePort (l : Nat) (s : State) : State :=
  let s := removeCalendar l (disablePort l s)
  { s with fwd.groups := s.fwd.groups.map (fun g => (g.1, { g.2 with ports := g.2.ports.filter (· ≠ l) }))
           fwd.mirrors := s.fwd.mirrors.map (fun m =>
             (m.1, { m.2 with ingress := m.2.ingress.filter (· ≠ l), egress := m.2.egress.filter (· ≠ l) })) }

/-- PORT_BREAKOUT at its commit milestone (R145). -/
def applyPortBreakout (r : Req) (_c : Nat) (s : State) : State :=
  let q := r.params
  let port := fld q 0 1
  let b := fld q 1 1
  let old := s.breakout port
  let s := (removedPorts s port b).foldl (fun s l => removePort l s) s
  let s := (List.range (min old b)).foldl (fun s i =>
    let l := 4 * port + i
    let v := s.lp l
    if old = b ∧ (v.type, v.medium) = breakoutEntry q i then s
    else if v.enabled then disablePort l s else s) s
  let s := { s with port.breakout := tput s.port.breakout port b }
  let s := if old = b then s else (List.range 8).foldl (fun s k => forgetSkew port k s) s
  (List.range b).foldl (fun s i =>
    let l := 4 * port + i
    let (t, m) := breakoutEntry q i
    let v := s.lp l
    let s := s.setLp l { v with type := t, medium := m, enabled := v.enabled && decide (i < old) }
    if m = 0 then (s.lanesOf l).foldl (fun s k => s.setLane port k { s.lane port k with taps := (s.lane port k).startTaps }) s
    else s) s

/-- PORT_CONFIG (R151, R154). -/
def checkPortConfig (r : Req) (p _s : State) : Option Rej :=
  let q := r.params
  firstRej [lportField p (fld q 0 2) 0 0, within q 2 1 0 1, rsvOk q 3 1, within q 4 2 100 10000, within q 6 2 1 65535]

/-- PORT_CONFIG at its commit milestone. -/
def applyPortConfig (r : Req) (_c : Nat) (s : State) : State :=
  let q := r.params
  let l := fld q 0 2
  s.setLp l { s.lp l with degradeDown := decide (fld q 2 1 = 1), trainLimit := fld q 4 2, degradeThr := fld q 6 2 }

/-- PORT_ENABLE (R146), in the order of that rule, in the mode that the pending commits leave (R300, R301). -/
def checkPortEnable (r : Req) (p s : State) : Option Rej :=
  let q := r.params
  let l := fld q 0 2
  let lanes := (p.lportsOf (portOf l)).contains l && (p.lanesOf l).any (laneTesting p (portOf l))
  firstRej [need (decide (l < 384)) (rangeAt 0), need (decide (portOf l < p.part.ports)) (refused .dieAbsent 0), rsvOk q 2 2,
    need (!decide (p.power.mode = .timingOnly ∨ p.power.mode = .test ∨ p.power.mode = .safe) || p.critical l)
      (refused .mode l),
    need (s.ready (32 + portOf l)) (refused .notReady (portOf l)),
    need (p.provided l) (refused .breakoutMismatch l),
    need (decide ((p.lp l).type ≠ 0)) (refused .configIncomplete l),
    need (!lanes) (refused .mode l)]

/-- PORT_ENABLE at its commit milestone (R146, R410). -/
def applyPortEnable (r : Req) (_c : Nat) (s : State) : State :=
  let l := fld r.params 0 2
  let s := modWrite l false s
  if (s.lp l).enabled then s else enablePort l s

/-- PORT_DISABLE. -/
def checkPortDisable (r : Req) (p _s : State) : Option Rej :=
  firstRej [lportField p (fld r.params 0 2) 0 0, rsvOk r.params 2 2]

/-- PORT_DISABLE at its commit milestone (R146, R410). -/
def applyPortDisable (r : Req) (_c : Nat) (s : State) : State :=
  let l := fld r.params 0 2
  disablePort l (modWrite l true s)

/-- A read of one port. -/
def checkPortRead (r : Req) (p _s : State) : Option Rej :=
  firstRej [portField p (fld r.params 0 1) 0 0, rsvOk r.params 1 3]

/-- POWER of Table 6.3. -/
def powerCode (v : Lport) : Nat := if v.moving.isSome then 3 else v.power

/-- PORT_STATUS (R320); a logical port in L-DEEP or in a transition is not down (R157). -/
def readPortStatus (r : Req) (_room : Nat) (s : State) : List Byte × State :=
  let port := fld r.params 0 1
  ((List.range 4).flatMap (fun i =>
    let l := 4 * port + i
    let v := s.lp l
    if s.provided l then
      [BitVec.ofNat 8 (if !v.enabled then 0 else if s.linkIsDown l then 1 else 2), BitVec.ofNat 8 v.type, BitVec.ofNat 8 v.medium,
        BitVec.ofNat 8 (powerCode v)] ++ toBe 10 v.upAt.toNat ++ toBe 10 v.downAt.toNat
    else 3 :: List.replicate 23 0), s)

/-- The tap ranges and the sum rule of Table 6.2: the index of the first tap concerned. -/
def tapsBad (t : List Int) : Option Nat :=
  let lo : List Int := [-8, -16, -32, 24, -32]
  let hi : List Int := [8, 16, 0, 64, 0]
  match (List.range 5).find? (fun i => decide (getAt t i 0 < getAt lo i 0 ∨ getAt hi i 0 < getAt t i 0)) with
  | some i => some i
  | none => if 64 < (t.map Int.natAbs).sum then some 0 else none

/-- The five taps of LANE_TX_EQ. -/
def tapsOf (q : List Byte) : List Int := (List.range 5).map (fun i => sfld q (4 + i) 1)

/-- LANE_TX_EQ (R150). -/
def checkLaneTxEq (r : Req) (p _s : State) : Option Rej :=
  let q := r.params
  firstRej [portField p (fld q 0 1) 0 0, within q 2 1 0 1, rsvOk q 3 1, (tapsBad (tapsOf q)).map (fun i => rangeAt (4 + i)),
    rsvOk q 9 3]

/-- Lanes of a LANE_MASK (R320). -/
def maskLanes (m : Nat) : List Nat := (List.range 8).filter (bit m)

/-- A state with a function applied to the lanes of a mask. -/
def onLanes (port m : Nat) (f : Nat → Lane → Lane) (s : State) : State :=
  (maskLanes m).foldl (fun s k => s.setLane port k (f k (s.lane port k))) s

/-- LANE_TX_EQ at its commit milestone (R150): at once on C2M, the start of the next training on CR and KR. -/
def applyLaneTxEq (r : Req) (_c : Nat) (s : State) : State :=
  let q := r.params
  let port := fld q 0 1
  onLanes port (fld q 1 1) (fun k v =>
    { v with eqLock := decide (fld q 2 1 = 1), startTaps := tapsOf q
             taps := if (s.lp (s.lportOfLane port k)).medium = 0 then tapsOf q else v.taps }) s

/-- LANE_RX_CONFIG (R142, R152). -/
def checkLaneRxConfig (r : Req) (p _s : State) : Option Rej :=
  let q := r.params
  firstRej [portField p (fld q 0 1) 0 0, within q 2 1 6 30, within q 3 1 0 3]

/-- LANE_RX_CONFIG at its commit milestone. -/
def applyLaneRxConfig (r : Req) (_c : Nat) (s : State) : State :=
  let q := r.params
  onLanes (fld q 0 1) (fld q 1 1) (fun _ v =>
    { v with losThr := fld q 2 1, txInvert := bit (fld q 3 1) 1, rxInvert := bit (fld q 3 1) 0 }) s

/-- LANE_POWER (R155, R156, R159). -/
def checkLanePower (r : Req) (p _s : State) : Option Rej :=
  let q := r.params
  let l := fld q 0 2
  firstRej [lportField p l 0 0, within q 2 1 0 2, within q 3 1 0 3, within q 4 2 2 1000, rsvOk q 6 2,
    need (!(decide (fld q 2 1 = 2) && p.critical l)) (refused .timingLaneDeep l),
    need (!(decide (fld q 2 1 ≠ 2) && (tfind p.power.shedPorts l).isSome)) (refused .shedActive 0)]

/-- LANE_POWER on a logical port whose transition is in progress (R159). -/
def busyLanePower (r : Req) (_p s : State) : Option Rej :=
  let l := fld r.params 0 2
  need (decide ((s.lp l).moving = none)) (busy .refConflict l)

/-- LANE_POWER at its commit milestone (R155): a disabled logical port has nothing to move and is in the state at once. -/
def applyLanePower (r : Req) (_c : Nat) (s : State) : State :=
  let q := r.params
  let l := fld q 0 2
  let s := s.setLp l { s.lp l with sheddable := bit (fld q 3 1) 1, autoWake := bit (fld q 3 1) 0, wakeLimit := fld q 4 2 }
  if (s.lp l).enabled then movePower l (fld q 2 1) s else s.setLp l { s.lp l with power := fld q 2 1 }

/-- The condition of R161 on a logical port. -/
def testable (p : State) (l : Nat) : Bool := !p.critical l && (decide (p.power.mode = .test) || !(p.lp l).enabled)

/-- LANE_LOOP (R160, R161). -/
def checkLaneLoop (r : Req) (p _s : State) : Option Rej :=
  let q := r.params
  let l := fld q 0 2
  firstRej [lportField p l 0 0, within q 2 1 0 3, rsvOk q 3 1, need (testable p l) (refused .mode l)]

/-- LANE_LOOP at its commit milestone. -/
def applyLaneLoop (r : Req) (_c : Nat) (s : State) : State :=
  let l := fld r.params 0 2
  s.setLp l { s.lp l with loop := fld r.params 2 1 }

/-- PRBS_CONFIG (R161, R162). -/
def checkPrbsConfig (r : Req) (p _s : State) : Option Rej :=
  let q := r.params
  let port := fld q 0 1
  firstRej [portField p port 0 0, within q 2 1 0 3, within q 3 1 0 3,
    (((maskLanes (fld q 1 1)).map (p.lportOfLane port)).find? (fun l => !testable p l)).map (fun l => refused .mode l)]

/-- PRBS_CONFIG at its commit milestone. -/
def applyPrbsConfig (r : Req) (_c : Nat) (s : State) : State :=
  let q := r.params
  onLanes (fld q 0 1) (fld q 1 1) (fun _ v => { v with prbsGen := fld q 2 1, prbsChk := fld q 3 1 }) s

/-- PRBS_STATUS (R162). -/
def checkPrbsStatus (r : Req) (p _s : State) : Option Rej :=
  firstRej [portField p (fld r.params 0 1) 0 0, within r.params 2 1 0 1, rsvOk r.params 3 1]

/-- What the checker of a lane has seen since it was last read is open: lock, errors and bits grow by free values while a
checker is set (log entry 36). -/
def prbsSeen (port k : Nat) (s : State) : Bool × State :=
  let v := s.lane port k
  if v.prbsChk = 0 then (false, s)
  else
    let (lock, s) := drawBit s
    let (e, s) := draw 0 s
    let (b, s) := draw 0 s
    (lock, s.setLane port k { v with prbsErrors := satNat 48 (v.prbsErrors + e), prbsBits := satNat 64 (v.prbsBits + b) })

/-- PRBS_STATUS: the selected lanes in lane order; CLEAR clears both counts. -/
def readPrbsStatus (r : Req) (_room : Nat) (s : State) : List Byte × State :=
  let q := r.params
  let port := fld q 0 1
  (maskLanes (fld q 1 1)).foldl (fun (a : List Byte × State) k =>
    let (lock, s) := prbsSeen port k a.2
    let v := s.lane port k
    (a.1 ++ [BitVec.ofNat 8 (flag lock), 0] ++ toBe 6 v.prbsErrors ++ toBe 8 v.prbsBits,
      if fld q 2 1 = 1 then s.setLane port k { v with prbsErrors := 0, prbsBits := 0 } else s)) ([], s)

/-- A read of one logical port with two bytes of padding. -/
def checkLportRead (r : Req) (p _s : State) : Option Rej :=
  firstRej [lportField p (fld r.params 0 2) 0 0, rsvOk r.params 2 2]

/-- FEC_HISTOGRAM (R153). -/
def readFecHistogram (r : Req) (_room : Nat) (s : State) : List Byte × State :=
  let l := fld r.params 0 2
  ((List.range 17).flatMap (fun k => toBe 8 (s.counter 6 l k)) ++
   (List.range 8).flatMap (fun k => toBe 8 (s.counter 7 (8 * portOf l + k) 0)), s)

/-- LANE_STATUS. -/
def checkLaneStatus (r : Req) (p _s : State) : Option Rej :=
  firstRej [portField p (fld r.params 0 1) 0 0, within r.params 1 1 0 1, rsvOk r.params 2 2]

/-- TRAIN_STATE codes of Table 6.3. -/
def TrainState.code : TrainState → Nat
  | .none => 0 | .autoNeg => 1 | .training => 2 | .trained => 3 | .failed => 4

/-- The status word of a lane (Table 6.3). The SNR estimate, the lock of a PRBS checker and alignment-marker lock while the
link is not up are open (log entry 36). -/
def laneWord (port k : Nat) (s : State) : Nat × State :=
  let v := s.lane port k
  let used := s.laneUsed port k
  let l := s.lportOfLane port k
  let w := s.lp l
  let deep := used && decide (w.power = 2 ∧ w.moving = none)
  let (am, s) := if used && w.up then (true, s) else if used && !v.los && !v.lol && !deep then drawBit s else (false, s)
  let (lock, s) := if v.prbsChk = 0 then (false, s) else drawBit s
  let (snr, s) := if used && !deep then draw 256 s else (0, s)
  (flag (v.los && !deep) * 2 ^ 31 + flag (v.lol && !deep) * 2 ^ 30 +
   flag (s.clk.lanePlls.contains (4 * port + k / 2)) * 2 ^ 29 + flag am * 2 ^ 28 + flag v.losSeen * 2 ^ 27 +
   (if used && w.enabled && decide (w.medium ≠ 0) then w.train.code else 0) * 2 ^ 24 +
   (if used then powerCode w else 0) * 2 ^ 22 + (if used then w.loop else 0) * 2 ^ 20 + v.prbsGen * 2 ^ 18 +
   flag lock * 2 ^ 17 + flag (decide ((s.link port).activeLane = k)) * 2 ^ 16 +
   (if used then typeRate w.type else 0) * 2 ^ 12 + snr, s)

/-- LANE_STATUS: eight words in lane order; CLEAR clears LOS_SEEN. -/
def readLaneStatus (r : Req) (_room : Nat) (s : State) : List Byte × State :=
  let port := fld r.params 0 1
  (List.range 8).foldl (fun (a : List Byte × State) k =>
    let (w, s) := laneWord port k a.2
    (a.1 ++ toBe 4 w, if fld r.params 1 1 = 1 then s.setLane port k { s.lane port k with losSeen := false } else s)) ([], s)

end Sys2Proof.Machine
end

