-- ==== Sys2Proof/Machine/RefCommands.lean ====
section
/-! DEFINITION. Family 0x07, references and the DPLL (08_references_and_holdover, Table 13.9): the checks, effects and replies
of its commands. `p` is the committed configuration with every pending commit applied (R300), `s` the device. -/

namespace Sys2Proof.Machine

/-! ### The reference table -/

/-- A reference table entry from its 12 bytes, bit 95 in the first byte (Table 8.2, R325). -/
def refEntryOf (e : List Byte) : RefEntry :=
  { enable := bit (fld e 0 1) 7, priority := fld e 0 1 % 16, kind := fld e 1 1 / 16, index := fld e 1 1 % 16 * 16 + fld e 2 1 / 16
    nominal := fld e 4 4, delay := sfld e 8 4 }

/-- The 12 bytes of a reference table entry (Table 8.2). -/
def RefEntry.bytes (r : RefEntry) : List Byte :=
  [BitVec.ofNat 8 (flag r.enable * 128 + r.priority), BitVec.ofNat 8 (r.kind * 16 + r.index / 16)] ++
  toBe 2 (r.index % 16 * 4096) ++ toBe 4 r.nominal ++ toBeInt 4 r.delay

/-- The sixteen entries of a table. -/
def tableOf (t : Tbl RefEntry) : List RefEntry := (List.range 16).map (fun e => tget t e {})

/-- The reserved bits [94:92] and [75:64] of the entry at an offset (Table 8.2, R10). -/
def refRsv (q : List Byte) (o : Nat) : Option Rej :=
  firstRej [need (decide (fld q o 1 / 16 % 8 = 0)) (rangeAt o), need (decide (fld q (o + 2) 2 % 4096 = 0)) (rangeAt (o + 2))]

/-- REFTABLE_WRITE: where the entries go, and their reserved bits (R10); the fields are checked by REFTABLE_ENABLE (R194). -/
def checkReftableWrite (r : Req) (_p _s : State) : Option Rej :=
  let q := r.params
  firstRej [within q 0 1 0 15, within q 1 1 1 16, need (decide (fld q 0 1 + fld q 1 1 ≤ 16)) (rangeAt 1), rsvOk q 2 2,
    (List.range (fld q 1 1)).findSome? (fun i => refRsv q (4 + 12 * i))]

/-- REFTABLE_WRITE writes the pending table. -/
def pendReftableWrite (r : Req) (s : State) : State :=
  let q := r.params
  { s with ref.pending := (List.range (fld q 1 1)).foldl (fun t i =>
      tput t (fld q 0 1 + i) (refEntryOf ((q.drop (4 + 12 * i)).take 12))) s.ref.pending }

/-- Highest INDEX of a KIND (Table 8.1). -/
def refIndexMax : Nat → Nat
  | 0 => 3 | 1 => 1 | 2 => 95 | 3 => 0 | _ => 15

/-- The RANGE conditions of an entry (Tables 8.1 and 8.2, R192, R194); a disabled entry of KIND 0 or 4 may hold the NOMINAL 0 of
its Reset column (log entry 42). `o` is the entry's offset in the table. -/
def refRange (o : Nat) (e : RefEntry) : Option Rej :=
  let rated := decide (e.kind = 0 ∨ e.kind = 4)
  firstRej [need (decide (e.priority ≠ 0)) (rangeAt o), need (decide (e.kind ≤ 4)) (rangeAt (o + 1)),
    need (decide (e.index ≤ refIndexMax e.kind)) (rangeAt (o + 1)),
    need (if rated then decide (1000000 ≤ e.nominal ∧ e.nominal ≤ 250000000) || (!e.enable && decide (e.nominal = 0))
      else decide (e.nominal = 0)) (rangeAt (o + 4)),
    need (decide (e.kind = 1 ∨ e.delay = 0)) (rangeAt (o + 8))]

/-- An enabled entry before `i` names the source of enabled entry `i` (R194). -/
def sameSource (t : List RefEntry) (i : Nat) (e : RefEntry) : Bool :=
  e.enable && (t.take i).any (fun x => x.enable && decide (x.kind = e.kind ∧ x.index = e.index))

/-- A port has a loop or a PRBS generator active. -/
def State.testing (p : State) (q : Nat) : Bool :=
  (p.lportsOf q).any (fun l => decide ((p.lp l).loop ≠ 0)) || (List.range 8).any (fun k => decide ((p.lane q k).prbsGen ≠ 0))

/-- The conditions of R194 on entry `i` of a table. -/
def refEntryCheck (p s : State) (t : List RefEntry) (i : Nat) : Option Rej :=
  let e := getAt t i {}
  let port := decide (e.kind = 2)
  firstRej [refRange (12 * i) e, need (!port || decide (e.index < p.part.ports)) (refused .dieAbsent i),
    need (!sameSource t i e) (refused .refConflict i),
    need (!port || p.laneUsed e.index (p.link e.index).confLane) (refused .breakoutMismatch i),
    need (!port || !p.testing e.index) (refused .mode i),
    need (decide (e.kind ≠ 4 ∨ (tfind p.meas.pins e.index).map (·.function) = some 2)) (refused .configIncomplete i),
    need (!(e.enable && port) || !s.closesLoop e.index) (refused .parentLoop i)]

/-- REFTABLE_ENABLE checks the whole pending table, entry by entry (R194). -/
def checkReftableEnable (_r : Req) (p s : State) : Option Rej :=
  (List.range 16).findSome? (refEntryCheck p s (tableOf s.ref.pending))

/-- REFTABLE_ENABLE takes the table it checked along to its commit milestone (R299). -/
def stageReftableEnable (r : Req) (s : State) : Req := { r with params := (tableOf s.ref.pending).flatMap RefEntry.bytes }

/-- REFTABLE_ENABLE at its commit milestone (R195). -/
def applyReftableEnable (r : Req) (_c : Nat) (s : State) : State :=
  serveTable ((List.range 16).map (fun i => (i, refEntryOf ((r.params.drop (12 * i)).take 12)))) s

/-! ### Settings -/

/-- REF_MONITOR_CONFIG (Table 8.3). -/
def checkRefMonitorConfig (r : Req) (_p _s : State) : Option Rej :=
  let q := r.params
  firstRej [within q 0 2 1 1000, within q 2 2 2 10000, need (decide (fld q 0 2 < fld q 2 2)) (rangeAt 2), within q 4 2 1 1000,
    within q 6 2 1 1000, within q 8 2 1 3600, within q 10 1 1 100, rsvOk q 11 1]

/-- REF_MONITOR_CONFIG at its commit milestone. -/
def applyRefMonitorConfig (r : Req) (_c : Nat) (s : State) : State :=
  let q := r.params
  { s with ref.soft := fld q 0 2, ref.hard := fld q 2 2, ref.drift := fld q 4 2, ref.disagree := fld q 6 2, ref.qualTime := fld q 8 2
           ref.capture := fld q 10 1 }

/-- DPLL_CONFIG (Table 8.5). -/
def checkDpllConfig (r : Req) (_p _s : State) : Option Rej :=
  let q := r.params
  firstRej [within q 0 4 1 1000000, within q 4 2 1 65535, within q 6 2 1 65535, within q 8 4 1 1000000, within q 12 4 60 86400,
    within q 16 4 60 604800, within q 20 1 0 1, rsvOk q 21 3]

/-- DPLL_CONFIG at its commit milestone: a pull in progress goes on at the new slope from where it stands. -/
def applyDpllConfig (r : Req) (_c : Nat) (s : State) : State :=
  let q := r.params
  let s := fixRef s
  { s with ref.bandwidth := fld q 0 4, ref.window := fld q 4 2, ref.lockN := fld q 6 2, ref.slope := fld q 8 4
           ref.historyW := fld q 12 4, ref.validity := fld q 16 4, ref.revertive := bit (fld q 20 1) 0 }

/-- REF_FORCE (R202). -/
def checkRefForce (r : Req) (_p s : State) : Option Rej :=
  let e := fld r.params 0 1
  firstRej [need (decide (e < 16 ∨ e = 0xFF)) (rangeAt 0), rsvOk r.params 1 3,
    need (decide (e = 0xFF) || s.ranks e) (refused .refConflict e)]

/-- REF_FORCE at its commit milestone; the force ends when its entry does not rank (R202). -/
def applyRefForce (r : Req) (_c : Nat) (s : State) : State :=
  let e := fld r.params 0 1
  { s with ref.forced := if e < 16 && s.ranks e then some e else none }

/-- REF_CLEAR. -/
def checkRefClear (r : Req) (_p s : State) : Option Rej :=
  firstRej [within r.params 0 1 0 15, rsvOk r.params 1 3, need (s.mon (fld r.params 0 1)).held (refused .mode 0)]

/-- REF_CLEAR at its commit milestone (R206, Table 8.4). -/
def applyRefClear (r : Req) (_c : Nat) (s : State) : State :=
  let e := fld r.params 0 1
  let m := s.mon e
  if !m.held then s
  else if (s.refEntry e).enable then s.setMon e { m with held := false, qual := .qualifying, since := some s.time.mono }
  else s.setMon e { m with held := false }

/-! ### Status -/

/-- The reference status word of an entry (Table 8.9); the rounding of its offset is open (log entry 29). -/
def refWord (e : Nat) (s : State) : Nat × State :=
  let r := s.refEntry e
  let m := s.mon e
  let (v, s) := openRound (m.offset) 100000000 s
  let off := max (-32767) (min 32767 v)
  (flag r.enable * 2 ^ 31 + flag (decide (s.ref.selected = some e)) * 2 ^ 30 + m.qual.code * 2 ^ 28 + flag (s.timeCap e) * 2 ^ 27 +
    flag (s.disagreeing (some e)) * 2 ^ 26 + flag m.held * 2 ^ 25 +
    flag (decide (s.ref.forced = some e ∧ s.ref.selected = some e)) * 2 ^ 24 + r.priority * 2 ^ 20 + m.reason * 2 ^ 16 +
    (off % 65536).toNat, s)

/-- REF_STATUS. -/
def readRefStatus (_r : Req) (_room : Nat) (s : State) : List Byte × State :=
  (List.range 16).foldl (fun (a : List Byte × State) e =>
    let (w, s) := refWord e a.2
    (a.1 ++ toBe 4 w, s)) ([], s)

/-- DPLL status word (Table 8.10). -/
def State.dpllWord (s : State) : Nat :=
  s.ref.dpll.code * 2 ^ 29 + flag s.histValid * 2 ^ 28 + flag (s.disagreeing none) * 2 ^ 27 + flag (s.ref.pulling && !s.inLockWindow s.pullNow) * 2 ^ 26 +
  flag s.ref.forced.isSome * 2 ^ 25 + (s.ref.selected.getD 0x1F) * 2 ^ 20 + flag s.ref.revertive * 2 ^ 19

/-- The holdover estimate as DPLL_STATUS gives it: the fixed one in HOLDOVER, else that of the samples in use, and a free
value where there are none (log entry 29). -/
def holdoverShown (s : State) : Int × State :=
  if s.ref.dpll = .holdover then (s.ref.holdEst, s)
  else if s.usable.isEmpty then
    let (v, s) := draw (2 ^ 64) s
    (signed 64 v, s)
  else estimateNow s

/-- Whole seconds in HOLDOVER, whose rounding is open (log entry 29). -/
def holdoverSeconds (s : State) : Int × State :=
  match s.ref.holdFrom with
  | some t => if s.ref.dpll = .holdover then openDiv ((s.time.mono - t : Nat) : Int) second s else (0, s)
  | none => (0, s)

/-- DPLL_STATUS. -/
def readDpllStatus (_r : Req) (_room : Nat) (s : State) : List Byte × State :=
  let (est, s) := holdoverShown s
  let (secs, s) := holdoverSeconds s
  (toBe 4 s.dpllWord ++ [0, 0, 0, 0] ++ off8 s.ref.phaseError ++ off8 s.pullNow ++ off8 s.ref.buildOut ++ off8 s.freqNow ++ off8 est ++
    toBe 4 s.usable.length ++ toBe 4 secs.toNat ++ toBe 4 s.ref.switches ++ [0, 0, 0, 0], s)

end Sys2Proof.Machine
end

