-- ==== Sys2Proof/Machine/OpTable.lean ====
section
/-! DEFINITION. The opcode table as the engine uses it (13_command_reference): for each opcode its own checks, its BUSY rules,
the settings it touches, and what it does at acceptance or at its commit milestone. -/

namespace Sys2Proof

open Sys2Proof.Machine

/-- ANNOUNCE_SETTINGS makes the checks of TIME_THRESHOLDS and ETHERTYPES on the values it carries (R259, Table 10.2). -/
def checkAnnounceSettings (r : Req) : Option Rej :=
  let q := r.params
  firstRej [rsvOk q 0 1, within q 8 4 1 1000000000, within q 12 4 1 1000000000,
    (etherTypesBad [fld q 16 2, fld q 18 2, fld q 20 2]).map (fun i => rangeAt (16 + 2 * i)), rsvOk q 22 2]

/-- ANNOUNCE_SETTINGS at its milestone. -/
def applyAnnounceSettings (r : Req) (_c : Nat) (s : State) : State :=
  let q := r.params
  { s with time.jumpThr := fld q 8 4, time.stepThr := fld q 12 4, fwd.etWaymark := fld q 16 2, fwd.etAx := fld q 18 2
           fwd.etCommand := fld q 20 2 }

/-- The command's own checks (R291 step 11), in the order its chapter gives: `p` is the committed configuration with every
pending commit applied (R300). -/
def Op.check (o : Op) (r : Req) (p s : State) : Option Rej :=
  match o with
  | .rowClaim => checkRowClaim r p s
  | .rowYield => checkRowYield r p s
  | .mgmtConfig => checkMgmtConfig r p s
  | .modeSet => checkModeSet r p s
  | .avsRequest => checkAvsRequest r p s
  | .shedConfig => checkShedConfig r p s
  | .padRelease => checkPadRelease r p s
  | .dormantConfig => checkDormantConfig r p s
  | .vigilScratch => checkVigilScratch r p s
  | .tableRestore => checkTableRestore r p s
  | .portBreakout => checkPortBreakout r p s
  | .portConfig => checkPortConfig r p s
  | .portEnable => checkPortEnable r p s
  | .portDisable => checkPortDisable r p s
  | .portStatus => checkPortRead r p s
  | .laneTxEq => checkLaneTxEq r p s
  | .laneRxConfig => checkLaneRxConfig r p s
  | .lanePower => checkLanePower r p s
  | .laneLoop => checkLaneLoop r p s
  | .prbsConfig => checkPrbsConfig r p s
  | .prbsStatus => checkPrbsStatus r p s
  | .fecHistogram => checkLportRead r p s
  | .laneStatus => checkLaneStatus r p s
  | .l2Write => checkL2Write r p s
  | .l2Delete => checkL2Delete r p s
  | .lpmWrite => checkLpmWrite r p s
  | .lpmDelete => checkLpmDelete r p s
  | .nexthopWrite => checkNexthopWrite r p s
  | .ecmpWrite => checkEcmpWrite r p s
  | .aclWrite => checkAclWrite r p s
  | .aclDelete => checkAclDelete r p s
  | .mcgroupWrite => checkMcgroupWrite r p s
  | .lportFwdConfig => checkLportFwdConfig r p s
  | .classMaps => checkClassMaps r p s
  | .mirrorSession => checkMirrorSession r p s
  | .puntConfig => checkPuntConfig r p s
  | .ethertypes => checkEthertypes r p s
  | .tableRead => checkTableRead r p s
  | .poolsConfig => checkPoolsConfig r p s
  | .poolsEnable => checkPoolsEnable r p s
  | .queueConfig => checkQueueConfig r p s
  | .pfcConfig => checkPfcConfig r p s
  | .portHold => checkPortHold r p s
  | .mcastConfig => checkMcastConfig r p s
  | .bufferStatus => checkBufferStatus r p s
  | .calendarWrite => checkCalendarWrite r p s
  | .calendarEnable => checkCalendarEnable r p s
  | .calendarDisable => checkLportOnly r p s
  | .calendarRead => checkCalendarRead r p s
  | .calendarStatus => checkLportOnly r p s
  | .schedConfig => checkSchedConfig r p s
  | .deadlineBudget => checkDeadlineBudget r p s
  | .timeSet => checkTimeSet r p s
  | .timeStep => checkTimeStep r p s
  | .timeStepCancel => checkTimeStepCancel r p s
  | .timeAcceptJump => checkTimeAcceptJump r p s
  | .timeThresholds => checkTimeThresholds r p s
  | .timeScale => checkTimeScale r p s
  | .compareClaim => checkCompareClaim r p s
  | .compareArm => checkCompareArm r p s
  | .compareDisarm => checkCompareUnit r p s
  | .compareRelease => checkCompareUnit r p s
  | .timingConfig => checkTimingConfig r p s
  | .axConfig => checkAxConfig r p s
  | .linkAsym => checkLinkAsym r p s
  | .axStatus => checkPortRead r p s
  | .ptpPortConfig => checkPtpPortConfig r p s
  | .ptpClockConfig => checkPtpClockConfig r p s
  | .ptpStatus => checkPortRead r p s
  | .reftableWrite => checkReftableWrite r p s
  | .reftableEnable => checkReftableEnable r p s
  | .refMonitorConfig => checkRefMonitorConfig r p s
  | .dpllConfig => checkDpllConfig r p s
  | .refForce => checkRefForce r p s
  | .refClear => checkRefClear r p s
  | .rampProfile => checkRampProfile r p s
  | .rampStart => checkRampStart r p s
  | .clkOutConfig => checkClkOutConfig r p s
  | .lanePllConfig => checkLanePllConfig r p s
  | .tioClaim => checkTioClaim r p s
  | .tioRelease => checkTioRelease r p s
  | .tdcConfig => checkTdcConfig r p s
  | .tdcEnable => checkTdcEnable r p s
  | .tdcDisable => checkTdcDisable r p s
  | .tdcResult => checkTdcResult r p s
  | .counterRead => checkCounterRead r p s
  | .snapshotConfig => checkSnapshotConfig r p s
  | .filterConfig => checkFilterConfig r p s
  | .stickyClear => checkStickyClear r p s
  | .tagConfig => checkTagConfig r p s
  | .recorderFreeze => checkRecorderFreeze r p s
  | .recorderConfig => checkRecorderConfig r p s
  | .calExport => checkCalExport r p s
  | .calStage => checkCalStage r p s
  | .calImport => checkCalImport r p s
  | .calWrite => checkCalWrite r p s
  | .hierConfig => checkHierConfig r p s
  | .keyProvision => checkKeyProvision r p s
  | .fabricKeySet => checkFabricKeySet r p s
  | .enroll => checkEnroll r p s
  | .releaseWorker => checkReleaseWorker r p s
  | .fabricKeyRoll => checkFabricKeyRoll r p s
  | .hierEpochs => checkHierEpochs r p s
  | .announceStep => checkAnnounceStep r
  | .announceTimescale => checkAnnounceTimescale r
  | .announceEpochs => checkAnnounceEpochs r
  | .announceSettings => checkAnnounceSettings r
  | .announceKey => checkAnnounceKey r
  | .testBist => checkTestBist r p s
  | .deviceInfo | .cmdSync | .cmdStatus | .modeStatus | .avsStatus | .vigilRead | .ecmpSeed | .tableUsage | .timeGet
  | .compareStatus | .refStatus | .dpllStatus | .clockStatus | .rampStatus | .tdcStatus | .snapshotNow | .recorderRead
  | .recorderStatus | .calStatus | .hierStatus | .enrollReq | .release | .testStatus => none

/-- The command's own BUSY rules (R291 step 12, R310). -/
def Op.busy (o : Op) (r : Req) (p s : State) : Option Rej :=
  match o with
  | .avsRequest => busyAvsRequest r p s
  | .lanePower => busyLanePower r p s
  | .calendarEnable => busyCalendarEnable r p s
  | .timeSet => busyStep r p s
  | .timeStep => busyStep r p s
  | .ptpClockConfig => busyPtpClockConfig r p s
  | .testBist => busyTestBist r p s
  | .deviceInfo | .rowClaim | .rowYield | .cmdSync | .cmdStatus | .mgmtConfig | .modeSet | .modeStatus | .avsStatus
  | .shedConfig | .padRelease | .dormantConfig | .vigilRead | .vigilScratch | .tableRestore | .portBreakout
  | .portConfig | .portEnable | .portDisable | .portStatus | .laneTxEq | .laneRxConfig | .laneLoop | .prbsConfig
  | .prbsStatus | .fecHistogram | .laneStatus | .l2Write | .l2Delete | .lpmWrite | .lpmDelete | .nexthopWrite
  | .ecmpWrite | .aclWrite | .aclDelete | .mcgroupWrite | .lportFwdConfig | .classMaps | .mirrorSession | .puntConfig
  | .ethertypes | .ecmpSeed | .tableRead | .tableUsage | .poolsConfig | .poolsEnable | .queueConfig | .pfcConfig
  | .portHold | .mcastConfig | .bufferStatus | .calendarWrite | .calendarDisable | .calendarRead | .calendarStatus
  | .schedConfig | .deadlineBudget | .timeGet | .timeStepCancel | .timeAcceptJump | .timeThresholds | .timeScale
  | .compareClaim | .compareArm | .compareDisarm | .compareRelease | .compareStatus | .timingConfig | .axConfig
  | .linkAsym | .axStatus | .ptpPortConfig | .ptpStatus | .reftableWrite | .reftableEnable | .refMonitorConfig
  | .dpllConfig | .refForce | .refClear | .refStatus | .dpllStatus | .clockStatus | .rampProfile | .rampStart
  | .rampStatus | .clkOutConfig | .lanePllConfig | .tioClaim | .tioRelease | .tdcConfig | .tdcEnable | .tdcDisable
  | .tdcStatus | .tdcResult | .counterRead | .snapshotConfig | .snapshotNow | .filterConfig | .stickyClear | .tagConfig
  | .recorderRead | .recorderFreeze | .recorderConfig | .recorderStatus | .calExport | .calStage | .calImport
  | .calWrite | .calStatus | .hierStatus | .hierConfig | .keyProvision | .fabricKeySet | .enroll | .releaseWorker
  | .fabricKeyRoll | .hierEpochs | .enrollReq | .release | .announceStep | .announceTimescale | .announceEpochs
  | .announceSettings | .announceKey | .testStatus => none

/-- What a write does at its commit milestone; the swap of a CALENDAR_ENABLE has a row of its own. -/
def Op.apply (o : Op) (r : Req) (c : Nat) (s : State) : State :=
  match o with
  | .mgmtConfig => applyMgmtConfig r c s
  | .modeSet => applyModeSet r c s
  | .avsRequest => applyAvsRequest r c s
  | .shedConfig => applyShedConfig r c s
  | .padRelease => applyPadRelease r c s
  | .dormantConfig => applyDormantConfig r c s
  | .vigilScratch => applyVigilScratch r c s
  | .tableRestore => applyTableRestore r c s
  | .portBreakout => applyPortBreakout r c s
  | .portConfig => applyPortConfig r c s
  | .portEnable => applyPortEnable r c s
  | .portDisable => applyPortDisable r c s
  | .laneTxEq => applyLaneTxEq r c s
  | .laneRxConfig => applyLaneRxConfig r c s
  | .lanePower => applyLanePower r c s
  | .laneLoop => applyLaneLoop r c s
  | .prbsConfig => applyPrbsConfig r c s
  | .l2Write => applyL2Write r c s
  | .l2Delete => applyL2Delete r c s
  | .lpmWrite => applyLpmWrite r c s
  | .lpmDelete => applyLpmDelete r c s
  | .nexthopWrite => applyNexthopWrite r c s
  | .ecmpWrite => applyEcmpWrite r c s
  | .aclWrite => applyAclWrite r c s
  | .aclDelete => applyAclDelete r c s
  | .mcgroupWrite => applyMcgroupWrite r c s
  | .lportFwdConfig => applyLportFwdConfig r c s
  | .classMaps => applyClassMaps r c s
  | .mirrorSession => applyMirrorSession r c s
  | .puntConfig => applyPuntConfig r c s
  | .ethertypes => applyEthertypes r c s
  | .ecmpSeed => applyEcmpSeed r c s
  | .poolsEnable => applyPoolsEnable r c s
  | .queueConfig => applyQueueConfig r c s
  | .pfcConfig => applyPfcConfig r c s
  | .portHold => applyPortHold r c s
  | .mcastConfig => applyMcastConfig r c s
  | .calendarDisable => applyCalendarDisable r c s
  | .schedConfig => applySchedConfig r c s
  | .deadlineBudget => applyDeadlineBudget r c s
  | .timeSet => applyTimeSet r c s
  | .timeStep => applyTimeStep r c s
  | .timeAcceptJump => applyTimeAcceptJump r c s
  | .timeThresholds => applyTimeThresholds r c s
  | .timeScale => applyTimeScale r c s
  | .compareClaim => applyCompareClaim r c s
  | .compareArm => applyCompareArm r c s
  | .compareDisarm => applyCompareDisarm r c s
  | .compareRelease => applyCompareRelease r c s
  | .timingConfig => applyTimingConfig r c s
  | .axConfig => applyAxConfig r c s
  | .linkAsym => applyLinkAsym r c s
  | .ptpPortConfig => applyPtpPortConfig r c s
  | .ptpClockConfig => applyPtpClockConfig r c s
  | .reftableEnable => applyReftableEnable r c s
  | .refMonitorConfig => applyRefMonitorConfig r c s
  | .dpllConfig => applyDpllConfig r c s
  | .refForce => applyRefForce r c s
  | .refClear => applyRefClear r c s
  | .rampStart => applyRampStart r c s
  | .clkOutConfig => applyClkOutConfig r c s
  | .lanePllConfig => applyLanePllConfig r c s
  | .tioClaim => applyTioClaim r c s
  | .tioRelease => applyTioRelease r c s
  | .tdcEnable => applyTdcEnable r c s
  | .tdcDisable => applyTdcDisable r c s
  | .snapshotConfig => applySnapshotConfig r c s
  | .snapshotNow => applySnapshotNow r c s
  | .filterConfig => applyFilterConfig r c s
  | .stickyClear => applyStickyClear r c s
  | .tagConfig => applyTagConfig r c s
  | .recorderFreeze => applyRecorderFreeze r c s
  | .recorderConfig => applyRecorderConfig r c s
  | .calImport => applyCalImport r c s
  | .calWrite => applyCalWrite r c s
  | .hierConfig => applyHierConfig r c s
  | .keyProvision => applyKeyProvision r c s
  | .fabricKeySet => applyFabricKeySet r c s
  | .fabricKeyRoll => applyFabricKeyRoll r c s
  | .hierEpochs => applyHierEpochs r c s
  | .announceStep => applyAnnounceStep r c s
  | .announceTimescale => applyAnnounceTimescale r c s
  | .announceEpochs => applyAnnounceEpochs r c s
  | .announceSettings => applyAnnounceSettings r c s
  | .announceKey => applyAnnounceKey r c s
  | .testBist => applyTestBist r c s
  | .deviceInfo | .rowClaim | .rowYield | .cmdSync | .cmdStatus | .modeStatus | .avsStatus | .vigilRead | .portStatus
  | .prbsStatus | .fecHistogram | .laneStatus | .tableRead | .tableUsage | .poolsConfig | .bufferStatus
  | .calendarWrite | .calendarEnable | .calendarRead | .calendarStatus | .timeGet | .timeStepCancel | .compareStatus
  | .axStatus | .ptpStatus | .reftableWrite | .refStatus | .dpllStatus | .clockStatus | .rampProfile | .rampStatus
  | .tdcConfig | .tdcStatus | .tdcResult | .counterRead | .recorderRead | .recorderStatus | .calExport | .calStage
  | .calStatus | .hierStatus | .enroll | .releaseWorker | .enrollReq | .release | .testStatus => s

/-- What a read, an action or a command of R293 and R295 does, with its reply data; `room` is what the largest reply of the
transport leaves for the data (R285). -/
def Op.act (o : Op) (r : Req) (room : Nat) (s : State) : List Byte × State :=
  match o with
  | .deviceInfo => readDeviceInfo r room s
  | .rowClaim => actRowClaim r room s
  | .rowYield => actRowYield r room s
  | .cmdSync => actCmdSync r room s
  | .cmdStatus => readCmdStatus r room s
  | .modeStatus => readModeStatus r room s
  | .avsStatus => readAvsStatus r room s
  | .vigilRead => readVigilRead r room s
  | .portStatus => readPortStatus r room s
  | .prbsStatus => readPrbsStatus r room s
  | .fecHistogram => readFecHistogram r room s
  | .laneStatus => readLaneStatus r room s
  | .tableRead => readTable r room s
  | .tableUsage => readTableUsage r room s
  | .bufferStatus => readBufferStatus r room s
  | .calendarRead => readCalendar r room s
  | .calendarStatus => readCalendarStatus r room s
  | .timeGet => readTimeGet r room s
  | .timeStepCancel => actTimeStepCancel r room s
  | .compareStatus => readCompareStatus r room s
  | .axStatus => readAxStatus r room s
  | .ptpStatus => readPtpStatus r room s
  | .refStatus => readRefStatus r room s
  | .dpllStatus => readDpllStatus r room s
  | .clockStatus => readClockStatus r room s
  | .rampStatus => readRampStatus r room s
  | .tdcStatus => readTdcStatus r room s
  | .tdcResult => readTdcResult r room s
  | .counterRead => readCounterRead r room s
  | .recorderRead => readRecorderRead r room s
  | .recorderStatus => readRecorderStatus r room s
  | .calExport => readCalExport r room s
  | .calStatus => readCalStatus r room s
  | .hierStatus => readHierStatus r room s
  | .enroll => actEnroll r room s
  | .releaseWorker => actReleaseWorker r room s
  | .testStatus => readTestStatus r room s
  | .mgmtConfig | .modeSet | .avsRequest | .shedConfig | .padRelease | .dormantConfig | .vigilScratch | .tableRestore
  | .portBreakout | .portConfig | .portEnable | .portDisable | .laneTxEq | .laneRxConfig | .lanePower | .laneLoop
  | .prbsConfig | .l2Write | .l2Delete | .lpmWrite | .lpmDelete | .nexthopWrite | .ecmpWrite | .aclWrite | .aclDelete
  | .mcgroupWrite | .lportFwdConfig | .classMaps | .mirrorSession | .puntConfig | .ethertypes | .ecmpSeed
  | .poolsConfig | .poolsEnable | .queueConfig | .pfcConfig | .portHold | .mcastConfig | .calendarWrite
  | .calendarEnable | .calendarDisable | .schedConfig | .deadlineBudget | .timeSet | .timeStep | .timeAcceptJump
  | .timeThresholds | .timeScale | .compareClaim | .compareArm | .compareDisarm | .compareRelease | .timingConfig
  | .axConfig | .linkAsym | .ptpPortConfig | .ptpClockConfig | .reftableWrite | .reftableEnable | .refMonitorConfig
  | .dpllConfig | .refForce | .refClear | .rampProfile | .rampStart | .clkOutConfig | .lanePllConfig | .tioClaim
  | .tioRelease | .tdcConfig | .tdcEnable | .tdcDisable | .snapshotConfig | .snapshotNow | .filterConfig | .stickyClear
  | .tagConfig | .recorderFreeze | .recorderConfig | .calStage | .calImport | .calWrite | .hierConfig | .keyProvision
  | .fabricKeySet | .fabricKeyRoll | .hierEpochs | .enrollReq | .release | .announceStep | .announceTimescale
  | .announceEpochs | .announceSettings | .announceKey | .testBist => ([], s)

/-- What a command of kind P writes at acceptance. -/
def Op.pend (o : Op) (r : Req) (s : State) : State :=
  match o with
  | .poolsConfig => pendPoolsConfig r s
  | .calendarWrite => pendCalendarWrite r s
  | .reftableWrite => pendReftableWrite r s
  | .rampProfile => pendRampProfile r s
  | .tdcConfig => pendTdcConfig r s
  | .calStage => pendCalStage r s
  | .deviceInfo | .rowClaim | .rowYield | .cmdSync | .cmdStatus | .mgmtConfig | .modeSet | .modeStatus | .avsRequest
  | .avsStatus | .shedConfig | .padRelease | .dormantConfig | .vigilRead | .vigilScratch | .tableRestore
  | .portBreakout | .portConfig | .portEnable | .portDisable | .portStatus | .laneTxEq | .laneRxConfig | .lanePower
  | .laneLoop | .prbsConfig | .prbsStatus | .fecHistogram | .laneStatus | .l2Write | .l2Delete | .lpmWrite | .lpmDelete
  | .nexthopWrite | .ecmpWrite | .aclWrite | .aclDelete | .mcgroupWrite | .lportFwdConfig | .classMaps | .mirrorSession
  | .puntConfig | .ethertypes | .ecmpSeed | .tableRead | .tableUsage | .poolsEnable | .queueConfig | .pfcConfig
  | .portHold | .mcastConfig | .bufferStatus | .calendarEnable | .calendarDisable | .calendarRead | .calendarStatus
  | .schedConfig | .deadlineBudget | .timeGet | .timeSet | .timeStep | .timeStepCancel | .timeAcceptJump
  | .timeThresholds | .timeScale | .compareClaim | .compareArm | .compareDisarm | .compareRelease | .compareStatus
  | .timingConfig | .axConfig | .linkAsym | .axStatus | .ptpPortConfig | .ptpClockConfig | .ptpStatus | .reftableEnable
  | .refMonitorConfig | .dpllConfig | .refForce | .refClear | .refStatus | .dpllStatus | .clockStatus | .rampStart
  | .rampStatus | .clkOutConfig | .lanePllConfig | .tioClaim | .tioRelease | .tdcEnable | .tdcDisable | .tdcStatus
  | .tdcResult | .counterRead | .snapshotConfig | .snapshotNow | .filterConfig | .stickyClear | .tagConfig
  | .recorderRead | .recorderFreeze | .recorderConfig | .recorderStatus | .calExport | .calImport | .calWrite
  | .calStatus | .hierStatus | .hierConfig | .keyProvision | .fabricKeySet | .enroll | .releaseWorker | .fabricKeyRoll
  | .hierEpochs | .enrollReq | .release | .announceStep | .announceTimescale | .announceEpochs | .announceSettings
  | .announceKey | .testBist | .testStatus => s

/-- What acceptance stages of a write: an enable of a pending set carries that set (R301). -/
def Op.stage (o : Op) (r : Req) (s : State) : Req :=
  match o with
  | .poolsEnable => stagePoolsEnable r s
  | .reftableEnable => stageReftableEnable r s
  | _ => r

/-- What acceptance settles of a write: the unit of a COMPARE_CLAIM (R46). -/
def Op.choice (o : Op) (r : Req) (p : State) : Nat :=
  match o with
  | .compareClaim => (claimUnit r p).getD 0
  | _ => 0

/-- Reply data of a write: the counts of R321. -/
def Op.replyData (o : Op) (r : Req) (p : State) : List Byte :=
  match o with
  | .l2Delete => replyL2Delete r p
  | .lpmDelete => replyLpmDelete r p
  | .compareClaim => [BitVec.ofNat 8 ((claimUnit r p).getD 0), 0, 0, 0]
  | _ => []

/-! ### What a write touches -/

/-- Settings or entries of one kind: an area, and an interval of it. -/
structure Touch where
  area : Nat
  lo : Nat
  hi : Nat
  deriving DecidableEq, Repr

/-- Two intervals of one area overlap. -/
def Touch.meets (a b : Touch) : Bool := decide (a.area = b.area ∧ a.lo ≤ b.hi ∧ b.lo ≤ a.hi)

/-- One entry of an area. -/
def touch1 (area k : Nat) : Touch := { area := area, lo := k, hi := k }

/-- The lanes of a mask as entries of an area. -/
def touchLanes (area port mask : Nat) : List Touch := (maskLanes mask).map (fun k => touch1 area (8 * port + k))

/-- The settings and entries that a write touches (R300); the area is an opcode that writes them. `c` is what acceptance
settled. -/
def Op.touches (o : Op) (r : Req) (c : Nat) : List Touch :=
  let q := r.params
  let one := fun (area off n : Nat) => [touch1 area (fld q off n)]
  match o with
  | .avsRequest => one 0x0109 0 1
  | .vigilScratch => [{ area := 0x010F, lo := fld q 0 1, hi := fld q 0 1 + fld q 1 1 - 1 }]
  | .tableRestore => one 0x0110 0 1
  | .portBreakout => [{ area := 0x0203, lo := 4 * fld q 0 1, hi := 4 * fld q 0 1 + 3 }]
  | .portConfig => one 0x0202 0 2
  | .portEnable | .portDisable | .lanePower => one 0x0203 0 2
  | .laneTxEq => touchLanes 0x0206 (fld q 0 1) (fld q 1 1)
  | .laneRxConfig => touchLanes 0x0207 (fld q 0 1) (fld q 1 1)
  | .laneLoop => one 0x0209 0 2
  | .prbsConfig => touchLanes 0x020A (fld q 0 1) (fld q 1 1)
  | .l2Write => (entries q 12).map (fun e => touch1 0x0301 (fld e 0 2 * 2 ^ 48 + fld e 2 6))
  | .l2Delete => (entries q 8).map (fun e => touch1 0x0301 (fld e 0 2 * 2 ^ 48 + fld e 2 6))
  | .lpmWrite => (entries q 24).map (fun e => touch1 0x0303 ((fld e 0 1 * 256 + fld e 1 1) * 2 ^ 128 + fld e 8 16))
  | .lpmDelete => (entries q 20).map (fun e => touch1 0x0303 ((fld e 0 1 * 256 + fld e 1 1) * 2 ^ 128 + fld e 4 16))
  | .nexthopWrite => (entries q 16).map (fun e => touch1 0x0305 (fld e 0 2))
  | .ecmpWrite => one 0x0306 0 2
  | .aclWrite => (entries q 140).map (fun e => { area := 0x0307, lo := fld e 0 2, hi := fld e 0 2 + fld e 2 1 })
  | .aclDelete => [{ area := 0x0307, lo := fld q 0 2, hi := fld q 0 2 + fld q 2 2 - 1 }]
  | .mcgroupWrite => (entries q 52).map (fun e => touch1 0x0309 (fld e 0 2))
  | .lportFwdConfig => one 0x030A 0 2
  | .mirrorSession => one 0x030C 0 1
  | .ethertypes => [touch1 0x030E 0]
  | .poolsEnable => one 0x0402 0 1
  | .queueConfig => [touch1 0x0403 (8 * fld q 0 2 + fld q 2 1)]
  | .pfcConfig => one 0x0404 0 2
  | .portHold => one 0x0405 0 2
  | .calendarEnable | .calendarDisable => one 0x0502 0 2
  | .schedConfig => one 0x0506 0 2
  | .deadlineBudget => one 0x0507 0 2
  | .timeSet | .timeStep | .timeAcceptJump | .announceStep => [touch1 0x0602 0]
  | .timeThresholds => [touch1 0x0606 0]
  | .announceSettings => [touch1 0x0606 0, touch1 0x030E 0]
  | .timeScale | .announceTimescale => [touch1 0x0607 0]
  | .compareClaim =>
    touch1 0x0610 c :: (if fld q 1 1 = 1 ∨ fld q 1 1 = 2 then [touch1 0x0611 (fld q 1 1 * 256 + fld q 2 1)] else [])
  | .compareArm | .compareDisarm | .compareRelease => one 0x0610 0 1
  | .timingConfig => one 0x0620 0 1
  | .axConfig | .ptpPortConfig => one 0x0621 0 1
  | .linkAsym => one 0x0622 0 1
  | .refClear => one 0x0706 0 1
  | .clkOutConfig => one 0x0805 0 1
  | .tioClaim | .tioRelease => one 0x0901 0 1
  | .tdcEnable | .tdcDisable => one 0x0904 0 1
  | .snapshotNow => []
  | .filterConfig => [{ area := 0x0A04, lo := fld q 0 1, hi := fld q 0 1 + flag (bit (fld q 1 1) 1) }]
  | .stickyClear => if fld q 0 2 = 0xFFFF then [{ area := 0x0A05, lo := 1, hi := 10 }] else one 0x0A05 0 2
  | .calWrite => [touch1 0x0C04 (fld q 0 2 * 65536 + fld q 2 2)]
  | .calImport => [{ area := 0x0C04, lo := 0, hi := 10 * 65536 }]
  | .fabricKeySet | .fabricKeyRoll | .announceKey => [touch1 0x0D04 0]
  | .hierEpochs | .announceEpochs => [touch1 0x0D08 0]
  | .testBist => one 0x0E01 0 1
  | .deviceInfo | .rowClaim | .rowYield | .cmdSync | .cmdStatus | .modeStatus | .avsStatus | .vigilRead | .portStatus
  | .prbsStatus | .fecHistogram | .laneStatus | .tableRead | .tableUsage | .poolsConfig | .bufferStatus | .calendarWrite
  | .calendarRead | .calendarStatus | .timeGet | .timeStepCancel | .compareStatus | .axStatus | .ptpStatus | .reftableWrite
  | .refStatus | .dpllStatus | .clockStatus | .rampProfile | .rampStatus | .tdcConfig | .tdcStatus | .tdcResult | .counterRead
  | .recorderRead | .recorderStatus | .calExport | .calStage | .calStatus | .hierStatus | .enroll | .releaseWorker | .enrollReq
  | .release | .testStatus => []
  | .mgmtConfig | .modeSet | .shedConfig | .padRelease | .dormantConfig | .classMaps | .puntConfig | .ecmpSeed | .mcastConfig
  | .ptpClockConfig | .reftableEnable | .refMonitorConfig | .dpllConfig | .refForce | .rampStart | .lanePllConfig
  | .snapshotConfig | .tagConfig | .recorderFreeze | .recorderConfig | .hierConfig | .keyProvision => [touch1 o.code 0]

/-- Two writes touch a common setting or entry (R300). -/
def touchesMeet (a b : List Touch) : Bool := a.any (fun x => b.any x.meets)

/-- The commands that an ENROLLED or ORPHAN device refuses from its host (R260). -/
def Op.fromRoot (o : Op) : Bool :=
  match o with
  | .timeScale | .timeThresholds | .ethertypes | .hierEpochs | .fabricKeyRoll => true
  | _ => false

/-! ### What the engine asks of an opcode -/

/-- A commit that the projection of R300 leaves out: what it does at its milestone is no configuration. -/
def Op.transient (o : Op) : Bool :=
  match o with
  | .timeSet | .timeStep | .timeAcceptJump | .snapshotNow | .announceStep => true
  | _ => false

/-- The kinds that need the right of way (R294) and that a transition refuses (R333). -/
def OpKind.writes (k : OpKind) : Bool :=
  match k with
  | .write | .pend | .action => true
  | _ => false

/-- The commands that DORMANT accepts beside reads and those of R294 (R344). -/
def Op.inDormant (o : Op) : Bool :=
  !o.kind.writes || decide (o = .modeSet ∨ o = .dormantConfig ∨ o = .vigilScratch)

/-- A commit latches a snapshot at its milestone (R381, R384, R387). -/
def Op.latches (o : Op) : Bool := decide (o = .snapshotNow ∨ o = .filterConfig ∨ o = .tagConfig)

/-- Bytes of the largest packet of a transport (Table 12.3). -/
def Source.largest (src : Source) : Nat :=
  match src with
  | .pcie _ => 4096
  | _ => 4124

/-- The packet's fields are those of a packet that its transport can carry (R283). -/
def Req.sized (r : Req) : Bool :=
  decide (r.params.length % 4 = 0 ∧ r.size ≤ r.src.largest) && (match r.tag with | some t => decide (t.length = 16) | none => true)

end Sys2Proof
end

