-- ==== Sys2Proof/Machine/Engine.lean ====
section
/-! DEFINITION. The command engine (12_command_interface): the order of checks of R291, acceptance (R297 to R300), replies, and
the local transports (R287, R288, R292). -/

namespace Sys2Proof.Machine

/-! ### Checks -/

/-- What a pending commit leaves of the configuration: of a MODE_SET, the mode where it enters one at its milestone (R300). -/
def projectOne (p : State) (c : Commit) : State :=
  if c.op.transient then p
  else if c.op = .modeSet then
    match Mode.ofCode (fld c.req.params 0 1) with
    | some .timingOnly | some .service | some .test => c.op.apply c.req c.choice p
    | _ => p
  else c.op.apply c.req c.choice p

/-- The committed configuration with every pending commit applied in milestone order (R300). -/
def State.projected (s : State) : State := (sortCommits s.cmd.commits).foldl projectOne s

/-- Step 7 of R291: the transport, and the commands that DORMANT accepts (R247, R344). -/
def transportRej (o : Op) (r : Req) (s : State) : Option Rej :=
  firstRej [need (decide (o.kind ≠ .inbandOnly ∨ r.src.code = 3)) (refused .mode 0),
    need (decide ((o ≠ .keyProvision ∧ o ≠ .fabricKeySet) ∨ r.src.code = 1)) (refused .mode 0),
    need (decide (s.power.mode ≠ .dormant) || o.inDormant) (refused .mode 1)]

/-- Step 8 of R291: the functions that the command needs (R313). -/
def readinessRej (o : Op) (r : Req) (s : State) : Option Rej := (o.needs s r.params).findSome? (needRej s)

/-- Step 9 of R291: the right of way (R294). -/
def rightRej (o : Op) (r : Req) (s : State) : Option Rej :=
  need (!o.kind.writes || decide (s.cmd.holder = r.src.code)) (refused .noRightOfWay s.cmd.holder)

/-- Step 10 of R291: the commit milestone (R34, R298, R299, Table 2.3). -/
def milestoneRej (o : Op) (r : Req) (s : State) : Option Rej :=
  match o.kind, r.ms with
  | .write, some v =>
    let m : Milestone := v.setWidth 56
    firstRej [need (decide (v.toNat < 2 ^ 56)) (refused .range 0x8010), need (s.ready 3) (refused .notReady 3),
      need (decide (s.time.state ≠ .unset ∨ o = .timeSet)) (refused .timeInvalid 0),
      need (later m s.ms) (refused .milestonePast s.ms.toNat), need (decide (sdiff m s.ms ≤ 2 ^ 40)) (refused .range 0x8010)]
  | _, _ => none

/-- Step 11 of R291: the size rule, the command's own checks, and R260. -/
def ownRej (o : Op) (r : Req) (p s : State) : Option Rej :=
  firstRej [sizeCheck o r.params, o.check r p s,
    need (!(o.fromRoot && decide (s.hier.role = .enrolled ∨ s.hier.role = .orphan))) (refused .refConflict 0)]

/-- MODE_SET to TIMING-ONLY or SERVICE during DORMANT entry, which is a wake (R333, R347). -/
def isWake (o : Op) (r : Req) (s : State) : Bool :=
  decide (o = .modeSet) && s.entering && decide (fld r.params 0 1 = 3 ∨ fld r.params 0 1 = 4)

/-- The running transition refuses every configuration write but a wake (R333). -/
def transitionRej (o : Op) (r : Req) (s : State) : Option Rej :=
  match s.power.transition with
  | none => none
  | some m => need (!o.kind.writes || isWake o r s) (busy .mode m.code)

/-- The pending store is full, or holds a later commit that touches what this write touches (R300). -/
def storeRej (o : Op) (r : Req) (p s : State) : Option Rej :=
  if !(decide (o.kind = .write) && s.ready 3) then none
  else
    let n := commitMs r s
    let mine := o.touches r (o.choice r p)
    firstRej [need (decide (s.cmd.commits.length < 256)) (busy .tableFull 0),
      ((sortCommits s.cmd.commits).find? (fun c => later c.ms n && touchesMeet mine (c.op.touches c.req c.choice))).map
        (fun c => busy .refConflict (c.ms.toNat % 65536))]

/-- Step 12 of R291: pending work. -/
def busyRej (o : Op) (r : Req) (p s : State) : Option Rej :=
  firstRej [transitionRej o r s, storeRej o r p s, o.busy r p s]

/-- Steps 7 to 12 of R291. -/
def judge (o : Op) (r : Req) (s : State) : Option Rej :=
  firstRej [transportRej o r s, readinessRej o r s, rightRej o r s, milestoneRej o r s, ownRej o r s.projected s,
    busyRej o r s.projected s]

/-! ### Acceptance -/

/-- A write accepted while milestones exist (R297): what acceptance itself does, and the commit that waits. The answer is the
milestone of COMMIT. -/
def stageWrite (o : Op) (r : Req) (s : State) : Milestone × State :=
  let p := s.projected
  let n := commitMs r s
  let c : Commit := { ms := n, op := o, req := o.stage r s, choice := o.choice r p }
  let (shown, s) := if o = .calendarEnable then acceptCalendarEnable r n p s else (n, s)
  let s := if o = .calImport then acceptCalImport s else s
  let s := { s with cmd.commits := s.cmd.commits ++ [c] }
  (shown, announceWrite o r n (o.apply c.req c.choice p) (announceOwnStep o r n s))

/-- A write accepted while no milestones exist commits at acceptance (R298). -/
def writeNow (o : Op) (r : Req) (s : State) : State :=
  let c := o.choice r s.projected
  let q := o.stage r s
  let s := if o = .calImport then acceptCalImport s else s
  o.apply q c (if o.latches then takeSnapshot true s else s)

/-- A reply to a packet. -/
def replyTo (code : Nat) (r : Req) (status : Status) (commit : Milestone) (data : List Byte) : Reply :=
  { opcode := code, seq := r.seq, status := status, reason := .none, detail := 0, commit := commit, data := data }

/-- A reply that turns a packet away. -/
def rejReply (code : Nat) (r : Req) (x : Rej) : Reply :=
  { opcode := code, seq := r.seq, status := x.status, reason := x.reason, detail := x.detail, commit := 0, data := [] }

/-- What the largest reply of a transport leaves for reply data (Table 12.3, R285). -/
def replyRoom (r : Req) : Nat :=
  match r.src with
  | .pcie _ => if r.tag.isSome then 4052 else 4068
  | _ => 4080

/-- A command that has passed every check executes: its reply, none for an ENROLL, which waits for the worker (R249). -/
def accepted (o : Op) (r : Req) (s : State) : Option Reply × State :=
  match o.kind with
  | .write =>
    let data := o.replyData r s.projected
    if decide (o = .rampStart) && rampIdle r s then (some (replyTo o.code r .ok 0 data), s)
    else if !s.ready 3 then (some (replyTo o.code r .ok 0 data), writeNow o r s)
    else
      let (n, s) := stageWrite o r s
      (some (replyTo o.code r .deferred n data), s)
  | .pend => (some (replyTo o.code r .ok 0 []), o.pend r s)
  | _ =>
    let (data, s) := o.act r (replyRoom r) s
    (if o = .enroll then none else some (replyTo o.code r .ok 0 data), s)

/-- Every packet accepted from the holder restarts the lease (R295). -/
def restartLease (r : Req) (s : State) : State :=
  if s.cmd.holder = r.src.code then { s with cmd.leaseFrom := s.time.mono } else s

/-- Steps 6 to 12 of R291 and execution (R304, R318). -/
def execute (code : Nat) (r : Req) (s : State) : Option Reply × State :=
  match Op.ofCode code with
  | none => (some (rejReply code r { status := .unknownOpcode, reason := .none, detail := 0 }), s)
  | some o =>
    if s.cmd.firmwareFault then
      let (b, s) := drawBit (raise .error 0x5106 (toBe 2 code) s)
      (some (rejReply code r { status := .internal, reason := .none, detail := 0 }), { s with cmd.firmwareFault := b })
    else
      let (a, s) := match judge o r s with
        | some x => (some (rejReply code r x), s)
        | none =>
          let (a, s) := accepted o r s
          (a, restartLease r s)
      let (b, s) := drawBit s
      (a, { s with cmd.firmwareFault := b })

/-! ### Headers -/

/-- The opcodes of kind N, which no command carries (R312, Table 13.1). -/
def isNotice (code : Nat) : Bool := decide (code = 0x0615 ∨ code = 0x0908 ∨ code = 0x0D30)

/-- AT_MILESTONE is accepted on kind W alone, and an opcode that is not assigned has no kind (R312). -/
def takesMilestone (code : Nat) : Bool :=
  ((Op.ofCode code).map (fun o => decide (o.kind = .write))).getD (!isNotice code)

/-- Step 4 of R291 (R284, R312). -/
def headerRej (code : Nat) (r : Req) (kinds : Nat) : Option Rej :=
  firstRej [need (decide (r.version = 1 ∧ r.kind < kinds)) (refused .range 0x8002),
    need (decide (r.rsvFlags = 0)) (refused .range 0x8003),
    need (decide (r.ms = none) || takesMilestone code) (refused .range 0x8003),
    need (decide (r.rsvTarget = 0)) (refused .range 0x800C)]

/-! ### Replies -/

/-- Bytes with a local tag behind them under the device key (R287). -/
def withTag (s : State) (tagged : Bool) (body : List Byte) : List Byte :=
  match s.hier.deviceKey with
  | some k => if tagged then body ++ tagOf k body else body
  | none => body

/-- A mailbox. -/
def State.mailbox (s : State) (q : Nat) : Mailbox := tget s.cmd.mailboxes q {}

/-- A state with one mailbox changed. -/
def State.setMailbox (s : State) (q : Nat) (m : Mailbox) : State := { s with cmd.mailboxes := tput s.cmd.mailboxes q m }

/-- A mailbox whose packet executes is DONE with bytes of reply in its buffer (R288); a queue that PERST_N has returned to IDLE
takes none. -/
def mailboxDone (q : Nat) (bytes : List Byte) (s : State) : State :=
  let m := s.mailbox q
  if m.state ≠ .executing then s
  else
    let s := s.setMailbox q { m with buffer := memWrite m.buffer 0 bytes, replyBytes := bytes.length, state := .done }
    if m.intEnable then s.emit (.msix m.vector.toNat) else s

/-- A reply leaves on a local transport; `node` is the replying device (R285, R287, R288, R289). -/
def sendLocal (src : Source) (node : BitVec 18) (tagged : Bool) (p : Reply) (s : State) : State :=
  let s := s.emit (.reply src p tagged)
  match src with
  | .pcie q => mailboxDone q.val (withTag s tagged (p.body node tagged)) s
  | _ => s

/-- A reply leaves in-band for the node that sent the command (R255); `q` is the port it leaves on. -/
def sendInband (q : Nat) (node : BitVec 18) (p : Reply) (s : State) : State :=
  match s.keyNow with
  | none => s
  | some k => sendTagged k q (p.body node true) s

/-- A reply goes to the source of a command: one with no route in-band is dropped (R255), and an in-band broadcast has none
(R256). -/
def sendReply (r : Req) (p : Reply) (s : State) : State :=
  match r.src with
  | .inband _ node _ _ =>
    if r.broadcast then s
    else match s.hopOf node with
      | .port q => sendInband q node p s
      | _ => countDevice 5 s
  | src => sendLocal src s.hier.node (r.tag.isSome && s.hier.deviceKey.isSome) p s

/-! ### Local transports -/

/-- The last reply enters the cache of its transport, which holds sixteen (R292). -/
def cacheReply (src : Source) (p : Reply) (s : State) : State :=
  let q := s.seqOf src
  s.setSeq src { q with cache := (p :: q.cache).take 16 }

/-- A reply that comes after its packet was processed: of an ENROLL, or of a command sent on (R249, R290). -/
def lateReply (r : Req) (p : Reply) (s : State) : State := sendReply r p (cacheReply r.src p s)

/-- What R287 makes of a packet's tag; `signed` is the packet less its tag. -/
def localTagRej (r : Req) (signed : List Byte) (s : State) : Option Rej :=
  let needed := r.tag.isSome || (decide (r.src.code = 2) && s.cmd.mgmt.auth)
  if !needed then none
  else match s.hier.deviceKey with
    | none => some (refused .keyAbsent 0)
    | some k => need (decide (r.tag = some (tagOf k signed))) { status := .authFail, reason := .none, detail := 0 }

/-- A node is an ancestor of this device, as far as it can know: its manager and, at a depth of two, the root (R256, R290). -/
def State.ancestor (s : State) (d : BitVec 18) : Bool :=
  decide (s.hier.role = .enrolled) && (decide (d = s.hier.manager) || decide (1 < s.hier.depth) && Config.ancestor d)

/-- A broadcast of a local transport for the subtree of an ancestor has a route: this device lies in that subtree (R256, R290). -/
def State.broadcastUp (s : State) (r : Req) : Option (Nat × List Byte) :=
  match s.hopOf r.target, s.keyNow with
  | .port q, some k => if r.broadcast && decide (r.target ≠ 0) && s.ancestor r.target then some (q, k) else none
  | _, _ => none

/-- A command for another node is sent on in-band (R290). -/
def sendOnward (code : Nat) (r : Req) (s : State) : State :=
  let turn := fun (x : Rej) => sendReply r (rejReply code r x) s
  if s.hier.fabricKey.isNone then turn (refused .keyAbsent 0)
  else match (if r.target = 0 then Hop.nowhere else s.hopOf r.target), s.keyNow with
    | .port q, some k =>
      if !r.broadcast && decide (64 ≤ s.cmd.outstanding.length) then turn (busy .tableFull 0)
      else
        let (n, s) := takeSeq s
        let s := sendTagged k q ({ r with seq := n, tag := some [] }.body code) s
        if r.broadcast then sendReply r (replyTo code r .ok 0 []) s
        else { s with cmd.outstanding := s.cmd.outstanding ++ [{ seq := n, req := r, opcode := code, sent := s.time.mono }] }
    | _, _ => turn (refused .range 0x800C)

/-- A broadcast that a local transport submits goes up to an ancestor, whose copy of it reaches the workers, or is copied to every
worker (R256, R290). -/
def broadcastLocal (code : Nat) (r : Req) (s : State) : State :=
  match s.broadcastUp r with
  | some (q, k) =>
    let (n, s) := takeSeq s
    sendTagged k q ({ r with seq := n, tag := some [] }.body code) s
  | none =>
    match r.broadcast, s.keyNow, s.hier.workers with
    | true, some k, _ :: _ =>
      let (n, s) := takeSeq s
      s.hier.workers.foldl (fun s w =>
        sendTagged k w.1 ({ r with seq := n, target := s.hier.node, tag := some [] }.body code) s) s
    | _, _, _ => s

/-- A packet for this device is executed: its reply leaves and takes its place in the cache (R292). -/
def runLocal (code : Nat) (r : Req) (s : State) : State :=
  let (a, s) := execute code r (broadcastLocal code r s)
  match a with
  | none => s
  | some p => sendReply r p (cacheReply r.src p s)

/-- A packet for this device is processed: L becomes its SEQUENCE, and it is executed (R292, R293). -/
def processLocal (code : Nat) (r : Req) (s : State) : State :=
  runLocal code r (s.setSeq r.src { s.seqOf r.src with last := some r.seq })

/-- A packet of a local transport is for another node alone (R290). -/
def State.elsewhere (s : State) (r : Req) : Bool :=
  decide (r.target ≠ 0x3FFFF ∧ r.target ≠ s.hier.node) && (s.broadcastUp r).isNone

/-- A packet whose size is right, from a local transport (R291 from step 3 on); `signed` is the packet less its tag. -/
def packetLocal (code : Nat) (r : Req) (signed : List Byte) (s : State) : State :=
  match firstRej [localTagRej r signed s, headerRej code r 1] with
  | some x => sendReply r (rejReply code r x) s
  | none =>
    if s.elsewhere r then sendOnward code r s
    else
      let q := s.seqOf r.src
      let new := (q.last.map (fun l => later r.seq l)).getD true
      if new || decide (code = 0x0104) then processLocal code r s
      else match q.cache.find? (fun p => decide (p.seq = r.seq)) with
        | some p => sendReply r p s
        | none => sendReply r (rejReply code r { status := .replay, reason := .none, detail := 0 }) s

/-- The reply of a failed size check (R283). -/
def lengthReply (code : Nat) (seq : BitVec 32) : Reply :=
  { opcode := code, seq := seq, status := .length, reason := .none, detail := 0, commit := 0, data := [] }

/-- A queue of a mailbox takes the packet that its buffer holds (R288, R291). -/
def runMailbox (q : Fin 4) (s : State) : State :=
  let m := s.mailbox q.val
  let s := s.setMailbox q.val { m with state := .executing }
  let head := memBytes m.buffer 0 16
  let tagged := bit (fld head 3 1) 0 && s.hier.deviceKey.isSome
  let long := sendLocal (.pcie q) s.hier.node tagged (lengthReply (fld head 4 2) (BitVec.ofNat 32 (fld head 8 4))) s
  if m.count = 0 ∨ 4096 < m.count then long
  else match parsePacket (.pcie q) (memBytes m.buffer 0 m.count) with
    | .badMagic => s.setMailbox q.val { m with badMagic := true, replyBytes := 0, state := .done }
    | .badSize _ _ => long
    | .noMilestone code r => packetLocal code { r with ms := some (2 ^ 56) } (memBytes m.buffer 0 (m.count - 16 * flag r.tag.isSome)) s
    | .packet code r => packetLocal code r (r.body code) s

/-- A doorbell of a byte count (R288): the queue is PENDING, and the engine takes it while CMD is ready. -/
def doorbell (q : Fin 4) (count : Nat) (s : State) : State :=
  let m := s.mailbox q.val
  if m.state ≠ .idle then s.setMailbox q.val { m with writeViol := true }
  else
    let s := s.setMailbox q.val { m with count := count, state := .pending, replyBytes := 0 }
    if s.ready 10 then runMailbox q s else s

/-- The host writes a packet into a mailbox buffer and rings its doorbell (R288). -/
def mailboxPacket (q : Fin 4) (bytes : List Byte) (s : State) : State :=
  let m := s.mailbox q.val
  if m.state ≠ .idle then s.setMailbox q.val { m with writeViol := true }
  else doorbell q bytes.length (s.setMailbox q.val { m with buffer := memWrite m.buffer 0 (bytes.take 4096) })

/-- PCIe reaches the device: POR_N is high and the device is not in KEEP (Table 14.2). -/
def State.pcieLives (s : State) : Bool := s.power.porN && decide (s.power.mode ≠ .keep)

/-- The management port reaches the device (Table 14.2, Table 14.4). -/
def State.mgmtLives (s : State) : Bool := s.pcieLives && s.ready 2 && decide (s.power.mode ≠ .dormant ∧ s.power.stage < 6)

/-- A datagram for the management port whose payload is one packet (R289, R291). -/
def mgmtPacket (code : Nat) (r : Req) (signed : List Byte) (s : State) : State :=
  if !s.ready 10 then countDevice 11 s
  else if !r.sized then sendReply r (lengthReply code r.seq) s
  else packetLocal code r signed s

end Sys2Proof.Machine
end

