-- ==== Sys2Proof/Machine/Inband.lean ====
section
/-! DEFINITION. In-band packets (10_hierarchy, R252 to R264): tags, freshness, routing, enrolment, announcements, mirrored
events, and the replies of commands sent on (R290). -/

namespace Sys2Proof.Machine

/-! ### Freshness -/

/-- The window of a replay record after a sequence `d` above the highest is accepted (R253). -/
def slideWindow (w : BitVec 64) (d : Nat) : BitVec 64 := if 64 < d then 0 else (w <<< d) ||| ((1 : BitVec 64) <<< (d - 1))

/-- The record of a source after a sequence, none when the sequence fails (R253). -/
def Replay.take (r : Replay) (seq : BitVec 32) (sendMs : Milestone) : Option Replay :=
  let d := sdiff seq r.highest
  let k := d.natAbs
  let ms := if later sendMs r.sendMs then sendMs else r.sendMs
  if 0 < d then some { r with highest := seq, window := slideWindow r.window k, sendMs := ms }
  else if d = 0 ∨ 64 < k ∨ r.window.getLsbD (k - 1) then none
  else some { r with window := r.window ||| ((1 : BitVec 64) <<< (k - 1)), sendMs := ms }

/-- The freshness check of R253 and R254: the state with the sequence taken, or none when the frame fails. -/
def freshen (node : BitVec 18) (seq : BitVec 32) (sendMs : Milestone) (s : State) : Option State :=
  if 7812500 < (sdiff sendMs s.ms).natAbs then none
  else match s.hier.replays.find? (fun r => decide (r.source = node)) with
    | some r => (r.take seq sendMs).map (fun x =>
        { s with hier.replays := x :: s.hier.replays.filter (fun y => decide (y.source ≠ node)) })
    | none =>
      if !later sendMs s.hier.replayFloor then none
      else
        let new : Replay := { source := node, highest := seq, window := 0, sendMs := sendMs }
        match s.hier.replays.getLast?, decide (256 ≤ s.hier.replays.length) with
        | some old, true =>
          some { s with hier.replays := new :: s.hier.replays.dropLast
                        hier.replayFloor := if later old.sendMs s.hier.replayFloor then old.sendMs else s.hier.replayFloor }
        | _, _ => some { s with hier.replays := new :: s.hier.replays }

/-! ### Forwarding and mirrored events -/

/-- Whole seconds of the monotonic counter bound the mirror packets of R263 to 64 a second: one more may leave now. -/
def mirrorRoom (s : State) : Bool × State :=
  let w := s.time.mono / second
  let s := if w = s.hier.mirrorWindow then s else { s with hier.mirrorWindow := w, hier.mirrorSent := 0 }
  if s.hier.mirrorSent < 64 then (true, { s with hier.mirrorSent := s.hier.mirrorSent + 1 }) else (false, s)

/-- An ORPHAN holds a mirrored event, at most sixteen (R264). -/
def holdMirror (node : BitVec 18) (record : List Byte) (s : State) : State :=
  if s.hier.orphanQ.length < 16 then { s with hier.orphanQ := s.hier.orphanQ ++ [(node, record)] } else countDevice 8 s

/-- A notification that came in-band, or an EVENT_MIRROR, is delivered to the host on PCIe (R263, R286). -/
def deliverNotify (opcode : Nat) (target : BitVec 18) (params : List Byte) (s : State) : State :=
  (notifyRing opcode target params s).2

/-- EVENT_SINK is set: on, or by default on the root (R263). -/
def State.sinks (s : State) : Bool := decide (s.hier.eventSink = 1 ∨ (s.hier.eventSink = 0 ∧ s.hier.role = .root))

/-- The node that EVENT_MIRROR is addressed to (R263): at a depth of one the manager is the root. -/
def State.rootNode (s : State) : BitVec 18 :=
  if s.hier.role = .root then s.hier.node else if s.hier.depth = 1 then s.hier.manager else Config.rootNode

/-- An EVENT_MIRROR packet of this device goes up on its command parent port (R255, R263). -/
def sendMirror (node : BitVec 18) (record : List Byte) (s : State) : State :=
  match s.upPort, s.keyNow with
  | some q, some _ =>
    let (ok, s) := mirrorRoom s
    if !ok then countDevice 8 s
    else
      let n := s.cmd.notifyInband
      originateOn q 2 0 0x0D30 n s.rootNode (node4 node ++ record) { s with cmd.notifyInband := n + 1 }
  | _, _ => countDevice 5 s

/-- A held notification leaves while the rate of R263 has room, and else waits (R264). -/
def sendHeld (node : BitVec 18) (record : List Byte) (rest : List (BitVec 18 × List Byte)) (s : State) : State :=
  if (mirrorRoom s).1 && s.upPort.isSome then sendMirror node record { s with hier.orphanQ := rest } else s

/-- The oldest notification that this device originates leaves for the root, or is held or delivered (R263, R264). -/
def mirrorOwn (s : State) : State :=
  match s.hier.mirrorQ with
  | [] => s
  | (node, record) :: rest =>
    let s := { s with hier.mirrorQ := rest }
    let s := if s.sinks then deliverNotify 0x0D30 s.rootNode (node4 node ++ record) s else s
    match s.hier.role with
    | .root => s
    | .orphan => holdMirror node record s
    | _ => sendMirror node record s

/-- EVENT_MIRROR: what a device held as an ORPHAN goes first once it is ENROLLED again, and then what it originates (R264). -/
def mirrorNext (s : State) : State :=
  match s.hier.role, s.hier.orphanQ with
  | .enrolled, (node, record) :: rest => sendHeld node record rest s
  | _, _ => mirrorOwn s

/-- A packet passes on unchanged but for HOPS (R252, R255). -/
def passOn (q hops : Nat) (r : Req) (fields signed : List Byte) (s : State) : State :=
  sendOn q (hops + 1) fields (signed ++ r.tag.getD []) s

/-- A mirrored event of a worker on its way to the root: delivered here when EVENT_SINK is set, and forwarded, behind what is
still held (R263, R264). -/
def mirrorOnward (hops : Nat) (r : Req) (fields signed : List Byte) (s : State) : State :=
  let s := if s.sinks then deliverNotify 0x0D30 r.target r.params s else s
  if decide (s.hier.role = .orphan) || !s.hier.orphanQ.isEmpty then holdMirror (BitVec.ofNat 18 (fld r.params 0 4)) (r.params.drop 4) s
  else match s.hopOf r.target with
    | .port q =>
      let (ok, s) := mirrorRoom s
      if ok then passOn q hops r fields signed s else countDevice 8 s
    | _ => countDevice 5 s

/-! ### Enrolment and release -/

/-- The fields of ENROLL_REQ are in range (R241, R249, Table 13.14). -/
def enrolFields (q : List Byte) : Option Rej :=
  firstRej [need (decide (q.length = 56)) (refused .lengthMismatch 14), within q 0 4 1 0x3FFFE, within q 4 4 (fld q 0 4) 0x3FFFE,
    within q 8 4 1 0x3FFFE, within q 12 1 1 8, rsvOk q 13 3]

/-- What ENROLL_REQ names becomes this device's place in the tree, and the port it came on the command parent port (R249, R250);
the entries that close a loop are those of the new range (R245). -/
def takePlace (port : Nat) (q : List Byte) (s : State) : State :=
  loopChecks { s with
    hier.node := BitVec.ofNat 18 (fld q 0 4), hier.last := BitVec.ofNat 18 (fld q 4 4)
    hier.manager := BitVec.ofNat 18 (fld q 8 4), hier.depth := fld q 12 1
    hier.parent := s.candOf port, hier.parentPort := if (s.candOf port).isSome then none else some port }

/-- Parameters of the events ENROLLED and MANAGER_CHANGED. -/
def placeEvent (s : State) : List Byte := node4 s.hier.node ++ node4 s.hier.manager ++ [BitVec.ofNat 8 s.hier.depth]

/-- A frame whose tag fails counts as AUTH_FAIL with event 0x7105 (R252); so does an ENROLL_REQ whose key does not unwrap (R249). -/
def authFail (port : Nat) (s : State) : State := raise .warn 0x7105 [BitVec.ofNat 8 port] (countDevice 3 s)

/-- An in-band frame at an UNENROLLED device, which accepts only ENROLL_REQ addressed to node 0 (R249). -/
def enrolFresh (code port hops : Nat) (node : BitVec 18) (r : Req) (fields signed : List Byte) (s : State) : State :=
  if code ≠ 0x0D10 ∨ r.target ≠ 0 ∨ r.kind ≠ 0 then countDevice 2 s
  else match s.hier.deviceKey with
    | none => countDevice 2 s
    | some dev =>
      match keyUnwrap dev ((r.params.drop 16).take 40) with
      | none => authFail port s
      | some k =>
        if r.tag ≠ some (tagOf k (fields ++ signed)) then authFail port s
        else if 17 ≤ hops then countDevice 1 s
        else
          let answer := fun (p : Reply) (s : State) => sendTagged k port (p.body node true) s
          match firstRej [headerRej code r 1, need (s.ready 3) (refused .notReady 3), enrolFields r.params] with
          | some x => answer (rejReply code r x) s
          | none =>
            let s := takePlace port r.params { s with
              hier.role := .enrolled, hier.fabricKey := some k, hier.keyInUse := true, hier.oldKey := none, hier.noParentSince := none }
            answer (replyTo code r .ok 0 []) (raise .note 0x7101 (placeEvent s) s)

/-- ENROLL_REQ at a device of the tree, which is a re-enrolment (R250). An ENROLLED device drops one from another node than its
manager. A refusal is routed as any reply (R255), and the OK of one that is taken leaves on the port it came on, which is then the
command parent port. -/
def enrolAgain (port : Nat) (node : BitVec 18) (r : Req) (s : State) : State :=
  let q := r.params
  if s.hier.role = .enrolled ∧ node ≠ s.hier.manager ∧ fld q 16 40 = 0 then s
  else
    let cand := (s.candOf port).isSome || decide (s.hier.role = .enrolled ∧ s.upPort = some port)
    match firstRej [need (s.ready 3) (refused .notReady 3), enrolFields q,
      need (decide (fld q 16 40 = 0 ∧ s.hier.role ≠ .root) && cand) (refused .mode 0)] with
    | some x => sendReply r (rejReply 0x0D10 r x) s
    | none =>
      let s := takePlace port q s
      let s := if s.hier.role = .orphan then rejoin s else s
      let s := restartLease r (raise .note 0x7103 (placeEvent s) s)
      if r.broadcast then s else sendInband port node (replyTo 0x0D10 r .ok 0 []) s

/-- RELEASE (R251): from the manager only. -/
def released (node : BitVec 18) (r : Req) (s : State) : State :=
  if node ≠ s.hier.manager ∨ s.hier.role = .root then sendReply r (rejReply 0x0D11 r (refused .mode 0)) s
  else match sizeCheck .release r.params with
    | some x => sendReply r (rejReply 0x0D11 r x) s
    | none => becomeUnenrolled (sendReply r (replyTo 0x0D11 r .ok 0 []) s)

/-! ### Announcements -/

/-- Opcodes of announcements (Table 10.2). -/
def isAnnouncement (o : Op) : Bool :=
  decide (o = .announceStep ∨ o = .announceTimescale ∨ o = .announceEpochs ∨ o = .announceSettings ∨ o = .announceKey)

/-- An announcement is refused: event 0x7108 with its opcode and reason (R259). -/
def refuseAnnouncement (o : Op) (reason : Reason) (s : State) : State :=
  raise .error 0x7108 (toBe 2 o.code ++ [BitVec.ofNat 8 reason.code]) s

/-- What an accepted announcement stages: the key of ANNOUNCE_KEY is unwrapped under the key in use (R262). -/
def stageAnnouncement (o : Op) (r : Req) (s : State) : Option Req :=
  if o = .announceKey then
    match s.keyNow with
    | none => none
    | some k => (keyUnwrap k ((r.params.drop 8).take 40)).map (fun key => { r with params := key })
  else some r

/-- An announcement (R42, R259): accepted only from the manager through the command parent port; it waits for its milestone,
is passed on to the workers, and restarts the lease as any accepted packet does (R295). -/
def announcement (o : Op) (port : Nat) (node : BitVec 18) (r : Req) (s : State) : State :=
  let m : Milestone := BitVec.ofNat 56 (fld r.params 0 8)
  let late := !later m s.ms
  match firstRej [need (decide (s.hier.role = .enrolled ∧ node = s.hier.manager ∧ s.upPort = some port)) (refused .mode 0),
    readinessRej o r s, sizeCheck o r.params, o.check r s s,
    need (decide (s.cmd.commits.length < 256)) (refused .tableFull 0)] with
  | some x => refuseAnnouncement o x.reason s
  | none =>
    if late && decide (o = .announceStep) then restartLease r s
    else match stageAnnouncement o r s with
      | none => refuseAnnouncement o .range s
      | some q =>
        let s := if late then raise .warn 0x7107 (toBe 2 o.code) s else s
        let c : Commit := { ms := if late then s.nextMs else m, op := o, req := q, choice := 0 }
        restartLease r (announceWrite o r m s { s with cmd.commits := s.cmd.commits ++ [c] })

/-! ### Replies of commands sent on -/

/-- The status of a code of Table 12.12. -/
def Status.ofCode (n : Nat) : Status :=
  getAt [.ok, .deferred, .refused, .busy, .unknownOpcode, .length, .authFail, .replay] n .internal

/-- The reasons in code order. -/
def reasonList : List Reason :=
  [.none, .range, .claimTaken, .notReady, .mode, .mtuRange, .calendarOverrun, .timeInvalid, .refConflict, .voltageNotReady,
   .freqLimit, .timingLaneDeep, .breakoutMismatch, .poolOvercommit, .stepTooLarge, .milestonePast, .noRightOfWay,
   .calSerialMismatch, .tableFull, .groupEmpty, .parentLoop, .dieAbsent, .compatMode, .shedActive, .lengthMismatch, .depthLimit,
   .keyAbsent, .rampActive, .gateActive, .retentionLost, .jumpGuard, .configIncomplete]

/-- Where the list of a reply begins in its data, and the size of an entry (R316): of the reads that return one. -/
def listLayout (code : Nat) (q : List Byte) : Option (Nat × Nat) :=
  match Op.ofCode code with
  | some .cmdStatus => some (36, 12)
  | some .hierStatus => some (120, 12)
  | some .counterRead => some (8, 8)
  | some .recorderRead => some (0, 64)
  | some .bufferStatus => some (0, if fld q 5 1 = 3 then 12 else 8)
  | some .tableRead =>
    match fld q 4 1 with
    | 0 => some (0, 12)
    | 1 | 2 | 3 => some (0, 24)
    | 4 => some (0, 16)
    | 5 => none
    | 6 => some (0, 140)
    | _ => some (0, 52)
  | _ => none

/-- Reply data cut to what a transport carries: of a list, the leading entries that fit, with RETURNED their number (R285, R316). -/
def cutData (code : Nat) (to_ : Req) (data : List Byte) : List Byte :=
  let room := replyRoom to_
  match decide (data.length ≤ room), listLayout code to_.params with
  | true, _ => data
  | false, none => data.take room
  | false, some (o, size) =>
    let k := (room - o - 8) / size
    data.take (o + 4) ++ toBe 4 k ++ (data.drop (o + 8)).take (k * size)

/-- A reply that arrived in-band, for the packet that it answers (R285, R290). -/
def replyOf (code : Nat) (to_ : Req) (q : List Byte) : Reply :=
  { opcode := code, seq := to_.seq, status := Status.ofCode (fld q 0 1), reason := getAt reasonList (fld q 1 1) .none
    detail := fld q 2 2, commit := BitVec.ofNat 56 (fld q 4 8), data := cutData code to_ (q.drop 12) }

/-- The reply of a command sent on goes to the transport that submitted it, with its SEQUENCE restored (R290). -/
def returnReply (o : Outstanding) (p : Reply) (s : State) : State :=
  sendLocal o.req.src o.req.target (o.req.tag.isSome && s.hier.deviceKey.isSome) p
    { s with cmd.outstanding := s.cmd.outstanding.filter (fun x => decide (x.seq ≠ o.seq)) }

/-- A reply in-band completes the ENROLL or the outstanding command whose sequence it carries (R249, R284, R290). -/
def inbandReply (code port : Nat) (r : Req) (s : State) : State :=
  match s.hier.enrolling.find? (fun e => decide (e.port = port ∧ e.seq = r.seq ∧ code = 0x0D10)) with
  | some e =>
    let p := replyOf 0x0D05 e.req r.params
    if p.status = .ok then lateReply e.req { p with data := [] } (enrolled e s) else lateReply e.req p (enrolDone e.port s)
  | none =>
    match s.cmd.outstanding.find? (fun o => decide (o.seq = r.seq ∧ o.opcode = code)) with
    | some o => returnReply o (replyOf code o.req r.params) s
    | none => s

/-- REMOTE_TIMEOUT (R290): no reply within 1 s. -/
def remoteTimeout (seq : BitVec 32) (s : State) : State :=
  match s.cmd.outstanding.find? (fun o => decide (o.seq = seq)) with
  | none => s
  | some o =>
    if s.time.mono < o.sent + second then s
    else returnReply o { opcode := o.opcode, seq := o.req.seq, status := .internal, reason := .notReady, detail := 0, commit := 0, data := [] } s

/-- ENROLL_TIMEOUT (R249): no reply within 100 ms. -/
def enrollTimeout (port : Nat) (s : State) : State :=
  match s.hier.enrolling.find? (fun e => decide (e.port = port)) with
  | none => s
  | some e =>
    if s.time.mono < e.sent + 100 * milli then s
    else lateReply e.req (rejReply 0x0D05 e.req (refused .notReady port)) (enrolDone port s)

/-! ### Receiving -/

/-- A tag passes under the key in use or, for the interval after a roll, under the old one (R252, R262). -/
def State.tagPasses (s : State) (key : List Byte) (tag : Option (List Byte)) (m : List Byte) : Bool :=
  decide (tag = some (tagOf key m)) ||
  (match s.hier.oldKey with
   | some old => decide (sdiff s.ms s.hier.rolledAt < 7812500) && decide (tag = some (tagOf old m))
   | none => false)

/-- A command in-band that passed its checks up to freshness (R284, R291 from step 6 on). -/
def commandInband (code port : Nat) (node : BitVec 18) (r : Req) (s : State) : State :=
  match Op.ofCode code with
  | some .enrollReq => enrolAgain port node r s
  | some .release => released node r s
  | op =>
    match op.filter isAnnouncement with
    | some o => announcement o port node r s
    | none =>
      if s.hier.role ≠ .root ∧ s.upPort = none then s
      else
        let (a, s) := execute code r { s with cmd.inbandLast := some r.seq }
        match a with
        | none => s
        | some p => sendReply r p s

/-- A packet in-band that this device handles (R253, R256, R284): a broadcast goes to every worker, but one to node 0 ends here (R249);
a broadcast of this device's own that comes back has been executed (R290). -/
def handleInband (code port hops : Nat) (node : BitVec 18) (sendMs : Milestone) (r : Req) (fields signed : List Byte)
    (s : State) : State :=
  match if r.kind = 0 then headerRej code r 1 else none with
  | some x => sendReply r (rejReply code r x) s
  | none =>
    match freshen node r.seq sendMs s with
    | none =>
      let s := raise .warn 0x7106 (BitVec.ofNat 8 port :: node4 node) (countDevice 4 s)
      if r.kind = 0 then sendReply r (rejReply code r { status := .replay, reason := .none, detail := 0 }) s else s
    | some s =>
      let s := if r.broadcast && decide (r.target ≠ 0) then s.hier.workers.foldl (fun s w => passOn w.1 hops r fields signed s) s
        else s
      match r.kind with
      | 0 => if r.broadcast && decide (node = s.hier.node) then s else commandInband code port node r s
      | 1 => inbandReply code port r s
      | _ => if decide (code ≠ 0x0D30) || s.sinks then deliverNotify code r.target r.params s else s

/-- This device handles a packet: it is addressed here, or it is a broadcast from above for a subtree that holds this device
(R255, R256). -/
def State.handles (s : State) (port : Nat) (r : Req) : Bool :=
  decide (s.hopOf r.target = .here) ||
  (r.broadcast && decide (s.upPort = some port) && !inRange r.target s.hier.node s.hier.last)

/-- A packet in an in-band frame arrives (R252, R255, R258): `fields` are bytes 16 to 27, `signed` the packet less its tag. -/
def inbandPacket (code : Nat) (r : Req) (fields signed : List Byte) (s : State) : State :=
  match r.src with
  | .inband port node sendMs hops =>
    if !s.ready 10 then countDevice 7 s
    else if r.tag.isNone then countDevice 1 s
    else if s.hier.role = .unenrolled then enrolFresh code port hops node r fields signed s
    else match s.keyNow with
      | none => countDevice 2 s
      | some k =>
        if !r.sized && decide (r.kind = 0) && s.handles port r then sendReply r (lengthReply code r.seq) s
        else if !s.tagPasses k r.tag (fields ++ signed) then authFail port s
        else if 17 ≤ hops ∨ 3 ≤ r.kind then countDevice 1 s
        else if s.handles port r then handleInband code port hops node sendMs r fields signed s
        else if r.kind = 2 ∧ code = 0x0D30 then mirrorOnward hops r fields signed s
        else match s.hopOf r.target with
          | .port q => passOn q hops r fields signed s
          | _ => countDevice 5 s
  | _ => s

/-- The bytes of a frame, less its FCS, that hold its packet (Table 10.1): the zeros that pad a frame to 64 bytes are none of it. -/
def packetBytes (d : List Byte) : List Byte :=
  let n := 16 + 4 * fld d 34 2 + 16
  if d.length ≤ 60 ∧ n ≤ d.length - 28 then (d.drop 28).take n else d.drop 28

/-- A frame with the command EtherType, less its FCS, is taken apart (Table 10.1, R252). A command for this device whose size is wrong
gets LENGTH (R283, R291); with a wrong size elsewhere, or a wrong MAGIC, the tag fails. -/
def inbandBytesIn (l : Nat) (d : List Byte) (s : State) : State :=
  let port := portOf l
  let pkt := packetBytes d
  if !s.ready 10 then countDevice 7 s
  else if d.length < 44 ∨ fld d 14 1 / 16 ≠ 1 ∨ bit (fld d 31 1) 0 = false then countDevice 1 s
  else
    let src : Source := .inband port (BitVec.ofNat 18 (fld d 16 4)) (BitVec.ofNat 56 (fld d 20 8)) (fld d 15 1)
    let fields := (d.drop 16).take 12
    let signed := pkt.take (pkt.length - 16)
    let head := headOf src pkt
    match parsePacket src pkt with
    | .packet code r => inbandPacket code r fields signed s
    | .noMilestone code r => inbandPacket code { r with ms := some (2 ^ 56) } fields signed s
    | .badSize code _ =>
      if s.keyNow.isNone then countDevice 2 s
      else if decide (head.kind = 0) && s.handles port head then sendReply head (lengthReply code head.seq) s
      else authFail port s
    | .badMagic => if s.keyNow.isNone then countDevice 2 s else authFail port s

/-- INBAND_FRAME: a whole frame with its FCS arrives on a logical port that receives. -/
def inbandFrame (l : Nat) (frame : List Byte) (s : State) : State :=
  let d := frame.take (frame.length - 4)
  if !s.receives l || s.ingressStopped || decide (fld frame 12 2 ≠ s.fwd.etCommand) then s
  else if fcs d ≠ frame.drop (frame.length - 4) then dropIn l 1 none false d s
  else inbandBytesIn l d s

/-- The row of an opcode: the packet arrives on the transport that it names. -/
def arrive (code : Nat) (r : Req) (s : State) : State :=
  match r.src with
  | .pcie q => if s.pcieLives then mailboxPacket q (r.bytes code) s else s
  | .mgmt _ _ => if s.mgmtLives then mgmtPacket code r (r.body code) { s with power.mgmtUp := true } else s
  | .inband port node sendMs _ =>
    if s.receives (s.timingLport port) && !s.ingressStopped then
      inbandPacket code r (inbandFields node sendMs) (r.body code) s
    else s

end Sys2Proof.Machine
end

