-- ==== Sys2Proof/Machine/Commits.lean ====
section
/-! DEFINITION. What happens at a milestone to pending commits (R20, R43, R239, R300, R343) and to snapshots (R381). -/

namespace Sys2Proof.Machine

/-- Abort point A5 of a DORMANT entry is passed, or the device is in DORMANT or its exit (R343). -/
def State.pastA5 (s : State) : Bool :=
  decide (s.power.mode = .dormant) || (match s.power.dormant with | .entry n => decide (6 ≤ n) | .exit => true | .none => false)

/-- A commit waits although its milestone has been reached: behind A5 until exit, but for the commands that DORMANT accepts
(R343, R344); and while the forwarding domain it needs is frozen (R20, R239). -/
def State.holds (s : State) (c : Commit) : Bool :=
  (s.pastA5 && !(decide (c.op = .modeSet ∨ c.op = .dormantConfig ∨ c.op = .vigilScratch))) ||
  (c.op.needs s c.req.params).any (fun n => match n with
    | .coreDie d => (s.core d).frozen.isSome
    | .core => s.coreDies.all (fun d => (s.core d).frozen.isSome)
    | _ => false)

/-- A commit applies now: its milestone has been reached or passed, and nothing holds it. -/
def State.due (s : State) (c : Commit) : Bool := !later c.ms s.ms && !s.holds c

/-- A commit that moves the count. -/
def Op.moves (o : Op) : Bool := decide (o = .timeSet ∨ o = .timeStep ∨ o = .timeAcceptJump ∨ o = .announceStep)

/-- A commit has its effect. -/
def applyCommit (s : State) (c : Commit) : State := c.op.apply c.req c.choice s

/-- The snapshot interval that a milestone's commits leave. -/
def intervalAfter (cs : List Commit) (old : Nat) : Nat :=
  cs.foldl (fun n c => if c.op = .snapshotConfig then fld c.req.params 0 4 else n) old

/-- The milestone latches a snapshot before its commits apply (R381, R384, R387). -/
def State.latchDue (s : State) (cs : List Commit) : Bool :=
  (cs.any (fun c => c.op.latches) || ({ s with ctr.interval := intervalAfter cs s.ctr.interval }).periodic) && !s.latchedNow

/-- COMPARE_FIRE (R47): the unit fires; a wake alarm is a wake (R51, R347). -/
def compareFire (u : Nat) (s : State) : State :=
  let before := s.unit u
  let s := fireUnit u s
  let after := s.unit u
  if decide (before ≠ after) && decide (after.function = 3) && bit s.power.wakeEn 1 then wakeUp none s else s

/-- The wake alarms whose targets the count has reached fire before the count moves (R43, R51). -/
def alarmsReached (s : State) : State :=
  (s.time.compares.map (·.1)).foldl (fun s u =>
    if decide ((s.unit u).function = 3) && !(s.unit u).latePending then compareFire u s else s) s

/-- Every commit that is due applies, in milestone order and within one milestone in the order accepted; a move of the count
comes last. The snapshot that the milestone takes is latched first (R20, R43, R300, R381). -/
def applyDue (s : State) : State :=
  let cs := (sortCommits s.cmd.commits).filter s.due
  let s1 := if s.latchDue cs then takeSnapshot false s else s
  let s2 := { s1 with cmd.commits := s1.cmd.commits.filter (fun c => !s.due c) }
  let s3 := (cs.filter (fun c => !Op.moves c.op)).foldl applyCommit s2
  if cs.any (fun c => Op.moves c.op) then (cs.filter (fun c => Op.moves c.op)).foldl applyCommit (alarmsReached s3) else s3

/-- CONFIGURATION_COMMIT: milestones fall while the Almanac runs. -/
def commitNow (s : State) : State := if s.time.running then applyDue s else s

/-- SNAPSHOT: a periodic snapshot milestone that no commit has latched (R381, R382). -/
def snapshotDue (s : State) : State := if s.time.running && s.periodic && !s.latchedNow then takeSnapshot false s else s

/-- The window closes that fell on the logical ports of a die since a milestone (R123, R239): by the active calendar, and past a
swap that has fallen due by the one swapped in. -/
def State.closesSince (s : State) (die : Nat) (lo : Milestone) : List (Nat × Nat) :=
  (s.fwd.active.filter (fun c => decide (s.coreOfLport c.1 = die))).map (fun c =>
    (c.1, s.closesOf c.1 c.2 lo.toNat s.ms.toNat + match tfind s.fwd.swaps c.1 with
      | some w => if later w.at_ s.ms then 0 else (s.shadowOf c.1).closes (max lo.toNat w.at_.toNat) s.ms.toNat
      | none => 0))

/-- What a forwarding domain that resumes takes up first (R20, R239): the commits whose milestones passed, in their order, the
calendar swaps and removals that fell due, the flushes of ports disabled meanwhile. -/
def resumeDie (die : Nat) (s : State) : State :=
  let mine := fun (l : Nat) => decide (s.coreOfLport l = die)
  let s := applyDue s
  let s := (s.fwd.swaps.map (·.1)).foldl (fun s l => if mine l then swapCalendar l s else s) s
  let s := (s.fwd.removals.map (·.1)).foldl (fun s l => if mine l then removalNow l s else s) s
  (s.fwd.flushDue.filter mine).foldl (fun s l => flush l false s)
    { s with fwd.flushDue := s.fwd.flushDue.filter (fun l => !mine l) }

/-- The PLLs of a stopped domain have been locked for a time: the lock bits follow (Table 9.4). -/
def relock (die locked : Nat) (s : State) : State :=
  let c := s.core die
  if (c.frozen.isSome || c.reset) && decide (s.clk.cclk ≠ 0 ∧ c.lostAt + locked ≤ s.time.mono) then
    s.setCore die { c with cclkLock := true, bclkLock := true } else s

/-- CORE_THAW (R239): both PLLs of a frozen die have stayed locked for `locked`, at least 64 us, since the latest loss; the work of
the freeze is taken up, window closes count, expired deadline frames and the frames of holds that ended go, and CORE is ready. -/
def thaw (die locked : Nat) (s : State) : State :=
  let s := relock die locked s
  let c := s.core die
  if c.frozen.isNone || !(c.cclkLock && c.bclkLock) || decide (locked < 64 * micro ∨ s.time.mono < c.lostAt + locked) then s
  else
    let closes := s.closesSince die c.frozenFrom
    let s := resumeDie die (s.setCore die { c with frozen := none })
    let s := closes.foldl (fun s k => meetCloses k.1 k.2 s) s
    let s := expireHeads (s.setCore die { s.core die with running := true })
    let s := (s.fwd.held.map (·.1)).foldl (fun s l => if s.coreOfLport l = die then holdEnd l s else s) s
    let s := (s.portsOn die).foldl (fun s l => thawXoff l s) s
    crossNow (raiseAt die .note 0x2411 [BitVec.ofNat 8 die] s)

end Sys2Proof.Machine
end

