-- ==== Sys2Proof/Machine/Transport.lean ====
section
/-! DEFINITION. BAR0 (Tables 12.4 to 12.9, 2.6, 15.5, 17.3), DMA rings (R306, R307), the management port (R289), and the events
of the transports (R296, R303, R356). -/

namespace Sys2Proof.Machine

/-! ### Mailboxes -/

/-- CQ_DOORBELL (Table 12.4): the byte count in bits [12:0]. -/
def cqDoorbell (q : Fin 4) (v : Word) (s : State) : State := if s.pcieLives then doorbell q (v.toNat % 8192) s else s

/-- CQ_ACK (Table 12.4): bit 0 returns DONE to IDLE. -/
def cqAck (q : Fin 4) (v : Word) (s : State) : State :=
  let m := s.mailbox q.val
  if s.pcieLives && v.getLsbD 0 && decide (m.state = .done) then s.setMailbox q.val { m with state := .idle } else s

/-- A write of four bytes into a mailbox buffer: outside IDLE it is ignored and sets WRITE_VIOL (R288). -/
def bufferWrite (q o : Nat) (v : Word) (s : State) : State :=
  let m := s.mailbox q
  if m.state ≠ .idle then s.setMailbox q { m with writeViol := true }
  else s.setMailbox q { m with buffer := memWrite m.buffer o (toBe 4 v.toNat).reverse }

/-- CQ_STATE (Table 12.5). -/
def State.cqState (s : State) (q : Nat) : Nat :=
  let m := s.mailbox q
  (if m.state = .done then m.replyBytes else 0) * 65536 + flag m.badMagic * 16 + flag m.writeViol * 8 + flag (!s.ready 10) * 4 +
  (match m.state with | .idle => 0 | .pending => 1 | .executing => 2 | .done => 3)

/-- A queue's control register is written (Table 12.4). -/
def cqWrite (q : Fin 4) (o : Nat) (v : Word) (s : State) : State :=
  let m := s.mailbox q.val
  match o with
  | 0 => cqDoorbell q v s
  | 4 => s.setMailbox q.val { m with badMagic := m.badMagic && !v.getLsbD 4, writeViol := m.writeViol && !v.getLsbD 3 }
  | 8 => cqAck q v s
  | _ => s.setMailbox q.val { m with intEnable := v.getLsbD 31, vector := v.setWidth 11 }

/-! ### The time snapshot -/

/-- TS_STATE of the live state and flags (Table 2.7). -/
def State.tsWord (s : State) : Nat :=
  s.time.stepCount.toNat * 2 ^ 24 + s.ref.dpll.code * 2 ^ 16 + flag s.pendingStep.isSome * 128 + flag s.time.jumpRefused * 64 +
  flag s.time.compareLate * 32 + flag s.timeValid * 16 + s.time.state.code

/-- TS_SEQ: a read latches the count and the state together and returns the new sequence (R44). -/
def tsSeq (s : State) : State :=
  if !s.pcieLives then s
  else
    let n := s.time.tsSeq + 1
    let s := { s with time.tsSeq := n, time.tsNs := s.ns, time.tsFrac := s.time.count.setWidth 16
                      time.tsState := BitVec.ofNat 32 s.tsWord }
    s.emit (.value n)

/-- TS_STATE: a write of 1 to a W1C bit clears the live flag and the latched copy together (R44). -/
def tsState (v : Word) (s : State) : State :=
  if !s.pcieLives then s
  else { s with time.jumpRefused := s.time.jumpRefused && !v.getLsbD 6, time.compareLate := s.time.compareLate && !v.getLsbD 5
                time.tsState := s.time.tsState &&& ~~~(v &&& 0x60) }

/-! ### DMA rings -/

/-- Another enabled descriptor has a KIND of which there is one (R306). -/
def State.kindTaken (s : State) (d kind : Nat) : Bool :=
  decide (kind ≠ 3) && s.cmd.rings.any (fun e => decide (e.1 ≠ d) && e.2.enable && decide (e.2.kind.toNat = kind))

/-- Records that waited for a PUNT ring that goes out of service are dropped as where it is full: each counts PUNT_RING_FULL of its
ingress logical port (R85, R307). -/
def puntsLost (rs : List (List Byte)) (s : State) : State :=
  rs.foldl (fun s r =>
    dropIn (fld r 12 2 / 128) 0x10 (some (fld r 15 1 / 32)) false ((r.drop 32).take (fld r 10 2)) s) s

/-- RING_CTRL (Table 12.9, R306, R307): a descriptor goes in or out of service; the record in progress is still written. -/
def ringCtrl (d : Nat) (v : Word) (s : State) : State :=
  if !s.pcieLives then s
  else
    let r := s.ring d
    let on := v.getLsbD 31
    let kind := (v.toNat / 2 ^ 28) % 8
    let r1 := { r with vector := v.setWidth 11 }
    if r.enable then
      if on then s.setRing d r1
      else
        let s := s.setRing d { r1 with enable := false, active := !r.waiting.isEmpty, waiting := r.waiting.take 1
                                       lost := r.lost + BitVec.ofNat 32 (r.waiting.length - 1) }
        if r.kind = 1 then puntsLost (r.waiting.drop 1) s else s
    else
      let r2 := { r1 with kind := BitVec.ofNat 3 kind, sizeLog2 := BitVec.ofNat 4 (v.toNat / 2 ^ 24)
                          served := r.served && decide (r.kind = BitVec.ofNat 3 kind) }
      if !on then s.setRing d r2
      else if decide (kind = 0 ∨ kind = 7) || s.kindTaken d kind then s.setRing d { r2 with configErr := true }
      else s.setRing d { r2 with enable := true, active := true, served := true }

/-- A word of a ring descriptor is written (Table 12.8). -/
def ringWord (d o : Nat) (v : Word) (s : State) : State :=
  let r := s.ring d
  let inject := decide (r.kind = 2)
  match o with
  | 0 => if r.enable then s else s.setRing d { r with base := BitVec.ofNat 64 (r.base.toNat / 2 ^ 32 * 2 ^ 32 + v.toNat / 4096 * 4096) }
  | 4 => if r.enable then s else s.setRing d { r with base := BitVec.ofNat 64 (v.toNat * 2 ^ 32 + r.base.toNat % 2 ^ 32) }
  | 8 => ringCtrl d v s
  | 12 => if inject then s.setRing d { r with prod := v } else s
  | 16 => if inject then s else s.setRing d { r with cons := v }
  | 20 => s.setRing d { r with intThreshold := BitVec.ofNat 16 (v.toNat / 65536), intTimer := v.setWidth 16 }
  | 24 => s.setRing d { r with configErr := r.configErr && !v.getLsbD 31 }
  | _ => s

/-- A ring raises its vector, and its count of records starts again (R307). -/
def ringInterrupt (d : Nat) (s : State) : State :=
  let r := s.ring d
  (s.setRing d { r with sinceInt := 0, firstSince := none }).emit (.msix r.vector.toNat)

/-- A record is written whole, and then the producer index moves past it (R306, R307). -/
def writeRecord (d : Nat) (rec_ : List Byte) (s : State) : State :=
  let r := s.ring d
  let n := r.sinceInt + 1
  let r1 := { r with prod := r.prod + BitVec.ofNat 32 rec_.length, sinceInt := n, firstSince := some (r.firstSince.getD s.time.mono) }
  let s := (s.setRing d r1).emit (.ring d (r.prod.toNat % r.size) rec_)
  if decide (r.intThreshold ≠ 0 ∧ r.intThreshold.toNat ≤ n) then ringInterrupt d s else s

/-- A channel of the ring whose oldest record has the earliest stamp, the lowest first (R273). -/
def State.ringChannel (s : State) (d : Nat) : Option (Nat × List Byte) :=
  (List.range 16).foldl (fun (best : Option (Nat × List Byte)) n =>
    let c := s.chan n
    match decide (c.cfg.ring = d), c.queue, best with
    | true, x :: _, none => some (n, x)
    | true, x :: _, some b => if later (BitVec.ofNat 80 (fld b.2 0 10)) (BitVec.ofNat 80 (fld x 0 10)) then some (n, x) else some b
    | _, _, b => b) none

/-- A record of a channel does not find room in its ring: it is lost as one that finds the queue full is (R274, R307), in the open
gate where it is one of that gate's. -/
def tdcLost (n : Nat) (s : State) : State :=
  let c := s.chan n
  let mine := fun (g : Gate) => if c.queue.length < g.queued then { g with lost := satNat 32 (g.lost + 1) } else g
  s.setChan n { c with lostPending := satNat 32 (c.lostPending + 1), gate := c.gate.map mine }

/-- One record from on chip goes to a ring in service, or is lost where that is full or out of service (R307); `owner` counts it
under the owning rule. -/
def spill (d : Nat) (x : List Byte) (owner : State → State) (s : State) : State :=
  let r := s.ring d
  if !r.enable || r.full x then owner (ringLost d 1 s) else writeRecord d x s

/-- RING_WRITE: the oldest record that waits for a ring is written; a ring of KIND TDC takes the records of its channels in stamp
order, and that of KIND TAG those of the on-chip tag queue (R273, R306, R307, R389). -/
def ringWrite (d : Nat) (s : State) : State :=
  let r := s.ring d
  match r.waiting with
  | x :: rest =>
    let s := writeRecord d x (s.setRing d { r with waiting := rest })
    if r.enable then s else s.setRing d { s.ring d with active := false }
  | [] =>
    if !r.enable && !r.served then s
    else match RingKind.ofCode r.kind.toNat, s.ringChannel d, s.ctr.tagQ with
      | .tdc, some (n, x), _ => spill d x (tdcLost n) (s.setChan n { s.chan n with queue := (s.chan n).queue.drop 1 })
      | .tag, _, x :: rest =>
        if s.ringOf .tag = (if r.enable then some d else none) then spill d x id { s with ctr.tagQ := rest } else s
      | _, _, _ => s

/-- RING_INT_TIMER: the timer has run since the first record after the last interrupt (R307). -/
def ringTimer (d : Nat) (s : State) : State :=
  let r := s.ring d
  match r.firstSince with
  | none => s
  | some t => if decide (r.intTimer ≠ 0 ∧ t + r.intTimer.toNat * micro ≤ s.time.mono) then ringInterrupt d s else s

/-! ### BAR0 -/

/-- The effect of a write to an aligned offset of BAR0: what is read-only, reserved or unmapped ignores it (R305). -/
def barWrite (off : Nat) (v : Word) (s : State) : State :=
  if !s.pcieLives then s
  else if off = 0x1014 then { s with power.readyInt := v.getLsbD 31, power.readyVector := v.setWidth 11 }
  else if off = 0x2010 then tsState v s
  else if 0x10000 ≤ off ∧ off < 0x14000 then bufferWrite ((off - 0x10000) / 4096) (off % 4096) v s
  else if 0x14000 ≤ off ∧ off < 0x14040 then cqWrite (Fin.ofNat 4 ((off - 0x14000) / 16)) (off % 16) v s
  else if 0x20000 ≤ off ∧ off < 0x20800 then ringWord ((off - 0x20000) / 32) (off % 32) v s
  else s

/-- Four bytes at consecutive offsets as the word that holds them (R8). -/
def wordOf (bs : List Byte) : Nat := beNat bs.reverse

/-- BOOT_STATUS (Table 15.7): ELAPSED counts while the sequence runs. -/
def State.bootStatus (s : State) : Nat :=
  s.power.bootStep * 2 ^ 28 + s.power.bootSel * 2 ^ 26 + s.power.oscSel * 2 ^ 23 + flag s.power.slotB * 2 ^ 22 +
  flag s.power.fallback * 2 ^ 21 + satNat 16 (s.power.elapsed.getD ((s.time.mono - s.power.porAt) / milli))

/-- The word at an offset of the ready block (Tables 15.5 to 15.7). -/
def State.readyWord (s : State) (o : Nat) : Nat :=
  let bits := fun (b : Nat) => (List.range 32).foldl (fun n i => if s.ready (b + i) then n + 2 ^ i else n) 0
  if o = 0 then (List.range 12).foldl (fun n i => if s.ready i then n + 2 ^ i else n) 0
  else if o = 4 then bits 32 else if o = 8 then bits 64 else if o = 12 then bits 96
  else if o = 16 then s.power.readySeq.toNat
  else if o = 20 then flag s.power.readyInt * 2 ^ 31 + s.power.readyVector.toNat
  else if o = 24 then s.bootStatus
  else if 0x20 ≤ o ∧ o < 0x2C then wordOf ((List.range 4).map (fun i => BitVec.ofNat 8 (reasonFn s (o - 0x20 + i))))
  else if 0x40 ≤ o ∧ o < 0xA0 then wordOf ((List.range 4).map (fun i => BitVec.ofNat 8 (reasonLanes s (o - 0x40 + i))))
  else 0

/-- The word at an offset of a ring descriptor (Table 12.8). -/
def Ring.word (r : Ring) (o : Nat) : Nat :=
  match o with
  | 0 => r.base.toNat % 2 ^ 32
  | 4 => r.base.toNat / 2 ^ 32
  | 8 => flag r.enable * 2 ^ 31 + r.kind.toNat * 2 ^ 28 + r.sizeLog2.toNat * 2 ^ 24 + r.vector.toNat
  | 12 => r.prod.toNat
  | 16 => r.cons.toNat
  | 20 => r.intThreshold.toNat * 65536 + r.intTimer.toNat
  | 24 => flag r.configErr * 2 ^ 31 + flag r.active * 2 ^ 30
  | _ => r.lost.toNat

/-- The word at an offset of the counter snapshot window (Table 17.3): a counter that does not exist reads 0. -/
def State.windowWord (s : State) (o : Nat) : Nat :=
  if o = 0 then s.ctr.snapSeq.toNat
  else if o = 8 then s.snapMs % 2 ^ 32
  else if o = 12 then s.snapMs / 2 ^ 32
  else
    match (upto 1 11).find? (fun g => decide (ctrOffset g ≤ o ∧ o < ctrOffset g + 8 * (ctrInstances g * ctrPer g))) with
    | none => 0
    | some g =>
      let k := (o - ctrOffset g) / 8
      let c := s.latched g (k / ctrPer g) (k % ctrPer g)
      if o % 8 = 0 then c.1 % 2 ^ 32 else flag c.2 * 2 ^ 31 + c.1 / 2 ^ 32

/-- The value of an aligned BAR0 word other than TS_SEQ, whose read is a command of its own (R305, Table 12.6). -/
def State.bar0Read (s : State) (off : Nat) : Word :=
  BitVec.ofNat 32 (
    if !s.pcieLives then 0
    else if off = 0 then s.idPart
    else if off = 4 then s.idRev
    else if off = 8 then s.fwVersion
    else if 0x40 ≤ off ∧ off < 0x80 then s.serial ((off - 0x40) / 8) / 2 ^ (if off % 8 = 0 then 0 else 32)
    else if 0x1000 ≤ off ∧ off < 0x2000 then s.readyWord (off - 0x1000)
    else if off = 0x2004 then s.time.tsNs.toNat
    else if off = 0x2008 then s.time.tsNs.toNat / 2 ^ 32
    else if off = 0x200C then s.time.tsFrac.toNat
    else if off = 0x2010 then s.time.tsState.toNat
    else if off = 0x2014 then s.time.tsSeq.toNat
    else if 0x10000 ≤ off ∧ off < 0x14000 then wordOf (memBytes (s.mailbox ((off - 0x10000) / 4096)).buffer (off % 4096) 4)
    else if 0x14000 ≤ off ∧ off < 0x14040 then
      let q := (off - 0x14000) / 16
      let m := s.mailbox q
      (if off % 16 = 4 then s.cqState q else if off % 16 = 12 then flag m.intEnable * 2 ^ 31 + m.vector.toNat else 0)
    else if 0x20000 ≤ off ∧ off < 0x20800 then (s.ring ((off - 0x20000) / 32)).word (off % 32)
    else if 0x100000 ≤ off then s.windowWord (off - 0x100000)
    else 0)

/-! ### The management port -/

/-- The IPv6 link-local address formed from a MAC address: FE80::/64, and the MAC with FF-FE in its middle and the universal bit
turned (R289, log entry 48). -/
def linkLocal (mac : List Byte) : List Byte :=
  [0xFE, 0x80, 0, 0, 0, 0, 0, 0, getAt mac 0 0 ^^^ 2] ++ (mac.drop 1).take 2 ++ [0xFF, 0xFE] ++ mac.drop 3

/-- The management port accepts a datagram for its address and UDP port (R289, R444). -/
def State.mgmtTakes (s : State) (v6 : Bool) (dst : BitVec 128) (dport : BitVec 16) : Bool :=
  let c := s.cmd.mgmt
  decide (dport.toNat = c.udpPort ∧ v6 = decide (c.family ≠ 1) ∧
    toBe 16 dst.toNat = if c.family = 0 then linkLocal (s.macOf 0x1FF) else c.address)

/-- MGMT_DATAGRAM (R289, R291): a datagram that is not exactly one packet, or whose MAGIC is wrong, is discarded. -/
def mgmtDatagram (address : BitVec 128) (udp : BitVec 16) (fragmented : Bool) (payload : List Byte) (s : State) : State :=
  if !s.mgmtLives then s
  else
    let s := { s with power.mgmtUp := true }
    let n := 4 * fld payload 6 2
    let auth := bit (fld payload 3 1) 0
    let src : Source := .mgmt address udp
    if !s.ready 10 then countDevice 11 s
    else if fragmented then countDevice 9 s
    else if payload.length < 16 ∨ fld payload 0 2 ≠ 0x4F4A ∨ payload.length ≠ 16 + n + 16 * flag auth then countDevice 10 s
    else if 4092 < n then sendLocal src s.hier.node (auth && s.hier.deviceKey.isSome) (lengthReply (fld payload 4 2) (BitVec.ofNat 32 (fld payload 8 4))) s
    else match parsePacket src payload with
      | .packet code r => mgmtPacket code r (payload.take (16 + n)) s
      | .noMilestone code r => mgmtPacket code { r with ms := some (2 ^ 56) } (payload.take (16 + n)) s
      | _ => countDevice 10 s

/-- MGMT_LINK_DOWN (R296): the port's link has been down for 1 s. -/
def mgmtDown (s : State) : State := rowRelease 2 3 { s with power.mgmtUp := false }

/-! ### PCIe and the controller -/

/-- PCIE_LINK_LOSS (R296). -/
def pcieLoss (s : State) : State := rowRelease 1 2 s

/-- PERST_N (R356): every queue is IDLE, every ring out of service, L of PCIe undefined, its right of way released. -/
def perst (s : State) : State :=
  rowRelease 1 2 { s with
    cmd.mailboxes := s.cmd.mailboxes.map (fun e => (e.1, { e.2 with state := .idle }))
    cmd.rings := s.cmd.rings.map (fun e => (e.1, { e.2 with enable := false, served := false, active := false, waiting := [] }))
    cmd.pcieSeq := { s.cmd.pcieSeq with last := none } }

/-- ROW_LEASE_EXPIRY (R295, R296). -/
def leaseExpiry (s : State) : State :=
  if decide (s.cmd.lease ≠ 0 ∧ s.cmd.leaseFrom + s.cmd.lease * second ≤ s.time.mono) then rowRelease s.cmd.holder 1 s else s

/-- CMD_DOWN (R303): the management controller resets or stops. -/
def controllerDown (s : State) : State :=
  if !s.cmd.controllerUp then s
  else raise .error 0x5104 [] { s with cmd.controllerUp := false, cmd.controllerReset := true }

/-- The PENDING queue whose packet has the earliest SEQUENCE (R292). -/
def State.nextPending (s : State) : Option (Fin 4) :=
  ([0, 1, 2, 3] : List (Fin 4)).foldl (fun (best : Option (Fin 4)) q =>
    let seq := fun (q : Fin 4) => BitVec.ofNat 32 (beNat (memBytes (s.mailbox q.val).buffer 8 4))
    if (s.mailbox q.val).state ≠ .pending then best
    else match best with
      | none => some q
      | some b => if later (seq b) (seq q) then some q else some b) none

/-- The PENDING queues execute in sequence order, at most `n` of them (R292, R303). -/
def runPending : Nat → State → State
  | 0, s => s
  | n + 1, s => match s.nextPending with
    | none => s
    | some q => runPending n (runMailbox q s)

/-- What an unfinished command of a mailbox had begun is forgotten: an ENROLL that waits, a command sent on. -/
def forget (src : Source) (seq : BitVec 32) (s : State) : State :=
  let other := fun (r : Req) => !decide (r.src = src ∧ r.seq = seq)
  { s with hier.enrolling := s.hier.enrolling.filter (fun e => other e.req)
           cmd.outstanding := s.cmd.outstanding.filter (fun o => other o.req) }

/-- A queue that was EXECUTING as the controller was reset (R303): its reply comes from the cache, and without one the packet
executes from the start. -/
def resumeMailbox (s : State) (q : Fin 4) : State :=
  let m := s.mailbox q.val
  if m.state ≠ .executing then s
  else match parsePacket (.pcie q) (memBytes m.buffer 0 m.count) with
    | .packet code r =>
      match s.cmd.pcieSeq.cache.find? (fun p => decide (p.seq = r.seq)) with
      | some p => sendReply r p s
      | none =>
        let s := forget r.src r.seq s
        if s.elsewhere r then sendOnward code r s else runLocal code r s
    | _ => s

/-- CMD_UP (R303): the controller runs again; the packets that were EXECUTING are finished and the PENDING ones execute. -/
def controllerUp (s : State) : State :=
  if s.cmd.controllerUp || !s.cmd.controllerReset then s
  else
    let s := raise .note 0x5105 [] { s with cmd.controllerUp := true, cmd.controllerReset := false }
    runPending 4 (([0, 1, 2, 3] : List (Fin 4)).foldl resumeMailbox s)

end Sys2Proof.Machine
end

