-- ==== Sys2Proof/Machine/BoardEvents.lean ====
section
/-! DEFINITION. The board interfaces (19_board_interfaces): LED and module-control chains, MOD buses, MOD_INT_N, boundary scan. -/

namespace Sys2Proof.Machine

/-- The pins of the chains and the MOD buses follow their functions: after step 10, and not latched for DORMANT (R345, R415). -/
def State.pinsFree (s : State) : Bool := decide (s.power.bootStep = 0xB) && !s.power.padsLatched && s.board.scan.isNone

/-- The bits of a frame of the LED chain, in the order shifted: the highest logical port number of the part first, link up then
activity (R416). -/
def State.ledBits (s : State) : List Bool :=
  let n := 4 * s.part.ports
  (List.range n).flatMap (fun i =>
    let l := n - 1 - i
    if s.provided l then [(s.lp l).up, s.board.active.contains l] else [false, false])

/-- Density of PLLMON0 or PLLMON1 in eighths (R223, Table 9.4): 7 both PLLs locked, 4 one out of lock, 1 stopped on purpose,
0 unpowered or absent. -/
def State.pllmon (s : State) (d : Nat) : Nat :=
  let c := s.core d
  if !(s.power.porN && (if d = 0 then s.power.vddCore0 else s.power.vddCore1 && decide (s.part.cores = 2))) then 0
  else if c.cclkLock && c.bclkLock then 7
  else if s.asleep || decide (5 ≤ s.power.stage) || !c.initialised then 1
  else 4

/-- Bits [31:12] of IDCODE (R424): the stepping and the low 16 bits of ID_PART. -/
def State.idcodeHigh (s : State) : Nat := (match s.stepping with | .a0 => 0 | .b0 => 1) * 65536 + s.idPart % 65536

/-- LED_FRAME (R416), at a milestone whose number is a multiple of 65,536. -/
def ledFrame (s : State) : State :=
  if s.pinsFree && s.time.running && decide (s.ms.toNat % 65536 = 0) then { s.emit (.led s.ledBits) with board.active := [] } else s

/-- A port's module is put in low-power mode (R417): no enabled logical port, or every enabled one in L-DEEP. -/
def State.lpMode (s : State) (p : Nat) : Bool :=
  ((s.lportsOf p).filter (fun l => (s.lp l).enabled)).all (fun l => decide ((s.lp l).power = 2))

/-- MODCTL_FRAME (R417): a frame starts when a bit has changed since the frame before. -/
def modctlFrame (s : State) : State :=
  let ones := (List.range s.part.ports).filter s.lpMode
  if s.pinsFree && s.time.running && decide (ones ≠ s.board.modctl) then
    { s.emit (.modctl ((List.range s.part.ports).reverse.map ones.contains)) with board.modctl := ones }
  else s

/-- The first write due on a MOD bus (R413): bus k serves the modules of P(8k) to P(8k+7). -/
def State.busWrite (s : State) (bus : Nat) : Option ModWrite := s.board.modWrites.find? (fun w => decide (w.port / 8 = bus))

/-- MOD_BUS_WRITE (R411, R412): the tenure of the first write due on a bus ends. A write is an address, the multiplexer's 0x70 or
the module byte's, and a byte. -/
def modTenure (bus : Nat) (result : ModResult) (s : State) : State :=
  if !s.pinsFree then s
  else match s.busWrite bus with
    | none => s
    | some w =>
      let gone := { s with board.modWrites := s.board.modWrites.erase w }
      let port := BitVec.ofNat 8 w.port
      match result with
      | .done mux bank page data =>
        let bits := BitVec.ofNat 8 ((data.toNat &&& (255 - w.mask)) ||| w.bits)
        gone.emit (.modBus bus [(0x70, BitVec.ofNat 8 (2 ^ (w.port % 8))), (126, 0), (127, 0x10), (128, bits), (126, bank), (127, page),
          (0x70, mux)])
      | .lostArbitration =>
        if 7 ≤ w.losses then raise .error 0x3108 [BitVec.ofNat 8 bus, port] gone
        else { s with board.modWrites := s.board.modWrites.map (fun v => if v = w then { v with losses := v.losses + 1 } else v) }
      | .stretch => raise .error 0x3108 [BitVec.ofNat 8 bus, port] gone
      | .nack => raise .warn 0x3107 [port] gone

/-- MOD_INT_N_FALL (R414). -/
def moduleInterrupt (s : State) : State := raise .note 0x3109 [] s

/-- The pins of the boundary register follow an instruction (R426). -/
def TapInstr.holdsPins : TapInstr → Bool
  | .extest | .extestPulse | .extestTrain | .clamp | .highz => true
  | .bypass | .idcode | .samplePreload => false

/-- Every pin returns to its function; an output restarts on its next edge, so that no pulse is in progress (R426). -/
def freePins (s : State) : State :=
  if s.board.scan.isNone then s
  else { s with board.scan := none, time.compares := s.time.compares.map (fun e => (e.1, { e.2 with pulseEnd := none })) }

/-- TAP_INSTRUCTION (R426): the pins follow the instruction at once, so that the outputs carry boundary values; every link goes down and
the PCIe link drops. -/
def tapLoad (i : TapInstr) (s : State) : State :=
  if !s.power.vddCore0 then s
  else if TapInstr.holdsPins i then
    pcieLoss (linksDown (s.enabledPorts.filter (fun l => (s.lp l).up))
      ((s.clk.outs.map (·.1)).foldl (fun s n => cutOut n s) { s with board.scan := some i }))
  else freePins s

/-- LED_FRAME (R416). -/
def execLedFrame (dt : Nat) (s : State) : Host.Outcome State Fault Refusal := occur dt s ledFrame

/-- MODCTL_FRAME (R417). -/
def execModctlFrame (dt : Nat) (s : State) : Host.Outcome State Fault Refusal := occur dt s modctlFrame

/-- MOD_BUS_WRITE (R411). -/
def execModBusWrite (dt bus : Nat) (result : ModResult) (s : State) : Host.Outcome State Fault Refusal := occur dt s (modTenure bus result)

/-- MOD_INT_N_FALL (R414). -/
def execModIntNFall (dt : Nat) (s : State) : Host.Outcome State Fault Refusal := occur dt s moduleInterrupt

/-- TAP_INSTRUCTION (R426). -/
def execTapInstruction (dt : Nat) (instruction : TapInstr) (s : State) : Host.Outcome State Fault Refusal := occur dt s (tapLoad instruction)

/-- TAP_RESET (R426). -/
def execTapReset (dt : Nat) (s : State) : Host.Outcome State Fault Refusal := occur dt s freePins

end Sys2Proof.Machine
end

