-- ==== Sys2Proof/Machine/Commands.lean ====
section
/-! DEFINITION. The opcode commands of 13_command_reference: one packet with the named opcode arrives from a transport. -/

namespace Sys2Proof.Machine

/-- DEVICE_INFO (R319). -/
def execDeviceInfo (dt : Nat) (r : Req) (s : State) : Host.Outcome State Fault Refusal := occur dt s (arrive 0x0101 r)

/-- ROW_CLAIM (R295). -/
def execRowClaim (dt : Nat) (r : Req) (s : State) : Host.Outcome State Fault Refusal := occur dt s (arrive 0x0102 r)

/-- ROW_YIELD (R295). -/
def execRowYield (dt : Nat) (r : Req) (s : State) : Host.Outcome State Fault Refusal := occur dt s (arrive 0x0103 r)

/-- CMD_SYNC (R293). -/
def execCmdSync (dt : Nat) (r : Req) (s : State) : Host.Outcome State Fault Refusal := occur dt s (arrive 0x0104 r)

/-- CMD_STATUS (R319). -/
def execCmdStatus (dt : Nat) (r : Req) (s : State) : Host.Outcome State Fault Refusal := occur dt s (arrive 0x0105 r)

/-- MGMT_CONFIG (R289). -/
def execMgmtConfig (dt : Nat) (r : Req) (s : State) : Host.Outcome State Fault Refusal := occur dt s (arrive 0x0106 r)

/-- MODE_SET (R333). -/
def execModeSet (dt : Nat) (r : Req) (s : State) : Host.Outcome State Fault Refusal := occur dt s (arrive 0x0107 r)

/-- MODE_STATUS (R319). -/
def execModeStatus (dt : Nat) (r : Req) (s : State) : Host.Outcome State Fault Refusal := occur dt s (arrive 0x0108 r)

/-- AVS_REQUEST (R334). -/
def execAvsRequest (dt : Nat) (r : Req) (s : State) : Host.Outcome State Fault Refusal := occur dt s (arrive 0x0109 r)

/-- AVS_STATUS (R335). -/
def execAvsStatus (dt : Nat) (r : Req) (s : State) : Host.Outcome State Fault Refusal := occur dt s (arrive 0x010A r)

/-- SHED_CONFIG (R340). -/
def execShedConfig (dt : Nat) (r : Req) (s : State) : Host.Outcome State Fault Refusal := occur dt s (arrive 0x010B r)

/-- PAD_RELEASE (R345). -/
def execPadRelease (dt : Nat) (r : Req) (s : State) : Host.Outcome State Fault Refusal := occur dt s (arrive 0x010C r)

/-- DORMANT_CONFIG (R346). -/
def execDormantConfig (dt : Nat) (r : Req) (s : State) : Host.Outcome State Fault Refusal := occur dt s (arrive 0x010D r)

/-- VIGIL_READ (R351). -/
def execVigilRead (dt : Nat) (r : Req) (s : State) : Host.Outcome State Fault Refusal := occur dt s (arrive 0x010E r)

/-- VIGIL_SCRATCH (R351). -/
def execVigilScratch (dt : Nat) (r : Req) (s : State) : Host.Outcome State Fault Refusal := occur dt s (arrive 0x010F r)

/-- TABLE_RESTORE (R349). -/
def execTableRestore (dt : Nat) (r : Req) (s : State) : Host.Outcome State Fault Refusal := occur dt s (arrive 0x0110 r)

/-- PORT_BREAKOUT (R144). -/
def execPortBreakout (dt : Nat) (r : Req) (s : State) : Host.Outcome State Fault Refusal := occur dt s (arrive 0x0201 r)

/-- PORT_CONFIG (R151). -/
def execPortConfig (dt : Nat) (r : Req) (s : State) : Host.Outcome State Fault Refusal := occur dt s (arrive 0x0202 r)

/-- PORT_ENABLE (R146). -/
def execPortEnable (dt : Nat) (r : Req) (s : State) : Host.Outcome State Fault Refusal := occur dt s (arrive 0x0203 r)

/-- PORT_DISABLE (R146). -/
def execPortDisable (dt : Nat) (r : Req) (s : State) : Host.Outcome State Fault Refusal := occur dt s (arrive 0x0204 r)

/-- PORT_STATUS (R320). -/
def execPortStatus (dt : Nat) (r : Req) (s : State) : Host.Outcome State Fault Refusal := occur dt s (arrive 0x0205 r)

/-- LANE_TX_EQ (R150). -/
def execLaneTxEq (dt : Nat) (r : Req) (s : State) : Host.Outcome State Fault Refusal := occur dt s (arrive 0x0206 r)

/-- LANE_RX_CONFIG (R142). -/
def execLaneRxConfig (dt : Nat) (r : Req) (s : State) : Host.Outcome State Fault Refusal := occur dt s (arrive 0x0207 r)

/-- LANE_POWER (R155). -/
def execLanePower (dt : Nat) (r : Req) (s : State) : Host.Outcome State Fault Refusal := occur dt s (arrive 0x0208 r)

/-- LANE_LOOP (R160). -/
def execLaneLoop (dt : Nat) (r : Req) (s : State) : Host.Outcome State Fault Refusal := occur dt s (arrive 0x0209 r)

/-- PRBS_CONFIG (R162). -/
def execPrbsConfig (dt : Nat) (r : Req) (s : State) : Host.Outcome State Fault Refusal := occur dt s (arrive 0x020A r)

/-- PRBS_STATUS (R162). -/
def execPrbsStatus (dt : Nat) (r : Req) (s : State) : Host.Outcome State Fault Refusal := occur dt s (arrive 0x020B r)

/-- FEC_HISTOGRAM (R153). -/
def execFecHistogram (dt : Nat) (r : Req) (s : State) : Host.Outcome State Fault Refusal := occur dt s (arrive 0x020C r)

/-- LANE_STATUS (R320). -/
def execLaneStatus (dt : Nat) (r : Req) (s : State) : Host.Outcome State Fault Refusal := occur dt s (arrive 0x020D r)

/-- L2_WRITE (R69). -/
def execL2Write (dt : Nat) (r : Req) (s : State) : Host.Outcome State Fault Refusal := occur dt s (arrive 0x0301 r)

/-- L2_DELETE (R321). -/
def execL2Delete (dt : Nat) (r : Req) (s : State) : Host.Outcome State Fault Refusal := occur dt s (arrive 0x0302 r)

/-- LPM_WRITE (R71). -/
def execLpmWrite (dt : Nat) (r : Req) (s : State) : Host.Outcome State Fault Refusal := occur dt s (arrive 0x0303 r)

/-- LPM_DELETE (R321). -/
def execLpmDelete (dt : Nat) (r : Req) (s : State) : Host.Outcome State Fault Refusal := occur dt s (arrive 0x0304 r)

/-- NEXTHOP_WRITE (R77). -/
def execNexthopWrite (dt : Nat) (r : Req) (s : State) : Host.Outcome State Fault Refusal := occur dt s (arrive 0x0305 r)

/-- ECMP_WRITE (R75). -/
def execEcmpWrite (dt : Nat) (r : Req) (s : State) : Host.Outcome State Fault Refusal := occur dt s (arrive 0x0306 r)

/-- ACL_WRITE (R78). -/
def execAclWrite (dt : Nat) (r : Req) (s : State) : Host.Outcome State Fault Refusal := occur dt s (arrive 0x0307 r)

/-- ACL_DELETE (R321). -/
def execAclDelete (dt : Nat) (r : Req) (s : State) : Host.Outcome State Fault Refusal := occur dt s (arrive 0x0308 r)

/-- MCGROUP_WRITE (R76). -/
def execMcgroupWrite (dt : Nat) (r : Req) (s : State) : Host.Outcome State Fault Refusal := occur dt s (arrive 0x0309 r)

/-- LPORT_FWD_CONFIG (R55). -/
def execLportFwdConfig (dt : Nat) (r : Req) (s : State) : Host.Outcome State Fault Refusal := occur dt s (arrive 0x030A r)

/-- CLASS_MAPS (R79). -/
def execClassMaps (dt : Nat) (r : Req) (s : State) : Host.Outcome State Fault Refusal := occur dt s (arrive 0x030B r)

/-- MIRROR_SESSION (R81). -/
def execMirrorSession (dt : Nat) (r : Req) (s : State) : Host.Outcome State Fault Refusal := occur dt s (arrive 0x030C r)

/-- PUNT_CONFIG (R85). -/
def execPuntConfig (dt : Nat) (r : Req) (s : State) : Host.Outcome State Fault Refusal := occur dt s (arrive 0x030D r)

/-- ETHERTYPES (R61). -/
def execEthertypes (dt : Nat) (r : Req) (s : State) : Host.Outcome State Fault Refusal := occur dt s (arrive 0x030E r)

/-- ECMP_SEED (R73). -/
def execEcmpSeed (dt : Nat) (r : Req) (s : State) : Host.Outcome State Fault Refusal := occur dt s (arrive 0x030F r)

/-- TABLE_READ (R321). -/
def execTableRead (dt : Nat) (r : Req) (s : State) : Host.Outcome State Fault Refusal := occur dt s (arrive 0x0310 r)

/-- TABLE_USAGE (R321). -/
def execTableUsage (dt : Nat) (r : Req) (s : State) : Host.Outcome State Fault Refusal := occur dt s (arrive 0x0311 r)

/-- POOLS_CONFIG (R95). -/
def execPoolsConfig (dt : Nat) (r : Req) (s : State) : Host.Outcome State Fault Refusal := occur dt s (arrive 0x0401 r)

/-- POOLS_ENABLE (R95). -/
def execPoolsEnable (dt : Nat) (r : Req) (s : State) : Host.Outcome State Fault Refusal := occur dt s (arrive 0x0402 r)

/-- QUEUE_CONFIG (R103). -/
def execQueueConfig (dt : Nat) (r : Req) (s : State) : Host.Outcome State Fault Refusal := occur dt s (arrive 0x0403 r)

/-- PFC_CONFIG (R99). -/
def execPfcConfig (dt : Nat) (r : Req) (s : State) : Host.Outcome State Fault Refusal := occur dt s (arrive 0x0404 r)

/-- PORT_HOLD (R106). -/
def execPortHold (dt : Nat) (r : Req) (s : State) : Host.Outcome State Fault Refusal := occur dt s (arrive 0x0405 r)

/-- MCAST_CONFIG (R113). -/
def execMcastConfig (dt : Nat) (r : Req) (s : State) : Host.Outcome State Fault Refusal := occur dt s (arrive 0x0406 r)

/-- BUFFER_STATUS (R322). -/
def execBufferStatus (dt : Nat) (r : Req) (s : State) : Host.Outcome State Fault Refusal := occur dt s (arrive 0x0407 r)

/-- CALENDAR_WRITE (R116). -/
def execCalendarWrite (dt : Nat) (r : Req) (s : State) : Host.Outcome State Fault Refusal := occur dt s (arrive 0x0501 r)

/-- CALENDAR_ENABLE (R126). -/
def execCalendarEnable (dt : Nat) (r : Req) (s : State) : Host.Outcome State Fault Refusal := occur dt s (arrive 0x0502 r)

/-- CALENDAR_DISABLE (R129). -/
def execCalendarDisable (dt : Nat) (r : Req) (s : State) : Host.Outcome State Fault Refusal := occur dt s (arrive 0x0503 r)

/-- CALENDAR_READ (R323). -/
def execCalendarRead (dt : Nat) (r : Req) (s : State) : Host.Outcome State Fault Refusal := occur dt s (arrive 0x0504 r)

/-- CALENDAR_STATUS (R323). -/
def execCalendarStatus (dt : Nat) (r : Req) (s : State) : Host.Outcome State Fault Refusal := occur dt s (arrive 0x0505 r)

/-- SCHED_CONFIG (R135). -/
def execSchedConfig (dt : Nat) (r : Req) (s : State) : Host.Outcome State Fault Refusal := occur dt s (arrive 0x0506 r)

/-- DEADLINE_BUDGET (R131). -/
def execDeadlineBudget (dt : Nat) (r : Req) (s : State) : Host.Outcome State Fault Refusal := occur dt s (arrive 0x0507 r)

/-- TIME_GET (R324). -/
def execTimeGet (dt : Nat) (r : Req) (s : State) : Host.Outcome State Fault Refusal := occur dt s (arrive 0x0601 r)

/-- TIME_SET (R40). -/
def execTimeSet (dt : Nat) (r : Req) (s : State) : Host.Outcome State Fault Refusal := occur dt s (arrive 0x0602 r)

/-- TIME_STEP (R40). -/
def execTimeStep (dt : Nat) (r : Req) (s : State) : Host.Outcome State Fault Refusal := occur dt s (arrive 0x0603 r)

/-- TIME_STEP_CANCEL (R41). -/
def execTimeStepCancel (dt : Nat) (r : Req) (s : State) : Host.Outcome State Fault Refusal := occur dt s (arrive 0x0604 r)

/-- TIME_ACCEPT_JUMP (R38). -/
def execTimeAcceptJump (dt : Nat) (r : Req) (s : State) : Host.Outcome State Fault Refusal := occur dt s (arrive 0x0605 r)

/-- TIME_THRESHOLDS (R35). -/
def execTimeThresholds (dt : Nat) (r : Req) (s : State) : Host.Outcome State Fault Refusal := occur dt s (arrive 0x0606 r)

/-- TIME_SCALE (R33). -/
def execTimeScale (dt : Nat) (r : Req) (s : State) : Host.Outcome State Fault Refusal := occur dt s (arrive 0x0607 r)

/-- COMPARE_CLAIM (R46). -/
def execCompareClaim (dt : Nat) (r : Req) (s : State) : Host.Outcome State Fault Refusal := occur dt s (arrive 0x0610 r)

/-- COMPARE_ARM (R47). -/
def execCompareArm (dt : Nat) (r : Req) (s : State) : Host.Outcome State Fault Refusal := occur dt s (arrive 0x0611 r)

/-- COMPARE_DISARM (R50). -/
def execCompareDisarm (dt : Nat) (r : Req) (s : State) : Host.Outcome State Fault Refusal := occur dt s (arrive 0x0612 r)

/-- COMPARE_RELEASE (R50). -/
def execCompareRelease (dt : Nat) (r : Req) (s : State) : Host.Outcome State Fault Refusal := occur dt s (arrive 0x0613 r)

/-- COMPARE_STATUS (R324). -/
def execCompareStatus (dt : Nat) (r : Req) (s : State) : Host.Outcome State Fault Refusal := occur dt s (arrive 0x0614 r)

/-- TIMING_CONFIG (R165). -/
def execTimingConfig (dt : Nat) (r : Req) (s : State) : Host.Outcome State Fault Refusal := occur dt s (arrive 0x0620 r)

/-- AX_CONFIG (R173). -/
def execAxConfig (dt : Nat) (r : Req) (s : State) : Host.Outcome State Fault Refusal := occur dt s (arrive 0x0621 r)

/-- LINK_ASYM (R181). -/
def execLinkAsym (dt : Nat) (r : Req) (s : State) : Host.Outcome State Fault Refusal := occur dt s (arrive 0x0622 r)

/-- AX_STATUS (R324). -/
def execAxStatus (dt : Nat) (r : Req) (s : State) : Host.Outcome State Fault Refusal := occur dt s (arrive 0x0623 r)

/-- PTP_PORT_CONFIG (R187). -/
def execPtpPortConfig (dt : Nat) (r : Req) (s : State) : Host.Outcome State Fault Refusal := occur dt s (arrive 0x0624 r)

/-- PTP_CLOCK_CONFIG (R187). -/
def execPtpClockConfig (dt : Nat) (r : Req) (s : State) : Host.Outcome State Fault Refusal := occur dt s (arrive 0x0625 r)

/-- PTP_STATUS (R187). -/
def execPtpStatus (dt : Nat) (r : Req) (s : State) : Host.Outcome State Fault Refusal := occur dt s (arrive 0x0626 r)

/-- REFTABLE_WRITE (R194). -/
def execReftableWrite (dt : Nat) (r : Req) (s : State) : Host.Outcome State Fault Refusal := occur dt s (arrive 0x0701 r)

/-- REFTABLE_ENABLE (R194). -/
def execReftableEnable (dt : Nat) (r : Req) (s : State) : Host.Outcome State Fault Refusal := occur dt s (arrive 0x0702 r)

/-- REF_MONITOR_CONFIG (R197). -/
def execRefMonitorConfig (dt : Nat) (r : Req) (s : State) : Host.Outcome State Fault Refusal := occur dt s (arrive 0x0703 r)

/-- DPLL_CONFIG (R215). -/
def execDpllConfig (dt : Nat) (r : Req) (s : State) : Host.Outcome State Fault Refusal := occur dt s (arrive 0x0704 r)

/-- REF_FORCE (R202). -/
def execRefForce (dt : Nat) (r : Req) (s : State) : Host.Outcome State Fault Refusal := occur dt s (arrive 0x0705 r)

/-- REF_CLEAR (R206). -/
def execRefClear (dt : Nat) (r : Req) (s : State) : Host.Outcome State Fault Refusal := occur dt s (arrive 0x0706 r)

/-- REF_STATUS (R325). -/
def execRefStatus (dt : Nat) (r : Req) (s : State) : Host.Outcome State Fault Refusal := occur dt s (arrive 0x0707 r)

/-- DPLL_STATUS (R325). -/
def execDpllStatus (dt : Nat) (r : Req) (s : State) : Host.Outcome State Fault Refusal := occur dt s (arrive 0x0708 r)

/-- CLOCK_STATUS (R326). -/
def execClockStatus (dt : Nat) (r : Req) (s : State) : Host.Outcome State Fault Refusal := occur dt s (arrive 0x0801 r)

/-- RAMP_PROFILE (R229). -/
def execRampProfile (dt : Nat) (r : Req) (s : State) : Host.Outcome State Fault Refusal := occur dt s (arrive 0x0802 r)

/-- RAMP_START (R230). -/
def execRampStart (dt : Nat) (r : Req) (s : State) : Host.Outcome State Fault Refusal := occur dt s (arrive 0x0803 r)

/-- RAMP_STATUS (R326). -/
def execRampStatus (dt : Nat) (r : Req) (s : State) : Host.Outcome State Fault Refusal := occur dt s (arrive 0x0804 r)

/-- CLK_OUT_CONFIG (R234). -/
def execClkOutConfig (dt : Nat) (r : Req) (s : State) : Host.Outcome State Fault Refusal := occur dt s (arrive 0x0805 r)

/-- LANE_PLL_CONFIG (R224). -/
def execLanePllConfig (dt : Nat) (r : Req) (s : State) : Host.Outcome State Fault Refusal := occur dt s (arrive 0x0806 r)

/-- TIO_CLAIM (R268). -/
def execTioClaim (dt : Nat) (r : Req) (s : State) : Host.Outcome State Fault Refusal := occur dt s (arrive 0x0901 r)

/-- TIO_RELEASE (R269). -/
def execTioRelease (dt : Nat) (r : Req) (s : State) : Host.Outcome State Fault Refusal := occur dt s (arrive 0x0902 r)

/-- TDC_CONFIG (R277). -/
def execTdcConfig (dt : Nat) (r : Req) (s : State) : Host.Outcome State Fault Refusal := occur dt s (arrive 0x0903 r)

/-- TDC_ENABLE (R277). -/
def execTdcEnable (dt : Nat) (r : Req) (s : State) : Host.Outcome State Fault Refusal := occur dt s (arrive 0x0904 r)

/-- TDC_DISABLE (R278). -/
def execTdcDisable (dt : Nat) (r : Req) (s : State) : Host.Outcome State Fault Refusal := occur dt s (arrive 0x0905 r)

/-- TDC_STATUS (R327). -/
def execTdcStatus (dt : Nat) (r : Req) (s : State) : Host.Outcome State Fault Refusal := occur dt s (arrive 0x0906 r)

/-- TDC_RESULT (R281). -/
def execTdcResult (dt : Nat) (r : Req) (s : State) : Host.Outcome State Fault Refusal := occur dt s (arrive 0x0907 r)

/-- COUNTER_READ (R383). -/
def execCounterRead (dt : Nat) (r : Req) (s : State) : Host.Outcome State Fault Refusal := occur dt s (arrive 0x0A01 r)

/-- SNAPSHOT_CONFIG (R381). -/
def execSnapshotConfig (dt : Nat) (r : Req) (s : State) : Host.Outcome State Fault Refusal := occur dt s (arrive 0x0A02 r)

/-- SNAPSHOT_NOW (R381). -/
def execSnapshotNow (dt : Nat) (r : Req) (s : State) : Host.Outcome State Fault Refusal := occur dt s (arrive 0x0A03 r)

/-- FILTER_CONFIG (R384). -/
def execFilterConfig (dt : Nat) (r : Req) (s : State) : Host.Outcome State Fault Refusal := occur dt s (arrive 0x0A04 r)

/-- STICKY_CLEAR (R380). -/
def execStickyClear (dt : Nat) (r : Req) (s : State) : Host.Outcome State Fault Refusal := occur dt s (arrive 0x0A05 r)

/-- TAG_CONFIG (R387). -/
def execTagConfig (dt : Nat) (r : Req) (s : State) : Host.Outcome State Fault Refusal := occur dt s (arrive 0x0A06 r)

/-- RECORDER_READ (R401). -/
def execRecorderRead (dt : Nat) (r : Req) (s : State) : Host.Outcome State Fault Refusal := occur dt s (arrive 0x0B01 r)

/-- RECORDER_FREEZE (R393). -/
def execRecorderFreeze (dt : Nat) (r : Req) (s : State) : Host.Outcome State Fault Refusal := occur dt s (arrive 0x0B02 r)

/-- RECORDER_CONFIG (R394). -/
def execRecorderConfig (dt : Nat) (r : Req) (s : State) : Host.Outcome State Fault Refusal := occur dt s (arrive 0x0B03 r)

/-- RECORDER_STATUS (R402). -/
def execRecorderStatus (dt : Nat) (r : Req) (s : State) : Host.Outcome State Fault Refusal := occur dt s (arrive 0x0B04 r)

/-- CAL_EXPORT (R374). -/
def execCalExport (dt : Nat) (r : Req) (s : State) : Host.Outcome State Fault Refusal := occur dt s (arrive 0x0C01 r)

/-- CAL_STAGE (R329). -/
def execCalStage (dt : Nat) (r : Req) (s : State) : Host.Outcome State Fault Refusal := occur dt s (arrive 0x0C02 r)

/-- CAL_IMPORT (R375). -/
def execCalImport (dt : Nat) (r : Req) (s : State) : Host.Outcome State Fault Refusal := occur dt s (arrive 0x0C03 r)

/-- CAL_WRITE (R372). -/
def execCalWrite (dt : Nat) (r : Req) (s : State) : Host.Outcome State Fault Refusal := occur dt s (arrive 0x0C04 r)

/-- CAL_STATUS (R329). -/
def execCalStatus (dt : Nat) (r : Req) (s : State) : Host.Outcome State Fault Refusal := occur dt s (arrive 0x0C05 r)

/-- HIER_STATUS (R330). -/
def execHierStatus (dt : Nat) (r : Req) (s : State) : Host.Outcome State Fault Refusal := occur dt s (arrive 0x0D01 r)

/-- HIER_CONFIG (R242). -/
def execHierConfig (dt : Nat) (r : Req) (s : State) : Host.Outcome State Fault Refusal := occur dt s (arrive 0x0D02 r)

/-- KEY_PROVISION (R247). -/
def execKeyProvision (dt : Nat) (r : Req) (s : State) : Host.Outcome State Fault Refusal := occur dt s (arrive 0x0D03 r)

/-- FABRIC_KEY_SET (R247). -/
def execFabricKeySet (dt : Nat) (r : Req) (s : State) : Host.Outcome State Fault Refusal := occur dt s (arrive 0x0D04 r)

/-- ENROLL (R248). -/
def execEnroll (dt : Nat) (r : Req) (s : State) : Host.Outcome State Fault Refusal := occur dt s (arrive 0x0D05 r)

/-- RELEASE_WORKER (R251). -/
def execReleaseWorker (dt : Nat) (r : Req) (s : State) : Host.Outcome State Fault Refusal := occur dt s (arrive 0x0D06 r)

/-- FABRIC_KEY_ROLL (R262). -/
def execFabricKeyRoll (dt : Nat) (r : Req) (s : State) : Host.Outcome State Fault Refusal := occur dt s (arrive 0x0D07 r)

/-- HIER_EPOCHS (R261). -/
def execHierEpochs (dt : Nat) (r : Req) (s : State) : Host.Outcome State Fault Refusal := occur dt s (arrive 0x0D08 r)

/-- ENROLL_REQ (R249). -/
def execEnrollReq (dt : Nat) (r : Req) (s : State) : Host.Outcome State Fault Refusal := occur dt s (arrive 0x0D10 r)

/-- RELEASE (R251). -/
def execRelease (dt : Nat) (r : Req) (s : State) : Host.Outcome State Fault Refusal := occur dt s (arrive 0x0D11 r)

/-- ANNOUNCE_STEP (R259). -/
def execAnnounceStep (dt : Nat) (r : Req) (s : State) : Host.Outcome State Fault Refusal := occur dt s (arrive 0x0D20 r)

/-- ANNOUNCE_TIMESCALE (R259). -/
def execAnnounceTimescale (dt : Nat) (r : Req) (s : State) : Host.Outcome State Fault Refusal := occur dt s (arrive 0x0D21 r)

/-- ANNOUNCE_EPOCHS (R259). -/
def execAnnounceEpochs (dt : Nat) (r : Req) (s : State) : Host.Outcome State Fault Refusal := occur dt s (arrive 0x0D22 r)

/-- ANNOUNCE_SETTINGS (R259). -/
def execAnnounceSettings (dt : Nat) (r : Req) (s : State) : Host.Outcome State Fault Refusal := occur dt s (arrive 0x0D23 r)

/-- ANNOUNCE_KEY (R259). -/
def execAnnounceKey (dt : Nat) (r : Req) (s : State) : Host.Outcome State Fault Refusal := occur dt s (arrive 0x0D24 r)

/-- TEST_BIST (R331). -/
def execTestBist (dt : Nat) (r : Req) (s : State) : Host.Outcome State Fault Refusal := occur dt s (arrive 0x0E01 r)

/-- TEST_STATUS (R331). -/
def execTestStatus (dt : Nat) (r : Req) (s : State) : Host.Outcome State Fault Refusal := occur dt s (arrive 0x0E02 r)

end Sys2Proof.Machine
end

