-- ==== Sys2Proof/Machine/ForwardEvents.lean ====
section
/-! DEFINITION. What happens to frames, queues, pauses and calendars (03_forwarding_pipeline, 04_buffers_and_queues,
05_scheduled_and_deadline_service). -/

namespace Sys2Proof.Machine

/-- An IEEE 1588 message, which the pipeline delivers to the management controller (R187, R332, Table 7.5): of any kind where no
frame is forwarded, else in the transport of a PTP port that runs on this timing logical port (log entry 52). The message itself
comes with PTP_MESSAGE. -/
def State.ptpTaken (s : State) (l : Nat) (d : List Byte) : Bool :=
  let p := parse s.fwd.etWaymark d
  let udp := decide (p.proto = 17 ∧ (p.l4dst = 319 ∨ p.l4dst = 320))
  let kinds := [decide (p.etherType = 0x88F7), p.ip4.isSome && udp, p.ip6.isSome && udp]
  let port := (s.link (portOf l)).ptp
  if s.forwards then port.enable && decide (s.timingLport (portOf l) = l) && getAt kinds port.transport false else kinds.any id

/-- PIPELINE_FRAME (R52, R53, R60, R68): a pipeline takes its next whole frame. DESIGN CHOICE (log entry 58): the AX and command
EtherTypes are looked for at offset 12 alone, so that behind a tag they are those of an ordinary frame. -/
def pipelineNow (pl : Nat) (s : State) : State :=
  match takeFrame pl s with
  | (none, s) => s
  | (some (r, host), s) =>
    if !r.fcsOk then dropIn r.lport 1 none host r.data s
    else if fld r.data 12 2 = s.fwd.etCommand then inbandBytesIn r.lport r.data s
    else if !host && s.ptpTaken r.lport r.data then s
    else forward pl r host s

/-- RX_FRAME (R54). -/
def execRxFrame (dt lport : Nat) (arrival : Arrival) (frame : List Byte) (s : State) : Host.Outcome State Fault Refusal :=
  occur dt s (receive lport arrival.ago arrival.mates frame)

/-- PIPELINE_FRAME (R68). -/
def execPipelineFrame (dt pipeline : Nat) (s : State) : Host.Outcome State Fault Refusal := occur dt s (pipelineNow pipeline)

/-- INJECT_FRAME (R86). -/
def execInjectFrame (dt : Nat) (record : List Byte) (s : State) : Host.Outcome State Fault Refusal := occur dt s (injectNow record)

/-- DEQUEUE (R135), behind an AX message that waits for the frame boundary (R174). -/
def execDequeue (dt lport : Nat) (sound : Bool) (s : State) : Host.Outcome State Fault Refusal :=
  occur dt s (fun s => dequeueNow lport sound (axAhead lport s))

/-- XOFF_REPEAT (R100). -/
def execXoffRepeat (dt lport priority : Nat) (s : State) : Host.Outcome State Fault Refusal := occur dt s (repeatXoff lport priority)

/-- MAC_CONTROL_RX (R98). -/
def execMacControlRx (dt lport : Nat) (frame : ControlFrame) (s : State) : Host.Outcome State Fault Refusal :=
  occur dt s (macControl lport frame.ago frame.bytes)

/-- PFC_PAUSE_START (R102). -/
def execPfcPauseStart (dt lport priority : Nat) (s : State) : Host.Outcome State Fault Refusal := occur dt s (pauseStart lport priority)

/-- PFC_PAUSE_END (R102). -/
def execPfcPauseEnd (dt lport priority : Nat) (s : State) : Host.Outcome State Fault Refusal := occur dt s (pauseEnd lport priority)

/-- RESIDUE_RETRY (R113). -/
def execResidueRetry (dt : Nat) (s : State) : Host.Outcome State Fault Refusal := occur dt s residueRetry

/-- DEADLINE_HEAD_CHECK (R134). -/
def execDeadlineHeadCheck (dt : Nat) (s : State) : Host.Outcome State Fault Refusal := occur dt s expireHeads

/-- PORT_HOLD_END (R107). -/
def execPortHoldEnd (dt lport : Nat) (s : State) : Host.Outcome State Fault Refusal := occur dt s (holdEnd lport)

/-- RELEASE_INSTANT (R121). -/
def execReleaseInstant (dt : Nat) (release : Release) (s : State) : Host.Outcome State Fault Refusal :=
  occur dt s (releaseNow release.lport release.sound)

/-- WINDOW_CLOSE (R123), and directly after it the AX message that the window deferred (R125). -/
def execWindowClose (dt lport : Nat) (s : State) : Host.Outcome State Fault Refusal :=
  occur dt s (fun s => axAhead lport (closeWindow lport s))

/-- CALENDAR_SWAP (R127). -/
def execCalendarSwap (dt lport : Nat) (s : State) : Host.Outcome State Fault Refusal := occur dt s (swapCalendar lport)

/-- CALENDAR_REMOVAL (R129). -/
def execCalendarRemoval (dt lport : Nat) (s : State) : Host.Outcome State Fault Refusal := occur dt s (removalNow lport)

end Sys2Proof.Machine
end

