-- ==== Sys2Proof/Machine/MeasureEvents.lean ====
section
/-! DEFINITION. What happens on TDC channels, counters and the recorder (11_time_interval_measurement,
17_counters_and_tagging, 18_event_recorder). -/

namespace Sys2Proof.Machine

/-- TDC_GATE_CLOSE (R276, R281): a window that has reached its stop closes; the reports of the gates closed are stored. -/
def gateDone (n : Nat) (s : State) : State :=
  let s := windowClose n s.time.count s
  storeReports n (s.chan n).closing.length s

/-- RECORD_STORE (R396, R397): the head of the pending queue is written to its slot while RECORDER is ready. -/
def storeRecord (s : State) : State :=
  match s.log.queue with
  | [] => s
  | r :: rest =>
    if !s.ready 8 then s
    else
      let s := { s with log.queue := rest }
      match slotFor r s.log.slots with
      | none => { s with log.dropped := satNat 32 (s.log.dropped + 1) }
      | some k => { s with log.slots := tput s.log.slots k r, log.torn := s.log.torn.erase k }

/-- RECORDER_UNFROZEN (R393). -/
def unfreeze (s : State) : State :=
  match s.log.frozen with
  | none => s
  | some t => if t + 60 * second ≤ s.time.mono then raise .warn 0x6302 [] { s with log.frozen := none } else s

/-- RATE_WINDOW_END (R394). -/
def rateWindow (s : State) : State :=
  let w := s.time.mono / second
  if w = s.log.window then s else { s with log.window := w, log.accepted := [] }

/-- TDC_EDGE (R270). -/
def execTdcEdge (dt channel : Nat) (falling : Bool) (s : State) : Host.Outcome State Fault Refusal := occur dt s (takeEdge channel falling)

/-- TDC_GATE_EDGE (R275). -/
def execTdcGateEdge (dt pin : Nat) (level : Bool) (s : State) : Host.Outcome State Fault Refusal := occur dt s (gateEdge pin level)

/-- TDC_WINDOW_OPEN (R276). -/
def execTdcWindowOpen (dt channel : Nat) (s : State) : Host.Outcome State Fault Refusal := occur dt s (fun s => windowOpen channel s.time.count s)

/-- TDC_GATE_CLOSE (R281). -/
def execTdcGateClose (dt channel : Nat) (s : State) : Host.Outcome State Fault Refusal := occur dt s (gateDone channel)

/-- SNAPSHOT (R381). -/
def execSnapshot (dt : Nat) (s : State) : Host.Outcome State Fault Refusal := occur dt s snapshotDue

/-- SNAPSHOT_LATCHED (R383). -/
def execSnapshotLatched (dt : Nat) (s : State) : Host.Outcome State Fault Refusal := occur dt s changeOver

/-- RECORD_STORE (R397). -/
def execRecordStore (dt : Nat) (s : State) : Host.Outcome State Fault Refusal := occur dt s storeRecord

/-- RECORDER_UNFROZEN (R393). -/
def execRecorderUnfrozen (dt : Nat) (s : State) : Host.Outcome State Fault Refusal := occur dt s unfreeze

/-- RATE_WINDOW_END (R394). -/
def execRateWindowEnd (dt : Nat) (s : State) : Host.Outcome State Fault Refusal := occur dt s rateWindow

end Sys2Proof.Machine
end

