-- ==== Sys2Proof/Machine/PortEvents.lean ====
section
/-! DEFINITION. What happens on lanes and links: signal, alignment, training, FEC, low-power states, and link time
(06_serial_lanes, 07_link_time_transfer). -/

namespace Sys2Proof.Machine

/-! ### Signal -/

/-- The receiver of a lane is powered and watched (R140, R152, R155, Table 14.4): masked in L-DEEP, off on a lane that no
logical port uses, in DORMANT, and in shedding stage 6 on a time-critical logical port's lanes but for the active timing lane. -/
def State.laneWatched (s : State) (port lane : Nat) : Bool :=
  let l := s.lportOfLane port lane
  let p := s.lp l
  decide (port < s.part.ports ∧ lane < 8) && s.laneUsed port lane && s.cal.loaded && !s.asleep && !s.laneCut port &&
  !decide (p.power = 2 ∧ p.moving = none) &&
  (decide (s.power.stage < 6) || !s.critical l || decide (lane = (s.link port).activeLane))

/-- LOS or LOL changes on MGT_RX (R152, R163): the management port, which row and wire number 96. -/
def mgmtLane (f : Lane → Lane) (s : State) : State := if s.cal.loaded && !s.asleep then { s with port.mgmt := f s.port.mgmt } else s

/-- LOS or LOL asserts on a lane (R152, R147): the link goes down, and a lane that loses lock loses its skew (R172). -/
def laneFails (port lane : Nat) (f : Lane → Lane) (s : State) : State :=
  if port = 96 then mgmtLane f s
  else if s.laneWatched port lane then
    let s := forgetSkew port lane s
    let s := s.setLane port lane { f (s.lane port lane) with lockedAt := none }
    linkDown (s.lportOfLane port lane) s
  else s

/-- LOS or LOL clears on a lane (R152): a lane with both clear is locked from here (R185), and a timing lane that was lost is
usable again (R184). -/
def laneHeals (port lane : Nat) (f : Lane → Lane) (s : State) : State :=
  if port = 96 then mgmtLane f s
  else if s.laneWatched port lane then
    let v := f (s.lane port lane)
    let s := s.setLane port lane { v with lockedAt := if v.locked then some (v.lockedAt.getD s.time.mono) else none }
    if v.locked && decide (lane = (s.link port).activeLane) then s.setLink port { s.link port with laneLost := false } else s
  else s

/-- The PCS loses alignment (R147). -/
def alignmentLost (l : Nat) (s : State) : State := if s.provided l then linkDown l s else s

/-- The link can come up (R147, R149, R154, R160): the logical port is enabled with good lanes, trained when its medium trains,
and not held down. -/
def State.canAlign (s : State) (l : Nat) : Bool :=
  let p := s.lp l
  s.provided l && p.enabled && !p.up && decide (p.type ≠ 0) && !p.degraded && s.lanesGood l &&
  (decide (p.medium = 0) || decide (p.train = .trained)) && !decide (p.power = 2 ∧ p.moving = none) && !s.laneCut (portOf l) &&
  !s.asleep && decide (s.power.stage < 6) && s.board.scan.isNone

/-- PCS alignment and FEC lock complete (R147). -/
def aligned (l : Nat) (s : State) : State := if s.canAlign l then linkUpNow l s else s

/-! ### Training -/

/-- The ranges and the sum rule of transmit taps (Table 6.2). -/
def tapsLegal (t : List Int) : Bool :=
  let lo : List Int := [-8, -16, -32, 24, -32]
  let hi : List Int := [8, 16, 0, 64, 0]
  decide (t.length = 5) && (List.range 5).all (fun i => decide (getAt lo i 0 ≤ getAt t i 0 ∧ getAt t i 0 ≤ getAt hi i 0)) &&
  decide ((getAt t 0 0).natAbs + (getAt t 1 0).natAbs + (getAt t 2 0).natAbs + (getAt t 3 0).natAbs + (getAt t 4 0).natAbs ≤ 64)

/-- The taps that a request asks for (R150). -/
def TapAsk.taps (a : TapAsk) (tap : Nat) (t : List Int) : List Int :=
  match a with
  | .inc => t.set tap (getAt t tap 0 + 1)
  | .dec => t.set tap (getAt t tap 0 - 1)
  | .hold => t
  | .preset v => v

/-- A logical port trains: auto-negotiation or link training runs (R149). -/
def State.trains (s : State) (l : Nat) : Bool :=
  let p := s.lp l
  s.provided l && p.enabled && decide (p.medium ≠ 0) && decide (p.train = .autoNeg ∨ p.train = .training)

/-- This device's own request to its training partner, which goes out with the answer to the partner's (R150): which tap it
names, and whether it asks to hold, increment, decrement or take a preset, and when the receiver's signal-to-noise estimate has
stopped improving, lie with the receiver (log entry 36). -/
def ownRequest (port lane : Nat) (s : State) : State :=
  if (s.lane port lane).adapted then s
  else
    let (done, s) := drawBit s
    if done then s.setLane port lane { s.lane port lane with adapted := true }
    else
      let (tap, s) := draw 5 s
      let (kind, s) := draw 4 s
      s.emit (.ask port lane tap kind)

/-- A partner's tap request is applied, or answered with the limit status (R150). -/
def applyRequest (port lane tap : Nat) (ask : TapAsk) (s : State) : State :=
  let v := s.lane port lane
  let t := TapAsk.taps ask tap v.taps
  let good := !v.eqLock && tapsLegal t
  (if good then s.setLane port lane { v with taps := t } else s).emit (.tap port lane tap (!good))

/-- A partner's tap request (R150), while the logical port trains. -/
def tapRequest (port lane tap : Nat) (ask : TapAsk) (s : State) : State :=
  let l := s.lportOfLane port lane
  if s.trains l && s.laneUsed port lane && decide (tap < 5) then
    ownRequest port lane (applyRequest port lane tap ask (s.setLp l { s.lp l with train := .training }))
  else s

/-- Training ends (R150): the taps are fixed and PCS alignment begins. -/
def trained (l : Nat) (s : State) : State :=
  if s.trains l then s.setLp l { s.lp l with train := .trained, trainFails := 0 } else s

/-- Training has not completed within the limit (R151). -/
def trainLate (l : Nat) (s : State) : State :=
  let p := s.lp l
  if s.trains l && decide (p.trainFrom + p.trainLimit * milli ≤ s.time.mono) then
    let n := p.trainFails + 1
    let s := startLink l (s.setLp l { p with trainFails := n })
    if n % 8 = 0 then raiseAt (laneDieOf (portOf l)) .error 0x3103 (evLport l ++ toBe 4 (satNat 32 n)) s else s
  else s

/-! ### FEC -/

/-- Counts a list of amounts from an index on. -/
def countRow (group inst : Nat) (ns : List Nat) (s : State) : State :=
  (ns.zip (List.range ns.length)).foldl (fun s e => addKey (ctrKey group inst e.2) e.1 s) s

/-- The codewords received since the last FEC_DEGRADE_CHECK row by corrected symbols, and the corrected symbols by lane, are counted
(R153). RS(528,514) leaves bins 8 to 15 at 0. -/
def countCodewords (l : Nat) (bins symbols : List Nat) (s : State) : State :=
  let p := s.lp l
  let counts := (List.range 17).map (fun k => if p.type = 12 ∧ 8 ≤ k ∧ k < 16 then 0 else getAt bins k 0)
  let s := ((s.lanesOf l).zip symbols).foldl (fun s e => addKey (ctrKey 7 (8 * portOf l + e.1) 0) e.2 s) (countRow 6 l counts s)
  s.setLp l { p with uncorr := p.uncorr + getAt counts 16 0 }

/-- FEC_DEGRADE_CHECK (R153, R154): the codewords received up to now are counted, and at a 4,096th milestone the uncorrectable
ones since the previous one are compared. The row may stand at any instant, since the bins count always (log entry 36). -/
def degradeCheck (l : Nat) (bins symbols : List Nat) (s : State) : State :=
  if !s.provided l || !(s.lp l).enabled then s
  else
    let s := countCodewords l bins symbols s
    let p := s.lp l
    if s.ms.toNat % 4096 ≠ 0 ∨ p.comparedAt = some s.ms then s
    else
    let s := s.setLp l { p with degraded := false, uncorr := 0, comparedAt := some s.ms }
    let bad := p.uncorr
    if p.degradeThr < bad then
      let s := raiseAt (laneDieOf (portOf l)) .warn 0x3104 (evLport l ++ toBe 4 (satNat 32 bad)) s
      if p.degradeDown && p.up then
        let s := linkDown l s
        s.setLp l { s.lp l with degraded := true }
      else s
    else s

/-! ### Low-power states -/

/-- A logical port is in L-DEEP (R155, R157, R172): its PLLs are off, its lanes' skews unknown, and no hold runs, since its link is
not down. -/
def enterDeep (l : Nat) (s : State) : State :=
  let s := (s.lanesOf l).foldl (fun s k => forgetSkew (portOf l) k s) s
  { s with clk.lanePlls := s.clk.lanePlls.filter (fun k =>
             !(decide (k / 4 = portOf l) && (s.lanesOf l).any (fun n => decide (n / 2 = k % 4))))
           fwd.held := tdel s.fwd.held l }

/-- LOW_POWER_TRANSITION_DONE (R155): a move that is no exit of L-DEEP, which ends at link up, is complete; in L-DEEP the PLLs
and the link are off. -/
def powerMoved (l : Nat) (s : State) : State :=
  let p := s.lp l
  match p.moving with
  | none => s
  | some t =>
    if p.power = 2 ∧ t ≠ 2 then s
    else
      let s := s.setLp l { p with power := t, moving := none, up := p.up && decide (t ≠ 2) }
      let s := if t = 2 then enterDeep l s else s
      stageThreeCheck s

/-- AUTO_WAKE (R157): a frame was enqueued on the logical port in a low-power state. A port that shedding holds waits for the
restore (R159). -/
def wakeForFrame (l : Nat) (s : State) : State :=
  let p := s.lp l
  if p.wakeDue && p.autoWake && decide (p.power ≠ 0 ∧ p.moving = none) && (tfind s.power.shedPorts l).isNone then movePower l 0 s
  else s

/-- TIMING_WAKE (R156): a logical port in L-DEEP has become time-critical. -/
def wakeForTime (l : Nat) (s : State) : State :=
  let p := s.lp l
  if s.critical l && p.enabled && decide (p.power = 2 ∧ p.moving = none) then
    raiseAt (laneDieOf (portOf l)) .note 0x3106 (evLport l) (movePower l 0 { s with power.shedPorts := tdel s.power.shedPorts l })
  else s

/-- WAKE_TIMEOUT (R158): the exit of L-DEEP has not brought the link up within the wake limit, and the link is down (R147). -/
def wakeLate (l : Nat) (s : State) : State :=
  let p := s.lp l
  match p.moving with
  | none => s
  | some t =>
    if p.power = 2 ∧ t ≠ 2 ∧ p.wakeFrom + p.wakeLimit * milli ≤ s.time.mono then
      let s := s.setLp l { p with power := t, moving := none, up := false, downAt := s.stamp }
      let s := pfcLinkDown l { s with fwd.held := tput s.fwd.held l s.time.mono }
      let d := laneDieOf (portOf l)
      raiseAt d .warn 0x3105 (evLport l) (raiseAt d .warn 0x3102 (evLport l) s)
    else s

/-! ### The commands -/

/-- LOS (R152). -/
def execLos (dt port lane : Nat) (s : State) : Host.Outcome State Fault Refusal :=
  occur dt s (laneFails port lane (fun v => { v with los := true, losSeen := true }))

/-- LOS_CLEAR (R152). -/
def execLosClear (dt port lane : Nat) (s : State) : Host.Outcome State Fault Refusal :=
  occur dt s (laneHeals port lane (fun v => { v with los := false }))

/-- LOL (R152). -/
def execLol (dt port lane : Nat) (s : State) : Host.Outcome State Fault Refusal :=
  occur dt s (laneFails port lane (fun v => { v with lol := true }))

/-- LOL_CLEAR (R152). -/
def execLolClear (dt port lane : Nat) (s : State) : Host.Outcome State Fault Refusal :=
  occur dt s (laneHeals port lane (fun v => { v with lol := false }))

/-- PCS_ALIGNMENT_LOSS (R147). -/
def execPcsAlignmentLoss (dt l : Nat) (s : State) : Host.Outcome State Fault Refusal := occur dt s (alignmentLost l)

/-- LINK_UP (R147). -/
def execLinkUp (dt l : Nat) (s : State) : Host.Outcome State Fault Refusal := occur dt s (aligned l)

/-- TRAINING_REQUEST (R150). -/
def execTrainingRequest (dt port lane tap : Nat) (ask : TapAsk) (s : State) : Host.Outcome State Fault Refusal :=
  occur dt s (tapRequest port lane tap ask)

/-- TRAINING_COMPLETE (R150). -/
def execTrainingComplete (dt l : Nat) (s : State) : Host.Outcome State Fault Refusal := occur dt s (trained l)

/-- TRAINING_TIMEOUT (R151). -/
def execTrainingTimeout (dt l : Nat) (s : State) : Host.Outcome State Fault Refusal := occur dt s (trainLate l)

/-- FEC_DEGRADE_CHECK (R154). -/
def execFecDegradeCheck (dt l : Nat) (bins symbols : List Nat) (s : State) : Host.Outcome State Fault Refusal :=
  occur dt s (degradeCheck l bins symbols)

/-- LOW_POWER_TRANSITION_DONE (R155). -/
def execLowPowerTransitionDone (dt l : Nat) (s : State) : Host.Outcome State Fault Refusal := occur dt s (powerMoved l)

/-- AUTO_WAKE (R157). -/
def execAutoWake (dt l : Nat) (s : State) : Host.Outcome State Fault Refusal := occur dt s (wakeForFrame l)

/-- TIMING_WAKE (R156). -/
def execTimingWake (dt l : Nat) (s : State) : Host.Outcome State Fault Refusal := occur dt s (wakeForTime l)

/-- WAKE_TIMEOUT (R158). -/
def execWakeTimeout (dt l : Nat) (s : State) : Host.Outcome State Fault Refusal := occur dt s (wakeLate l)

/-- TEMPERATURE_COMPENSATION (R180). -/
def execTemperatureCompensation (dt : Nat) (temps : List Int) (s : State) : Host.Outcome State Fault Refusal :=
  occur dt s (compensate temps)

/-- TIMING_PHASE_SAMPLE (R170, R172). -/
def execTimingPhaseSample (dt port phi lane : Nat) (skew : Int) (s : State) : Host.Outcome State Fault Refusal :=
  occur dt s (fun s => skewTurn port lane skew (phaseSample port phi s))

/-- AX_SEND (R173). -/
def execAxSend (dt port : Nat) (s : State) : Host.Outcome State Fault Refusal := occur dt s (axSendNow port)

/-- AX_RECEIVE (R175). -/
def execAxReceive (dt port : Nat) (frame : List Byte) (s : State) : Host.Outcome State Fault Refusal :=
  occur dt s (axReceiveNow port frame)

/-- AX_SILENT (R178). -/
def execAxSilent (dt port : Nat) (s : State) : Host.Outcome State Fault Refusal := occur dt s (axSilentNow port)

/-- TIMING_FALLBACK (R183). -/
def execTimingFallback (dt port : Nat) (s : State) : Host.Outcome State Fault Refusal := occur dt s (timingFallback port)

/-- TIMING_REVERT (R185). -/
def execTimingRevert (dt port : Nat) (s : State) : Host.Outcome State Fault Refusal := occur dt s (timingRevert port)

/-- PTP_MESSAGE (R188). -/
def execPtpMessage (dt port : Nat) (msg : PtpMsg) (s : State) : Host.Outcome State Fault Refusal := occur dt s (ptpReceive port msg)

/-- PTP_SEND_INTERVAL (R188). -/
def execPtpSendInterval (dt port kind : Nat) (s : State) : Host.Outcome State Fault Refusal := occur dt s (ptpSend port kind)

end Sys2Proof.Machine
end

