-- ==== Sys2Proof/Machine/PowerEvents.lean ====
section
/-! DEFINITION. Start-up, supplies, clocks, voltage requests, shedding, DORMANT, self-tests and the Causeway
(09_clock_synthesis, 14_power_modes, 15_bring_up_and_readiness, 20_electrical_and_package). -/

namespace Sys2Proof.Machine

/-! ### Start-up -/

/-- The slots that BOOT_SEL names, in order; `true` is slot B (Table 15.2). -/
def bootOrder : Nat → List Bool
  | 0 => [false, true] | 1 => [true, false] | 2 => [false] | _ => []

/-- The reserved bytes of a firmware image header are 0 (Table 15.3). -/
def headerRsvOk (h : List Byte) : Bool :=
  decide (fld h 6 1 < 2 ∧ fld h 7 1 = 0) && ((h.drop 20).take 236).all (· == 0) && ((h.drop 448).take 3648).all (· == 0)

/-- Reason of a slot's failure (R358, Tables 15.3 and 15.9), 0 when its firmware is authentic. -/
def slotReason (secMin : Nat) (v : Slot) : Nat :=
  let h := v.header
  let n := fld h 8 4
  if !(decide (h.length = 4096 ∧ fld h 0 4 = 0x4F4A4657 ∧ fld h 4 2 = 1 ∧ 4 ≤ n ∧ n ≤ 8388608 ∧ n % 4 = 0) && headerRsvOk h) then 0x07
  else if !v.keyOk || !v.sigOk || decide (fld h 16 4 < secMin) then 0x08
  else 0

/-- Whole ms since the POR_N rise, as ELAPSED (Table 15.7). -/
def State.sinceRise (s : State) : Nat := satNat 16 ((s.time.mono - s.power.porAt) / milli)

/-- The sequence stops (R358, R365). -/
def stopBoot (s : State) : State := { s with power.bootStep := 0xF, power.elapsed := some s.sinceRise }

/-- Step 2 (R358): the boot ROM tries the slots in order; a fallback is recorded once RECORDER is ready. -/
def tryBoot (slotA slotB : Slot) : List Bool → State → State
  | [], s => stopBoot (if s.power.bootSel = 3 then { s with power.bootReason := 0x06 } else s)
  | b :: r, s =>
    let v := if b then slotB else slotA
    let why := slotReason s.power.secMin v
    if why = 0 then { s with power.booted := true, power.slotB := b, power.fwVersion := BitVec.ofNat 32 (fld v.header 12 4) }
    else
      let s := { s with power.bootReason := why, power.slotB := b }
      if r.isEmpty then stopBoot s
      else tryBoot slotA slotB r (raise .warn 0x1122 [BitVec.ofNat 8 (flag b), BitVec.ofNat 8 why] { s with power.fallback := true })

/-- The latest stored SEQ by signed difference (R399). -/
def latestSeq (slots : Tbl Record) : Option (BitVec 32) :=
  slots.foldl (fun b e => match b with
    | none => some e.2.seq
    | some q => if later e.2.seq q then some e.2.seq else some q) none

/-- Step 3 (R399, R446, R352): the recorder scans its slots and stores the records of R399, the copy of the Vigil failure
record and the events held, in that order. -/
def scanRecorder (s : State) : State :=
  let torn := s.log.torn.length
  let next : BitVec 32 := ((latestSeq s.log.slots).map (· + 1)).getD 0
  let held := s.log.held
  let s := { s with log.scanned := true, log.next := next, log.torn := [], log.held := [] }
  let s := if torn = 0 then s else raise .warn 0x6301 (toBe 2 torn) s
  let s := raise .note 0x1123 (toBe 4 s.bootStatus) s
  let f := s.power.failure
  let s := if f.pending then
      accept { severity := .fatal, tv := false, vv := true, code := 0x1106, seq := 0, opSeconds := f.opSeconds
               powerCycles := f.powerCycles, time := 0, stepCount := s.time.stepCount, suppressed := 0, die := 0xFF
               params := [BitVec.ofNat 8 f.rail, BitVec.ofNat 8 f.attempts, BitVec.ofNat 8 f.phase] }
        { s with power.failure := { f with pending := false } }
    else s
  held.foldl (fun s r => accept r s) s

/-- Steps 1 to 3 and the start of step 4 (Table 15.4): straps, firmware, recorder, command engine, first voltage request. -/
def bootStart (slotA slotB : Slot) (s : State) : State :=
  let s := setMode .bringUp { s with power.powerCycles := s.power.powerCycles + 1, power.bootReason := 0x02, power.bootStep := 2 }
  let s := tryBoot slotA slotB (bootOrder s.power.bootSel) s
  if !s.power.booted then s
  else
    let s := scanRecorder { s with power.bootStep := 3 }
    let s := runPending 4 { s with cmd.controllerUp := true, power.bootStep := 4 }
    match s.avsRails.head? with
    | some r => requestVolt .bringUp r (s.bootVolt r) s
    | none => { s with power.bootStep := 5 }

/-- The POR_N rise (R355, Table 14.2): straps are sampled, and with VDD_CORE0 present the start-up sequence begins. The other
supplies are within their limits (R432). -/
def porRise (straps : Straps) (slotA slotB : Slot) (core0 : Bool) (s : State) : State :=
  if s.power.porN then s
  else
    let s := { s with
      power.porN := true, power.bootSel := straps.bootSel.val, power.oscSel := straps.oscSel.val, power.porAt := s.time.mono
      power.vddCore0 := core0, power.vddCore1 := true, power.vddTime := true }
    if core0 then bootStart slotA slotB s else s

/-- Step 8: the segments named fail all three attempts, the others train (R366). -/
def trainSegments (untrained : List Nat) (s : State) : State :=
  s.segments.foldl (fun s g =>
    if untrained.contains g then
      raise .fatal 0x1121 [BitVec.ofNat 8 g] { s with power.failedSegments := s.power.failedSegments ++ [g] }
    else { s with power.trained := s.power.trained ++ [g] }) s

/-- Steps 6 to 11 (Table 15.4), after which triggers that stand apply (R342). -/
def bootFinish (untrained : List Nat) (s : State) : State :=
  let s := trainSegments untrained (chainStart s)
  let s := coresStart { s with ctr.live := [], ctr.running := true }
  let s := loadCal s
  let s := { s with clk.lanePlls := s.lanePairs, board.modReset := false }
  let s := setMode .timingOnly { s with power.bootStep := 0xB, power.elapsed := some s.sinceRise }
  if s.triggers ≠ 0 then asserted s else s

/-- The chain restarts after a loss (R219): time starts, and outside DORMANT and shedding stage 5 the CORE domains and the
links start again. -/
def chainRestart (s : State) : State :=
  let s := chainStart s
  if s.asleep then s
  else
    let s := if 5 ≤ s.power.stage then s else coresStart s
    let s := if s.power.stage = 2 ∧ !s.power.stageDone ∧ !s.coresWaiting then
        requestCores .shed (fun d => s.fusedAt d 1600) s else s
    startLinks s.enabledPorts { s with clk.lanePlls := s.lanePairs }

/-- OSC_RESTORED (R219, R365): within tolerance for 10 ms, which after a loss lie behind it. -/
def oscBack (untrained : List Nat) (s : State) : State :=
  if s.power.mode = .keep ∨ s.clk.oscOk = true then s
  else if s.power.mode = .bringUp then
    if 6 ≤ s.power.oscSel ∨ s.power.vddTime = false then s
    else if s.power.bootStep = 5 then bootFinish untrained s
    else if s.power.bootStep = 0xF ∧ s.clk.oscTimeout = true then
      bootFinish untrained (raise .note 0x2402 [] { s with power.elapsed := none })
    else s
  else if !s.clk.oscLost || decide (s.time.mono < s.clk.oscLostAt + 10 * milli) then s
  else if s.power.vddTime then raise .note 0x2402 [] (chainRestart s)
  else { s with clk.oscOk := true }

/-- OSC_NOT_READY (R365). -/
def oscTimeout (s : State) : State :=
  if s.power.mode = .bringUp ∧ s.power.bootStep = 5 then
    raise .fatal 0x2403 [0] (stopBoot { s with clk.oscTimeout := true })
  else s

/-- The oscillator is lost, or ASYN loses lock (R219, R222). -/
def oscGone (s : State) : State :=
  if s.clk.oscLost then { s with clk.oscOk := false, clk.oscLostAt := s.time.mono } else if s.clk.asynLock then oscLoss s else s

/-! ### Supplies -/

/-- VDD_CORE0 leaves its limits (Table 14.2). -/
def core0Gone (s : State) : State :=
  let s := { s with power.vddCore0 := false }
  if s.power.mode = .keep then s else toKeep s

/-- VDD_CORE1 is removed in DORMANT (R350). -/
def core1Gone (s : State) : State :=
  let s := { s with power.vddCore1 := false }
  if s.power.mode = .dormant ∧ s.part.cores = 2 then toKeep s else s

/-- VDD_TIME leaves its limits (R433, R30): loss of the oscillator outside DORMANT and KEEP; in DORMANT time and the DPLL start
over. -/
def timeRailGone (s : State) : State :=
  let s := { s with power.vddTime := false }
  if s.power.mode = .keep ∨ s.clk.asynLock = false then s
  else if s.power.mode = .dormant then freeRun (stopTime { s with clk.asynLock := false })
  else
    let ok := s.clk.oscOk
    let s := oscLoss s
    { s with clk.oscOk := ok }

/-- VDD_TIME has been within its limits for 1 ms (R433): the count and the chain restart, and a held exit proceeds. -/
def timeRailBack (s : State) : State :=
  if s.power.vddTime then s
  else
    let s := { s with power.vddTime := true, power.timeTimeout := false }
    let s := if s.clk.oscOk && !s.clk.asynLock && decide (s.power.mode ≠ .keep) then
        let lost := s.clk.oscLost
        let s := chainRestart s
        if lost then raise .note 0x2402 [] s else s
      else s
    if decide (s.power.dormant = .exit) && s.coreDies.any (fun d => decide ((s.rail d).owner ≠ .dormantExit)) then
      requestCores .dormantExit (fun d => getAt s.power.dormantVolt d 0) s
    else s

/-- VDD_TIME is still absent 50 ms after the wake (R433). -/
def timeRailLate (s : State) : State :=
  if s.power.dormant = .exit ∧ s.power.vddTime = false ∧ s.power.timeTimeout = false then
    raise .fatal 0x2403 [1] { s with power.timeTimeout := true }
  else s

/-- VKEEP is applied (R351): the Vigil values clear. -/
def vkeepOn (s : State) : State :=
  { s with power.vkeep := true, power.vigil := false, power.opSeconds := 0, power.powerCycles := 0, power.coarseValid := false
           power.coarseSec := 0, power.coarseSub := 0, power.scratch := List.replicate 48 0, power.failure := {} }

/-- A second of the crystal (R351, Table 14.9). -/
def crystalSecond (s : State) : State :=
  if !s.power.vkeep then s
  else
    let s := if s.power.vddCore0 then { s with power.opSeconds := s.power.opSeconds + 1 } else s
    if s.power.coarseValid then coarseSecond s else s

/-! ### PLLs -/

/-- The enabled logical ports that use a lane pair. -/
def State.pairPorts (s : State) (port pair : Nat) : List Nat :=
  s.enabledPorts.filter (fun l => decide (portOf l = port) && (s.lanesOf l).any (fun k => decide (k / 2 = pair)))

/-- LANE_PLL_UNLOCK (R226). -/
def lanePllLoss (port pair : Nat) (s : State) : State :=
  if s.clk.lanePlls.contains (4 * port + pair) && decide (pair < 4) then
    let s := linksDown (s.pairPorts port pair) { s with clk.lanePlls := s.clk.lanePlls.erase (4 * port + pair) }
    raiseAt (laneDieOf port) .warn 0x2430 [BitVec.ofNat 8 port, BitVec.ofNat 8 pair] s
  else s

/-- LANE_PLL_RELOCK (R226): the gate reopens, and the links of the pair start again; an L-DEEP exit keeps its taps (R155). -/
def lanePllBack (port pair : Nat) (s : State) : State :=
  if s.clk.lanePlls.contains (4 * port + pair) || decide (4 ≤ pair ∨ s.part.ports ≤ port) || !s.clk.asynLock || s.asleep ||
      !s.cal.loaded || s.laneCut port then s
  else
    let s := { s with clk.lanePlls := s.clk.lanePlls ++ [4 * port + pair] }
    startLinks ((s.pairPorts port pair).filter (fun l => decide ((s.lp l).power ≠ 2 ∧ (s.lp l).up = false))) s

/-- CLK_OUT_UNLOCK and CLK_OUT_SYNTHESIZER_LOCK (R226, R236). -/
def clkOutLock (n : Nat) (locked : Bool) (s : State) : State :=
  let c := tget s.clk.outs n {}
  if n < 4 ∧ c.enable = true ∧ c.unlocked = locked then { s with clk.outs := tput s.clk.outs n { c with unlocked := !locked } }
  else s

/-- FWD_RESET (R240): the gates have not reopened 10 ms after the first loss of lock. -/
def freezeOver (die : Nat) (s : State) : State :=
  match (s.core die).frozen with
  | some t => if t + 10 * milli ≤ s.time.mono then resetDie die s else s
  | none => s

/-- A shedding ramp that a loss of lock ended starts again (Table 14.4, log entry 50). -/
def resumeShed (s : State) : State :=
  if decide (s.power.stage = 2 ∧ s.power.stageDone = false) && s.clk.ramp.isNone && !s.coresWaiting &&
      !s.power.restoring && decide (1600 < s.clk.cclk) then startRamp .shed 1600 s else s

/-- FWD_DOMAIN_RESTART (R240, Table 14.4): the buffer of a reset die is cleared and its PLLs are locked. -/
def domainRestart (die : Nat) (s : State) : State :=
  let c := s.core die
  if s.part.cores ≤ die ∨ c.reset = false ∨ s.clk.cclk = 0 ∨ s.asleep = true then s
  else
    let s := resumeDie die s
    let s := resumeShed (s.setCore die { s.core die with cclkLock := true, bclkLock := true, running := true, reset := false })
    if s.power.stage = 5 ∧ s.power.restoring = true ∧ s.coreDies.all (fun d => !(s.core d).reset) then restoreFive s else s

/-! ### Triggers -/

/-- A rail exists and is monitored (R337, R447): the AVS rails of the part, then VDDA_L as 8 to 13 and VDDH_L as 14 to 19, of the
LANE dies present. -/
def State.hasRail (s : State) (r : Nat) : Bool :=
  s.avsRails.contains r || decide ((8 ≤ r ∧ r < 8 + s.part.laneDies) ∨ (14 ≤ r ∧ r < 14 + s.part.laneDies))

/-- The reference of a rail in uV (R337, Table 20.2): V_ack, or the lower of V_ack and the target while a request is pending; the
nominal voltage of a fixed rail. -/
def State.railReference (s : State) (r : Nat) : Nat :=
  let v := s.rail r
  if 14 ≤ r then 1200000
  else if 8 ≤ r then 900000
  else 1000 * if v.state = 1 then min v.acked v.requested else v.acked

/-- A rail reads below a percentage of its reference. -/
def State.railBelow (s : State) (percent r level : Nat) : Bool := s.hasRail r && decide (100 * level < percent * s.railReference r)

/-- Every rail reads above a percentage of its reference; `levels` gives the readings by rail code. -/
def State.railsAbove (s : State) (percent : Nat) (levels : List Nat) : Bool :=
  ((List.range 20).filter s.hasRail).all (fun r => decide (percent * s.railReference r < 100 * getAt levels r 0))

/-- Every temperature sensor reads 100 °C or less; `temps` gives the readings by die code, in units of 0.125 °C. -/
def State.coolAll (s : State) (temps : List Int) : Bool :=
  ((List.range 8).filter s.part.hasDie).all (fun d => decide (getAt temps d 0 ≤ 800))

/-- A change of triggers: a trigger that was clear and now asserts acts (R339), one that cleared starts the dwell (R340). -/
def trigger (f : State → State) (s : State) : State :=
  let before := s.triggers
  let s := f s
  if s.triggers ||| before = before then clearing before s else asserted s

/-- RAIL_WARNING (R337): a rail reads below 97 % of its reference. -/
def railLow (r level : Nat) (s : State) : State :=
  if s.power.mode = .keep ∨ s.railBelow 97 r level = false then s
  else trigger (fun s => { s with power.trigWarn := true }) (raise .warn 0x1104 [BitVec.ofNat 8 r] s)

/-- RAIL_CRITICAL (R337): a rail reads below 95 % of its reference. -/
def railCritical (r level : Nat) (s : State) : State :=
  if s.power.mode = .keep ∨ s.railBelow 95 r level = false then s
  else trigger (fun s => { s with power.trigCrit := true }) (raise .error 0x1105 [BitVec.ofNat 8 r] s)

/-- THERMAL (R337): a sensor reads 105 °C or more, in units of 0.125 °C. -/
def tooHot (die : Nat) (temp : Int) (s : State) : State :=
  if s.power.mode = .keep ∨ s.part.hasDie die = false ∨ temp < 840 then s
  else trigger (fun s => { s with power.trigThermal := true }) (raiseAt die .warn 0x1110 (BitVec.ofNat 8 die :: toBeInt 2 temp) s)

/-- AVS_STATUS_POLL (R336): at a 4,096th milestone the status of every AVS rail is read. -/
def pollAvs (alerts : BitVec 8) (s : State) : State :=
  if s.power.mode = .keep ∨ s.time.running = false ∨ s.ms.toNat % 4096 ≠ 0 then s
  else trigger (fun s => s.avsRails.foldl (fun s r => s.setRail r { s.rail r with alert := alerts.getLsbD r }) s) (s.emit .avsPoll)

/-- The status that a response carries is the rail's most recent one (R336). -/
def takeAlert (r : Nat) (alert : Bool) (s : State) : State :=
  if (s.rail r).alert = alert then s else trigger (fun s => s.setRail r { s.rail r with alert := alert }) s

/-- AVS_ACK (R334, R336): the response's status, then the acknowledgement, within 500 us of the write. -/
def avsAcked (r : Nat) (alert : Bool) (s : State) : State :=
  if (s.rail r).state ≠ 1 ∨ (s.rail r).since + 500 * micro < s.time.mono then s else avsAck r (takeAlert r alert s)

/-- AVS_ATTEMPT_TIMEOUT (R334 to R336): the status of the response where one came, then the failed attempt, 500 us after its write. -/
def avsFailed (r : Nat) (status : Option Bool) (s : State) : State :=
  if (s.rail r).state ≠ 1 ∨ s.time.mono < (s.rail r).since + 500 * micro then s
  else match status with
    | some alert => avsTimeout r (takeAlert r alert s)
    | none => avsTimeout r s

/-- TRIGGER_CLEAR (Table 14.3), by the bit of TRIGGERS: PWR_LIMIT_N has gone high, or the monitors and sensors read what clears the
trigger. An AVSBus alert clears with the status that AVS_STATUS_POLL and the responses give (R336). -/
def clearTrigger (n : Nat) (levels : List Nat) (temps : List Int) (s : State) : State :=
  trigger (fun s => match n with
    | 0 => if s.railsAbove 98 levels then { s with power.trigWarn := false } else s
    | 1 => if s.railsAbove 96 levels then { s with power.trigCrit := false } else s
    | 2 => { s with power.trigLimit := false }
    | 4 => if s.coolAll temps then { s with power.trigThermal := false } else s
    | _ => s) s

/-! ### DORMANT exit -/

/-- The mode that DORMANT exit ends in (R350): forwarding does not resume on lost tables. -/
def State.exitInto (s : State) : Mode :=
  let m := s.exitMode (s.power.wake.getD none)
  if m = .service ∧ (s.power.lost0 ≠ 0 ∨ s.power.lost1 ≠ 0) then .timingOnly else m

/-- The clocks of the CORE dies that can be reached, at 1,600 MHz with every table kept; `run` sets CORE ready. -/
def coresClock (run : Bool) (s : State) : State :=
  let s := s.coreDies.foldl (fun s d =>
    if decide (d = 1) && s.segFailed 6 then s
    else s.setCore d { cclkLock := true, bclkLock := true, running := run, initialised := true }) s
  { s with clk.cclk := 1600 }

/-- What shedding held is given up at the end of an exit (R342): the ports that stage 3 moved hold their state again, and
those that stage 5 disabled are enabled in SERVICE. -/
def endShedding (s : State) : State :=
  let back := s.power.shedPorts
  let gone := s.power.disabledPorts
  let s := { s with power.stage := 0, power.stageDone := true, power.restoring := false, power.jumpToFive := false
                    power.shedPorts := [], power.disabledPorts := [] }
  let s : State := back.foldl (fun (s : State) e => s.setLp e.1 { s.lp e.1 with power := e.2, moving := none }) s
  if s.power.mode = .service then gone.foldl (fun s l => enablePort l s) s else s

/-- DORMANT_EXIT (Table 14.7, R348, R350): the voltages are back; clocks, banks, deferred commits, links and the mode follow. -/
def dormantLeave (bad0 bad1 : BitVec 16) (s : State) : State :=
  if decide (s.power.dormant ≠ .exit) || !s.coresAcked || s.coreDies.any (fun d => decide ((s.rail d).owner ≠ .dormantExit)) ||
      !s.power.vddTime || !s.clk.asynLock then s
  else
    let s := checkBanks 0 bad0 bad1 (coresClock false s)
    let s := if s.part.cores = 2 then checkBanks 1 bad1 bad0 s else s
    let m := s.exitInto
    let s := coresClock true (applyDue { s with power.dormant := .none, power.mode := .bringUp })
    let s := { s with power.mode := .dormant, clk.lanePlls := s.lanePairs }
    let s := startLinks (s.power.dormantPorts.filter (fun l => (s.lp l).enabled)) s
    let s := setMode m (raise .note 0x1109 [BitVec.ofNat 8 m.code] s)
    let s := endShedding { s with power.transition := none, power.wake := none }
    let s := if m = .timingOnly ∨ m = .test ∨ m = .safe then restrictPorts s else s
    let s := restartFilters s.ctr.restarts { s with ctr.restarts := [] }
    let s := if s.triggers ≠ 0 then asserted s else s
    if 1600 < s.power.dormantCclk then startRamp .dormantExit s.power.dormantCclk s else s

/-- MODE_TRANSITION_END (R333): the entry to KEEP ends in KEEP; an entry to DORMANT and an exit end by their own rows. -/
def transitionOver (s : State) : State :=
  match s.power.transition with
  | none => s
  | some .keep => toKeep s
  | some _ => if s.power.dormant = .none then { s with power.transition := none } else s

/-- WAKE_N_FALL (R347, R421). -/
def wakeN (s : State) : State := if bit s.power.wakeEn 0 && decide (s.power.mode ≠ .keep) then wakeUp none s else s

/-! ### Self-tests and the Causeway -/

/-- BIST_COMPLETE (R331, R349). -/
def bistDone (die failures : Nat) (s : State) : State :=
  let b := tget s.power.bists die {}
  if b.state ≠ 1 then s
  else bistLost die b
    { s with power.bists := tput s.power.bists die { b with state := if failures = 0 then 2 else 3, failures := satNat 32 failures } }

/-- A segment may retrain at these differences (R434): it has not yet, the temperature difference has changed by 10 °C or the voltage
difference by 50 mV since it last did, or both have returned since (`rearm`). -/
def State.mayRetrain (s : State) (g : Nat) (temp mv : Int) : Bool :=
  match tfind s.power.retrained g with
  | none => true
  | some (t, v) => decide (80 ≤ (temp - t).natAbs ∨ 50 ≤ (mv - v).natAbs)

/-- CAUSEWAY_RETRAIN (R434): a trained segment starts to retrain. -/
def retrain (g : Nat) (temp mv : Int) (s : State) : State :=
  if s.power.trained.contains g && (tfind s.power.retraining g).isNone && s.mayRetrain g temp mv &&
      (decide (280 < temp.natAbs) || (decide (g = 6) && s.power.coreSkew.isSome)) then
    raise .warn 0x1124 (BitVec.ofNat 8 g :: toBeInt 2 temp ++ toBeInt 2 mv)
      { s with power.retraining := tput s.power.retraining g 1, power.retrained := tput s.power.retrained g (temp, mv)
               power.coreSkew := if g = 6 then none else s.power.coreSkew }
  else s

/-- VDD_CORE_SKEW (R434): the comparison of the two VDD_CORE rails; when they differ by more than 150 mV the CORE0-CORE1 segment is to
retrain. -/
def coreSkew (mv : Int) (s : State) : State :=
  if s.part.cores = 2 ∧ s.power.mode ≠ .keep then
    rearm { s with power.coreDiff := mv, power.coreSkew := if 150 < mv.natAbs then some mv else s.power.coreSkew }
  else s

/-- A segment has failed (R435). -/
def segmentLost (g : Nat) (s : State) : State :=
  let s := raise .fatal 0x1121 [BitVec.ofNat 8 g]
    { s with power.trained := s.power.trained.erase g, power.failedSegments := s.power.failedSegments ++ [g] }
  if g = 6 then crossNow (enterSafe (resetDie 1 s)) else linksDown (s.enabledPorts.filter (fun l => decide (portOf l / 16 = g))) s

/-- CAUSEWAY_RETRAIN_DONE (R435): an attempt ends. -/
def retrained (g : Nat) (ok : Bool) (s : State) : State :=
  match tfind s.power.retraining g with
  | none => s
  | some n =>
    if ok then crossNow { s with power.retraining := tdel s.power.retraining g }
    else if n < 3 then { s with power.retraining := tput s.power.retraining g (n + 1) }
    else segmentLost g { s with power.retraining := tdel s.power.retraining g }

/-! ### The commands -/

/-- POR_N_RISE (R355). -/
def execPorNRise (dt : Nat) (straps : Straps) (slotA slotB : Slot) (core0 : Bool) (s : State) : Host.Outcome State Fault Refusal :=
  occur dt s (porRise straps slotA slotB core0)

/-- POR_N_FALL (R355). -/
def execPorNFall (dt : Nat) (s : State) : Host.Outcome State Fault Refusal :=
  occur dt s (fun s => enterKeep { s with power.porN := false })

/-- VKEEP_APPLIED (R351). -/
def execVkeepApplied (dt : Nat) (s : State) : Host.Outcome State Fault Refusal := occur dt s vkeepOn

/-- VIGIL_READY (R351). -/
def execVigilReady (dt : Nat) (s : State) : Host.Outcome State Fault Refusal :=
  occur dt s (fun s => { s with power.vigil := s.power.vkeep })

/-- VDD_CORE0_LOST (R432). -/
def execVddCore0Lost (dt : Nat) (s : State) : Host.Outcome State Fault Refusal := occur dt s core0Gone

/-- VDD_CORE1_LOST (R350). -/
def execVddCore1Lost (dt : Nat) (s : State) : Host.Outcome State Fault Refusal := occur dt s core1Gone

/-- VDD_TIME_LOST (R433). -/
def execVddTimeLost (dt : Nat) (s : State) : Host.Outcome State Fault Refusal := occur dt s timeRailGone

/-- VDD_TIME_RETURN (R433). -/
def execVddTimeReturn (dt : Nat) (s : State) : Host.Outcome State Fault Refusal := occur dt s timeRailBack

/-- VDD_TIME_WAKE_TIMEOUT (R433). -/
def execVddTimeWakeTimeout (dt : Nat) (s : State) : Host.Outcome State Fault Refusal := occur dt s timeRailLate

/-- OSC_LOST (R219). -/
def execOscLost (dt : Nat) (s : State) : Host.Outcome State Fault Refusal := occur dt s oscGone

/-- OSC_RESTORED (R219, R365). -/
def execOscRestored (dt : Nat) (untrained : List Nat) (s : State) : Host.Outcome State Fault Refusal := occur dt s (oscBack untrained)

/-- OSC_NOT_READY (R365). -/
def execOscNotReady (dt : Nat) (s : State) : Host.Outcome State Fault Refusal := occur dt s oscTimeout

/-- ASYN_UNLOCK (R222). -/
def execAsynUnlock (dt : Nat) (s : State) : Host.Outcome State Fault Refusal := occur dt s oscGone

/-- LANE_PLL_UNLOCK (R226). -/
def execLanePllUnlock (dt port pair : Nat) (s : State) : Host.Outcome State Fault Refusal := occur dt s (lanePllLoss port pair)

/-- LANE_PLL_RELOCK (R226). -/
def execLanePllRelock (dt port pair : Nat) (s : State) : Host.Outcome State Fault Refusal := occur dt s (lanePllBack port pair)

/-- CLK_OUT_UNLOCK (R236). -/
def execClkOutUnlock (dt output : Nat) (s : State) : Host.Outcome State Fault Refusal := occur dt s (clkOutLock output false)

/-- CLK_OUT_SYNTHESIZER_LOCK (R236). -/
def execClkOutSynthesizerLock (dt output : Nat) (s : State) : Host.Outcome State Fault Refusal := occur dt s (clkOutLock output true)

/-- CORE_PLL_UNLOCK (R237, R238). -/
def execCorePllUnlock (dt die : Nat) (pll : CorePll) (s : State) : Host.Outcome State Fault Refusal := occur dt s (freezeDie die pll)

/-- CORE_THAW (R239). -/
def execCoreThaw (dt : Nat) (relock : Relock) (s : State) : Host.Outcome State Fault Refusal :=
  occur dt s (fun s => resumeShed (thaw relock.die relock.locked s))

/-- FWD_RESET (R240). -/
def execFwdReset (dt die : Nat) (s : State) : Host.Outcome State Fault Refusal := occur dt s (freezeOver die)

/-- FWD_DOMAIN_RESTART (R240). -/
def execFwdDomainRestart (dt die : Nat) (s : State) : Host.Outcome State Fault Refusal := occur dt s (domainRestart die)

/-- RAMP_DONE (R231). -/
def execRampDone (dt : Nat) (s : State) : Host.Outcome State Fault Refusal := occur dt s rampDone

/-- AVS_ACK (R334). -/
def execAvsAck (dt rail : Nat) (alert : Bool) (s : State) : Host.Outcome State Fault Refusal := occur dt s (avsAcked rail alert)

/-- AVS_ATTEMPT_TIMEOUT (R334, R335). -/
def execAvsAttemptTimeout (dt rail : Nat) (status : Option Bool) (s : State) : Host.Outcome State Fault Refusal :=
  occur dt s (avsFailed rail status)

/-- AVS_STATUS_POLL (R336). -/
def execAvsStatusPoll (dt : Nat) (alerts : BitVec 8) (s : State) : Host.Outcome State Fault Refusal := occur dt s (pollAvs alerts)

/-- RAIL_WARNING (R337). -/
def execRailWarning (dt : Nat) (reading : RailReading) (s : State) : Host.Outcome State Fault Refusal :=
  occur dt s (railLow reading.rail reading.level)

/-- RAIL_CRITICAL (R337). -/
def execRailCritical (dt : Nat) (reading : RailReading) (s : State) : Host.Outcome State Fault Refusal :=
  occur dt s (railCritical reading.rail reading.level)

/-- PWR_LIMIT_N (R420, Table 14.3). -/
def execPwrLimitN (dt : Nat) (s : State) : Host.Outcome State Fault Refusal :=
  occur dt s (trigger (fun s => { s with power.trigLimit := true }))

/-- THERMAL (R337). -/
def execThermal (dt die : Nat) (temp : Int) (s : State) : Host.Outcome State Fault Refusal := occur dt s (tooHot die temp)

/-- TRIGGER_CLEAR (R340). -/
def execTriggerClear (dt : Nat) (clear : Clearing) (s : State) : Host.Outcome State Fault Refusal :=
  occur dt s (clearTrigger clear.trigger clear.levels clear.temps)

/-- SHED_STAGE (R339). -/
def execShedStage (dt : Nat) (s : State) : Host.Outcome State Fault Refusal := occur dt s shedStage

/-- SHED_RESTORE (R340). -/
def execShedRestore (dt : Nat) (s : State) : Host.Outcome State Fault Refusal := occur dt s shedRestore

/-- DORMANT_ENTRY (R343). -/
def execDormantEntry (dt : Nat) (s : State) : Host.Outcome State Fault Refusal := occur dt s dormantStep

/-- DORMANT_ABORT (R346). -/
def execDormantAbort (dt : Nat) (s : State) : Host.Outcome State Fault Refusal := occur dt s dormantAbort

/-- WAKE_N_FALL (R421). -/
def execWakeNFall (dt : Nat) (s : State) : Host.Outcome State Fault Refusal := occur dt s wakeN

/-- DORMANT_EXIT (R347). -/
def execDormantExit (dt : Nat) (bad0 bad1 : BitVec 16) (s : State) : Host.Outcome State Fault Refusal :=
  occur dt s (dormantLeave bad0 bad1)

/-- BIST_COMPLETE (R349). -/
def execBistComplete (dt die failures : Nat) (s : State) : Host.Outcome State Fault Refusal := occur dt s (bistDone die failures)

/-- CAUSEWAY_RETRAIN (R434). -/
def execCausewayRetrain (dt segment : Nat) (tempDiff milliVolt : Int) (s : State) : Host.Outcome State Fault Refusal :=
  occur dt s (retrain segment tempDiff milliVolt)

/-- VDD_CORE_SKEW (R434). -/
def execVddCoreSkew (dt : Nat) (milliVolt : Int) (s : State) : Host.Outcome State Fault Refusal := occur dt s (coreSkew milliVolt)

/-- CAUSEWAY_RETRAIN_DONE (R435). -/
def execCausewayRetrainDone (dt segment : Nat) (trained : Bool) (s : State) : Host.Outcome State Fault Refusal :=
  occur dt s (retrained segment trained)

/-- MODE_TRANSITION_END (R333). -/
def execModeTransitionEnd (dt : Nat) (s : State) : Host.Outcome State Fault Refusal := occur dt s transitionOver

/-- VIGIL_CRYSTAL_SECOND (R351). -/
def execVigilCrystalSecond (dt : Nat) (s : State) : Host.Outcome State Fault Refusal := occur dt s crystalSecond

end Sys2Proof.Machine
end

