-- ==== Sys2Proof/Machine/TimeEvents.lean ====
section
/-! DEFINITION. What happens to time, compare units and references (02_almanac_time, 08_references_and_holdover, 09 R221). -/

namespace Sys2Proof.Machine

/-- CONFIGURATION_COMMIT (R20). -/
def execConfigurationCommit (dt : Nat) (s : State) : Host.Outcome State Fault Refusal := occur dt s commitNow

/-- TIME_LOADED (R38, Table 2.3). -/
def execTimeLoaded (dt : Nat) (s : State) : Host.Outcome State Fault Refusal := occur dt s loadReference

/-- ACLK_ROTATION_DONE (R221). -/
def execAclkRotationDone (dt : Nat) (s : State) : Host.Outcome State Fault Refusal :=
  occur dt s rotationDone

/-- COMPARE_FIRE (R47). -/
def execCompareFire (dt unit : Nat) (s : State) : Host.Outcome State Fault Refusal := occur dt s (compareFire unit)

/-- PULSE_END (R48). -/
def execPulseEnd (dt unit : Nat) (s : State) : Host.Outcome State Fault Refusal := occur dt s (endPulse unit)

/-- PPS_IN_PULSE (R192). -/
def execPpsInPulse (dt input : Nat) (s : State) : Host.Outcome State Fault Refusal := occur dt s (ppsPulse input)

/-- REF_SIGNAL_LOSS (R198). -/
def execRefSignalLoss (dt entry : Nat) (s : State) : Host.Outcome State Fault Refusal := occur dt s (signalLoss entry)

/-- REF_MONITOR_SAMPLE (R196). -/
def execRefMonitorSample (dt : Nat) (samples : List (Option Int)) (output : Int) (s : State) : Host.Outcome State Fault Refusal :=
  occur dt s (monitorSample samples output)

/-- REF_SELECTION (R201). -/
def execRefSelection (dt : Nat) (s : State) : Host.Outcome State Fault Refusal := occur dt s evaluate

/-- REF_SWITCH (R207). -/
def execRefSwitch (dt : Nat) (offset : Int) (s : State) : Host.Outcome State Fault Refusal := occur dt s (switchRef offset)

/-- DPLL_CYCLE (R209). -/
def execDpllCycle (dt : Nat) (phase : Int) (s : State) : Host.Outcome State Fault Refusal := occur dt s (dpllCycle phase)

/-- HOLDOVER_EXPIRY (R212). -/
def execHoldoverExpiry (dt : Nat) (s : State) : Host.Outcome State Fault Refusal := occur dt s holdoverExpiry

end Sys2Proof.Machine
end

