-- ==== Sys2Proof/Machine/TransportEvents.lean ====
section
/-! DEFINITION. What happens on the transports and in the hierarchy (10_hierarchy, 12_command_interface): mailboxes, registers,
rings, the management port, in-band frames, timeouts, the controller, the right of way. -/

namespace Sys2Proof.Machine

/-! ### Managers and workers -/

/-- The silence limit of the primary parent candidate, in units of time (R178, R265). -/
def State.parentSilence (s : State) : Option Nat := (s.candPort 0).map (fun q => (s.link q).silence * second)

/-- MANAGER_LOST (R265, R266): no candidate has qualified for the silence limit. -/
def managerLost (s : State) : State :=
  match s.hier.noParentSince, s.parentSilence with
  | some t, some limit => if s.hier.role = .enrolled ∧ t + limit ≤ s.time.mono then becomeOrphan s else s
  | _, _ => s

/-- PARENT_SWITCH (R265, R266): the command parent port moves to the first candidate that qualifies, and an ORPHAN whose manager
qualifies again is ENROLLED. The port that the enrolment arrived on becomes its candidate without an event. -/
def parentSwitch (s : State) : State :=
  match s.firstCand with
  | none => s
  | some i =>
    let move := fun (s : State) => raise .note 0x7104 [BitVec.ofNat 8 i] { s with hier.parent := some i }
    match s.hier.role with
    | .enrolled =>
      if s.hier.parent = some i then s
      else if s.upPort = s.candPort i then { s with hier.parent := some i }
      else move s
    | .orphan => move (rejoin s)
    | _ => s

/-- WORKER_ABSENT (R267): no AX message with the worker's NODE within the silence limit. -/
def workerGone (port : Nat) (s : State) : State :=
  match tfind s.hier.workers port with
  | none => s
  | some w =>
    let heard := (w.heardAt.map (fun t => decide (s.time.mono < t + (s.link port).silence * second))).getD false
    if w.absent || heard then s
    else raiseAt (laneDieOf port) .warn 0x710A (BitVec.ofNat 8 port :: node4 w.first)
      { s with hier.workers := tput s.hier.workers port { w with absent := true } }

/-! ### The commands -/

/-- EVENT_MIRROR (R263). -/
def execEventMirror (dt : Nat) (s : State) : Host.Outcome State Fault Refusal := occur dt s mirrorNext

/-- CQ_DOORBELL (R288). -/
def execCqDoorbell (dt : Nat) (q : Fin 4) (v : Word) (s : State) : Host.Outcome State Fault Refusal := occur dt s (cqDoorbell q v)

/-- CQ_ACK (R288). -/
def execCqAck (dt : Nat) (q : Fin 4) (v : Word) (s : State) : Host.Outcome State Fault Refusal := occur dt s (cqAck q v)

/-- TS_SEQ (R44). -/
def execTsSeq (dt : Nat) (s : State) : Host.Outcome State Fault Refusal := occur dt s tsSeq

/-- TS_STATE (R44). -/
def execTsState (dt : Nat) (v : Word) (s : State) : Host.Outcome State Fault Refusal := occur dt s (tsState v)

/-- RING_CTRL (R306). -/
def execRingCtrl (dt : Nat) (d : Fin 64) (v : Word) (s : State) : Host.Outcome State Fault Refusal := occur dt s (ringCtrl d.val v)

/-- REGISTER_WRITE (R305, R8): BAR0 takes aligned 32-bit accesses within its 4 MiB. -/
def execRegisterWrite (dt off : Nat) (v : Word) (s : State) : Host.Outcome State Fault Refusal :=
  if off % 4 ≠ 0 then .fault .misaligned
  else if 0x400000 ≤ off then .fault .outsideBar
  else occur dt s (barWrite off v)

/-- MGMT_DATAGRAM (R289): one for another address or UDP port is not for this device. -/
def execMgmtDatagram (dt : Nat) (dst : MgmtTo) (src : MgmtFrom) (fragmented : Bool) (payload : List Byte) (s : State) :
    Host.Outcome State Fault Refusal :=
  occur dt s (fun s =>
    if s.mgmtTakes dst.v6 dst.address dst.port then mgmtDatagram src.address src.port fragmented payload s else s)

/-- INBAND_FRAME (R255). -/
def execInbandFrame (dt lport : Nat) (frame : List Byte) (s : State) : Host.Outcome State Fault Refusal :=
  occur dt s (inbandFrame lport frame)

/-- REMOTE_TIMEOUT (R290). -/
def execRemoteTimeout (dt : Nat) (seq : BitVec 32) (s : State) : Host.Outcome State Fault Refusal := occur dt s (remoteTimeout seq)

/-- ENROLL_TIMEOUT (R249). -/
def execEnrollTimeout (dt port : Nat) (s : State) : Host.Outcome State Fault Refusal := occur dt s (enrollTimeout port)

/-- CMD_DOWN (R303). -/
def execCmdDown (dt : Nat) (s : State) : Host.Outcome State Fault Refusal := occur dt s controllerDown

/-- CMD_UP (R303). -/
def execCmdUp (dt : Nat) (s : State) : Host.Outcome State Fault Refusal := occur dt s controllerUp

/-- ROW_LEASE_EXPIRY (R296). -/
def execRowLeaseExpiry (dt : Nat) (s : State) : Host.Outcome State Fault Refusal := occur dt s leaseExpiry

/-- PCIE_LINK_LOSS (R296). -/
def execPcieLinkLoss (dt : Nat) (s : State) : Host.Outcome State Fault Refusal := occur dt s pcieLoss

/-- MGMT_LINK_DOWN (R296). -/
def execMgmtLinkDown (dt : Nat) (s : State) : Host.Outcome State Fault Refusal := occur dt s mgmtDown

/-- PERST_N (R356). -/
def execPerstN (dt : Nat) (s : State) : Host.Outcome State Fault Refusal := occur dt s perst

/-- MANAGER_LOST (R266). -/
def execManagerLost (dt : Nat) (s : State) : Host.Outcome State Fault Refusal := occur dt s managerLost

/-- PARENT_SWITCH (R265). -/
def execParentSwitch (dt : Nat) (s : State) : Host.Outcome State Fault Refusal := occur dt s parentSwitch

/-- WORKER_ABSENT (R267). -/
def execWorkerAbsent (dt port : Nat) (s : State) : Host.Outcome State Fault Refusal := occur dt s (workerGone port)

/-- KEY_ROLL_END (R262). -/
def execKeyRollEnd (dt : Nat) (s : State) : Host.Outcome State Fault Refusal := occur dt s rollEnd

/-- RING_WRITE (R306). -/
def execRingWrite (dt ring : Nat) (s : State) : Host.Outcome State Fault Refusal := occur dt s (ringWrite ring)

/-- RING_INT_TIMER (R307). -/
def execRingIntTimer (dt ring : Nat) (s : State) : Host.Outcome State Fault Refusal := occur dt s (ringTimer ring)

end Sys2Proof.Machine
end

