-- ==== Sys2Proof/Machine/Dispatch.lean ====
section
/-! DEFINITION. The effect of each command on everything but the queue: one arm per row of the opcode table. -/

namespace Sys2Proof.Machine

/-- The effect of a command. -/
def exec (i : Instr) (s : State) : Host.Outcome State Fault Refusal :=
  match i with
  | .deviceInfo dt r => Sys2Proof.Machine.execDeviceInfo dt r s
  | .rowClaim dt r => Sys2Proof.Machine.execRowClaim dt r s
  | .rowYield dt r => Sys2Proof.Machine.execRowYield dt r s
  | .cmdSync dt r => Sys2Proof.Machine.execCmdSync dt r s
  | .cmdStatus dt r => Sys2Proof.Machine.execCmdStatus dt r s
  | .mgmtConfig dt r => Sys2Proof.Machine.execMgmtConfig dt r s
  | .modeSet dt r => Sys2Proof.Machine.execModeSet dt r s
  | .modeStatus dt r => Sys2Proof.Machine.execModeStatus dt r s
  | .avsRequest dt r => Sys2Proof.Machine.execAvsRequest dt r s
  | .avsStatus dt r => Sys2Proof.Machine.execAvsStatus dt r s
  | .shedConfig dt r => Sys2Proof.Machine.execShedConfig dt r s
  | .padRelease dt r => Sys2Proof.Machine.execPadRelease dt r s
  | .dormantConfig dt r => Sys2Proof.Machine.execDormantConfig dt r s
  | .vigilRead dt r => Sys2Proof.Machine.execVigilRead dt r s
  | .vigilScratch dt r => Sys2Proof.Machine.execVigilScratch dt r s
  | .tableRestore dt r => Sys2Proof.Machine.execTableRestore dt r s
  | .portBreakout dt r => Sys2Proof.Machine.execPortBreakout dt r s
  | .portConfig dt r => Sys2Proof.Machine.execPortConfig dt r s
  | .portEnable dt r => Sys2Proof.Machine.execPortEnable dt r s
  | .portDisable dt r => Sys2Proof.Machine.execPortDisable dt r s
  | .portStatus dt r => Sys2Proof.Machine.execPortStatus dt r s
  | .laneTxEq dt r => Sys2Proof.Machine.execLaneTxEq dt r s
  | .laneRxConfig dt r => Sys2Proof.Machine.execLaneRxConfig dt r s
  | .lanePower dt r => Sys2Proof.Machine.execLanePower dt r s
  | .laneLoop dt r => Sys2Proof.Machine.execLaneLoop dt r s
  | .prbsConfig dt r => Sys2Proof.Machine.execPrbsConfig dt r s
  | .prbsStatus dt r => Sys2Proof.Machine.execPrbsStatus dt r s
  | .fecHistogram dt r => Sys2Proof.Machine.execFecHistogram dt r s
  | .laneStatus dt r => Sys2Proof.Machine.execLaneStatus dt r s
  | .l2Write dt r => Sys2Proof.Machine.execL2Write dt r s
  | .l2Delete dt r => Sys2Proof.Machine.execL2Delete dt r s
  | .lpmWrite dt r => Sys2Proof.Machine.execLpmWrite dt r s
  | .lpmDelete dt r => Sys2Proof.Machine.execLpmDelete dt r s
  | .nexthopWrite dt r => Sys2Proof.Machine.execNexthopWrite dt r s
  | .ecmpWrite dt r => Sys2Proof.Machine.execEcmpWrite dt r s
  | .aclWrite dt r => Sys2Proof.Machine.execAclWrite dt r s
  | .aclDelete dt r => Sys2Proof.Machine.execAclDelete dt r s
  | .mcgroupWrite dt r => Sys2Proof.Machine.execMcgroupWrite dt r s
  | .lportFwdConfig dt r => Sys2Proof.Machine.execLportFwdConfig dt r s
  | .classMaps dt r => Sys2Proof.Machine.execClassMaps dt r s
  | .mirrorSession dt r => Sys2Proof.Machine.execMirrorSession dt r s
  | .puntConfig dt r => Sys2Proof.Machine.execPuntConfig dt r s
  | .ethertypes dt r => Sys2Proof.Machine.execEthertypes dt r s
  | .ecmpSeed dt r => Sys2Proof.Machine.execEcmpSeed dt r s
  | .tableRead dt r => Sys2Proof.Machine.execTableRead dt r s
  | .tableUsage dt r => Sys2Proof.Machine.execTableUsage dt r s
  | .poolsConfig dt r => Sys2Proof.Machine.execPoolsConfig dt r s
  | .poolsEnable dt r => Sys2Proof.Machine.execPoolsEnable dt r s
  | .queueConfig dt r => Sys2Proof.Machine.execQueueConfig dt r s
  | .pfcConfig dt r => Sys2Proof.Machine.execPfcConfig dt r s
  | .portHold dt r => Sys2Proof.Machine.execPortHold dt r s
  | .mcastConfig dt r => Sys2Proof.Machine.execMcastConfig dt r s
  | .bufferStatus dt r => Sys2Proof.Machine.execBufferStatus dt r s
  | .calendarWrite dt r => Sys2Proof.Machine.execCalendarWrite dt r s
  | .calendarEnable dt r => Sys2Proof.Machine.execCalendarEnable dt r s
  | .calendarDisable dt r => Sys2Proof.Machine.execCalendarDisable dt r s
  | .calendarRead dt r => Sys2Proof.Machine.execCalendarRead dt r s
  | .calendarStatus dt r => Sys2Proof.Machine.execCalendarStatus dt r s
  | .schedConfig dt r => Sys2Proof.Machine.execSchedConfig dt r s
  | .deadlineBudget dt r => Sys2Proof.Machine.execDeadlineBudget dt r s
  | .timeGet dt r => Sys2Proof.Machine.execTimeGet dt r s
  | .timeSet dt r => Sys2Proof.Machine.execTimeSet dt r s
  | .timeStep dt r => Sys2Proof.Machine.execTimeStep dt r s
  | .timeStepCancel dt r => Sys2Proof.Machine.execTimeStepCancel dt r s
  | .timeAcceptJump dt r => Sys2Proof.Machine.execTimeAcceptJump dt r s
  | .timeThresholds dt r => Sys2Proof.Machine.execTimeThresholds dt r s
  | .timeScale dt r => Sys2Proof.Machine.execTimeScale dt r s
  | .compareClaim dt r => Sys2Proof.Machine.execCompareClaim dt r s
  | .compareArm dt r => Sys2Proof.Machine.execCompareArm dt r s
  | .compareDisarm dt r => Sys2Proof.Machine.execCompareDisarm dt r s
  | .compareRelease dt r => Sys2Proof.Machine.execCompareRelease dt r s
  | .compareStatus dt r => Sys2Proof.Machine.execCompareStatus dt r s
  | .timingConfig dt r => Sys2Proof.Machine.execTimingConfig dt r s
  | .axConfig dt r => Sys2Proof.Machine.execAxConfig dt r s
  | .linkAsym dt r => Sys2Proof.Machine.execLinkAsym dt r s
  | .axStatus dt r => Sys2Proof.Machine.execAxStatus dt r s
  | .ptpPortConfig dt r => Sys2Proof.Machine.execPtpPortConfig dt r s
  | .ptpClockConfig dt r => Sys2Proof.Machine.execPtpClockConfig dt r s
  | .ptpStatus dt r => Sys2Proof.Machine.execPtpStatus dt r s
  | .reftableWrite dt r => Sys2Proof.Machine.execReftableWrite dt r s
  | .reftableEnable dt r => Sys2Proof.Machine.execReftableEnable dt r s
  | .refMonitorConfig dt r => Sys2Proof.Machine.execRefMonitorConfig dt r s
  | .dpllConfig dt r => Sys2Proof.Machine.execDpllConfig dt r s
  | .refForce dt r => Sys2Proof.Machine.execRefForce dt r s
  | .refClear dt r => Sys2Proof.Machine.execRefClear dt r s
  | .refStatus dt r => Sys2Proof.Machine.execRefStatus dt r s
  | .dpllStatus dt r => Sys2Proof.Machine.execDpllStatus dt r s
  | .clockStatus dt r => Sys2Proof.Machine.execClockStatus dt r s
  | .rampProfile dt r => Sys2Proof.Machine.execRampProfile dt r s
  | .rampStart dt r => Sys2Proof.Machine.execRampStart dt r s
  | .rampStatus dt r => Sys2Proof.Machine.execRampStatus dt r s
  | .clkOutConfig dt r => Sys2Proof.Machine.execClkOutConfig dt r s
  | .lanePllConfig dt r => Sys2Proof.Machine.execLanePllConfig dt r s
  | .tioClaim dt r => Sys2Proof.Machine.execTioClaim dt r s
  | .tioRelease dt r => Sys2Proof.Machine.execTioRelease dt r s
  | .tdcConfig dt r => Sys2Proof.Machine.execTdcConfig dt r s
  | .tdcEnable dt r => Sys2Proof.Machine.execTdcEnable dt r s
  | .tdcDisable dt r => Sys2Proof.Machine.execTdcDisable dt r s
  | .tdcStatus dt r => Sys2Proof.Machine.execTdcStatus dt r s
  | .tdcResult dt r => Sys2Proof.Machine.execTdcResult dt r s
  | .counterRead dt r => Sys2Proof.Machine.execCounterRead dt r s
  | .snapshotConfig dt r => Sys2Proof.Machine.execSnapshotConfig dt r s
  | .snapshotNow dt r => Sys2Proof.Machine.execSnapshotNow dt r s
  | .filterConfig dt r => Sys2Proof.Machine.execFilterConfig dt r s
  | .stickyClear dt r => Sys2Proof.Machine.execStickyClear dt r s
  | .tagConfig dt r => Sys2Proof.Machine.execTagConfig dt r s
  | .recorderRead dt r => Sys2Proof.Machine.execRecorderRead dt r s
  | .recorderFreeze dt r => Sys2Proof.Machine.execRecorderFreeze dt r s
  | .recorderConfig dt r => Sys2Proof.Machine.execRecorderConfig dt r s
  | .recorderStatus dt r => Sys2Proof.Machine.execRecorderStatus dt r s
  | .calExport dt r => Sys2Proof.Machine.execCalExport dt r s
  | .calStage dt r => Sys2Proof.Machine.execCalStage dt r s
  | .calImport dt r => Sys2Proof.Machine.execCalImport dt r s
  | .calWrite dt r => Sys2Proof.Machine.execCalWrite dt r s
  | .calStatus dt r => Sys2Proof.Machine.execCalStatus dt r s
  | .hierStatus dt r => Sys2Proof.Machine.execHierStatus dt r s
  | .hierConfig dt r => Sys2Proof.Machine.execHierConfig dt r s
  | .keyProvision dt r => Sys2Proof.Machine.execKeyProvision dt r s
  | .fabricKeySet dt r => Sys2Proof.Machine.execFabricKeySet dt r s
  | .enroll dt r => Sys2Proof.Machine.execEnroll dt r s
  | .releaseWorker dt r => Sys2Proof.Machine.execReleaseWorker dt r s
  | .fabricKeyRoll dt r => Sys2Proof.Machine.execFabricKeyRoll dt r s
  | .hierEpochs dt r => Sys2Proof.Machine.execHierEpochs dt r s
  | .enrollReq dt r => Sys2Proof.Machine.execEnrollReq dt r s
  | .release dt r => Sys2Proof.Machine.execRelease dt r s
  | .announceStep dt r => Sys2Proof.Machine.execAnnounceStep dt r s
  | .announceTimescale dt r => Sys2Proof.Machine.execAnnounceTimescale dt r s
  | .announceEpochs dt r => Sys2Proof.Machine.execAnnounceEpochs dt r s
  | .announceSettings dt r => Sys2Proof.Machine.execAnnounceSettings dt r s
  | .announceKey dt r => Sys2Proof.Machine.execAnnounceKey dt r s
  | .eventMirror dt => Sys2Proof.Machine.execEventMirror dt s
  | .testBist dt r => Sys2Proof.Machine.execTestBist dt r s
  | .testStatus dt r => Sys2Proof.Machine.execTestStatus dt r s
  | .cqDoorbell dt q v => Sys2Proof.Machine.execCqDoorbell dt q v s
  | .cqAck dt q v => Sys2Proof.Machine.execCqAck dt q v s
  | .tsSeq dt => Sys2Proof.Machine.execTsSeq dt s
  | .tsState dt v => Sys2Proof.Machine.execTsState dt v s
  | .ringCtrl dt d v => Sys2Proof.Machine.execRingCtrl dt d v s
  | .registerWrite dt off v => Sys2Proof.Machine.execRegisterWrite dt off v s
  | .mgmtDatagram dt dst src fragmented payload => Sys2Proof.Machine.execMgmtDatagram dt dst src fragmented payload s
  | .inbandFrame dt lport frame => Sys2Proof.Machine.execInbandFrame dt lport frame s
  | .remoteTimeout dt seq => Sys2Proof.Machine.execRemoteTimeout dt seq s
  | .enrollTimeout dt port => Sys2Proof.Machine.execEnrollTimeout dt port s
  | .cmdDown dt => Sys2Proof.Machine.execCmdDown dt s
  | .cmdUp dt => Sys2Proof.Machine.execCmdUp dt s
  | .rowLeaseExpiry dt => Sys2Proof.Machine.execRowLeaseExpiry dt s
  | .pcieLinkLoss dt => Sys2Proof.Machine.execPcieLinkLoss dt s
  | .mgmtLinkDown dt => Sys2Proof.Machine.execMgmtLinkDown dt s
  | .configurationCommit dt => Sys2Proof.Machine.execConfigurationCommit dt s
  | .timeLoaded dt => Sys2Proof.Machine.execTimeLoaded dt s
  | .aclkRotationDone dt => Sys2Proof.Machine.execAclkRotationDone dt s
  | .compareFire dt unit => Sys2Proof.Machine.execCompareFire dt unit s
  | .pulseEnd dt unit => Sys2Proof.Machine.execPulseEnd dt unit s
  | .porNRise dt straps slotA slotB core0 => Sys2Proof.Machine.execPorNRise dt straps slotA slotB core0 s
  | .porNFall dt => Sys2Proof.Machine.execPorNFall dt s
  | .perstN dt => Sys2Proof.Machine.execPerstN dt s
  | .vkeepApplied dt => Sys2Proof.Machine.execVkeepApplied dt s
  | .vigilReady dt => Sys2Proof.Machine.execVigilReady dt s
  | .vddCore0Lost dt => Sys2Proof.Machine.execVddCore0Lost dt s
  | .vddCore1Lost dt => Sys2Proof.Machine.execVddCore1Lost dt s
  | .vddTimeLost dt => Sys2Proof.Machine.execVddTimeLost dt s
  | .vddTimeReturn dt => Sys2Proof.Machine.execVddTimeReturn dt s
  | .vddTimeWakeTimeout dt => Sys2Proof.Machine.execVddTimeWakeTimeout dt s
  | .oscLost dt => Sys2Proof.Machine.execOscLost dt s
  | .oscRestored dt untrained => Sys2Proof.Machine.execOscRestored dt untrained s
  | .oscNotReady dt => Sys2Proof.Machine.execOscNotReady dt s
  | .asynUnlock dt => Sys2Proof.Machine.execAsynUnlock dt s
  | .lanePllUnlock dt port pair => Sys2Proof.Machine.execLanePllUnlock dt port pair s
  | .lanePllRelock dt port pair => Sys2Proof.Machine.execLanePllRelock dt port pair s
  | .clkOutUnlock dt output => Sys2Proof.Machine.execClkOutUnlock dt output s
  | .corePllUnlock dt die pll => Sys2Proof.Machine.execCorePllUnlock dt die pll s
  | .coreThaw dt relock => Sys2Proof.Machine.execCoreThaw dt relock s
  | .fwdReset dt die => Sys2Proof.Machine.execFwdReset dt die s
  | .fwdDomainRestart dt die => Sys2Proof.Machine.execFwdDomainRestart dt die s
  | .rampDone dt => Sys2Proof.Machine.execRampDone dt s
  | .avsAck dt rail alert => Sys2Proof.Machine.execAvsAck dt rail alert s
  | .avsAttemptTimeout dt rail status => Sys2Proof.Machine.execAvsAttemptTimeout dt rail status s
  | .avsStatusPoll dt alerts => Sys2Proof.Machine.execAvsStatusPoll dt alerts s
  | .railWarning dt reading => Sys2Proof.Machine.execRailWarning dt reading s
  | .railCritical dt reading => Sys2Proof.Machine.execRailCritical dt reading s
  | .pwrLimitN dt => Sys2Proof.Machine.execPwrLimitN dt s
  | .thermal dt die temp => Sys2Proof.Machine.execThermal dt die temp s
  | .triggerClear dt clear => Sys2Proof.Machine.execTriggerClear dt clear s
  | .shedStage dt => Sys2Proof.Machine.execShedStage dt s
  | .shedRestore dt => Sys2Proof.Machine.execShedRestore dt s
  | .dormantEntry dt => Sys2Proof.Machine.execDormantEntry dt s
  | .dormantAbort dt => Sys2Proof.Machine.execDormantAbort dt s
  | .wakeNFall dt => Sys2Proof.Machine.execWakeNFall dt s
  | .dormantExit dt bad0 bad1 => Sys2Proof.Machine.execDormantExit dt bad0 bad1 s
  | .bistComplete dt die failures => Sys2Proof.Machine.execBistComplete dt die failures s
  | .causewayRetrain dt segment tempDiff milliVolt => Sys2Proof.Machine.execCausewayRetrain dt segment tempDiff milliVolt s
  | .vddCoreSkew dt milliVolt => Sys2Proof.Machine.execVddCoreSkew dt milliVolt s
  | .causewayRetrainDone dt segment trained => Sys2Proof.Machine.execCausewayRetrainDone dt segment trained s
  | .temperatureCompensation dt temps => Sys2Proof.Machine.execTemperatureCompensation dt temps s
  | .timingPhaseSample dt port phi lane skew => Sys2Proof.Machine.execTimingPhaseSample dt port phi lane skew s
  | .rxFrame dt lport arrival frame => Sys2Proof.Machine.execRxFrame dt lport arrival frame s
  | .pipelineFrame dt pipeline => Sys2Proof.Machine.execPipelineFrame dt pipeline s
  | .injectFrame dt record => Sys2Proof.Machine.execInjectFrame dt record s
  | .dequeue dt lport sound => Sys2Proof.Machine.execDequeue dt lport sound s
  | .xoffRepeat dt lport priority => Sys2Proof.Machine.execXoffRepeat dt lport priority s
  | .macControlRx dt lport frame => Sys2Proof.Machine.execMacControlRx dt lport frame s
  | .pfcPauseStart dt lport priority => Sys2Proof.Machine.execPfcPauseStart dt lport priority s
  | .pfcPauseEnd dt lport priority => Sys2Proof.Machine.execPfcPauseEnd dt lport priority s
  | .residueRetry dt => Sys2Proof.Machine.execResidueRetry dt s
  | .deadlineHeadCheck dt => Sys2Proof.Machine.execDeadlineHeadCheck dt s
  | .portHoldEnd dt lport => Sys2Proof.Machine.execPortHoldEnd dt lport s
  | .releaseInstant dt release => Sys2Proof.Machine.execReleaseInstant dt release s
  | .windowClose dt lport => Sys2Proof.Machine.execWindowClose dt lport s
  | .calendarSwap dt lport => Sys2Proof.Machine.execCalendarSwap dt lport s
  | .calendarRemoval dt lport => Sys2Proof.Machine.execCalendarRemoval dt lport s
  | .los dt port lane => Sys2Proof.Machine.execLos dt port lane s
  | .losClear dt port lane => Sys2Proof.Machine.execLosClear dt port lane s
  | .lol dt port lane => Sys2Proof.Machine.execLol dt port lane s
  | .lolClear dt port lane => Sys2Proof.Machine.execLolClear dt port lane s
  | .pcsAlignmentLoss dt lport => Sys2Proof.Machine.execPcsAlignmentLoss dt lport s
  | .linkUp dt lport => Sys2Proof.Machine.execLinkUp dt lport s
  | .trainingRequest dt port lane tap ask => Sys2Proof.Machine.execTrainingRequest dt port lane tap ask s
  | .trainingTimeout dt lport => Sys2Proof.Machine.execTrainingTimeout dt lport s
  | .fecDegradeCheck dt lport bins symbols => Sys2Proof.Machine.execFecDegradeCheck dt lport bins symbols s
  | .lowPowerTransitionDone dt lport => Sys2Proof.Machine.execLowPowerTransitionDone dt lport s
  | .autoWake dt lport => Sys2Proof.Machine.execAutoWake dt lport s
  | .timingWake dt lport => Sys2Proof.Machine.execTimingWake dt lport s
  | .wakeTimeout dt lport => Sys2Proof.Machine.execWakeTimeout dt lport s
  | .axSend dt port => Sys2Proof.Machine.execAxSend dt port s
  | .axReceive dt port frame => Sys2Proof.Machine.execAxReceive dt port frame s
  | .axSilent dt port => Sys2Proof.Machine.execAxSilent dt port s
  | .timingFallback dt port => Sys2Proof.Machine.execTimingFallback dt port s
  | .timingRevert dt port => Sys2Proof.Machine.execTimingRevert dt port s
  | .ppsInPulse dt input => Sys2Proof.Machine.execPpsInPulse dt input s
  | .ptpMessage dt port msg => Sys2Proof.Machine.execPtpMessage dt port msg s
  | .refSignalLoss dt entry => Sys2Proof.Machine.execRefSignalLoss dt entry s
  | .refMonitorSample dt samples output => Sys2Proof.Machine.execRefMonitorSample dt samples output s
  | .refSelection dt => Sys2Proof.Machine.execRefSelection dt s
  | .refSwitch dt offset => Sys2Proof.Machine.execRefSwitch dt offset s
  | .dpllCycle dt phase => Sys2Proof.Machine.execDpllCycle dt phase s
  | .holdoverExpiry dt => Sys2Proof.Machine.execHoldoverExpiry dt s
  | .managerLost dt => Sys2Proof.Machine.execManagerLost dt s
  | .parentSwitch dt => Sys2Proof.Machine.execParentSwitch dt s
  | .workerAbsent dt port => Sys2Proof.Machine.execWorkerAbsent dt port s
  | .keyRollEnd dt => Sys2Proof.Machine.execKeyRollEnd dt s
  | .tdcEdge dt channel falling => Sys2Proof.Machine.execTdcEdge dt channel falling s
  | .tdcGateEdge dt pin level => Sys2Proof.Machine.execTdcGateEdge dt pin level s
  | .tdcWindowOpen dt channel => Sys2Proof.Machine.execTdcWindowOpen dt channel s
  | .tdcGateClose dt channel => Sys2Proof.Machine.execTdcGateClose dt channel s
  | .ringWrite dt ring => Sys2Proof.Machine.execRingWrite dt ring s
  | .ringIntTimer dt ring => Sys2Proof.Machine.execRingIntTimer dt ring s
  | .snapshot dt => Sys2Proof.Machine.execSnapshot dt s
  | .snapshotLatched dt => Sys2Proof.Machine.execSnapshotLatched dt s
  | .recordStore dt => Sys2Proof.Machine.execRecordStore dt s
  | .recorderUnfrozen dt => Sys2Proof.Machine.execRecorderUnfrozen dt s
  | .rateWindowEnd dt => Sys2Proof.Machine.execRateWindowEnd dt s
  | .ledFrame dt => Sys2Proof.Machine.execLedFrame dt s
  | .modctlFrame dt => Sys2Proof.Machine.execModctlFrame dt s
  | .modBusWrite dt bus result => Sys2Proof.Machine.execModBusWrite dt bus result s
  | .modIntNFall dt => Sys2Proof.Machine.execModIntNFall dt s
  | .tapInstruction dt instruction => Sys2Proof.Machine.execTapInstruction dt instruction s
  | .tapReset dt => Sys2Proof.Machine.execTapReset dt s
  | .clkOutSynthesizerLock dt output => Sys2Proof.Machine.execClkOutSynthesizerLock dt output s
  | .trainingComplete dt lport => Sys2Proof.Machine.execTrainingComplete dt lport s
  | .modeTransitionEnd dt => Sys2Proof.Machine.execModeTransitionEnd dt s
  | .vigilCrystalSecond dt => Sys2Proof.Machine.execVigilCrystalSecond dt s
  | .ptpSendInterval dt port kind => Sys2Proof.Machine.execPtpSendInterval dt port kind s

end Sys2Proof.Machine
end

