-- ==== Sys2Proof/Machine/Step.lean ====
section
/-! DEFINITION. One step: the command at the front of the queue. -/

namespace Sys2Proof.Machine

/-- The state with the front command taken off the queue. -/
def State.rest (s : State) (q : List Instr) : State := { s with pending := q }

/-- One step: the command at the front of the queue runs on the state with the queue's rest; an empty queue idles
(log entry 2). -/
def step (s : State) : Host.Outcome State Fault Refusal :=
  match s.pending with
  | [] => .next s
  | c :: q => exec c (s.rest q)

/-- The state with the command that a word spells put at the front of its queue; the table gives no row any bits, so no
word spells a command (log entry 3). -/
def State.withFetchWord (s : State) (nbits w : Nat) : State :=
  match decodeTableWord nbits w with
  | some c => { s with pending := c :: s.pending }
  | none => s

end Sys2Proof.Machine
end

