-- ==== Sys2Proof/Safety.lean ====
section
/-! DEFINITION. What a safe run is, and the terms that claims use: a command that completes, and what it leaves unchanged. -/

namespace Sys2Proof

open Sys2Proof.Machine

/-- A step that answers a next state. -/
def Safe (s : State) : Prop := ∃ t, step s = .next t

/-- A command completes, and the state it leads to has a property. -/
def Runs (i : Instr) (s : State) (P : State → Prop) : Prop := ∃ t, exec i s = .next t ∧ P t

/-- The parts of State that a frame names. -/
inductive Mod where
  | ident | cmd | time | log | power | fwd | port | ref | clk | hier | meas | ctr | cal | board
  deriving DecidableEq, Repr

/-- A part of the state is the same in two states, but for what follows every command: the records that wait for DMA rings, the
READY block as shown, the squelch of the clock outputs, the mirror queue and the watch on the parents, the instant of INT_N. -/
def Mod.same (m : Mod) (s t : State) : Prop :=
  match m with
  | .ident => t.part = s.part ∧ t.variant = s.variant ∧ t.stepping = s.stepping ∧ t.serials = s.serials ∧
      t.macBase = s.macBase ∧ t.pending = s.pending
  | .cmd => { t.cmd with rings := [] } = { s.cmd with rings := [] }
  | .time => t.time = s.time
  | .log => t.log = s.log
  | .power => { t.power with shownReady := [], readySeq := 0 } = { s.power with shownReady := [], readySeq := 0 }
  | .fwd => t.fwd = s.fwd
  | .port => t.port = s.port
  | .ref => t.ref = s.ref
  | .clk => { t.clk with outs := [] } = { s.clk with outs := [] }
  | .hier => { t.hier with mirrorQ := [], noParentSince := none } = { s.hier with mirrorQ := [], noParentSince := none }
  | .meas => t.meas = s.meas
  | .ctr => t.ctr = s.ctr
  | .cal => t.cal = s.cal
  | .board => { t.board with intAt := none } = { s.board with intAt := none }

/-- Every part of the state but those listed is unchanged; the recorder may take events in any case. -/
def OnlyIn (changed : List Mod) (s t : State) : Prop := ∀ m : Mod, m ≠ .log → m ∉ changed → m.same s t

end Sys2Proof
end

