-- ==== Sys2Proof/WellFormed.lean ====
section
/-! DEFINITION. Well-formed commands: every field within the width that the spec gives it. -/

namespace Sys2Proof

/-- A packet's fields are within the widths of Table 12.1, its parameters are whole words within LENGTH, and its tag has
16 bytes. -/
def Req.wf (r : Req) : Bool :=
  decide (r.version < 16) && decide (r.kind < 16) && decide (r.rsvFlags < 16) && decide (r.rsvTarget < 16384) &&
  decide (r.params.length % 4 = 0) && decide (r.params.length + (if r.ms.isSome then 8 else 0) ≤ 4092) &&
  (match r.tag with | some t => decide (t.length = 16) | none => true)

/-- A port number of Table 0.1. -/
def portOk (p : Nat) : Bool := decide (p < 96)

/-- A logical port number of R58. -/
def lportOk (l : Nat) : Bool := decide (l < 384)

/-- A lane of a port. -/
def laneOk (p k : Nat) : Bool := portOk p && decide (k < 8)

/-- A PFC priority of a logical port. -/
def priorityOk (l p : Nat) : Bool := lportOk l && decide (p < 8)

/-- A frame that the MAC can hold: whole bytes up to the largest frame of R54 and one more. -/
def frameOk (f : List Byte) : Bool := decide (f.length ≤ 16321)

/-- The fields of an event row are within the ranges the spec gives them; an opcode row's packet is well formed. -/
def Instr.wf (i : Instr) : Bool :=
  match i with
  | .registerWrite _ off _ => decide (off < 0x400000)
  | .mgmtDatagram _ _ _ _ payload => decide (payload.length ≤ 9216)
  | .inbandFrame _ l f => lportOk l && frameOk f
  | .macControlRx _ l f => lportOk l && frameOk f.bytes
  | .rxFrame _ l a f => lportOk l && decide (a.mates.length < 4) && frameOk f
  | .enrollTimeout _ p | .axSend _ p | .axSilent _ p | .timingFallback _ p | .timingRevert _ p
  | .workerAbsent _ p => portOk p
  | .timingPhaseSample _ p _ k _ => portOk p && decide (k < 8)
  | .compareFire _ u | .pulseEnd _ u => decide (u < 32)
  | .lanePllUnlock _ p k | .lanePllRelock _ p k => portOk p && decide (k < 4)
  | .clkOutUnlock _ o | .clkOutSynthesizerLock _ o => decide (o < 4)
  | .corePllUnlock _ d _ | .coreThaw _ ⟨d, _⟩ | .fwdReset _ d | .fwdDomainRestart _ d => decide (d < 2)
  | .avsAck _ r _ | .avsAttemptTimeout _ r _ => decide (r < 8)
  | .railWarning _ ⟨r, _⟩ | .railCritical _ ⟨r, _⟩ => decide (r < 20)
  | .thermal _ d _ | .bistComplete _ d _ => decide (d < 8)
  | .triggerClear _ c => decide (c.trigger < 5 ∧ c.levels.length ≤ 20 ∧ c.temps.length ≤ 8)
  | .causewayRetrain _ g _ _ | .causewayRetrainDone _ g _ => decide (g < 7)
  | .pipelineFrame _ p => decide (p < 48)
  | .dequeue _ l _ | .portHoldEnd _ l | .releaseInstant _ ⟨l, _⟩ | .windowClose _ l | .calendarSwap _ l
  | .calendarRemoval _ l | .pcsAlignmentLoss _ l | .linkUp _ l | .trainingTimeout _ l
  | .fecDegradeCheck _ l _ _ | .lowPowerTransitionDone _ l | .autoWake _ l | .timingWake _ l | .wakeTimeout _ l
  | .trainingComplete _ l => lportOk l
  | .xoffRepeat _ l p | .pfcPauseStart _ l p | .pfcPauseEnd _ l p => priorityOk l p
  | .los _ p k | .losClear _ p k | .lol _ p k | .lolClear _ p k => laneOk p k || decide (p = 96 ∧ k = 0)
  | .trainingRequest _ p k t _ => laneOk p k && decide (t < 5)
  | .axReceive _ p f => portOk p && frameOk f
  | .ppsInPulse _ n => decide (n < 2)
  | .ptpMessage _ p _ | .ptpSendInterval _ p _ => portOk p
  | .refSignalLoss _ e => decide (e < 16)
  | .tdcEdge _ c _ | .tdcWindowOpen _ c | .tdcGateClose _ c => decide (c < 16)
  | .tdcGateEdge _ p _ => decide (p < 4)
  | .ringWrite _ d | .ringIntTimer _ d => decide (d < 64)
  | .modBusWrite _ b _ => decide (b < 12)
  | .porNRise _ _ a b _ => decide (a.header.length ≤ 4096 ∧ b.header.length ≤ 4096)
  | .deviceInfo _ r | .rowClaim _ r | .rowYield _ r | .cmdSync _ r | .cmdStatus _ r | .mgmtConfig _ r | .modeSet _ r
  | .modeStatus _ r | .avsRequest _ r | .avsStatus _ r | .shedConfig _ r | .padRelease _ r | .dormantConfig _ r
  | .vigilRead _ r | .vigilScratch _ r | .tableRestore _ r | .portBreakout _ r | .portConfig _ r | .portEnable _ r
  | .portDisable _ r | .portStatus _ r | .laneTxEq _ r | .laneRxConfig _ r | .lanePower _ r | .laneLoop _ r
  | .prbsConfig _ r | .prbsStatus _ r | .fecHistogram _ r | .laneStatus _ r => r.wf
  | .l2Write _ r | .l2Delete _ r | .lpmWrite _ r | .lpmDelete _ r | .nexthopWrite _ r | .ecmpWrite _ r | .aclWrite _ r
  | .aclDelete _ r | .mcgroupWrite _ r | .lportFwdConfig _ r | .classMaps _ r | .mirrorSession _ r | .puntConfig _ r
  | .ethertypes _ r | .ecmpSeed _ r | .tableRead _ r | .tableUsage _ r | .poolsConfig _ r | .poolsEnable _ r
  | .queueConfig _ r | .pfcConfig _ r | .portHold _ r | .mcastConfig _ r | .bufferStatus _ r | .calendarWrite _ r
  | .calendarEnable _ r | .calendarDisable _ r | .calendarRead _ r | .calendarStatus _ r | .schedConfig _ r
  | .deadlineBudget _ r => r.wf
  | .timeGet _ r | .timeSet _ r | .timeStep _ r | .timeStepCancel _ r | .timeAcceptJump _ r | .timeThresholds _ r
  | .timeScale _ r | .compareClaim _ r | .compareArm _ r | .compareDisarm _ r | .compareRelease _ r | .compareStatus _ r
  | .timingConfig _ r | .axConfig _ r | .linkAsym _ r | .axStatus _ r | .ptpPortConfig _ r | .ptpClockConfig _ r
  | .ptpStatus _ r | .reftableWrite _ r | .reftableEnable _ r | .refMonitorConfig _ r | .dpllConfig _ r | .refForce _ r
  | .refClear _ r | .refStatus _ r | .dpllStatus _ r | .clockStatus _ r | .rampProfile _ r | .rampStart _ r
  | .rampStatus _ r | .clkOutConfig _ r | .lanePllConfig _ r => r.wf
  | .tioClaim _ r | .tioRelease _ r | .tdcConfig _ r | .tdcEnable _ r | .tdcDisable _ r | .tdcStatus _ r | .tdcResult _ r
  | .counterRead _ r | .snapshotConfig _ r | .snapshotNow _ r | .filterConfig _ r | .stickyClear _ r | .tagConfig _ r
  | .recorderRead _ r | .recorderFreeze _ r | .recorderConfig _ r | .recorderStatus _ r | .calExport _ r | .calStage _ r
  | .calImport _ r | .calWrite _ r | .calStatus _ r | .hierStatus _ r | .hierConfig _ r | .keyProvision _ r
  | .fabricKeySet _ r | .enroll _ r | .releaseWorker _ r | .fabricKeyRoll _ r | .hierEpochs _ r | .enrollReq _ r
  | .release _ r | .announceStep _ r | .announceTimescale _ r | .announceEpochs _ r | .announceSettings _ r
  | .announceKey _ r | .testBist _ r | .testStatus _ r => r.wf
  | .eventMirror _ | .cqDoorbell _ _ _ | .cqAck _ _ _ | .tsSeq _ | .tsState _ _ | .ringCtrl _ _ _ | .remoteTimeout _ _
  | .cmdDown _ | .cmdUp _ | .rowLeaseExpiry _ | .pcieLinkLoss _ | .mgmtLinkDown _ | .configurationCommit _
  | .timeLoaded _ | .aclkRotationDone _ | .porNFall _ | .perstN _ | .vkeepApplied _
  | .vigilReady _ | .vddCore0Lost _ | .vddCore1Lost _ | .vddTimeLost _ | .vddTimeReturn _ | .vddTimeWakeTimeout _
  | .oscLost _ | .oscRestored _ _ | .oscNotReady _ | .asynUnlock _ | .rampDone _ | .avsStatusPoll _ _ | .pwrLimitN _
  | .shedStage _ | .shedRestore _ | .dormantEntry _ | .dormantAbort _ | .wakeNFall _ | .dormantExit _ _ _
  | .vddCoreSkew _ _ | .temperatureCompensation _ _ | .injectFrame _ _ | .residueRetry _ | .deadlineHeadCheck _
  | .refMonitorSample _ _ _ | .refSelection _ | .refSwitch _ _ | .dpllCycle _ _ | .holdoverExpiry _ | .managerLost _
  | .parentSwitch _ | .keyRollEnd _ | .snapshot _ | .snapshotLatched _ | .recordStore _ | .recorderUnfrozen _
  | .rateWindowEnd _ | .ledFrame _ | .modctlFrame _ | .modIntNFall _ | .tapInstruction _ _ | .tapReset _
  | .modeTransitionEnd _ | .vigilCrystalSecond _ => true

end Sys2Proof
end

