-- ==== Sys2Proof/Certificates/Slice0/Obligations.lean ====
section
/-! DEFINITION. The statements about the model, and the terms that only they use. -/

open Sys2Proof Sys2Proof.Machine

/-! ### The queue -/

/-- A step takes the command at the front of the queue and runs it on the state with the queue's rest; on an empty queue the block idles
(the model's choice, log entry 2). -/
def Obligations.StepRunsTheFrontCommand : Prop :=
  (∀ (s : State) (c : Instr) (q : List Instr), s.pending = c :: q → step s = exec c { s with pending := q }) ∧
  ∀ s : State, s.pending = [] → step s = .next s

/-! ### Invariants that every step keeps -/

/-- The READY block shows the reason of every function (R360). -/
def Sys2Proof.ReadyShown (s : State) : Prop := s.power.shownReady = s.reasons

/-- Every CLK_OUT output is squelched exactly while its SQUELCH rule and the DPLL state call for it (Table 9.7). -/
def Sys2Proof.OutputsFollowDpll (s : State) : Prop :=
  ∀ n, (tget s.clk.outs n {}).squelched = (tget s.clk.outs n {}).squelchIn s.ref.dpll

/-- An ENROLLED worker has an instant of loss exactly while no parent candidate qualifies (R244, R265). -/
def Sys2Proof.ParentsWatched (s : State) : Prop := s.hier.role = .enrolled → (s.hier.noParentSince = none ↔ s.firstCand ≠ none)

/-- Every step keeps the READY block equal to the reasons of the functions. -/
def Obligations.EveryStepShowsReadiness : Prop :=
  ∀ s t : State, ReadyShown s → step s = .next t → ReadyShown t

/-- Every step keeps the clock outputs squelched as the DPLL state calls for. -/
def Obligations.EveryStepSquelchesOutputs : Prop :=
  ∀ s t : State, OutputsFollowDpll s → step s = .next t → OutputsFollowDpll t

/-- Every step keeps the watch on the parent candidates. -/
def Obligations.EveryStepWatchesParents : Prop :=
  ∀ s t : State, ParentsWatched s → step s = .next t → ParentsWatched t


/-! ### Packets -/

/-- The command that carries a packet of an opcode. -/
def Sys2Proof.Op.instr (o : Op) (dt : Nat) (r : Req) : Instr :=
  match o with
  | .deviceInfo => .deviceInfo dt r
  | .rowClaim => .rowClaim dt r
  | .rowYield => .rowYield dt r
  | .cmdSync => .cmdSync dt r
  | .cmdStatus => .cmdStatus dt r
  | .mgmtConfig => .mgmtConfig dt r
  | .modeSet => .modeSet dt r
  | .modeStatus => .modeStatus dt r
  | .avsRequest => .avsRequest dt r
  | .avsStatus => .avsStatus dt r
  | .shedConfig => .shedConfig dt r
  | .padRelease => .padRelease dt r
  | .dormantConfig => .dormantConfig dt r
  | .vigilRead => .vigilRead dt r
  | .vigilScratch => .vigilScratch dt r
  | .tableRestore => .tableRestore dt r
  | .portBreakout => .portBreakout dt r
  | .portConfig => .portConfig dt r
  | .portEnable => .portEnable dt r
  | .portDisable => .portDisable dt r
  | .portStatus => .portStatus dt r
  | .laneTxEq => .laneTxEq dt r
  | .laneRxConfig => .laneRxConfig dt r
  | .lanePower => .lanePower dt r
  | .laneLoop => .laneLoop dt r
  | .prbsConfig => .prbsConfig dt r
  | .prbsStatus => .prbsStatus dt r
  | .fecHistogram => .fecHistogram dt r
  | .laneStatus => .laneStatus dt r
  | .l2Write => .l2Write dt r
  | .l2Delete => .l2Delete dt r
  | .lpmWrite => .lpmWrite dt r
  | .lpmDelete => .lpmDelete dt r
  | .nexthopWrite => .nexthopWrite dt r
  | .ecmpWrite => .ecmpWrite dt r
  | .aclWrite => .aclWrite dt r
  | .aclDelete => .aclDelete dt r
  | .mcgroupWrite => .mcgroupWrite dt r
  | .lportFwdConfig => .lportFwdConfig dt r
  | .classMaps => .classMaps dt r
  | .mirrorSession => .mirrorSession dt r
  | .puntConfig => .puntConfig dt r
  | .ethertypes => .ethertypes dt r
  | .ecmpSeed => .ecmpSeed dt r
  | .tableRead => .tableRead dt r
  | .tableUsage => .tableUsage dt r
  | .poolsConfig => .poolsConfig dt r
  | .poolsEnable => .poolsEnable dt r
  | .queueConfig => .queueConfig dt r
  | .pfcConfig => .pfcConfig dt r
  | .portHold => .portHold dt r
  | .mcastConfig => .mcastConfig dt r
  | .bufferStatus => .bufferStatus dt r
  | .calendarWrite => .calendarWrite dt r
  | .calendarEnable => .calendarEnable dt r
  | .calendarDisable => .calendarDisable dt r
  | .calendarRead => .calendarRead dt r
  | .calendarStatus => .calendarStatus dt r
  | .schedConfig => .schedConfig dt r
  | .deadlineBudget => .deadlineBudget dt r
  | .timeGet => .timeGet dt r
  | .timeSet => .timeSet dt r
  | .timeStep => .timeStep dt r
  | .timeStepCancel => .timeStepCancel dt r
  | .timeAcceptJump => .timeAcceptJump dt r
  | .timeThresholds => .timeThresholds dt r
  | .timeScale => .timeScale dt r
  | .compareClaim => .compareClaim dt r
  | .compareArm => .compareArm dt r
  | .compareDisarm => .compareDisarm dt r
  | .compareRelease => .compareRelease dt r
  | .compareStatus => .compareStatus dt r
  | .timingConfig => .timingConfig dt r
  | .axConfig => .axConfig dt r
  | .linkAsym => .linkAsym dt r
  | .axStatus => .axStatus dt r
  | .ptpPortConfig => .ptpPortConfig dt r
  | .ptpClockConfig => .ptpClockConfig dt r
  | .ptpStatus => .ptpStatus dt r
  | .reftableWrite => .reftableWrite dt r
  | .reftableEnable => .reftableEnable dt r
  | .refMonitorConfig => .refMonitorConfig dt r
  | .dpllConfig => .dpllConfig dt r
  | .refForce => .refForce dt r
  | .refClear => .refClear dt r
  | .refStatus => .refStatus dt r
  | .dpllStatus => .dpllStatus dt r
  | .clockStatus => .clockStatus dt r
  | .rampProfile => .rampProfile dt r
  | .rampStart => .rampStart dt r
  | .rampStatus => .rampStatus dt r
  | .clkOutConfig => .clkOutConfig dt r
  | .lanePllConfig => .lanePllConfig dt r
  | .tioClaim => .tioClaim dt r
  | .tioRelease => .tioRelease dt r
  | .tdcConfig => .tdcConfig dt r
  | .tdcEnable => .tdcEnable dt r
  | .tdcDisable => .tdcDisable dt r
  | .tdcStatus => .tdcStatus dt r
  | .tdcResult => .tdcResult dt r
  | .counterRead => .counterRead dt r
  | .snapshotConfig => .snapshotConfig dt r
  | .snapshotNow => .snapshotNow dt r
  | .filterConfig => .filterConfig dt r
  | .stickyClear => .stickyClear dt r
  | .tagConfig => .tagConfig dt r
  | .recorderRead => .recorderRead dt r
  | .recorderFreeze => .recorderFreeze dt r
  | .recorderConfig => .recorderConfig dt r
  | .recorderStatus => .recorderStatus dt r
  | .calExport => .calExport dt r
  | .calStage => .calStage dt r
  | .calImport => .calImport dt r
  | .calWrite => .calWrite dt r
  | .calStatus => .calStatus dt r
  | .hierStatus => .hierStatus dt r
  | .hierConfig => .hierConfig dt r
  | .keyProvision => .keyProvision dt r
  | .fabricKeySet => .fabricKeySet dt r
  | .enroll => .enroll dt r
  | .releaseWorker => .releaseWorker dt r
  | .fabricKeyRoll => .fabricKeyRoll dt r
  | .hierEpochs => .hierEpochs dt r
  | .enrollReq => .enrollReq dt r
  | .release => .release dt r
  | .announceStep => .announceStep dt r
  | .announceTimescale => .announceTimescale dt r
  | .announceEpochs => .announceEpochs dt r
  | .announceSettings => .announceSettings dt r
  | .announceKey => .announceKey dt r
  | .testBist => .testBist dt r
  | .testStatus => .testStatus dt r

/-- Every well-formed packet of every opcode reads back from its own bytes, with every field at every
value the format admits (Table 12.1, R283, R284), and the code it carries names its opcode alone (Tables 13.2 to 13.15). -/
def Obligations.PacketsReadBack : Prop :=
  (∀ (o : Op) (r : Req), r.wf = true → parsePacket r.src (r.bytes o.code) = .packet o.code r) ∧
  ∀ o : Op, Op.ofCode o.code = some o ∧ o.code < 65536

/-- The state in which the engine takes a packet from a local transport: the mailbox queue holds it and is EXECUTING (R288), or
the datagram has come in on the management port (R289). -/
def Sys2Proof.heldBy (code : Nat) (r : Req) (s : State) : State :=
  match r.src with
  | .pcie q => s.setMailbox q.val { s.mailbox q.val with
      buffer := memWrite (s.mailbox q.val).buffer 0 (r.bytes code), count := (r.bytes code).length, replyBytes := 0, state := .executing }
  | _ => { s with power.mgmtUp := true }

/-- The packet's transport reaches the device and can hand it a packet: a mailbox queue in IDLE, or the management port. -/
def Sys2Proof.CanDeliver (r : Req) (s : State) : Prop :=
  match r.src with
  | .pcie q => s.pcieLives = true ∧ (s.mailbox q.val).state = .idle
  | .mgmt _ _ => s.mgmtLives = true
  | .inband _ _ _ _ => False

/-- A well-formed packet that its transport can carry and that passes the header checks of R284, while CMD is ready, its tag as
R287 asks, addressed to this device. -/
def Sys2Proof.Delivered (o : Op) (r : Req) (s : State) : Prop :=
  r.wf = true ∧ r.sized = true ∧ r.version = 1 ∧ r.kind = 0 ∧ r.rsvFlags = 0 ∧ r.rsvTarget = 0 ∧ r.broadcast = false ∧
  (r.ms.isSome = true → o.kind = .write) ∧ CanDeliver r s ∧ s.ready 10 = true ∧
  (r.target = 0x3FFFF ∨ r.target = s.hier.node) ∧ localTagRej r (r.body o.code) s = none

/-- The packet's SEQUENCE is new on its transport (R292), or the packet is CMD_SYNC (R293). -/
def Sys2Proof.NewPacket (o : Op) (r : Req) (s : State) : Prop :=
  o = .cmdSync ∨ ∀ l, (s.seqOf r.src).last = some l → later r.seq l = true

/-- The state in which a new packet executes: L is its SEQUENCE (R292). -/
def Sys2Proof.opened (o : Op) (r : Req) (s : State) : State :=
  (heldBy o.code r s).setSeq r.src { s.seqOf r.src with last := some r.seq }

/-- After execution: whether the firmware will fault on the next packet is open (R304), the reply enters the cache (R292) and
leaves on its transport (R288, R289). -/
def Sys2Proof.answered (r : Req) (p : Reply) (s : State) : State :=
  sendReply r p (cacheReply r.src p { (drawBit s).2 with cmd.firmwareFault := (drawBit s).1 })

/-- A packet that is new on its transport and that the firmware executes without a fault of its own. -/
def Sys2Proof.Executes (o : Op) (r : Req) (s : State) : Prop :=
  Delivered o r s ∧ NewPacket o r s ∧ s.cmd.firmwareFault = false

/-- A new packet that passes steps 1 to 12 of R291, but for the announcements and the opcodes that act in-band only. -/
def Sys2Proof.Accepts (o : Op) (r : Req) (s : State) : Prop := Executes o r s ∧ judge o r (opened o r s) = none

/-- The commit that an accepted write leaves in the pending store (R297, R300, R301). -/
def Sys2Proof.commitOf (o : Op) (r : Req) (s : State) : Commit :=
  { ms := commitMs r s, op := o, req := o.stage r s, choice := o.choice r s.projected }

/-- The writes whose acceptance also tells the workers (R42, R259). -/
def Sys2Proof.Op.announces (o : Op) : Bool :=
  decide (o = .timeSet ∨ o = .timeStep ∨ o = .timeScale ∨ o = .timeThresholds ∨ o = .ethertypes ∨ o = .hierEpochs ∨
    o = .fabricKeyRoll ∨ o = .announceStep ∨ o = .announceTimescale ∨ o = .announceEpochs ∨ o = .announceSettings ∨ o = .announceKey)

/-- While milestones exist, a configuration write that is accepted changes nothing but the pending store: it waits there for its
commit milestone, the reply is DEFERRED with that milestone, and the lease of the holder restarts (R295, R297, R300). It holds of
every opcode of kind W but those that R127, R259 and R375 give an effect at acceptance. -/
def Obligations.WriteWaitsForItsMilestone : Prop :=
  ∀ (o : Op) (dt : Nat) (r : Req) (s : State), let u := s.advance dt; let v := opened o r u
    o.kind = .write → Op.announces o = false → o ≠ .calendarEnable → o ≠ .calImport → ¬ (o = .rampStart ∧ rampIdle r v = true) →
    Accepts o r u → v.ready 3 = true →
    exec (Op.instr o dt r) s = .next (finish (answered r (replyTo o.code r .deferred (commitMs r v) (o.replyData r v.projected))
      (restartLease r { v with cmd.commits := v.cmd.commits ++ [commitOf o r v] })))

/-- Writes that act at acceptance as well. A write of the root that its workers must follow waits in the same way, and acceptance sends the
announcement of Table 10.2 on every worker port (R42, R259): of the step or set itself, or of the values as they will stand.
CALENDAR_ENABLE settles its swap at acceptance: the swap is pending, the unit of its cycle epoch is claimed and armed, and
COMMIT is the swap milestone (R127, R128). CAL_IMPORT takes the staging copy with it (R375). All wait in the pending store. A RAMP_START
to the step that CCLK is at replies OK with COMMIT 0 and starts nothing (R230). -/
def Obligations.WritesThatActAtAcceptanceWaitToo : Prop :=
  (∀ (o : Op) (dt : Nat) (r : Req) (s : State), let u := s.advance dt; let v := opened o r u
    o.kind = .write → Op.announces o = true → Accepts o r u → v.ready 3 = true →
    exec (Op.instr o dt r) s = .next (finish (answered r (replyTo o.code r .deferred (commitMs r v) [])
      (restartLease r (announceWrite o r (commitMs r v) (o.apply (o.stage r v) (o.choice r v.projected) v.projected)
        (announceOwnStep o r (commitMs r v) { v with cmd.commits := v.cmd.commits ++ [commitOf o r v] })))))) ∧
  (∀ (dt : Nat) (r : Req) (s : State), let u := s.advance dt
    (∀ v, v = opened .calendarEnable r u → Accepts .calendarEnable r u → v.ready 3 = true →
      ∀ c w, acceptCalendarEnable r (commitMs r v) v.projected v = (c, w) →
      exec (.calendarEnable dt r) s = .next (finish (answered r (replyTo 0x0502 r .deferred c [])
        (restartLease r { w with cmd.commits := v.cmd.commits ++ [commitOf .calendarEnable r v] }))) ∧
      ∃ i, (v.calendar (fld r.params 0 2) = none → i = c) ∧
        w.fwd.swaps = tput v.fwd.swaps (fld r.params 0 2) { at_ := c, idleFrom := i }) ∧
    (∀ v, v = opened .calImport r u → Accepts .calImport r u → v.ready 3 = true →
      exec (.calImport dt r) s = .next (finish (answered r (replyTo 0x0C03 r .deferred (commitMs r v) [])
        (restartLease r { v with
          cal.importing := v.cal.importing ++ [v.cal.staging], cal.staged := []
          cmd.commits := v.cmd.commits ++ [commitOf .calImport r v] })))) ∧
    (∀ v, v = opened .rampStart r u → Accepts .rampStart r u → fld r.params 0 2 = v.clk.cclk →
      exec (.rampStart dt r) s = .next (finish (answered r (replyTo Op.rampStart.code r .ok 0 []) (restartLease r v)))))

/-- While no milestones exist, a write that is accepted commits at acceptance and the reply is OK with COMMIT 0 (R298). -/
def Obligations.WriteCommitsAtOnceWithoutMilestones : Prop :=
  ∀ (o : Op) (dt : Nat) (r : Req) (s : State), let u := s.advance dt; let v := opened o r u
    o.kind = .write → Op.latches o = false → o ≠ .calImport → ¬ (o = .rampStart ∧ rampIdle r v = true) →
    Accepts o r u → v.ready 3 = false →
    exec (Op.instr o dt r) s = .next (finish (answered r (replyTo o.code r .ok 0 (o.replyData r v.projected))
      (restartLease r (o.apply (o.stage r v) (o.choice r v.projected) v))))

/-- A command of kind P writes its pending set at acceptance, replies OK with COMMIT 0, and leaves the committed configuration, the
pending store and everything else as they were (R301, Table 13.1). -/
def Obligations.PendingSetsAreWrittenAtAcceptance : Prop :=
  ∀ (o : Op) (dt : Nat) (r : Req) (s : State), let u := s.advance dt; let v := opened o r u
    o.kind = .pend → Accepts o r u →
    exec (Op.instr o dt r) s = .next (finish (answered r (replyTo o.code r .ok 0 []) (restartLease r (o.pend r v)))) ∧
    ∃ pools shadow tbl prof chans staging staged, o.pend r v = { v with
      fwd.poolsPending := pools, fwd.shadow := shadow, ref.pending := tbl, clk.profile := prof, meas.channels := chans
      cal.staging := staging, cal.staged := staged }

/-- A read replies OK with its data and changes nothing but what R162 and R320 let it clear on lanes: free values may have been drawn
for what the spec leaves open. DEVICE_INFO is such a read. -/
def Obligations.ReadsChangeNothing : Prop :=
  ∀ (o : Op) (dt : Nat) (r : Req) (s : State), let u := s.advance dt; let v := opened o r u
    (o.kind = .read ∨ o = .deviceInfo) → Accepts o r u →
    ∃ n lanes, exec (Op.instr o dt r) s = .next (finish (answered r (replyTo o.code r .ok 0 (o.act r (replyRoom r) v).1)
      (restartLease r { v with freeIx := n, port.lanes := lanes }))) ∧
      (o ≠ .prbsStatus → o ≠ .laneStatus → lanes = v.port.lanes) ∧
      (o = .laneStatus → fld r.params 1 1 = 0 → ∀ k, (tget lanes k {}).losSeen = (tget v.port.lanes k {}).losSeen) ∧
      (o = .laneStatus → fld r.params 1 1 = 1 → ∀ k, k < 8 → (tget lanes (8 * fld r.params 0 1 + k) {}).losSeen = false)

/-- The usual case of a packet that executes: it names no milestone, its size is that of its opcode (R315), the mode takes it (R344), the
functions it needs are ready (R313), and no commit waits. What writes comes from the holder of the right of way while no mode transition
runs (R294, R333), the keys come over PCIe (R247), and what a root decides is not asked of a worker (R260). -/
def Sys2Proof.Usual (o : Op) (r : Req) (s : State) : Prop :=
  let v := opened o r s
  Executes o r s ∧ r.ms = none ∧ sizeCheck o r.params = none ∧ (v.power.mode ≠ .dormant ∨ o.inDormant = true) ∧
  readinessRej o r v = none ∧ v.cmd.commits = [] ∧
  (o.kind.writes = true → v.cmd.holder = r.src.code ∧ v.power.transition = none) ∧
  (o = .keyProvision ∨ o = .fabricKeySet → r.src.code = 1) ∧
  (o.fromRoot = true → v.hier.role = .root ∨ v.hier.role = .unenrolled)

/-- Reads and commands of kind P complete: in the usual case, when the fields name what the device has and lie in their ranges, every
read is answered OK with its data and changes nothing but the lanes' seen marks and the free values drawn, and every command of kind P
whose own checks it passes writes its pending set and is answered OK (R300, R301, R311, R314, Tables 13.2 to 13.15). -/
def Obligations.ReadsAndPendingSetsComplete : Prop :=
  ∀ (dt : Nat) (r : Req) (s : State), let u := s.advance dt; let q := r.params
    let replies := fun (o : Op) (i : Instr) (ok : State → Prop) => Usual o r u → let v := opened o r u
      ok v → ∃ n lanes, exec i s = .next (finish (answered r (replyTo o.code r .ok 0 (o.act r (replyRoom r) v).1)
        (restartLease r { v with freeIx := n, port.lanes := lanes })))
    let port := fun (v : State) => fld q 0 1 < v.part.ports
    let lport := fun (v : State) => fld q 0 2 < 384 ∧ portOf (fld q 0 2) < v.part.ports ∧ v.provided (fld q 0 2) = true
    (∀ x ∈ ([
        (.deviceInfo, .deviceInfo dt r), (.cmdStatus, .cmdStatus dt r), (.modeStatus, .modeStatus dt r), (.avsStatus, .avsStatus dt r),
        (.vigilRead, .vigilRead dt r), (.tableUsage, .tableUsage dt r), (.timeGet, .timeGet dt r), (.compareStatus, .compareStatus dt r),
        (.refStatus, .refStatus dt r), (.dpllStatus, .dpllStatus dt r), (.clockStatus, .clockStatus dt r),
        (.rampStatus, .rampStatus dt r), (.tdcStatus, .tdcStatus dt r), (.recorderRead, .recorderRead dt r),
        (.recorderStatus, .recorderStatus dt r), (.calStatus, .calStatus dt r), (.hierStatus, .hierStatus dt r),
        (.testStatus, .testStatus dt r)] : List (Op × Instr)),
      replies x.1 x.2 (fun _ => True)) ∧
    (∀ x ∈ ([(.portStatus, .portStatus dt r), (.axStatus, .axStatus dt r), (.ptpStatus, .ptpStatus dt r)] : List (Op × Instr)),
      replies x.1 x.2 (fun v => port v ∧ fld q 1 3 = 0)) ∧
    (∀ x ∈ ([(.fecHistogram, .fecHistogram dt r), (.calendarStatus, .calendarStatus dt r)] : List (Op × Instr)),
      replies x.1 x.2 (fun v => lport v ∧ fld q 2 2 = 0)) ∧
    replies .prbsStatus (.prbsStatus dt r) (fun v => port v ∧ fld q 2 1 ≤ 1 ∧ fld q 3 1 = 0) ∧
    replies .laneStatus (.laneStatus dt r) (fun v => port v ∧ fld q 1 1 ≤ 1 ∧ fld q 2 2 = 0) ∧
    replies .tableRead (.tableRead dt r) (fun _ => (fld q 4 1 = 5 → fld q 0 4 < 16384) ∧ fld q 4 1 ≤ 7 ∧ fld q 5 3 = 0) ∧
    replies .bufferStatus (.bufferStatus dt r) (fun v => fld q 4 1 < 2 ∧ fld q 4 1 < v.part.cores ∧ fld q 5 1 ≤ 3 ∧ fld q 6 2 = 0) ∧
    replies .calendarRead (.calendarRead dt r) (fun v => lport v ∧ fld q 2 1 ≤ 1 ∧ fld q 3 1 = 0) ∧
    replies .tdcResult (.tdcResult dt r) (fun _ => fld q 0 1 ≤ 15 ∧ fld q 1 3 = 0) ∧
    replies .counterRead (.counterRead dt r) (fun v => 1 ≤ fld q 4 2 ∧ fld q 4 2 ≤ 10 ∧ fld q 6 2 < ctrInstances (fld q 4 2) ∧
      ∀ p, ctrPort (fld q 4 2) (fld q 6 2) = some p → p < v.part.ports) ∧
    replies .calExport (.calExport dt r) (fun _ => fld q 0 4 % 4 = 0 ∧ fld q 0 4 < 262144 ∧ fld q 4 4 % 4 = 0 ∧ 4 ≤ fld q 4 4 ∧
      fld q 4 4 ≤ 4000 ∧ fld q 0 4 + fld q 4 4 ≤ 262144) ∧
    (∀ x ∈ ([
        (.poolsConfig, .poolsConfig dt r), (.calendarWrite, .calendarWrite dt r), (.reftableWrite, .reftableWrite dt r),
        (.rampProfile, .rampProfile dt r), (.tdcConfig, .tdcConfig dt r), (.calStage, .calStage dt r)] : List (Op × Instr)),
      Usual x.1 r u → let v := opened x.1 r u
      x.1.check r v v = none → exec x.2 s = .next (finish (answered r (replyTo x.1.code r .ok 0 []) (restartLease r (x.1.pend r v)))))

/-- Writes complete: in the usual case, when the opcode's own checks and BUSY rules let it pass, every write is answered DEFERRED while
milestones exist, with its commit in the pending store (COMMIT is the commit milestone; of CALENDAR_ENABLE the swap), and else OK,
with its effect at once (R297, R298, R300, R301). A RAMP_START to the present step is answered OK without a commit (R230). -/
def Obligations.WritesComplete : Prop :=
  ∀ (dt : Nat) (r : Req) (s : State), let u := s.advance dt
    ∀ x ∈ ([
      (.mgmtConfig, .mgmtConfig dt r), (.modeSet, .modeSet dt r), (.avsRequest, .avsRequest dt r), (.shedConfig, .shedConfig dt r),
      (.padRelease, .padRelease dt r), (.dormantConfig, .dormantConfig dt r), (.vigilScratch, .vigilScratch dt r),
      (.tableRestore, .tableRestore dt r), (.portBreakout, .portBreakout dt r), (.portConfig, .portConfig dt r),
      (.portEnable, .portEnable dt r), (.portDisable, .portDisable dt r), (.laneTxEq, .laneTxEq dt r),
      (.laneRxConfig, .laneRxConfig dt r), (.lanePower, .lanePower dt r), (.laneLoop, .laneLoop dt r), (.prbsConfig, .prbsConfig dt r),
      (.l2Write, .l2Write dt r), (.l2Delete, .l2Delete dt r), (.lpmWrite, .lpmWrite dt r), (.lpmDelete, .lpmDelete dt r),
      (.nexthopWrite, .nexthopWrite dt r), (.ecmpWrite, .ecmpWrite dt r), (.aclWrite, .aclWrite dt r), (.aclDelete, .aclDelete dt r),
      (.mcgroupWrite, .mcgroupWrite dt r), (.lportFwdConfig, .lportFwdConfig dt r), (.classMaps, .classMaps dt r),
      (.mirrorSession, .mirrorSession dt r), (.puntConfig, .puntConfig dt r), (.ethertypes, .ethertypes dt r),
      (.ecmpSeed, .ecmpSeed dt r), (.poolsEnable, .poolsEnable dt r), (.queueConfig, .queueConfig dt r), (.pfcConfig, .pfcConfig dt r),
      (.portHold, .portHold dt r), (.mcastConfig, .mcastConfig dt r), (.calendarEnable, .calendarEnable dt r),
      (.calendarDisable, .calendarDisable dt r), (.schedConfig, .schedConfig dt r), (.deadlineBudget, .deadlineBudget dt r),
      (.timeSet, .timeSet dt r), (.timeStep, .timeStep dt r), (.timeAcceptJump, .timeAcceptJump dt r),
      (.timeThresholds, .timeThresholds dt r), (.timeScale, .timeScale dt r), (.compareClaim, .compareClaim dt r),
      (.compareArm, .compareArm dt r), (.compareDisarm, .compareDisarm dt r), (.compareRelease, .compareRelease dt r),
      (.timingConfig, .timingConfig dt r), (.axConfig, .axConfig dt r), (.linkAsym, .linkAsym dt r),
      (.ptpPortConfig, .ptpPortConfig dt r), (.ptpClockConfig, .ptpClockConfig dt r), (.reftableEnable, .reftableEnable dt r),
      (.refMonitorConfig, .refMonitorConfig dt r), (.dpllConfig, .dpllConfig dt r), (.refForce, .refForce dt r),
      (.refClear, .refClear dt r), (.rampStart, .rampStart dt r), (.clkOutConfig, .clkOutConfig dt r),
      (.lanePllConfig, .lanePllConfig dt r), (.tioClaim, .tioClaim dt r), (.tioRelease, .tioRelease dt r), (.tdcEnable, .tdcEnable dt r),
      (.tdcDisable, .tdcDisable dt r), (.snapshotConfig, .snapshotConfig dt r), (.snapshotNow, .snapshotNow dt r),
      (.filterConfig, .filterConfig dt r), (.stickyClear, .stickyClear dt r), (.tagConfig, .tagConfig dt r),
      (.recorderFreeze, .recorderFreeze dt r), (.recorderConfig, .recorderConfig dt r), (.calImport, .calImport dt r),
      (.calWrite, .calWrite dt r), (.hierConfig, .hierConfig dt r), (.keyProvision, .keyProvision dt r),
      (.fabricKeySet, .fabricKeySet dt r), (.fabricKeyRoll, .fabricKeyRoll dt r), (.hierEpochs, .hierEpochs dt r),
      (.testBist, .testBist dt r)] : List (Op × Instr)),
    let o := x.1; let v := opened o r u
    Usual o r u → o.check r v v = none → o.busy r v v = none → ¬ (o = .rampStart ∧ rampIdle r v = true) →
    (v.ready 3 = true → ∃ c t, exec x.2 s = .next (finish (answered r (replyTo o.code r .deferred c (o.replyData r v))
        (restartLease r t))) ∧ t.cmd.commits = [commitOf o r v] ∧ (o ≠ .calendarEnable → c = commitMs r v)) ∧
    (v.ready 3 = false → exec x.2 s = .next (finish (answered r (replyTo o.code r .ok 0 (o.replyData r v))
      (restartLease r (writeNow o r v)))))

/-! ### The right of way, and packets turned away -/

/-- ROW_CLAIM (R295): a claim within the lease limit succeeds when no other transport holds the right of way, or with FORCE; it sets
the holder and its lease, and a change of holder is recorded as 0x5101 or, seized, as 0x5102 with the old holder; else it is refused.
ROW_YIELD (R295, R296): from the holder it gives the right of way up, with event 0x5103; from any other transport it is refused
with NO_RIGHT_OF_WAY. -/
def Obligations.RightOfWayIsClaimedAndYielded : Prop :=
  (∀ (dt : Nat) (r : Req) (s : State), let u := s.advance dt; let v := opened .rowClaim r u; let old := v.cmd.holder; let new := r.src.code
    Executes .rowClaim r u → v.ready 10 = true → r.params.length = 4 → fld r.params 0 4 ≤ 3600 →
    (old = 0 ∨ old = new ∨ r.force = true →
      let w := { v with cmd.holder := new, cmd.lease := fld r.params 0 4, cmd.leaseFrom := v.time.mono }
      exec (.rowClaim dt r) s = .next (finish (answered r (replyTo 0x0102 r .ok 0 [BitVec.ofNat 8 new, 0, 0, 0])
        (if old = new then w
         else if old = 0 then raise .note 0x5101 [BitVec.ofNat 8 new, 0] w
         else raise .warn 0x5102 [BitVec.ofNat 8 new, BitVec.ofNat 8 old] w)))) ∧
    (old ≠ 0 → old ≠ new → r.force = false →
      exec (.rowClaim dt r) s = .next (finish (answered r (rejReply 0x0102 r (refused .noRightOfWay old)) v)))) ∧
  (∀ (dt : Nat) (r : Req) (s : State), let u := s.advance dt; let v := opened .rowYield r u
    Executes .rowYield r u → r.params = [] →
    (v.cmd.holder = r.src.code →
      exec (.rowYield dt r) s = .next (finish (answered r (replyTo 0x0103 r .ok 0 [])
        (raise .note 0x5103 [BitVec.ofNat 8 r.src.code, 0] { v with cmd.holder := 0, cmd.lease := 0 })))) ∧
    (v.cmd.holder ≠ r.src.code →
      exec (.rowYield dt r) s = .next (finish (answered r (rejReply 0x0103 r (refused .noRightOfWay v.cmd.holder)) v))))

/-- CMD_SYNC executes whatever its sequence: L becomes its own sequence, the reply cache of its transport clears, and the reply is OK
(R293). The packet restarts its holder's lease (R295). -/
def Obligations.SyncResetsTheSequence : Prop :=
  ∀ (dt : Nat) (r : Req) (s : State), let u := s.advance dt; let v := heldBy 0x0104 r u
    Delivered .cmdSync r u → u.cmd.firmwareFault = false → r.params = [] →
    exec (.cmdSync dt r) s = .next (finish (answered r (replyTo 0x0104 r .ok 0 [])
      (restartLease r (v.setSeq r.src { last := some r.seq, cache := [] }))))

/-- A packet that fails one of steps 7 to 12 of R291 is answered with that failure and changes nothing else: L is its sequence and the
reply enters the cache (R291, R292). -/
def Obligations.RefusedPacketsChangeNothing : Prop :=
  ∀ (o : Op) (dt : Nat) (r : Req) (s : State) (x : Rej), let u := s.advance dt; let v := opened o r u
    Executes o r u → judge o r v = some x → exec (Op.instr o dt r) s = .next (finish (answered r (rejReply o.code r x) v))

/-- A write, a pending set or an action that its transport and readiness allow is refused with NO_RIGHT_OF_WAY when another transport
or none holds the right of way, and the detail is the holder's code (R294). An in-band command from a host is refused with MODE (R247). In
DORMANT every command but reads, those of R294, MODE_SET, DORMANT_CONFIG and VIGIL_SCRATCH is refused with MODE, detail 1 (R344). -/
def Obligations.RightOfWayAndModeAreChecked : Prop :=
  ∀ (o : Op) (dt : Nat) (r : Req) (s : State), let u := s.advance dt; let v := opened o r u
    Executes o r u →
    ((o.kind = .write ∨ o.kind = .pend ∨ o.kind = .action) → v.cmd.holder ≠ r.src.code →
      transportRej o r v = none → readinessRej o r v = none →
      exec (Op.instr o dt r) s = .next (finish (answered r (rejReply o.code r (refused .noRightOfWay v.cmd.holder)) v))) ∧
    (o.kind = .inbandOnly → exec (Op.instr o dt r) s = .next (finish (answered r (rejReply o.code r (refused .mode 0)) v))) ∧
    (v.power.mode = .dormant → (o.kind = .write ∨ o.kind = .pend ∨ o.kind = .action) → o ≠ .modeSet → o ≠ .dormantConfig →
      o ≠ .vigilScratch → o ≠ .keyProvision → o ≠ .fabricKeySet →
      exec (Op.instr o dt r) s = .next (finish (answered r (rejReply o.code r (refused .mode 1)) v)))

/-- A packet that is not later than L: the cached reply of its sequence leaves again, and without one the reply is REPLAY; nothing is
processed, and L and the cache stay (R292). A packet with the reserved fields or a version that R284 refuses is refused with RANGE and the
field's place, before its sequence is looked at (R284, R291). -/
def Obligations.OldAndBadPacketsAreNotProcessed : Prop :=
  ∀ (o : Op) (dt : Nat) (r : Req) (s : State), let u := s.advance dt
    (∀ l, Delivered o r u → o ≠ .cmdSync → (u.seqOf r.src).last = some l → later r.seq l = false →
      (∀ p, (u.seqOf r.src).cache.find? (fun p => decide (p.seq = r.seq)) = some p →
        exec (Op.instr o dt r) s = .next (finish (sendReply r p (heldBy o.code r u)))) ∧
      ((∀ p ∈ (u.seqOf r.src).cache, p.seq ≠ r.seq) →
        exec (Op.instr o dt r) s = .next (finish (sendReply r
          (rejReply o.code r { status := .replay, reason := .none, detail := 0 }) (heldBy o.code r u))))) ∧
    (∀ d, r.wf = true → r.sized = true → CanDeliver r u → u.ready 10 = true → localTagRej r (r.body o.code) u = none →
      d = (if r.version ≠ 1 ∨ r.kind ≠ 0 then 0x8002 else if r.rsvFlags ≠ 0 then 0x8003
        else if r.ms.isSome = true ∧ o.kind ≠ .write then 0x8003 else if r.rsvTarget ≠ 0 then 0x800C else 0) → d ≠ 0 →
      exec (Op.instr o dt r) s = .next (finish (sendReply r (rejReply o.code r (refused .range d)) (heldBy o.code r u))))

/-- TIME_STEP_CANCEL removes the pending step or set, replies with its milestone and records event 0x2104 with cause 0 (R41). ENROLL
sends ENROLL_REQ to the far end of its port under the next in-band sequence and replies when the worker answers (R248, R249).
RELEASE_WORKER sends RELEASE and frees the worker's range at once (R251). -/
def Obligations.ActionsTakeEffectAtOnce : Prop :=
  ∀ (dt : Nat) (r : Req) (s : State), let u := s.advance dt
    (∀ v, v = opened .timeStepCancel r u → Accepts .timeStepCancel r u → ∃ c, v.pendingStep = some c ∧
      exec (.timeStepCancel dt r) s = .next (finish (answered r (replyTo Op.timeStepCancel.code r .ok 0 (toBe 8 c.ms.toNat))
        (restartLease r (raise .warn 0x2104 (toBe 8 c.ms.toNat ++ [0])
          { v with cmd.commits := v.cmd.commits.filter (fun x => !decide (x.op = .timeSet ∨ x.op = .timeStep)) }))))) ∧
    (∀ v, v = opened .enroll r u → Accepts .enroll r u →
      let q := r.params; let port := fld q 0 1
      let sent := originateOn port 0 0 0x0D10 v.cmd.inbandSeq 0 (node4 (BitVec.ofNat 18 (fld q 4 4)) ++ node4 (BitVec.ofNat 18 (fld q 8 4)) ++
        node4 v.hier.node ++ [BitVec.ofNat 8 (v.hier.depth + 1), 0, 0, 0] ++ (q.drop 12).take 40)
        { v with cmd.inbandSeq := v.cmd.inbandSeq + 1 }
      let w := restartLease r { sent with hier.enrolling := sent.hier.enrolling ++ [{ port := port, req := r, seq := v.cmd.inbandSeq
                                                                                      first := BitVec.ofNat 18 (fld q 4 4), last := BitVec.ofNat 18 (fld q 8 4), sent := sent.time.mono }] }
      exec (.enroll dt r) s = .next (finish { (drawBit w).2 with cmd.firmwareFault := (drawBit w).1 })) ∧
    (∀ v, v = opened .releaseWorker r u → Accepts .releaseWorker r u → ∃ w, tfind v.hier.workers (fld r.params 0 1) = some w ∧
      let sent := originateOn (fld r.params 0 1) 0 0 0x0D11 v.cmd.inbandSeq w.first [] { v with cmd.inbandSeq := v.cmd.inbandSeq + 1 }
      exec (.releaseWorker dt r) s = .next (finish (answered r (replyTo Op.releaseWorker.code r .ok 0 [])
        (restartLease r { sent with hier.workers := tdel sent.hier.workers (fld r.params 0 1) }))))

/-! ### In-band packets -/

/-- A command packet comes in-band on a port, from a node, passes its tag under the fabric key in use (or for 2 s after a roll the old
one), its hop limit, its header and its freshness check, and is addressed to this device alone; `w` is the state with its sequence
taken (R252, R253, R255, R262). -/
def Sys2Proof.ComesInband (o : Op) (r : Req) (port : Nat) (node : BitVec 18) (s w : State) : Prop :=
  ∃ sendMs hops k, r.src = .inband port node sendMs hops ∧ r.sized = true ∧ s.receives (s.timingLport port) = true ∧ s.ingressStopped = false ∧
    s.ready 10 = true ∧ r.tag.isSome = true ∧ s.hier.role ≠ .unenrolled ∧ s.keyNow = some k ∧
    s.tagPasses k r.tag (inbandFields node sendMs ++ r.body o.code) = true ∧ hops ≤ 16 ∧
    r.version = 1 ∧ r.kind = 0 ∧ r.rsvFlags = 0 ∧ r.rsvTarget = 0 ∧ r.broadcast = false ∧ (r.ms.isSome = true → o.kind = .write) ∧
    s.hopOf r.target = .here ∧ freshen node r.seq sendMs s = some w

/-- When the firmware detects a fault of its own while executing a command, from a local transport or in-band, it abandons the command
unstaged, replies INTERNAL with reason 0, and records event 0x5106 with the opcode (R304). Whether it will fault on the next packet is
open (a free value). -/
def Obligations.FirmwareFaultAbandonsTheCommand : Prop :=
  (∀ (o : Op) (dt : Nat) (r : Req) (s : State), let u := s.advance dt
    Delivered o r u → NewPacket o r u → u.cmd.firmwareFault = true →
    exec (Op.instr o dt r) s = .next (finish (answered r
      (rejReply o.code r { status := .internal, reason := .none, detail := 0 }) (raise .error 0x5106 (toBe 2 o.code) (opened o r u))))) ∧
  (∀ (o : Op) (dt : Nat) (r : Req) (port : Nat) (node : BitVec 18) (s w : State), let u := s.advance dt
    ComesInband o r port node u w → o ≠ .enrollReq → o ≠ .release → isAnnouncement o = false →
    (w.hier.role = .root ∨ w.upPort ≠ none) → w.cmd.firmwareFault = true →
    let x := raise .error 0x5106 (toBe 2 o.code) { w with cmd.inbandLast := some r.seq }
    exec (Op.instr o dt r) s = .next (finish (sendReply r (rejReply o.code r { status := .internal, reason := .none, detail := 0 })
      { (drawBit x).2 with cmd.firmwareFault := (drawBit x).1 })))

/-- A command in-band executes as one from a local transport does, in arrival order, and its reply goes back to the node that sent it
(R255, R291, R292): it needs a device of the tree with a command parent port, or the root. -/
def Obligations.InbandCommandsExecute : Prop :=
  ∀ (o : Op) (dt : Nat) (r : Req) (port : Nat) (node : BitVec 18) (s w : State), let u := s.advance dt
    ComesInband o r port node u w → o ≠ .enrollReq → o ≠ .release → isAnnouncement o = false →
    (w.hier.role = .root ∨ w.upPort ≠ none) →
    let v := { w with cmd.inbandLast := some r.seq }
    (∀ x, w.cmd.firmwareFault = false → judge o r v = some x → exec (Op.instr o dt r) s = .next (finish (sendReply r (rejReply o.code r x)
      { (drawBit v).2 with cmd.firmwareFault := (drawBit v).1 }))) ∧
    (∀ p t, w.cmd.firmwareFault = false → judge o r v = none → accepted o r v = (some p, t) →
      exec (Op.instr o dt r) s = .next (finish (sendReply r p
        { (drawBit (restartLease r t)).2 with cmd.firmwareFault := (drawBit (restartLease r t)).1 })))

/-- An UNENROLLED device accepts ENROLL_REQ addressed to node 0: when the key it carries unwraps under the device key and the tag passes
under the unwrapped key, the device takes the node ID, range, manager and depth that it names, stores the key, becomes ENROLLED with
the receiving port as its command parent port, records event 0x7101 and replies OK to the node that sent it; otherwise the frame is
dropped and counted as KEY_ABSENT, or as AUTH_FAIL with event 0x7105 (R249, R252). A port entry whose partner lies within the new range
closes a loop (R245). -/
def Obligations.EnrolmentTakesThePlaceNamed : Prop :=
  ∀ (dt : Nat) (r : Req) (port : Nat) (node : BitVec 18) (sendMs : Milestone) (hops : Nat) (s : State), let u := s.advance dt
    r.src = .inband port node sendMs hops → u.receives (u.timingLport port) = true → u.ingressStopped = false → u.ready 10 = true →
    r.tag.isSome = true → u.hier.role = .unenrolled → r.target = 0 → r.kind = 0 →
    let q := r.params; let full := inbandFields node sendMs ++ r.body 0x0D10
    (u.hier.deviceKey = none → exec (.enrollReq dt r) s = .next (finish (countDevice 2 u))) ∧
    (∀ dev, u.hier.deviceKey = some dev → keyUnwrap dev ((q.drop 16).take 40) = none →
      exec (.enrollReq dt r) s = .next (finish (raise .warn 0x7105 [BitVec.ofNat 8 port] (countDevice 3 u)))) ∧
    (∀ dev k, u.hier.deviceKey = some dev → keyUnwrap dev ((q.drop 16).take 40) = some k → r.tag ≠ some (tagOf k full) →
      exec (.enrollReq dt r) s = .next (finish (raise .warn 0x7105 [BitVec.ofNat 8 port] (countDevice 3 u)))) ∧
    (∀ dev k, u.hier.deviceKey = some dev → keyUnwrap dev ((q.drop 16).take 40) = some k → r.tag = some (tagOf k full) →
      hops ≤ 16 → r.version = 1 → r.rsvFlags = 0 → r.rsvTarget = 0 → r.ms = none → u.ready 3 = true → q.length = 56 →
      1 ≤ fld q 0 4 → fld q 0 4 ≤ fld q 4 4 → fld q 4 4 ≤ 0x3FFFE → 1 ≤ fld q 8 4 → fld q 8 4 ≤ 0x3FFFE → 1 ≤ fld q 12 1 →
      fld q 12 1 ≤ 8 → fld q 13 3 = 0 →
      let v := { u with
        hier.role := .enrolled, hier.fabricKey := some k, hier.keyInUse := true, hier.oldKey := none, hier.parent := u.candOf port
        hier.parentPort := if (u.candOf port).isSome then none else some port, hier.noParentSince := none
        hier.node := BitVec.ofNat 18 (fld q 0 4), hier.last := BitVec.ofNat 18 (fld q 4 4)
        hier.manager := BitVec.ofNat 18 (fld q 8 4), hier.depth := fld q 12 1 }
      exec (.enrollReq dt r) s = .next (finish (sendTagged k port ((replyTo 0x0D10 r .ok 0 []).body node true)
        (raise .note 0x7101 (toBe 4 (BitVec.ofNat 18 (fld q 0 4)).toNat ++ toBe 4 (BitVec.ofNat 18 (fld q 8 4)).toNat ++
          [BitVec.ofNat 8 (fld q 12 1)]) (loopChecks v)))))

/-- RELEASE from the manager: the device replies OK and becomes UNENROLLED, with its node ID, range, fabric key and parent state clear;
from any other node it is refused with MODE (R251). An in-band holder loses the right of way (R296). -/
def Obligations.ReleaseClearsThePlace : Prop :=
  ∀ (dt : Nat) (r : Req) (port : Nat) (node : BitVec 18) (s w : State), let u := s.advance dt
    ComesInband .release r port node u w → r.params = [] →
    (node ≠ w.hier.manager ∨ w.hier.role = .root →
      exec (.release dt r) s = .next (finish (sendReply r (rejReply 0x0D11 r (refused .mode 0)) w))) ∧
    (node = w.hier.manager → w.hier.role ≠ .root → Runs (.release dt r) s (fun t =>
      t.hier.role = .unenrolled ∧ t.hier.node = 0 ∧ t.hier.last = 0 ∧ t.hier.manager = 0 ∧ t.hier.depth = 0 ∧ t.hier.fabricKey = none ∧
      t.hier.keyInUse = false ∧ t.hier.parent = none ∧ t.hier.parentPort = none ∧ t.hier.deviceKey = u.hier.deviceKey ∧
      t.cmd.holder = (if u.cmd.holder = 3 then 0 else u.cmd.holder) ∧ t.cmd.commits = u.cmd.commits))

/-- An announcement from the manager through the command parent port that passes the checks of its command waits for the milestone it
names, or for the next one when it comes late, with event 0x7107, and is passed on to the workers; a late ANNOUNCE_STEP is discarded;
the key of ANNOUNCE_KEY is unwrapped under the key in use. It restarts the lease of its holder (R295). One from anywhere else is refused
with event 0x7108 (R42, R259, R262). In time, each of the five completes with its commit behind those that wait. -/
def Obligations.AnnouncementsWaitForTheirMilestone : Prop :=
  (∀ (dt : Nat) (r : Req) (port : Nat) (node : BitVec 18) (s w : State), let u := s.advance dt
    ∀ x ∈ ([(.announceStep, .announceStep dt r), (.announceTimescale, .announceTimescale dt r), (.announceEpochs, .announceEpochs dt r),
      (.announceSettings, .announceSettings dt r), (.announceKey, .announceKey dt r)] : List (Op × Instr)),
    let m : Milestone := BitVec.ofNat 56 (fld r.params 0 8)
    ComesInband x.1 r port node u w → w.hier.role = .enrolled → node = w.hier.manager → w.upPort = some port →
    readinessRej x.1 r w = none → sizeCheck x.1 r.params = none → x.1.check r w w = none → w.cmd.commits.length < 256 →
    later m w.ms = true → (x.1 = .announceKey → ∃ k key, w.keyNow = some k ∧ keyUnwrap k ((r.params.drop 8).take 40) = some key) →
    Runs x.2 s (fun t => ∃ c, t.cmd.commits = w.cmd.commits ++ [c] ∧ c.ms = m ∧ c.op = x.1)) ∧
  ∀ (o : Op) (dt : Nat) (r : Req) (port : Nat) (node : BitVec 18) (s w : State), let u := s.advance dt
    let m : Milestone := BitVec.ofNat 56 (fld r.params 0 8)
    ComesInband o r port node u w → isAnnouncement o = true →
    (¬ (w.hier.role = .enrolled ∧ node = w.hier.manager ∧ w.upPort = some port) →
      exec (Op.instr o dt r) s = .next (finish (raise .error 0x7108 (toBe 2 o.code ++ [BitVec.ofNat 8 Reason.mode.code]) w))) ∧
    (w.hier.role = .enrolled → node = w.hier.manager → w.upPort = some port → readinessRej o r w = none →
      sizeCheck o r.params = none → o.check r w w = none → w.cmd.commits.length < 256 →
      (later m w.ms = false → o = .announceStep → exec (Op.instr o dt r) s = .next (finish (restartLease r w))) ∧
      (∀ x, x = (if later m w.ms = true then w else raise .warn 0x7107 (toBe 2 o.code) w) →
        (o ≠ .announceStep ∨ later m w.ms = true) →
        (o ≠ .announceKey → exec (Op.instr o dt r) s = .next (finish (restartLease r (announceWrite o r m x { x with
          cmd.commits := x.cmd.commits ++ [{ ms := if later m w.ms = true then m else w.nextMs, op := o, req := r, choice := 0 }] })))) ∧
        (o = .announceKey → ∀ k key, w.keyNow = some k → keyUnwrap k ((r.params.drop 8).take 40) = some key →
          exec (Op.instr o dt r) s = .next (finish (restartLease r (announceWrite o r m x { x with
            cmd.commits := x.cmd.commits ++ [{ ms := if later m w.ms = true then m else w.nextMs, op := o, req := { r with params := key }
                                               choice := 0 }] }))))))

/-! ### Commits -/

/-- A command leads to a state: it completes, and after what it does the watch on the parents, the clock outputs and the ready block are
brought up to date. -/
def Sys2Proof.Leads (i : Instr) (s t : State) : Prop := exec i s = .next (finish t)

/-- No unit is a wake alarm, which a move of the count could set off (R51). -/
def Sys2Proof.NoAlarm (s : State) : Prop := ∀ n, (s.unit n).function ≠ 3

/-- At a milestone the commits that have reached theirs apply and leave the pending store: a commit alone, two in milestone order and
within one milestone in the order accepted, a move of the count last; one whose milestone has not come, or that a freeze or DORMANT
holds back, waits. While the Almanac does not run no milestone comes (R20, R43, R300). -/
def Obligations.MilestonesApplyDueCommits : Prop :=
  ∀ (dt : Nat) (s : State), let u := s.advance dt
    (∀ c, u.time.running = true → u.cmd.commits = [c] → u.due c = true → u.latchDue [c] = false → (Op.moves c.op = true → NoAlarm u) →
      Leads (.configurationCommit dt) s (c.op.apply c.req c.choice { u with cmd.commits := [] })) ∧
    (∀ a b, u.time.running = true → u.cmd.commits = [a, b] → u.due a = true → u.due b = true → later a.ms b.ms = false →
      u.latchDue [a, b] = false → (Op.moves a.op = true → Op.moves b.op = true ∧ NoAlarm u) →
      (Op.moves b.op = true → NoAlarm (a.op.apply a.req a.choice { u with cmd.commits := [] })) →
      Leads (.configurationCommit dt) s (b.op.apply b.req b.choice (a.op.apply a.req a.choice { u with cmd.commits := [] }))) ∧
    (∀ a b, u.time.running = true → u.cmd.commits = [a, b] → u.due a = true → u.due b = true → later a.ms b.ms = false →
      u.latchDue [a, b] = false → Op.moves a.op = true → Op.moves b.op = false →
      NoAlarm (b.op.apply b.req b.choice { u with cmd.commits := [] }) →
      Leads (.configurationCommit dt) s (a.op.apply a.req a.choice (b.op.apply b.req b.choice { u with cmd.commits := [] }))) ∧
    (∀ a b, u.time.running = true → u.cmd.commits = [a, b] → u.due a = false → u.due b = true → u.latchDue [b] = false →
      (Op.moves b.op = true → NoAlarm u) → Leads (.configurationCommit dt) s (b.op.apply b.req b.choice { u with cmd.commits := [a] })) ∧
    (u.time.running = true → (∀ c ∈ u.cmd.commits, later c.ms u.ms = true ∨ u.holds c = true) → u.latchDue [] = false →
      Leads (.configurationCommit dt) s u) ∧
    (u.time.running = false → Leads (.configurationCommit dt) s u)

/-- Both thresholds range from 1 ns to 1,000,000,000 ns and default to 50 ns and 1,000 ns; TIME_THRESHOLDS is refused outside the range
and sets both at its commit milestone, nothing else (R35). -/
def Obligations.ThresholdsAreSetAtTheMilestone : Prop :=
  State.reset.time.jumpThr = 50 ∧ State.reset.time.stepThr = 1000 ∧
  (∀ (r : Req) (p s : State), Op.check .timeThresholds r p s = none ↔
    (1 ≤ fld r.params 0 4 ∧ fld r.params 0 4 ≤ 1000000000) ∧ (1 ≤ fld r.params 4 4 ∧ fld r.params 4 4 ≤ 1000000000)) ∧
  (∀ (dt : Nat) (s : State) (c : Commit), let u := s.advance dt
    c.op = .timeThresholds → u.time.running = true → u.cmd.commits = [c] → u.due c = true → u.latchDue [c] = false →
    Leads (.configurationCommit dt) s { u with
      cmd.commits := [], time.jumpThr := fld c.req.params 0 4, time.stepThr := fld c.req.params 4 4 })

/-- The settings that a write carries at the offsets of its layout are the settings at its milestone, and nothing else changes
(R311, Tables 13.2 to 13.13): device, pipeline, references, clocks, counters, recorder. -/
def Obligations.SettingsTakeTheirValues : Prop :=
  ∀ (r : Req) (c : Nat) (s : State), let q := r.params
    Op.apply .timeScale r c s = { s with
      time.utcOffset := sfld q 0 2, time.leap61 := (fld q 2 1).testBit 1, time.leap59 := (fld q 2 1).testBit 0 } ∧
    Op.apply .ethertypes r c s = { s with fwd.etWaymark := fld q 0 2, fwd.etAx := fld q 2 2, fwd.etCommand := fld q 4 2 } ∧
    Op.apply .ecmpSeed r c s = { s with fwd.seed := BitVec.ofNat 32 (fld q 0 4) } ∧
    Op.apply .mcastConfig r c s = { s with fwd.residueLimit := fld q 0 1 } ∧
    Op.apply .refMonitorConfig r c s = { s with
      ref.soft := fld q 0 2, ref.hard := fld q 2 2, ref.drift := fld q 4 2, ref.disagree := fld q 6 2, ref.qualTime := fld q 8 2
      ref.capture := fld q 10 1 } ∧
    Op.apply .lanePllConfig r c s = { s with clk.laneWindow := fld q 0 2, clk.laneN := fld q 4 4 } ∧
    Op.apply .snapshotConfig r c s = { s with ctr.interval := fld q 0 4 } ∧
    Op.apply .recorderConfig r c s = { s with log.rate := fld q 0 1, log.ringSeverity := fld q 1 1 } ∧
    Op.apply .recorderFreeze r c s = { s with log.frozen := if fld q 0 1 = 1 then some s.time.mono else none } ∧
    Op.apply .dormantConfig r c s = { s with power.compat := decide (fld q 0 1 = 1), power.wakeEn := fld q 1 1 } ∧
    Op.apply .mgmtConfig r c s = { s with cmd.mgmt := {
        family := fld q 0 1, auth := decide (fld q 1 1 = 1), udpPort := fld q 2 2, address := (q.drop 4).take 16 } } ∧
    Op.apply .padRelease r c s = raise .note 0x110C [] { s with power.padsLatched := false } ∧
    (∃ f, Op.apply .classMaps r c s = { s with fwd := f } ∧
      f = { s.fwd with dscpMap := f.dscpMap, pcpMap := f.pcpMap } ∧
      (∀ i, i < 64 → getAt f.dscpMap i 0 = fld q i 1) ∧ (∀ i, i < 8 → getAt f.pcpMap i 0 = fld q (64 + i) 1))

/-- The table writes: an entry written is found under its key and no other entry moves; an entry deleted is gone (R69, R73, R75, R77,
R80, R81, Tables 13.4 and 13.5). For one entry in a command; a command with more writes them in order. -/
def Obligations.TableWritesSetTheirEntries : Prop :=
  ∀ (r : Req) (c : Nat) (s : State) (x : List Byte), let q := r.params
    (entries q 12 = [x] → ∃ f, Op.apply .l2Write r c s = { s with fwd.l2 := f } ∧ l2Entry x ∈ f ∧
      (∀ e, (e.vid, e.mac) ≠ ((l2Entry x).vid, (l2Entry x).mac) → (e ∈ f ↔ e ∈ s.fwd.l2)) ∧
      (∀ e ∈ f, (e.vid, e.mac) = ((l2Entry x).vid, (l2Entry x).mac) → e = l2Entry x)) ∧
    (∃ f, Op.apply .l2Delete r c s = { s with fwd.l2 := f } ∧ (∀ e, e ∈ f ↔ e ∈ s.fwd.l2 ∧ (e.vid, e.mac) ∉ l2Keys r)) ∧
    (entries q 24 = [x] → ∃ f, Op.apply .lpmWrite r c s = s.setRoutes (lpmEntry x).1 f ∧ (lpmEntry x).2 ∈ f ∧
      (∀ e, (e.plen, e.addr) ≠ ((lpmEntry x).2.plen, (lpmEntry x).2.addr) → (e ∈ f ↔ e ∈ s.routes (lpmEntry x).1)) ∧
      (∀ e ∈ f, (e.plen, e.addr) = ((lpmEntry x).2.plen, (lpmEntry x).2.addr) → e = (lpmEntry x).2)) ∧
    (∀ t, t < 3 → ∀ e, e ∈ (Op.apply .lpmDelete r c s).routes t ↔ e ∈ s.routes t ∧ (t, e.plen, e.addr) ∉ lpmKeys r) ∧
    (entries q 16 = [x] → ∃ f, Op.apply .nexthopWrite r c s = { s with fwd.nexthops := f } ∧
      (∀ i, tfind f i = if i = fld x 0 2 then
        some { kind := fld x 2 1, lport := fld x 4 2, vid := fld x 6 2, dmac := BitVec.ofNat 48 (fld x 8 6) } else tfind s.fwd.nexthops i)) ∧
    (∃ f, Op.apply .ecmpWrite r c s = { s with fwd.ecmp := f } ∧
      (∀ g, tget f g [] = if g = fld q 0 2 then (List.range (fld q 2 2)).map (fun i => fld q (4 + 2 * i) 2) else tget s.fwd.ecmp g [])) ∧
    (entries q 52 = [x] → ∃ f, Op.apply .mcgroupWrite r c s = { s with fwd.groups := f } ∧
      (∀ g, tget f g {} = if g = fld x 0 2 then { hairpin := (fld x 2 1).testBit 0, ports := bitmapPorts ((x.drop 4).take 48) }
        else tget s.fwd.groups g {})) ∧
    (entries q 140 = [x] → ∃ f, Op.apply .aclWrite r c s = { s with fwd.acl := f } ∧ tfind f (aclEntry x).1 = some (aclEntry x).2) ∧
    (∃ f, Op.apply .aclDelete r c s = { s with fwd.acl := f } ∧
      (∀ i, fld q 0 2 ≤ i → i < fld q 0 2 + fld q 2 2 → tfind f i = none))

/-- The settings of lanes, logical ports and queues: every lane of the mask takes them and no other lane; the named logical port or queue
takes them and no other (R100, R106, R132, R150, R152, R153, R154, R161, R320, Tables 13.3, 13.6 and 13.7). -/
def Obligations.PortAndQueueSettingsTakeTheirValues : Prop :=
  ∀ (r : Req) (c : Nat) (s : State), let q := r.params; let p := fld q 0 1; let l := fld q 0 2
    (∃ v, Op.apply .laneRxConfig r c s = { s with port.lanes := v } ∧ ∀ i k, k < 8 → tget v (8 * i + k) {} =
      if i = p ∧ (fld q 1 1).testBit k = true then { s.lane i k with
        losThr := fld q 2 1, txInvert := (fld q 3 1).testBit 1, rxInvert := (fld q 3 1).testBit 0 } else s.lane i k) ∧
    (∃ v, Op.apply .prbsConfig r c s = { s with port.lanes := v } ∧ ∀ i k, k < 8 → tget v (8 * i + k) {} =
      if i = p ∧ (fld q 1 1).testBit k = true then { s.lane i k with prbsGen := fld q 2 1, prbsChk := fld q 3 1 } else s.lane i k) ∧
    (∃ v, Op.apply .laneTxEq r c s = { s with port.lanes := v } ∧ ∀ i k, k < 8 → tget v (8 * i + k) {} =
      if i = p ∧ (fld q 1 1).testBit k = true then { s.lane i k with
        eqLock := decide (fld q 2 1 = 1), startTaps := tapsOf q
        taps := if (s.lp (s.lportOfLane p k)).medium = 0 then tapsOf q else (s.lane i k).taps } else s.lane i k) ∧
    Op.apply .portConfig r c s = s.setLp l { s.lp l with
      degradeDown := decide (fld q 2 1 = 1), trainLimit := fld q 4 2, degradeThr := fld q 6 2 } ∧
    Op.apply .laneLoop r c s = s.setLp l { s.lp l with loop := fld q 2 1 } ∧
    Op.apply .portHold r c s = { s with fwd.holds := tput s.fwd.holds l (fld q 4 4) } ∧
    Op.apply .queueConfig r c s = { s with fwd.queues := tput s.fwd.queues (8 * l + fld q 2 1) {
        k := sfld q 3 1, ecn := fld q 4 1, pmax := fld q 6 2, min := fld q 8 4, max := fld q 12 4 } } ∧
    Op.apply .schedConfig r c s = { s with fwd.sched := tput s.fwd.sched l {
        strict := fld q 2 1, weights := [fld q 4 1, fld q 5 1, fld q 6 1, fld q 7 1]
        tolerance := [fld q 8 2, fld q 10 2, fld q 12 2] } } ∧
    Op.apply .deadlineBudget r c s = { s with fwd.budgets := tput s.fwd.budgets l [fld q 4 4, fld q 8 4, fld q 12 4] } ∧
    Op.apply .poolsEnable r c s = { s with fwd.pools := tput s.fwd.pools p {
        sizes := [fld q 4 4, fld q 8 4, fld q 12 4, fld q 16 4, fld q 20 4, fld q 24 4]
        classMap := [fld q 28 1, fld q 29 1, fld q 30 1, fld q 31 1, fld q 32 1, fld q 33 1, fld q 34 1] } } ∧
    Op.apply .linkAsym r c s = s.setLink p { s.link p with
      estimate := decide (fld q 1 1 = 1), laneA := fld q 2 1, laneB := fld q 3 1, coefA := sfld q 4 4, dispersion := sfld q 8 4
      estA := none }

/-- A step moves the count by its amount, a set in UNSET loads its value and the state becomes HOST, a set in any other state makes the
count read its value at the milestone; each counts in STEP_COUNT once and leaves the thresholds, the time scale and the monotonic counter
as they were. An announced step or load moves the count of a worker alike (R33, R40, R41, R42, R105). -/
def Obligations.StepsMoveTheCount : Prop :=
  ∀ (r : Req) (c : Nat) (s : State), let v := BitVec.ofNat 80 (fld r.params 0 10)
    (∀ o t, t = Op.apply o r c s → (o = .timeSet ∨ o = .timeStep ∨ o = .announceStep) →
      t.time.stepCount = s.time.stepCount + 1 ∧ t.time.mono = s.time.mono ∧ t.time.running = s.time.running ∧
      t.time.jumpThr = s.time.jumpThr ∧ t.time.stepThr = s.time.stepThr ∧ t.time.utcOffset = s.time.utcOffset ∧
      t.time.leap61 = s.time.leap61 ∧ t.time.leap59 = s.time.leap59) ∧
    (Op.apply .timeStep r c s).time.count = s.time.count + BitVec.ofInt 80 (sfld r.params 0 8) ∧
    (Op.apply .timeStep r c s).time.state = s.time.state ∧
    (s.time.state = .unset → (Op.apply .timeSet r c s).time.count = v ∧ (Op.apply .timeSet r c s).time.state = .host) ∧
    (s.time.state ≠ .unset → (Op.apply .timeSet r c s).time.count = s.time.count + (v - atOf s.ms) ∧
      (Op.apply .timeSet r c s).time.state = s.time.state) ∧
    (fld r.params 8 1 = 1 → (Op.apply .announceStep r c s).time.count = BitVec.ofNat 80 (fld r.params 16 10)) ∧
    (fld r.params 8 1 = 1 → s.time.state = .unset → (Op.apply .announceStep r c s).time.state = .host) ∧
    (fld r.params 8 1 ≠ 1 → (Op.apply .announceStep r c s).time.count = s.time.count + BitVec.ofInt 80 (sfld r.params 16 10))

/-- Claims and keys: COMPARE_CLAIM gives the unit its function and resource and COMPARE_RELEASE frees it (R46); COMPARE_DISARM ends its
arming; TIO_CLAIM and TIO_RELEASE do so for a pin; REF_CLEAR returns a held entry to QUALIFYING (R206); KEY_PROVISION writes the device
key once and FABRIC_KEY_SET the fabric key of a root or an UNENROLLED device (R247); HIER_CONFIG with ROOT makes an UNENROLLED device the
root (R242); a key roll keeps the old key beside the new one (R262); HIER_EPOCHS sets the eight epochs (R261). -/
def Obligations.ClaimsAndKeysTakeEffect : Prop :=
  ∀ (r : Req) (c : Nat) (s : State), let q := r.params; let u := fld q 0 1
    Op.apply .compareClaim r c s = s.setUnit c { claimed := true, function := fld q 1 1, resource := fld q 2 1 } ∧
    ((s.unit u).function ≠ 4 → (Op.apply .compareRelease r c s).unit u = {} ∧
      ∀ k, k ≠ u → (Op.apply .compareRelease r c s).unit k = s.unit k) ∧
    ((s.unit u).function ≠ 4 → Op.apply .compareDisarm r c s = s.setUnit u { s.unit u with
      armed := false, latePending := false, pulseEnd := none }) ∧
    ((s.unit u).function = 4 → Op.apply .compareRelease r c s = s ∧ Op.apply .compareDisarm r c s = s) ∧
    Op.apply .tioClaim r c s = { s with meas.pins := tput s.meas.pins u {
        function := fld q 1 1, electrical := BitVec.ofNat 16 (fld q 2 2) } } ∧
    (∃ v, Op.apply .tioRelease r c s = { s with meas.pins := v } ∧ tfind v u = none) ∧
    ((s.mon u).held = true → (s.refEntry u).enable = false → Op.apply .refClear r c s = s.setMon u { s.mon u with held := false }) ∧
    ((s.mon u).held = true → (s.refEntry u).enable = true → Op.apply .refClear r c s = s.setMon u { s.mon u with
      held := false, qual := .qualifying, since := some s.time.mono }) ∧
    ((s.mon u).held = false → Op.apply .refClear r c s = s) ∧
    (s.hier.deviceKey = none → Op.apply .keyProvision r c s = { s with hier.deviceKey := some q }) ∧
    (∀ k, s.hier.deviceKey = some k → Op.apply .keyProvision r c s = s) ∧
    (s.hier.role = .unenrolled ∨ s.hier.role = .root → Op.apply .fabricKeySet r c s = { s with hier.fabricKey := some q }) ∧
    (s.hier.role = .enrolled ∨ s.hier.role = .orphan → Op.apply .fabricKeySet r c s = s) ∧
    (s.hier.role = .unenrolled → (fld q 0 1).testBit 0 = true → ∀ t, t = Op.apply .hierConfig r c s →
      t.hier.role = .root ∧ t.hier.node = BitVec.ofNat 18 (fld q 8 4) ∧ t.hier.last = BitVec.ofNat 18 (fld q 12 4) ∧
      t.hier.cls = fld q 1 1 ∧ t.hier.keyInUse = true ∧ t.hier.fabricKey = s.hier.fabricKey) ∧
    (s.hier.role ≠ .unenrolled → ∀ t, t = Op.apply .hierConfig r c s →
      t.hier.role = s.hier.role ∧ t.hier.node = s.hier.node ∧ t.hier.last = s.hier.last ∧ t.hier.cls = fld q 1 1 ∧
      t.hier.candidates = [fld q 2 1, fld q 3 1, fld q 4 1]) ∧
    (s.hier.keyInUse = true → Op.apply .fabricKeyRoll r c s = raise .note 0x710B [] { s with
      hier.oldKey := s.hier.fabricKey, hier.fabricKey := some q, hier.rolledAt := s.ms }) ∧
    (∀ i, i < 8 → getAt (Op.apply .hierEpochs r c s).hier.epochs i 0 = fld q (4 * i) 4)

/-! ### What every command ends with, and what reset leaves -/

/-- The parts of the state that the commit of an opcode may change. -/
def Sys2Proof.Op.parts (o : Op) : List Mod :=
  match o with
  | .calImport | .calWrite => [.cal]
  | .rampStart | .lanePllConfig => [.clk]
  | .mgmtConfig => [.cmd]
  | .snapshotConfig | .filterConfig | .stickyClear | .tagConfig => [.ctr]
  | .l2Write | .l2Delete | .lpmWrite | .lpmDelete | .nexthopWrite | .ecmpWrite | .aclWrite | .aclDelete | .mcgroupWrite | .lportFwdConfig
  | .classMaps | .mirrorSession | .puntConfig | .ethertypes | .ecmpSeed | .poolsEnable | .queueConfig | .portHold | .mcastConfig
  | .schedConfig | .deadlineBudget => [.fwd]
  | .keyProvision | .fabricKeySet | .fabricKeyRoll | .hierEpochs | .announceEpochs | .announceKey => [.hier]
  | .hierConfig => [.hier, .ref]
  | .tioClaim | .tioRelease | .tdcEnable | .tdcDisable => [.meas]
  | .portConfig | .laneTxEq | .laneRxConfig | .laneLoop | .prbsConfig | .timingConfig | .axConfig | .ptpPortConfig | .ptpClockConfig => [.port]
  | .avsRequest | .padRelease | .dormantConfig | .vigilScratch | .tableRestore | .testBist => [.power]
  | .refMonitorConfig | .dpllConfig | .refForce | .refClear => [.ref]
  | .timeThresholds | .timeScale | .compareClaim | .compareDisarm | .compareRelease | .announceTimescale => [.time]
  | .pfcConfig => [.fwd, .ctr]
  | .portEnable => [.port, .board]
  | .lanePower => [.power, .port, .board]
  | .shedConfig => [.power, .clk]
  | .announceSettings => [.time, .fwd]
  | .reftableEnable => [.time, .ref]
  | .calendarDisable => [.time, .fwd, .ctr]
  | .linkAsym => [.cmd, .time, .port, .ref]
  | .compareArm => [.cmd, .time, .fwd, .port, .ctr]
  | .portDisable => [.power, .fwd, .port, .ctr, .board]
  | .timeSet | .timeStep | .announceStep => [.cmd, .time, .fwd, .port, .clk, .meas, .ctr]
  | .portBreakout => [.time, .power, .fwd, .port, .ctr]
  | .timeAcceptJump => [.cmd, .time, .fwd, .port, .ref, .clk, .meas, .ctr]
  | .modeSet => [.time, .power, .fwd, .port, .ref, .clk, .ctr]
  | _ => []

/-- What follows every command changes nothing but the READY block as shown, the squelch of the clock outputs, the instant of a missing
parent, and, through the events it raises, the recorder, its copies and INT_N; whatever the command has sent out stays sent. An event
changes nothing but the recorder, its copies for the EVENT ring and for the parent, and INT_N (R360). A commit changes, besides those, only the
parts of the state that its opcode names. -/
def Obligations.CommitsAndEventsTouchOnlyTheirParts : Prop :=
  (∀ s : State, OnlyIn [] s (finish s) ∧ (finish s).freeIx = s.freeIx ∧ ∀ x ∈ s.out, x ∈ (finish s).out) ∧
  (∀ (die : Nat) (v : Severity) (code : Nat) (p : List Byte) (s : State), let t := raiseAt die v code p s
    OnlyIn [] s t ∧ t.power = s.power ∧ t.clk = s.clk ∧ t.freeIx = s.freeIx ∧ (∀ x ∈ s.out, x ∈ t.out) ∧
    t.hier.noParentSince = s.hier.noParentSince) ∧
  (∀ (o : Op) (r : Req) (c : Nat) (s : State), OnlyIn (Op.parts o) s (Op.apply o r c s))

/-- The parts of the state that a row may change, for the rows of which other statements say only what some of the fields become, and the
time the row lets pass. -/
def Sys2Proof.rowParts (i : Instr) : Option (Nat × List Mod) :=
  match i with
  | .modBusWrite dt _ _ =>
      some (dt, [.board])
  | .tdcGateEdge dt _ _ =>
      some (dt, [.meas])
  | .timingPhaseSample dt _ _ _ _ | .losClear dt _ _ | .lolClear dt _ _ | .trainingTimeout dt _ | .timingRevert dt _
  | .ptpSendInterval dt _ _ =>
      some (dt, [.port])
  | .wakeNFall dt =>
      some (dt, [.power])
  | .dpllCycle dt _ =>
      some (dt, [.ref])
  | .macControlRx dt _ _ | .snapshot dt =>
      some (dt, [.fwd, .ctr])
  | .windowClose dt _ =>
      some (dt, [.fwd, .port, .ctr])
  | .tdcEdge dt _ _ =>
      some (dt, [.meas, .ctr])
  | .autoWake dt _ =>
      some (dt, [.port, .board])
  | .temperatureCompensation dt _ =>
      some (dt, [.power, .port, .cal])
  | .lanePllRelock dt _ _ =>
      some (dt, [.port, .clk])
  | .axSend dt _ =>
      some (dt, [.fwd, .port, .ctr])
  | .timingFallback dt _ =>
      some (dt, [.port, .ref])
  | .avsStatusPoll dt _ =>
      some (dt, [.power, .clk])
  | .refSwitch dt _ =>
      some (dt, [.time, .ref])
  | .rxFrame dt _ _ _ | .releaseInstant dt _ =>
      some (dt, [.fwd, .ctr, .board])
  | .dequeue dt _ _ =>
      some (dt, [.fwd, .port, .ctr, .board])
  | .linkUp dt _ =>
      some (dt, [.power, .fwd, .port, .ctr])
  | .residueRetry dt | .los dt _ _ | .lol dt _ _ | .pcsAlignmentLoss dt _ | .fecDegradeCheck dt _ _ _ =>
      some (dt, [.fwd, .port, .ctr])
  | .avsAck dt _ _ =>
      some (dt, [.power, .clk, .ctr])
  | .timingWake dt _ =>
      some (dt, [.power, .port, .board])
  | .lowPowerTransitionDone dt _ =>
      some (dt, [.power, .fwd, .port, .clk])
  | .calendarSwap dt _ =>
      some (dt, [.time, .fwd, .hier, .ctr])
  | .calendarRemoval dt _ =>
      some (dt, [.time, .fwd, .ctr])
  | .ptpMessage dt _ _ =>
      some (dt, [.cmd, .time, .port, .ref])
  | .lanePllUnlock dt _ _ =>
      some (dt, [.fwd, .port, .clk, .ctr])
  | .corePllUnlock dt _ _ =>
      some (dt, [.power, .fwd, .clk, .hier, .ctr])
  | .tapInstruction dt _ =>
      some (dt, [.cmd, .time, .fwd, .port, .clk, .ctr, .board])
  | .tdcGateClose dt _ =>
      some (dt, [.cmd, .fwd, .port, .meas, .ctr])
  | .fwdReset dt _ | .causewayRetrainDone dt _ _ =>
      some (dt, [.power, .fwd, .port, .clk, .ctr])
  | .shedRestore dt =>
      some (dt, [.power, .fwd, .port, .clk, .ctr, .board])
  | .axReceive dt _ _ =>
      some (dt, [.cmd, .time, .fwd, .port, .ref, .hier, .ctr])
  | .dormantEntry dt =>
      some (dt, [.cmd, .power, .fwd, .port, .ref, .clk, .meas, .ctr])
  | .timeLoaded dt =>
      some (dt, [.cmd, .time, .fwd, .port, .ref, .clk, .meas, .ctr])
  | .shedStage dt =>
      some (dt, [.cmd, .power, .fwd, .port, .ref, .clk, .meas, .ctr, .board])
  | .vddTimeLost dt | .oscLost dt =>
      some (dt, [.cmd, .time, .power, .fwd, .port, .ref, .clk, .meas, .ctr])
  | _ => none

/-- The rows of which other statements say only what some of the fields become change, besides the clocks and the recorder, only the parts
of the state that they act on (R127, R147, R175, R205, R219, R346). -/
def Obligations.RowsTouchOnlyTheirParts : Prop :=
  ∀ (i : Instr) (s t : State) (dt : Nat) (parts : List Mod),
    rowParts i = some (dt, parts) → exec i s = .next t → OnlyIn parts (s.advance dt) t

/-- After power is applied and while POR_N is low: KEEP, start-up not begun, no right of way, no pending commit, time UNSET and not
running with the thresholds of R35 and the UTC offset of R33, the DPLL in FREE_RUN, UNENROLLED with no node, no shedding, no logical port
enabled, no mailbox or ring in use, and the defaults that Tables 13.2, 13.6, 13.10, 13.11 and 13.13 give. The three invariants that every
step keeps hold. -/
def Obligations.ResetLeavesTheSpecsValues : Prop :=
  let s := State.reset
  s.power.mode = .keep ∧ s.power.porN = false ∧ s.power.transition = none ∧ s.power.readySeq = 0 ∧ s.cmd.holder = 0 ∧
  s.cmd.commits = [] ∧ s.cmd.pcieSeq = {} ∧ s.cmd.mgmtSeq = {} ∧ s.cmd.rings = [] ∧ s.cmd.mailboxes = [] ∧ s.pending = [] ∧
  s.time.state = .unset ∧ s.time.running = false ∧ s.time.stepCount = 0 ∧ s.time.jumpThr = 50 ∧ s.time.stepThr = 1000 ∧
  s.time.utcOffset = 37 ∧ s.time.leap61 = false ∧ s.time.leap59 = false ∧ s.time.tsSeq = 0 ∧ s.ref.dpll = .freeRun ∧
  s.ref.selected = none ∧ s.ref.validity = 14400 ∧ s.hier.role = .unenrolled ∧ s.hier.node = 0 ∧ s.hier.cls = 6 ∧
  s.power.stage = 0 ∧ s.power.dwell = 10 ∧ s.power.trigEnable = 7 ∧ s.power.wakeEn = 3 ∧ s.power.compat = false ∧
  s.cmd.mgmt.udpPort = 47190 ∧ s.cmd.mgmt.auth = true ∧ s.log.rate = 8 ∧ (∀ u, (s.unit u).claimed = false) ∧
  (∀ l, (s.lp l).enabled = false ∧ (s.lp l).up = false ∧ (s.lp l).wakeLimit = 10) ∧ (∀ d, s.ready d = true → d = 0) ∧
  ReadyShown s ∧ OutputsFollowDpll s ∧ ParentsWatched s

/-! ### Transports -/

/-- The mailbox registers (R288, Table 12.4). A doorbell on an idle queue makes it PENDING with its byte count, and while CMD is ready the
engine takes the packet at once; outside IDLE it is ignored and sets WRITE_VIOL. CQ_ACK with bit 0 returns a DONE queue to IDLE and does
nothing else. -/
def Obligations.MailboxesFollowTheirRegisters : Prop :=
  ∀ (dt : Nat) (q : Fin 4) (v : Word) (s : State), let u := s.advance dt; let m := u.mailbox q.val
    u.pcieLives = true →
    let p := u.setMailbox q.val { m with count := v.toNat % 8192, state := .pending, replyBytes := 0 }
    (m.state = .idle → u.ready 10 = false → Leads (.cqDoorbell dt q v) s p) ∧
    (m.state = .idle → u.ready 10 = true → Leads (.cqDoorbell dt q v) s (runMailbox q p)) ∧
    (m.state ≠ .idle → Leads (.cqDoorbell dt q v) s (u.setMailbox q.val { m with writeViol := true })) ∧
    (m.state = .done → v.getLsbD 0 = true → Leads (.cqAck dt q v) s (u.setMailbox q.val { m with state := .idle })) ∧
    (m.state ≠ .done ∨ v.getLsbD 0 = false → Leads (.cqAck dt q v) s u)

/-- A read of TS_SEQ counts the sequence, modulo 2^32 from 0 at reset, and latches the nanoseconds, the fraction and the state at one
instant; it moves nothing of the time itself. A write of 1 to a W1C bit of TS_STATE clears the live flag and the latched copy together,
and a 0 leaves both (R44, Tables 2.6 and 2.7). -/
def Obligations.TimeSnapshotIsLatched : Prop :=
  ∀ (dt : Nat) (v : Word) (s : State), let u := s.advance dt
    State.reset.time.tsSeq = 0 ∧
    (u.pcieLives = true → Leads (.tsSeq dt) s ({ u with
      time.tsSeq := u.time.tsSeq + 1, time.tsNs := u.ns, time.tsFrac := u.time.count.setWidth 16
      time.tsState := BitVec.ofNat 32 u.tsWord }.emit (.value (u.time.tsSeq + 1)))) ∧
    (u.pcieLives = true → ∃ t, Leads (.tsState dt v) s { u with time := t } ∧
      t = { u.time with jumpRefused := t.jumpRefused, compareLate := t.compareLate, tsState := t.tsState } ∧
      t.jumpRefused = (u.time.jumpRefused && !v.getLsbD 6) ∧ t.compareLate = (u.time.compareLate && !v.getLsbD 5) ∧
      ∀ i, t.tsState.getLsbD i = (u.time.tsState.getLsbD i && !(v.getLsbD i && decide (i = 5 ∨ i = 6)))) ∧
    (u.pcieLives = false → Leads (.tsSeq dt) s u ∧ Leads (.tsState dt v) s u)

/-- BAR0 takes aligned 32-bit writes within its 4 MiB; a write at another offset stops the model. A write to a read-only, reserved or
unmapped word is ignored (R8, R305). A descriptor with a legal KIND that no other enabled ring holds goes in service, one with KIND 0 or 7
gets CONFIG_ERR instead, and ENABLE 0 takes it out of service after the record in progress (R306, R307). -/
def Obligations.RegistersAndRingsTakeWrites : Prop :=
  ∀ (dt off : Nat) (v : Word) (d : Fin 64) (s : State), let u := s.advance dt; let r := u.ring d.val
    (off % 4 ≠ 0 → exec (.registerWrite dt off v) s = .fault .misaligned) ∧
    (off % 4 = 0 → 0x400000 ≤ off → exec (.registerWrite dt off v) s = .fault .outsideBar) ∧
    (off < 0x1000 → off % 4 = 0 → Leads (.registerWrite dt off v) s u) ∧
    (u.pcieLives = true → Leads (.registerWrite dt 0x1014 v) s { u with
      power.readyInt := v.getLsbD 31, power.readyVector := v.setWidth 11 }) ∧
    (u.pcieLives = true → r.enable = false → v.getLsbD 31 = true →
      let w := { r with vector := v.setWidth 11, kind := BitVec.ofNat 3 (v.toNat / 2 ^ 28 % 8)
                        sizeLog2 := BitVec.ofNat 4 (v.toNat / 2 ^ 24)
                        served := r.served && decide (r.kind = BitVec.ofNat 3 (v.toNat / 2 ^ 28 % 8)) }
      (v.toNat / 2 ^ 28 % 8 = 0 ∨ v.toNat / 2 ^ 28 % 8 = 7 → Leads (.ringCtrl dt d v) s (u.setRing d.val { w with configErr := true })) ∧
      (v.toNat / 2 ^ 28 % 8 ≠ 0 → v.toNat / 2 ^ 28 % 8 ≠ 7 → u.kindTaken d.val (v.toNat / 2 ^ 28 % 8) = false →
        Leads (.ringCtrl dt d v) s (u.setRing d.val { w with enable := true, active := true, served := true }))) ∧
    (u.pcieLives = true → r.enable = true → v.getLsbD 31 = false → r.waiting = [] →
      Leads (.ringCtrl dt d v) s (u.setRing d.val { r with
        vector := v.setWidth 11, enable := false, active := false })) ∧
    (∀ x rest, r.waiting = x :: rest → r.enable = true → r.intThreshold = 0 →
      Leads (.ringWrite dt d.val) s ((u.setRing d.val { r with
        waiting := rest, prod := r.prod + BitVec.ofNat 32 x.length, sinceInt := r.sinceInt + 1
        firstSince := some (r.firstSince.getD u.time.mono) }).emit (.ring d.val (r.prod.toNat % r.size) x))) ∧
    (∀ t, r.firstSince = some t → r.intTimer ≠ 0 → t + r.intTimer.toNat * micro ≤ u.time.mono →
      Leads (.ringIntTimer dt d.val) s ((u.setRing d.val { r with sinceInt := 0, firstSince := none }).emit (.msix r.vector.toNat))) ∧
    (r.firstSince = none → Leads (.ringIntTimer dt d.val) s u)

/-- A datagram for another address or UDP port is none of the management port's (R289). One that is fragmented, or is not exactly one packet of its LENGTH with the MAGIC, is discarded and
counted; one that is a packet is handled, in-band frames that fail their FCS count as drops (R255, R289, R291). A command sent on that gets
no reply within 1 s is answered INTERNAL with NOT_READY, an ENROLL within 100 ms REFUSED with NOT_READY and the port (R249, R290). A
controller that stops records 0x5104 and one that runs again 0x5105, and the packets that waited execute; a queue that was EXECUTING gets
the reply of the cache (R303). -/
def Obligations.TransportEventsAnswer : Prop :=
  ∀ (dt : Nat) (s : State), let u := s.advance dt
    (∀ v6 dst dport addr udp frag payload, u.mgmtTakes v6 dst dport = false →
      Leads (.mgmtDatagram dt ⟨v6, dst, dport⟩ ⟨addr, udp⟩ frag payload) s u) ∧
    (∀ v6 dst dport addr udp frag payload, u.mgmtTakes v6 dst dport = true → u.mgmtLives = true → u.ready 10 = true → let w := { u with power.mgmtUp := true }
      (frag = true → Leads (.mgmtDatagram dt ⟨v6, dst, dport⟩ ⟨addr, udp⟩ frag payload) s (countDevice 9 w)) ∧
      (frag = false → (payload.length < 16 ∨ fld payload 0 2 ≠ 0x4F4A ∨
          payload.length ≠ 16 + 4 * fld payload 6 2 + 16 * flag ((fld payload 3 1).testBit 0)) →
        Leads (.mgmtDatagram dt ⟨v6, dst, dport⟩ ⟨addr, udp⟩ frag payload) s (countDevice 10 w)) ∧
      (∀ code r, frag = false → 16 ≤ payload.length → fld payload 0 2 = 0x4F4A →
        payload.length = 16 + 4 * fld payload 6 2 + 16 * flag ((fld payload 3 1).testBit 0) → 4 * fld payload 6 2 ≤ 4092 →
        parsePacket (.mgmt addr udp) payload = .packet code r →
        Leads (.mgmtDatagram dt ⟨v6, dst, dport⟩ ⟨addr, udp⟩ frag payload) s (mgmtPacket code r (payload.take (16 + 4 * fld payload 6 2)) w))) ∧
    (∀ l frame, u.receives l = true → u.ingressStopped = false → fld frame 12 2 = u.fwd.etCommand →
      (fcs (frame.take (frame.length - 4)) ≠ frame.drop (frame.length - 4) →
        Leads (.inbandFrame dt l frame) s (dropIn l 1 none false (frame.take (frame.length - 4)) u)) ∧
      (fcs (frame.take (frame.length - 4)) = frame.drop (frame.length - 4) →
        Leads (.inbandFrame dt l frame) s (inbandBytesIn l (frame.take (frame.length - 4)) u))) ∧
    (∀ seq o, u.cmd.outstanding.find? (fun o => decide (o.seq = seq)) = some o → o.sent + second ≤ u.time.mono →
      Leads (.remoteTimeout dt seq) s (sendLocal o.req.src o.req.target (o.req.tag.isSome && u.hier.deviceKey.isSome)
        { opcode := o.opcode, seq := o.req.seq, status := .internal, reason := .notReady, detail := 0, commit := 0, data := [] }
        { u with cmd.outstanding := u.cmd.outstanding.filter (fun x => decide (x.seq ≠ o.seq)) })) ∧
    (∀ port e, u.hier.enrolling.find? (fun e => decide (e.port = port)) = some e → e.sent + 100 * milli ≤ u.time.mono →
      let p := rejReply 0x0D05 e.req (refused .notReady port)
      Leads (.enrollTimeout dt port) s (sendReply e.req p (cacheReply e.req.src p { u with
        hier.enrolling := u.hier.enrolling.filter (fun x => decide (x.port ≠ port)) }))) ∧
    (u.cmd.controllerUp = true → Leads (.cmdDown dt) s (raise .error 0x5104 [] { u with
      cmd.controllerUp := false, cmd.controllerReset := true })) ∧
    (u.cmd.controllerUp = false → u.cmd.controllerReset = true →
      let back := raise .note 0x5105 [] { u with cmd.controllerUp := true, cmd.controllerReset := false }
      ((∀ q : Fin 4, (u.mailbox q.val).state ≠ .executing) → Leads (.cmdUp dt) s (runPending 4 back)) ∧
      (∀ (q : Fin 4) code r p, let m := u.mailbox q.val
        m.state = .executing → (∀ k : Fin 4, k ≠ q → (u.mailbox k.val).state = .idle) →
        parsePacket (.pcie q) (memBytes m.buffer 0 m.count) = .packet code r →
        u.cmd.pcieSeq.cache.find? (fun p => decide (p.seq = r.seq)) = some p → Leads (.cmdUp dt) s (sendReply r p back)))

/-- The right of way returns to none with event 0x5103, whose parameters are the holder and the cause, when its lease runs out, when the
PCIe link of a PCIe holder is lost or PERST_N falls, when the management port's link has been down for 1 s, and when an in-band holder's
device becomes ORPHAN; a lease that has not run out and another transport's loss leave it. Pending commits stay in every case, and PERST_N
also returns the queues to IDLE, takes the rings out of service and forgets L of PCIe (R266, R295, R296, R356). -/
def Obligations.RightOfWayIsReleased : Prop :=
  ∀ (dt : Nat) (s : State), let u := s.advance dt; let h := u.cmd.holder
    let free := fun (cause : Nat) (w : State) => raise .note 0x5103 [BitVec.ofNat 8 h, BitVec.ofNat 8 cause] { w with
      cmd.holder := 0, cmd.lease := 0 }
    let idle := { u with
      cmd.mailboxes := u.cmd.mailboxes.map (fun e => (e.1, { e.2 with state := .idle }))
      cmd.rings := u.cmd.rings.map (fun e => (e.1, { e.2 with enable := false, served := false, active := false, waiting := [] }))
      cmd.pcieSeq := { u.cmd.pcieSeq with last := none } }
    (h ≠ 0 → u.cmd.lease ≠ 0 → u.cmd.leaseFrom + u.cmd.lease * second ≤ u.time.mono → Leads (.rowLeaseExpiry dt) s (free 1 u)) ∧
    (u.cmd.lease = 0 ∨ u.time.mono < u.cmd.leaseFrom + u.cmd.lease * second → Leads (.rowLeaseExpiry dt) s u) ∧
    (h = 1 → Leads (.pcieLinkLoss dt) s (free 2 u) ∧ Leads (.perstN dt) s (free 2 idle)) ∧
    (h ≠ 1 → Leads (.pcieLinkLoss dt) s u ∧ Leads (.perstN dt) s idle) ∧
    (h = 2 → Leads (.mgmtLinkDown dt) s (free 3 { u with power.mgmtUp := false })) ∧
    (h ≠ 2 → Leads (.mgmtLinkDown dt) s { u with power.mgmtUp := false }) ∧
    (∀ t n, u.hier.role = .enrolled → u.hier.noParentSince = some t → u.parentSilence = some n → t + n ≤ u.time.mono →
      let w := raise .error 0x7102 (toBe 4 u.hier.manager.toNat) { u with
        hier.role := .orphan, hier.parent := none, hier.parentPort := none }
      (h = 3 → Leads (.managerLost dt) s (free 4 w)) ∧ (h ≠ 3 → Leads (.managerLost dt) s w)) ∧
    (u.hier.noParentSince = none → Leads (.managerLost dt) s u)

/-- The command parent port of an ENROLLED worker moves to the first candidate that qualifies, with event 0x7104, and an ORPHAN whose
manager qualifies again is ENROLLED with the notifications it held first (R264, R265, R266). A worker without an AX message of its NODE within
the silence limit is absent, recorded once (R267). The old key ends 7,812,500 milestones after a roll (R262). The root delivers a mirrored
event of its own to its NOTIFY ring (R263). -/
def Obligations.TreeEventsTakeEffect : Prop :=
  ∀ (dt : Nat) (s : State), let u := s.advance dt
    (∀ i, u.firstCand = some i → u.hier.role = .enrolled → u.hier.parent ≠ some i → u.upPort ≠ u.candPort i →
      Leads (.parentSwitch dt) s (raise .note 0x7104 [BitVec.ofNat 8 i] { u with hier.parent := some i })) ∧
    (∀ i, u.firstCand = some i → u.hier.role = .orphan → Leads (.parentSwitch dt) s (raise .note 0x7104 [BitVec.ofNat 8 i] { u with
      hier.role := .enrolled, hier.parent := some i, hier.noParentSince := none })) ∧
    (u.firstCand = none → Leads (.parentSwitch dt) s u) ∧
    (∀ p w, tfind u.hier.workers p = some w → w.absent = false →
      (∀ t, w.heardAt = some t → t + (u.link p).silence * second ≤ u.time.mono) →
      Leads (.workerAbsent dt p) s (raiseAt (laneDieOf p) .warn 0x710A (BitVec.ofNat 8 p :: toBe 4 w.first.toNat) { u with
        hier.workers := tput u.hier.workers p { w with absent := true } })) ∧
    (∀ p w, tfind u.hier.workers p = some w → w.absent = true → Leads (.workerAbsent dt p) s u) ∧
    (∀ p, tfind u.hier.workers p = none → Leads (.workerAbsent dt p) s u) ∧
    (7812500 ≤ sdiff u.ms u.hier.rolledAt → Leads (.keyRollEnd dt) s { u with hier.oldKey := none }) ∧
    (u.hier.mirrorQ = [] → Leads (.eventMirror dt) s u) ∧
    (∀ node rec_ rest, u.hier.mirrorQ = (node, rec_) :: rest → u.hier.role = .root → u.hier.eventSink = 0 →
      Leads (.eventMirror dt) s (deliverNotify 0x0D30 u.hier.node (toBe 4 node.toNat ++ rec_) { u with hier.mirrorQ := rest }))

/-! ### Time and references -/

/-- The reference time is loaded at the milestone after the first estimate in UNSET, and the state becomes FOLLOWING (Table 2.3). The
rotation of ASYN ends once it has taken its phase out (R221). An armed unit whose target is reached fires once, drives its pin to the level of its pulse at its target, where no pulse is in progress (R49), and, unarmed, late or before
its target, does not; a late one fires at a milestone after that of the move, with LATE and event 0x2105 (R47). A pulse ends one width
after its edge, with the other level (R48). The edges of a pin are launched with the correction of its OUT_LAT entry, and with none where
item 8 is not valid or lacks the entry (R370); while boundary scan holds the pins the unit fires unseen (R426). An
estimate comes only from the selected PPS input (R192). -/
def Obligations.TimeEventsTakeEffect : Prop :=
  ∀ (dt : Nat) (s : State), let u := s.advance dt
    (∀ e, u.time.loadEntry = some e → u.time.state = .unset → u.time.running = true → Runs (.timeLoaded dt) s (fun t =>
      t.time.state = .following ∧ t.time.loadEntry = none ∧ t.time.stepCount = u.time.stepCount + 1 ∧
      t.time.count = u.time.count + BitVec.ofInt 80 u.time.offset)) ∧
    (u.time.loadEntry = none → Leads (.timeLoaded dt) s u) ∧
    (u.rotationLeft = 0 → Leads (.aclkRotationDone dt) s { u with time.rotating := false, time.rotatePhase := 0 }) ∧
    (u.rotationLeft ≠ 0 → Leads (.aclkRotationDone dt) s u) ∧
    (∀ n c, c = u.unit n → c.claimed = true → c.armed = true → c.fired = false → c.periodic = false → c.latePending = false →
      c.function ≠ 3 → c.notify = false → u.time.running = true → 0 ≤ sdiff (nsOf u.time.count) (nsOf c.target) →
      let pin := decide (c.function = 1 ∨ c.function = 2)
      let ends := ((u.time.mono : Int) + sdiff c.target u.time.count + (c.width * 65536 : Nat)).toNat
      let w := u.setUnit n { c with fired := true, late := false, pulseEnd := if pin then some ends else c.pulseEnd }
      Leads (.compareFire dt n) s (if pin ∧ c.pulsing u.time.mono = false ∧ u.board.scan = none then
        w.emit (.pulse n c.target (!c.activeLow) (u.outLat c)) else w)) ∧
    (∀ n c, c = u.unit n → c.claimed = true → c.armed = true → c.fired = false → c.periodic = false → c.latePending = true →
      c.function ≠ 3 → c.notify = false → c.lateQuiet = true → u.time.running = true → u.ms ≠ c.lateSince →
      Leads (.compareFire dt n) s ((raise .warn 0x2105 [BitVec.ofNat 8 n] { u with time.compareLate := true }).setUnit n { c with
        fired := true, late := true, latePending := false })) ∧
    (∀ n c, c = u.unit n → (c.claimed = false ∨ c.armed = false ∨ u.time.running = false ∨ c.latePending = true ∧ u.ms = c.lateSince) → Leads (.compareFire dt n) s u) ∧
    (∀ n c, c = u.unit n → c.claimed = true → c.armed = true → c.periodic = false → c.latePending = false →
      sdiff (nsOf u.time.count) (nsOf c.target) < 0 → Leads (.compareFire dt n) s u) ∧
    (∀ n e, (u.unit n).pulseEnd = some e → e ≤ u.time.mono →
      let w := u.setUnit n { u.unit n with pulseEnd := none }
      Leads (.pulseEnd dt n) s (if u.board.scan = none then
        w.emit (.pulseEnd n (u.unit n).activeLow (u.outLat (u.unit n))) else w)) ∧
    (∀ c i, i = (if c.function = 1 then c.resource else 4 + c.resource) → u.outLat c =
      (if u.cal.valid.testBit 8 = true ∧ calHas u.cal.set 8 i = true then calValue u.cal.set 8 i else 0)) ∧
    (∀ n, (u.unit n).pulseEnd = none → Leads (.pulseEnd dt n) s u) ∧
    (∀ n e, u.ref.selected = some e → (u.refEntry e).kind = 1 → (u.refEntry e).index = n →
      Leads (.ppsInPulse dt n) s (let t : Int := (u.time.count.toNat : Int) - (u.refEntry e).delay * 256
        estimate e ((openRound t second u).1 * second - t) false (openRound t second u).2)) ∧
    (u.ref.selected = none → ∀ n, Leads (.ppsInPulse dt n) s u)

/-- The monitors and the DPLL (R196 to R213, Tables 8.4 and 8.6). An enabled entry that loses its signal is DISQUALIFIED with reason 2 and,
where it ranked, event 0x2303; one whose source offers nothing loses it at the next selection (Table 8.1). A selection that calls for another entry waits for the next milestone; the switch counts, records 0x2304 and
makes the DPLL follow. The phase input is the port's phase sample where it offers time (R177), and the one before while estimates beyond the
jump threshold are counted (R36). In ACQUIRING the DPLL locks after the lock count within the window, with event 0x2306; outside the window for the
count it returns to ACQUIRING with 0x230A. HOLDOVER ends in LOST with event 0x2308 when the validity has run. A monitor sample falls at each multiple of 3,906,250 milestones and adds
the correction of OSC_COEF, whose coefficients count as 0 while item 9 is not valid (R370, R377; that it adds is the model's reading, log
entry 42). -/
def Obligations.ReferenceEventsTakeEffect : Prop :=
  ∀ (dt : Nat) (s : State), let u := s.advance dt
    (∀ e, e < 16 → (u.refEntry e).enable = true → (u.mon e).qual = .qualifying →
      Leads (.refSignalLoss dt e) s (u.setMon e { u.mon e with signal := false, qual := .disqualified, since := none, reason := 2 })) ∧
    (∀ e, e < 16 → (u.refEntry e).enable = true → (u.mon e).qual = .qualified → u.ref.selected ≠ some e →
      Leads (.refSignalLoss dt e) s (raise .warn 0x2303 [BitVec.ofNat 8 e, 2] (u.setMon e { u.mon e with
        signal := false, qual := .disqualified, since := none, reason := 2 }))) ∧
    (∀ e, (u.refEntry e).enable = false → Leads (.refSignalLoss dt e) s u) ∧
    (∀ e, e < 16 → (u.refEntry e).enable = true → (u.mon e).signal = true → u.sourceGone e = true →
      Runs (.refSelection dt) s (fun t => (t.mon e).signal = false ∧ (t.mon e).qual = .disqualified)) ∧
    ((∀ e, e < 16 → (u.mon e).signal = true → u.sourceGone e = false) →
      u.ref.forced = none → u.ref.selected = none → (List.range 16).filter u.ranks = [] →
      Leads (.refSelection dt) s { u with ref.switchTo := none }) ∧
    (∀ e, (∀ e, e < 16 → (u.mon e).signal = true → u.sourceGone e = false) →
      u.ref.forced = none → u.ref.selected = none → (List.range 16).filter u.ranks = [e] →
      Leads (.refSelection dt) s { u with ref.switchTo := some (some e) }) ∧
    (∀ e, (∀ e, e < 16 → (u.mon e).signal = true → u.sourceGone e = false) →
      u.ref.forced = some e → u.ranks e = true → u.ref.selected ≠ some e →
      Leads (.refSelection dt) s { u with ref.switchTo := some (some e) }) ∧
    (∀ off, u.ref.switchTo = none → Leads (.refSwitch dt off) s u) ∧
    (∀ off e, u.ref.switchTo = some (some e) → u.time.state ≠ .guard → Runs (.refSwitch dt off) s (fun t =>
      t.ref.selected = some e ∧ t.ref.switchTo = none ∧ t.ref.switches = (u.ref.switches + 1) % 2 ^ 32 ∧
      (t.ref.dpll = .acquiring ∨ t.ref.dpll = .locked) ∧ t.time.excess = 0 ∧ t.time.within = 0 ∧ t.time.count = u.time.count)) ∧
    (∀ off, u.ref.switchTo = some none → u.ref.dpll = .locked ∨ u.ref.dpll = .acquiring →
      Runs (.refSwitch dt off) s (fun t =>
        t.ref.selected = none ∧ t.ref.dpll = (if u.histValid = true then .holdover else .lost))) ∧
    (∀ ph e, u.ref.selected = some e → u.time.state ≠ .guard → u.ref.dpll = .acquiring → u.time.excess = 0 →
      ((u.refEntry e).kind ≠ 2 ∨ u.timeCap e = false) →
      (ph - u.ref.buildOut).natAbs * 1000 ≤ u.ref.window * 65536 →
      Runs (.dpllCycle dt ph) s (fun t => t.ref.phaseError = ph - u.ref.buildOut ∧ t.ref.inWindow = u.ref.inWindow + 1 ∧
        t.ref.outWindow = 0 ∧ t.ref.dpll = (if u.ref.lockN ≤ u.ref.inWindow + 1 then .locked else .acquiring))) ∧
    (∀ ph e, u.ref.selected = some e → u.time.state ≠ .guard → u.ref.dpll = .locked → u.time.excess = 0 →
      ((u.refEntry e).kind ≠ 2 ∨ u.timeCap e = false) →
      u.ref.window * 65536 < (ph - u.ref.buildOut).natAbs * 1000 →
      Runs (.dpllCycle dt ph) s (fun t => t.ref.phaseError = ph - u.ref.buildOut ∧ t.ref.inWindow = 0 ∧
        t.ref.outWindow = u.ref.outWindow + 1 ∧ t.ref.dpll = (if u.ref.lockN ≤ u.ref.outWindow + 1 then .acquiring else .locked))) ∧
    (∀ ph e, u.ref.selected = some e → u.time.state ≠ .guard → u.ref.dpll = .acquiring ∨ u.ref.dpll = .locked →
      (0 < u.time.excess → Runs (.dpllCycle dt ph) s (fun t => t.ref.phaseError = u.ref.phaseError)) ∧
      (u.time.excess = 0 → (u.refEntry e).kind = 2 → u.timeCap e = true → (u.link (u.refEntry e).index).resolved = true →
        u.phaseLane (u.refEntry e).index = true → Runs (.dpllCycle dt ph) s (fun t =>
          (5 * (t.ref.phaseError + u.ref.buildOut) - (u.link (u.refEntry e).index).thetaPh).natAbs < 5))) ∧
    (u.ref.selected = none → ∀ ph, Leads (.dpllCycle dt ph) s u) ∧
    (∀ t, u.ref.holdFrom = some t → u.ref.dpll = .holdover → t + u.ref.validity * second ≤ u.time.mono →
      Leads (.holdoverExpiry dt) s (raise .error 0x2308 [2] { u with
        ref.dpll := .lost, ref.holdFrom := none, ref.pull := u.pullNow, ref.frequency := u.ref.holdEst, ref.movedAt := u.time.mono })) ∧
    (∀ t, u.ref.holdFrom = some t → u.time.mono < t + u.ref.validity * second → Leads (.holdoverExpiry dt) s u) ∧
    (u.ms.toNat % 3906250 ≠ 0 → ∀ samples out, Leads (.refMonitorSample dt samples out) s u) ∧
    (∀ out, u.ms.toNat % 3906250 = 0 → (∀ e, e < 16 → (u.refEntry e).enable = false ∧ (u.mon e).samples = []) → u.ref.pairs = [] → u.ref.dpll = .freeRun →
      u.histValid = false → ∀ samples,
      Leads (.refMonitorSample dt samples out) s (oscCorrection u).2) ∧
    (u.cal.valid.testBit 9 = false → oscCorrection u = (0, u)) ∧
    (∀ k, k < 4 → u.cal.valid.testBit 9 = true → calHas u.cal.set 9 k = true →
      (∀ j, j < 4 → j ≠ k → calHas u.cal.set 9 j = true → calValue u.cal.set 9 j = 0) →
      let c := calValue u.cal.set 9 k
      let x := ((tfind u.cal.temps 0).map (fun t =>
        if u.cal.valid.testBit 5 = true ∧ calHas u.cal.set 5 0 = true then t - calValue u.cal.set 5 0 else 0)).getD 0
      let term := getAt [64 * c * (86400 * second : Nat), 8 * c * x * (86400 * second : Nat), c * x * x * (86400 * second : Nat),
        64 * c * (u.time.mono - u.cal.coefAt : Nat)] k 0
      (64 * (86400 * second : Nat) * (oscCorrection u).1 - term).natAbs < 64 * (86400 * second)) ∧
    (∀ out v, u.ms.toNat % 3906250 = 0 → (∀ e, 0 < e → e < 16 → (u.refEntry e).enable = false ∧ (u.mon e).samples = []) → u.ref.pairs = [] →
      u.ref.dpll = .freeRun → (u.refEntry 0).enable = true → u.sourceHeard 0 = true → (u.mon 0).held = false → (u.mon 0).qual = .disqualified →
      u.histValid = false → let v' := v + (oscCorrection u).1
      v'.natAbs ≤ u.ref.capture * 1000000000000 →
      Leads (.refMonitorSample dt [some v] out) s ((oscCorrection u).2.setMon 0 { u.mon 0 with
        signal := true, samples := (some v' :: (u.mon 0).samples).take 17, offset := v', qual := .qualifying
        since := some u.time.mono }))

/-! ### Start-up, supplies, the oscillator -/

/-- POR_N rises: the straps are sampled; without VDD_CORE0 nothing else happens, and with it POWER_CYCLES counts, the mode is BRING-UP and,
from an authentic slot, the sequence reaches the voltage requests of step 4 with RECORDER scanned and the controller running; a slot that
fails with no other to try stops it, with FLASH_ERROR for a wrong header and AUTH_FAILED for a key, a signature or a SECURITY_VERSION
below the fused minimum (R355, R358, Tables 14.2, 15.3, 15.4 and 15.9). POR_N falls: KEEP, nothing pending, no right of way. VKEEP clears the
Vigil values, which are ready a second later; a second of the crystal counts OP_SECONDS while VDD_CORE0 is present, and takes COARSE a second on from its load or the second before
(R351, Table 14.9). -/
def Obligations.StartUpFollowsTheSequence : Prop :=
  ∀ (dt : Nat) (st : Straps) (a b : Slot) (s : State), let u := s.advance dt
    (u.power.porN = true → ∀ c, Leads (.porNRise dt st a b c) s u) ∧
    (u.power.porN = false → Leads (.porNRise dt st a b false) s { u with
      power.porN := true, power.bootSel := st.bootSel.val, power.oscSel := st.oscSel.val, power.porAt := u.time.mono
      power.vddCore0 := false, power.vddCore1 := true, power.vddTime := true }) ∧
    (u.power.porN = false → u.power.mode = .keep → slotReason u.power.secMin a = 0 → st.bootSel.val = 0 → u.cmd.mailboxes = [] →
      Runs (.porNRise dt st a b true) s (fun t =>
        t.power.porN = true ∧ t.power.mode = .bringUp ∧ t.power.powerCycles = u.power.powerCycles + 1 ∧ t.power.booted = true ∧
        t.power.slotB = false ∧ t.power.fwVersion = BitVec.ofNat 32 (fld a.header 12 4) ∧ t.power.bootStep = 4 ∧ t.log.scanned = true ∧ t.cmd.controllerUp = true ∧
        (t.rail 0).state = 1 ∧ (t.rail 0).requested = u.fusedAt 0 1600)) ∧
    (u.power.porN = false → u.power.mode = .keep → slotReason u.power.secMin a ≠ 0 → st.bootSel.val = 2 → u.power.booted = false →
      Runs (.porNRise dt st a b true) s (fun t =>
        t.power.mode = .bringUp ∧ t.power.bootStep = 0xF ∧ t.power.bootReason = slotReason u.power.secMin a ∧ t.power.booted = false ∧
        t.cmd.controllerUp = u.cmd.controllerUp)) ∧
    (slotReason u.power.secMin a =
      (if a.header.length = 4096 ∧ fld a.header 0 4 = 0x4F4A4657 ∧ fld a.header 4 2 = 1 ∧ 4 ≤ fld a.header 8 4 ∧
          fld a.header 8 4 ≤ 8388608 ∧ fld a.header 8 4 % 4 = 0 ∧ headerRsvOk a.header = true then
        if a.keyOk = true ∧ a.sigOk = true ∧ u.power.secMin ≤ fld a.header 16 4 then 0 else 0x08
      else 0x07)) ∧
    Runs (.porNFall dt) s (fun t => t.power.porN = false ∧ t.power.mode = .keep ∧ t.cmd.holder = 0 ∧ t.cmd.commits = [] ∧
      t.time.state = .unset ∧ t.time.running = false ∧ t.power.powerCycles = u.power.powerCycles ∧
      t.power.opSeconds = u.power.opSeconds ∧ t.hier.deviceKey = u.hier.deviceKey) ∧
    Leads (.vkeepApplied dt) s { u with
      power.vkeep := true, power.vigil := false, power.opSeconds := 0, power.powerCycles := 0, power.coarseValid := false
      power.coarseSec := 0, power.coarseSub := 0, power.scratch := List.replicate 48 0, power.failure := {} } ∧
    Leads (.vigilReady dt) s { u with power.vigil := u.power.vkeep } ∧
    (u.power.vkeep = true → u.power.vddCore0 = true → u.power.coarseValid = false →
      Leads (.vigilCrystalSecond dt) s { u with power.opSeconds := u.power.opSeconds + 1 }) ∧
    (u.power.vkeep = true → u.power.vddCore0 = false → u.power.coarseValid = true →
      u.power.coarseTick = true ∨ u.power.coarseFrom + second ≤ u.time.mono →
      Leads (.vigilCrystalSecond dt) s { u with
        power.coarseSec := u.power.coarseSec + 1, power.coarseFrom := u.time.mono, power.coarseTick := true }) ∧
    (u.power.vkeep = false → Leads (.vigilCrystalSecond dt) s u)

/-- Supplies: the loss of VDD_CORE0 takes the device to KEEP, and that of VDD_CORE1 only in DORMANT on a part with two CORE dies; the loss of
VDD_TIME with the chain running is a loss of the oscillator outside DORMANT and KEEP, and its return restarts the chain; 50 ms after a wake
without it event 0x2403 is recorded once (R30, R350, R433, Table 14.2). The loss of the oscillator stops time and every clock of the chain:
time UNSET, the DPLL in FREE_RUN, CCLK off, no lane PLL locked, no pending commit touched. Within tolerance for 10 ms
again, time runs; a device in BRING-UP completes its sequence in TIMING-ONLY; still absent at step 5, the sequence stops with event 0x2403 (R30, R219, R365). -/
def Obligations.SuppliesAndOscillatorTakeEffect : Prop :=
  ∀ (dt : Nat) (s : State), let u := s.advance dt
    (u.power.mode = .keep → Leads (.vddCore0Lost dt) s { u with power.vddCore0 := false }) ∧
    (u.power.mode ≠ .keep → Runs (.vddCore0Lost dt) s (fun t => t.power.vddCore0 = false ∧ t.power.mode = .keep ∧ t.cmd.commits = [] ∧
      t.cmd.holder = 0 ∧ t.time.state = .unset)) ∧
    (u.power.mode ≠ .dormant ∨ u.part.cores ≠ 2 → Leads (.vddCore1Lost dt) s { u with power.vddCore1 := false }) ∧
    (u.power.mode = .dormant → u.part.cores = 2 → Runs (.vddCore1Lost dt) s (fun t => t.power.vddCore1 = false ∧ t.power.mode = .keep)) ∧
    (u.clk.asynLock = false → Leads (.vddTimeLost dt) s { u with power.vddTime := false }) ∧
    (u.clk.asynLock = true → u.power.mode = .dormant → Runs (.vddTimeLost dt) s (fun t =>
      t.power.vddTime = false ∧ t.clk.asynLock = false ∧ t.time.state = .unset ∧ t.time.running = false ∧ t.ref.dpll = .freeRun ∧
      t.clk.oscLost = u.clk.oscLost)) ∧
    (u.clk.asynLock = true → u.power.mode ≠ .keep → u.power.mode ≠ .dormant → Runs (.vddTimeLost dt) s (fun t =>
      t.power.vddTime = false ∧ t.clk.asynLock = false ∧ t.clk.oscLost = true ∧ t.clk.oscOk = u.clk.oscOk ∧ t.time.state = .unset ∧
      t.ref.dpll = .freeRun ∧ t.clk.cclk = 0)) ∧
    (u.power.vddTime = true → Leads (.vddTimeReturn dt) s u) ∧
    (u.power.vddTime = false → u.clk.oscOk = false → u.power.dormant = .none →
      Leads (.vddTimeReturn dt) s { u with power.vddTime := true, power.timeTimeout := false }) ∧
    (u.power.dormant = .exit → u.power.vddTime = false → u.power.timeTimeout = false →
      Leads (.vddTimeWakeTimeout dt) s (raise .fatal 0x2403 [1] { u with power.timeTimeout := true })) ∧
    (u.power.dormant ≠ .exit ∨ u.power.vddTime = true ∨ u.power.timeTimeout = true → Leads (.vddTimeWakeTimeout dt) s u) ∧
    (u.clk.oscLost = false → u.clk.asynLock = true → Runs (.oscLost dt) s (fun t =>
      t.clk.oscOk = false ∧ t.clk.oscLost = true ∧ t.clk.asynLock = false ∧ t.clk.cclk = 0 ∧ t.clk.lanePlls = [] ∧
      t.time.state = .unset ∧ t.time.running = false ∧ t.ref.dpll = .freeRun ∧ t.ref.selected = none ∧
      t.cmd.commits = u.cmd.commits)) ∧
    (u.clk.oscLost = true → Leads (.oscLost dt) s { u with clk.oscOk := false, clk.oscLostAt := u.time.mono }) ∧
    (∀ un, u.power.mode = .bringUp → u.clk.oscOk = false → u.power.oscSel < 6 → u.power.vddTime = true → u.power.bootStep = 5 →
      Runs (.oscRestored dt un) s (fun t => t.clk.oscOk = true ∧ t.clk.asynLock = true ∧ t.time.running = true ∧
        t.power.bootStep = 0xB ∧ t.power.mode = .timingOnly)) ∧
    (∀ un, u.power.mode ≠ .keep → u.power.mode ≠ .bringUp → u.clk.oscOk = false → u.clk.oscLost = true →
      (u.time.mono < u.clk.oscLostAt + 10 * milli → Leads (.oscRestored dt un) s u) ∧
      (u.clk.oscLostAt + 10 * milli ≤ u.time.mono → u.power.vddTime = true → Runs (.oscRestored dt un) s (fun t =>
        t.clk.oscOk = true ∧ t.clk.oscLost = false ∧ t.clk.asynLock = true ∧ t.time.running = true ∧
        t.clk.mclkBoot = decide (u.power.mode = .dormant)))) ∧
    (∀ un, u.clk.oscOk = true → Leads (.oscRestored dt un) s u) ∧
    (u.power.mode = .bringUp → u.power.bootStep = 5 → Leads (.oscNotReady dt) s (raise .fatal 0x2403 [0] { u with
      clk.oscTimeout := true, power.bootStep := 0xF, power.elapsed := some u.sinceRise })) ∧
    (u.power.mode ≠ .bringUp ∨ u.power.bootStep ≠ 5 → Leads (.oscNotReady dt) s u)

/-- When ASYN loses lock while the oscillator is present, the device handles the event as loss of the oscillator: what ASYN_UNLOCK does is
what OSC_LOST does, in every state (R222). -/
def Obligations.AsynUnlockIsLossOfTheOscillator : Prop :=
  ∀ (dt : Nat) (s : State), exec (.asynUnlock dt) s = exec (.oscLost dt) s

/-! ### Clocks, voltages, shedding, DORMANT -/

/-- A lane PLL out of lock takes the links of its pair down with event 0x2430, and locks again (R226); a CLK_OUT synthesizer likewise stops
and restarts its output (R236). A CORE PLL out of lock freezes the forwarding domain from the first loss; its lock shows when it locks again (R223), and
locked for 64 us since the latest loss it thaws; 10 ms after the first loss it is reset, and a reset domain restarts once its buffer is clear
(R237 to R240). A host ramp that has stood within 0.05 % of its target for 10 us ends with event 0x2420 (R231). -/
def Obligations.ClockEventsTakeEffect : Prop :=
  ∀ (dt : Nat) (s : State), let u := s.advance dt
    (∀ p k, (4 * p + k) ∈ u.clk.lanePlls → k < 4 → Runs (.lanePllUnlock dt p k) s (fun t =>
      t.clk.lanePlls = u.clk.lanePlls.erase (4 * p + k) ∧ ∀ l ∈ u.pairPorts p k, (t.lp l).up = false)) ∧
    (∀ p k, (4 * p + k) ∉ u.clk.lanePlls → Leads (.lanePllUnlock dt p k) s u) ∧
    (∀ p k, (4 * p + k) ∉ u.clk.lanePlls → k < 4 → p < u.part.ports → u.clk.asynLock = true → u.asleep = false → u.cal.loaded = true →
      u.laneCut p = false → Runs (.lanePllRelock dt p k) s (fun t => t.clk.lanePlls = u.clk.lanePlls ++ [4 * p + k])) ∧
    (∀ p k, (4 * p + k) ∈ u.clk.lanePlls → Leads (.lanePllRelock dt p k) s u) ∧
    (∀ n c, c = tget u.clk.outs n {} → n < 4 → c.enable = true →
      (c.unlocked = false → Leads (.clkOutUnlock dt n) s { u with clk.outs := tput u.clk.outs n { c with unlocked := true } }) ∧
      (c.unlocked = true → Leads (.clkOutSynthesizerLock dt n) s { u with clk.outs := tput u.clk.outs n { c with unlocked := false } })) ∧
    (∀ n, (tget u.clk.outs n {}).enable = false → Leads (.clkOutUnlock dt n) s u ∧ Leads (.clkOutSynthesizerLock dt n) s u) ∧
    (∀ d pll c, c = u.core d → d < u.part.cores → c.cclkLock = true → c.bclkLock = true → c.frozen = none → u.clk.cclk ≠ 0 →
      Runs (.corePllUnlock dt d pll) s (fun t => (t.core d).running = false ∧ (t.core d).frozen = some u.time.mono ∧
        (t.core d).lostAt = u.time.mono ∧
        (t.core d).cclkLock = decide (pll ≠ .cclk) ∧ (t.core d).bclkLock = decide (pll ≠ .bclk) ∧
        ∀ e, e ≠ d → t.core e = u.core e)) ∧
    (∀ d c, c = u.core d → d < u.part.cores → c.frozen ≠ none → c.cclkLock = true → c.bclkLock = false → u.clk.cclk ≠ 0 →
      u.clk.ramp = none → Leads (.corePllUnlock dt d .cclk) s
        ((raiseAt d .error 0x2410 [BitVec.ofNat 8 d, 0] u).setCore d { c with cclkLock := false, lostAt := u.time.mono })) ∧
    (∀ d k, u.time.mono < (u.core d).lostAt + k → u.power.stage ≠ 2 → Leads (.coreThaw dt ⟨d, k⟩) s u) ∧
    (∀ d k c, c = u.core d → c.frozen.isSome = true → u.clk.cclk ≠ 0 → c.lostAt + k ≤ u.time.mono →
      (k < 64 * micro → u.power.stage ≠ 2 →
        Leads (.coreThaw dt ⟨d, k⟩) s (u.setCore d { c with cclkLock := true, bclkLock := true })) ∧
      (64 * micro ≤ k → u.cmd.commits = [] → Runs (.coreThaw dt ⟨d, k⟩) s (fun w =>
        (w.core d).frozen = none ∧ (w.core d).running = true ∧ (w.core d).cclkLock = true ∧ (w.core d).bclkLock = true))) ∧
    (∀ d t, (u.core d).frozen = some t → t + 10 * milli ≤ u.time.mono → Runs (.fwdReset dt d) s (fun w =>
      (w.core d).frozen = none ∧ (w.core d).running = false ∧ (w.core d).reset = true ∧
      w.clk.fwdResets = u.time.mono :: u.clk.fwdResets.filter (fun t => decide (u.time.mono < t + 3600 * second)) ∧
      (w.clk.fwdResets.length < 3 → w.power.mode = u.power.mode) ∧ (3 ≤ w.clk.fwdResets.length → u.power.mode = .service → w.power.mode = .safe))) ∧
    (∀ d t, (u.core d).frozen = some t → u.time.mono < t + 10 * milli → Leads (.fwdReset dt d) s u) ∧
    (∀ d, d < u.part.cores → (u.core d).reset = true → u.clk.cclk ≠ 0 → u.asleep = false → u.power.stage = 0 →
      u.cmd.commits = [] → u.latchDue [] = false → u.fwd.swaps = [] → u.fwd.removals = [] → u.fwd.flushDue = [] →
      Leads (.fwdDomainRestart dt d) s (u.setCore d { u.core d with cclkLock := true, bclkLock := true, running := true, reset := false })) ∧
    (∀ d, d < u.part.cores → (u.core d).reset = true → u.clk.cclk ≠ 0 → u.asleep = false → u.cmd.commits = [] → u.power.stage ≠ 5 →
      Runs (.fwdDomainRestart dt d) s (fun w => (w.core d).running = true ∧ (w.core d).reset = false ∧ (w.core d).cclkLock = true ∧
        (w.core d).bclkLock = true)) ∧
    (∀ d, (u.core d).reset = false → Leads (.fwdDomainRestart dt d) s u) ∧
    (∀ r, u.clk.ramp = some r → u.rampSettled r = false → Leads (.rampDone dt) s u) ∧
    (∀ r, u.clk.ramp = some r → u.rampSettled r = true → r.owner = .host →
      Leads (.rampDone dt) s (raise .note 0x2420 (toBe 2 r.target) { u with clk.cclk := r.target, clk.ramp := none })) ∧
    (u.clk.ramp = none → Leads (.rampDone dt) s u)

/-- Voltage requests (R334 to R336): an acknowledgement makes the requested voltage V_ack and lets what waited go on; a failed attempt is
repeated up to four attempts, and then a host's request fails with event 0x1107 and one of start-up leaves for KEEP with the failure record.
An acknowledgement counts within 500 us of the write of the attempt, and a failed attempt ends there.
A poll at a 4,096th milestone takes the alert of every rail, and the response to an acknowledged request that of its own. -/
def Obligations.VoltageEventsTakeEffect : Prop :=
  ∀ (dt r : Nat) (s : State), let u := s.advance dt; let v := u.rail r; let w := u.setRail r { v with acked := v.requested, state := 2 }
    (v.state ≠ 1 → (∀ al, Leads (.avsAck dt r al) s u) ∧ ∀ st, Leads (.avsAttemptTimeout dt r st) s u) ∧
    (v.since + 500 * micro < u.time.mono → ∀ al, Leads (.avsAck dt r al) s u) ∧
    (u.time.mono < v.since + 500 * micro → ∀ st, Leads (.avsAttemptTimeout dt r st) s u) ∧
    (u.time.mono ≤ v.since + 500 * micro →
    (v.state = 1 → v.owner = .host → Leads (.avsAck dt r v.alert) s w) ∧
    (∀ al, v.state = 1 → v.owner = .host → Runs (.avsAck dt r al) s (fun t =>
      (t.rail r).alert = al ∧ (t.rail r).acked = v.requested ∧ (t.rail r).state = 2)) ∧
    (v.state = 1 → v.owner = .shed → w.coresWaiting = false → Leads (.avsAck dt r v.alert) s { w with power.stageDone := true }) ∧
    (v.state = 1 → v.owner = .bringUp → u.avsRails.find? (fun k => decide (r < k)) = none →
      Leads (.avsAck dt r v.alert) s { w with power.bootStep := 5 }) ∧
    (∀ k, v.state = 1 → v.owner = .bringUp → u.avsRails.find? (fun k => decide (r < k)) = some k → Runs (.avsAck dt r v.alert) s (fun t =>
      (t.rail r).acked = v.requested ∧ (t.rail k).state = 1 ∧ (t.rail k).requested = (if k < 2 then u.fusedAt k 1600 else 750)))) ∧
    (v.since + 500 * micro ≤ u.time.mono →
    (v.state = 1 → v.attempts < 4 → Leads (.avsAttemptTimeout dt r none) s ((u.setRail r { v with
      attempts := v.attempts + 1, since := u.time.mono }).emit (.avs r v.requested))) ∧
    (v.state = 1 → 4 ≤ v.attempts → v.owner = .host → Leads (.avsAttemptTimeout dt r none) s
      (raise .error 0x1107 (BitVec.ofNat 8 r :: toBe 2 v.requested) (u.setRail r { v with state := 3 }))) ∧
    (v.state = 1 → 4 ≤ v.attempts → v.owner = .bringUp → Runs (.avsAttemptTimeout dt r none) s (fun t =>
      t.power.mode = .keep ∧ t.power.failure.pending = true ∧ t.power.failure.rail = r ∧ t.power.failure.attempts = 4 ∧
      t.power.failure.phase = 0))) ∧
    (∀ alerts, u.power.mode ≠ .keep → u.time.running = true → u.ms.toNat % 4096 = 0 → Runs (.avsStatusPoll dt alerts) s (fun t =>
      Out.avsPoll ∈ t.out ∧ ∀ k ∈ u.avsRails, (t.rail k).alert = alerts.getLsbD k)) ∧
    (∀ alerts, u.power.mode = .keep ∨ u.time.running = false ∨ u.ms.toNat % 4096 ≠ 0 → Leads (.avsStatusPoll dt alerts) s u)

/-- Triggers (R337 to R342, Tables 14.3 and 14.4), from a state with none asserted and no restore running: each asserts its own, with its
event: a rail below 97 % or 95 % of its reference, a die at 105 °C; thermal clears with every sensor at 100 °C or less; rail critical below stage 5 makes the stages up to 5 apply together. The first stage takes SERVICE to SHED with events 0x1101 and
0x1102. The clearing of the last trigger starts the dwell, after which stage 1 restores and the mode is the restore mode. -/
def Obligations.SheddingFollowsTheTriggers : Prop :=
  ∀ (dt : Nat) (s : State), let u := s.advance dt
    (u.power.mode ≠ .keep → u.triggers = 0 → u.power.restoring = false →
      (∀ r level, u.hasRail r = true → 100 * level < 97 * u.railReference r → Leads (.railWarning dt ⟨r, level⟩) s { raise .warn 0x1104 [BitVec.ofNat 8 r] u with power.trigWarn := true }) ∧
      (∀ r level, u.hasRail r = true → 100 * level < 95 * u.railReference r → u.power.stage < 5 → Leads (.railCritical dt ⟨r, level⟩) s { raise .error 0x1105 [BitVec.ofNat 8 r] u with
        power.trigCrit := true, power.jumpToFive := true }) ∧
      (∀ d temp, u.part.hasDie d = true → 840 ≤ temp → Leads (.thermal dt d temp) s
        { raiseAt d .warn 0x1110 (BitVec.ofNat 8 d :: toBeInt 2 temp) u with power.trigThermal := true }) ∧
      (u.power.trigEnable.testBit 1 = true → Leads (.pwrLimitN dt) s { u with power.trigLimit := true })) ∧
    (∀ d temp, temp < 840 → Leads (.thermal dt d temp) s u) ∧
    (∀ r level, u.hasRail r = false ∨ 97 * u.railReference r ≤ 100 * level → Leads (.railWarning dt ⟨r, level⟩) s u) ∧
    (∀ r level, u.hasRail r = false ∨ 95 * u.railReference r ≤ 100 * level → Leads (.railCritical dt ⟨r, level⟩) s u) ∧
    (∀ r v, v = u.rail r → u.railReference r = (if r < 8 then (if v.state = 1 then 1000 * min v.acked v.requested else 1000 * v.acked)
      else if r < 14 then 900000 else 1200000)) ∧
    (∀ levels temps, u.triggers = 16 → (∀ d, d < 8 → u.part.hasDie d = true → getAt temps d 0 ≤ 800) →
      Leads (.triggerClear dt ⟨4, levels, temps⟩) s { u with power.trigThermal := false, power.clearedAt := u.time.mono }) ∧
    (∀ levels temps d, d < 8 → u.part.hasDie d = true → 800 < getAt temps d 0 → Leads (.triggerClear dt ⟨4, levels, temps⟩) s u) ∧
    (u.sheds = true → u.power.stage = 0 → u.triggers ≠ 0 → u.power.jumpToFive = false → u.power.mode = .service →
      Leads (.shedStage dt) s { raise .warn 0x1102 [1, BitVec.ofNat 8 u.triggers] { raise .note 0x1101 [4, 5] { u with
        power.restoreMode := .service, power.mode := .shed } with power.stage := 1, power.stageAt := u.ms } with power.stageDone := true }) ∧
    (u.sheds = true → u.power.jumpToFive = true → u.power.stage < 5 → Runs (.shedStage dt) s (fun t =>
      t.power.stage = 5 ∧ t.power.jumpToFive = false ∧ t.clk.cclk = 0)) ∧
    (u.sheds = true → u.power.stage = 0 → u.triggers = 0 → u.power.jumpToFive = false → Leads (.shedStage dt) s u) ∧
    (u.sheds = false → Leads (.shedStage dt) s u ∧ Leads (.shedRestore dt) s u) ∧
    (u.sheds = true → u.power.stage = 1 → u.triggers = 0 → u.power.stageDone = true → u.power.restoring = false → u.power.mode = .shed →
      max u.power.clearedAt u.power.restoredAt + u.power.dwell * milli ≤ u.time.mono → Runs (.shedRestore dt) s (fun t =>
        t.power.stage = 0 ∧ t.power.mode = u.power.restoreMode ∧ t.power.restoredAt = u.time.mono)) ∧
    (u.time.mono < max u.power.clearedAt u.power.restoredAt + u.power.dwell * milli → Leads (.shedRestore dt) s u) ∧
    (u.triggers ≠ 0 → Leads (.shedRestore dt) s u)

/-- DORMANT entry goes through the steps of Table 14.6 and ends in DORMANT, or in an exit at once when a wake is held; an abort at a point
from A1 to A5 leaves the mode it was entered from; a wake starts the exit, which ends in the mode of R350 with no transition running. A
transition that ends clears TRANSITION, and one to KEEP ends in KEEP (R333, R343 to R350). -/
def Obligations.DormantIsEnteredAndLeft : Prop :=
  ∀ (dt : Nat) (s : State), let u := s.advance dt
    (u.power.dormant = .entry 1 → Leads (.dormantEntry dt) s { u with power.dormant := .entry 2 }) ∧
    (u.power.dormant = .entry 4 → u.aborting = false → Leads (.dormantEntry dt) s { u with
      power.dormant := .entry 5, power.padsLatched := true }) ∧
    (∀ n, u.power.dormant = .entry n → 2 ≤ n → u.aborting = true → Leads (.dormantEntry dt) s u) ∧
    (u.power.dormant = .entry 8 → u.aborting = false → u.coresWaiting = false → u.power.wake = none → Runs (.dormantEntry dt) s (fun t =>
      t.power.mode = .dormant ∧ t.power.dormant = .none ∧ t.power.transition = none)) ∧
    (∀ m, u.power.dormant = .entry 8 → u.aborting = false → u.coresWaiting = false → u.power.wake = some m →
      Runs (.dormantEntry dt) s (fun t => t.power.mode = .dormant ∧ t.power.dormant = .exit ∧ t.power.wake = some m)) ∧
    (u.power.dormant = .none → Leads (.dormantEntry dt) s u ∧ Leads (.dormantAbort dt) s u) ∧
    (∀ n, u.power.dormant = .entry n → 2 ≤ n → n ≤ 6 → u.aborting = true → Leads (.dormantAbort dt) s
      (raise .note 0x110A [BitVec.ofNat 8 (n - 1)] { u with
        power.dormant := .none, power.transition := none, power.wake := none
        power.padsLatched := u.power.padsLatched && decide (n < 5) })) ∧
    (∀ n, u.power.dormant = .entry n → u.aborting = false → Leads (.dormantAbort dt) s u) ∧
    (u.power.wakeEn.testBit 0 = true → u.power.mode = .dormant → u.power.dormant = .none → Runs (.wakeNFall dt) s (fun t =>
      t.power.dormant = .exit ∧ t.power.wake = some none ∧ t.power.mode = .dormant)) ∧
    (∀ n, u.power.wakeEn.testBit 0 = true → u.power.mode ≠ .keep → u.power.dormant = .entry n → u.power.wake = none →
      Leads (.wakeNFall dt) s { u with power.wake := some none }) ∧
    (u.power.wakeEn.testBit 0 = false ∨ u.power.mode = .keep ∨ u.power.dormant = .exit → Leads (.wakeNFall dt) s u) ∧
    (u.power.dormant = .exit → u.coresAcked = true → (∀ d ∈ u.coreDies, (u.rail d).owner = .dormantExit) → u.power.vddTime = true →
      u.clk.asynLock = true → u.cmd.commits = [] → Runs (.dormantExit dt 0 0) s (fun t =>
        t.power.mode = u.exitInto ∧ t.power.dormant = .none ∧ t.power.transition = none ∧ t.power.wake = none ∧ t.power.stage = 0)) ∧
    (u.power.dormant ≠ .exit → ∀ b0 b1, Leads (.dormantExit dt b0 b1) s u) ∧
    (u.power.transition = none → Leads (.modeTransitionEnd dt) s u) ∧
    (∀ m, u.power.transition = some m → m ≠ .keep → u.power.dormant = .none →
      Leads (.modeTransitionEnd dt) s { u with power.transition := none }) ∧
    (u.power.transition = some .keep → Runs (.modeTransitionEnd dt) s (fun t => t.power.mode = .keep ∧ t.cmd.holder = 0))

/-- A self-test ends passed without a failure and failed with one (R331). A trained segment of the Causeway retrains with event 0x1124 when
its dies differ by more than 35 °C, the CORE0-CORE1 segment also at more than 150 mV, and again only once a difference has changed by
10 °C or 50 mV since or both have returned within 30 °C and 120 mV; after three failed attempts it stays untrained, with
the links behind it down, or in SAFE for the CORE0-CORE1 segment (R434, R435). -/
def Obligations.SelfTestsAndTheCausewayReport : Prop :=
  ∀ (dt g : Nat) (s : State), let u := s.advance dt; let b := tget u.power.bists g {}
    (∀ f, b.state ≠ 1 → Leads (.bistComplete dt g f) s u) ∧
    (∀ f, b.state = 1 → b.test ≠ 0 → Leads (.bistComplete dt g f) s { u with
      power.bists := tput u.power.bists g { b with state := if f = 0 then 2 else 3, failures := min f (2 ^ 32 - 1) } }) ∧
    (∀ temp mv, g ∈ u.power.trained → tfind u.power.retraining g = none → 280 < temp.natAbs ∨ (g = 6 ∧ u.power.coreSkew.isSome = true) →
      (∀ t v, tfind u.power.retrained g = some (t, v) → 80 ≤ (temp - t).natAbs ∨ 50 ≤ (mv - v).natAbs) → Leads (.causewayRetrain dt g temp mv) s (raise .warn 0x1124 (BitVec.ofNat 8 g :: toBeInt 2 temp ++ toBeInt 2 mv) { u with
        power.retraining := tput u.power.retraining g 1, power.retrained := tput u.power.retrained g (temp, mv)
        power.coreSkew := if g = 6 then none else u.power.coreSkew })) ∧
    (∀ temp mv, g ∉ u.power.trained → Leads (.causewayRetrain dt g temp mv) s u) ∧
    (∀ temp mv t v, tfind u.power.retrained g = some (t, v) → (temp - t).natAbs < 80 → (mv - v).natAbs < 50 →
      Leads (.causewayRetrain dt g temp mv) s u) ∧
    (∀ mv, u.part.cores = 2 → u.power.mode ≠ .keep →
      let kept := u.power.retrained.filter (fun e => !decide ((u.segTemp e.1).natAbs ≤ 240 ∧ (e.1 = 6 → mv.natAbs ≤ 120)))
      Leads (.vddCoreSkew dt mv) s { u with power.coreDiff := mv, power.retrained := kept
                                            power.coreSkew := if 150 < mv.natAbs then some mv else u.power.coreSkew }) ∧
    (∀ mv, u.part.cores ≠ 2 ∨ u.power.mode = .keep → Leads (.vddCoreSkew dt mv) s u) ∧
    (∀ n, tfind u.power.retraining g = some n → u.fwd.crossings = [] → Leads (.causewayRetrainDone dt g true) s { u with
      power.retraining := tdel u.power.retraining g }) ∧
    (∀ n, tfind u.power.retraining g = some n → n < 3 → Leads (.causewayRetrainDone dt g false) s { u with
      power.retraining := tput u.power.retraining g (n + 1) }) ∧
    (∀ n, tfind u.power.retraining g = some n → 3 ≤ n → Runs (.causewayRetrainDone dt g false) s (fun t =>
      t.power.failedSegments = u.power.failedSegments ++ [g] ∧ t.power.trained = u.power.trained.erase g ∧
      tfind t.power.retraining g = none ∧ (g ≠ 6 → ∀ l ∈ u.enabledPorts, portOf l / 16 = g → (t.lp l).up = false) ∧
      (g = 6 → u.power.mode = .service → t.power.mode = .safe ∧ (t.core 1).running = false))) ∧
    (tfind u.power.retraining g = none → ∀ ok, Leads (.causewayRetrainDone dt g ok) s u)

/-! ### Lanes and links -/

/-- Signal, alignment and training (R147, R149 to R154). LOS and LOL on a watched lane take the link of its logical port down and end the
lane's lock; clear, the lane is locked. A link comes up on an enabled logical port with good lanes, and goes down with its alignment. A tap
request is applied where the taps stay legal and are not locked, else answered with the limit status. Training that completes fixes the
taps; past its limit it starts again; the answer to a tap request carries this device's own request until its receiver has adapted.
Uncorrectable codewords are counted, and at a 4,096th milestone those above the threshold may take the link down. On MGT_RX, which a row
numbers 96, LOS and LOL change alone (R163). Moves between low-power states: a move that ends puts the logical
port in its state, in L-DEEP with the link down; a frame on a port with AUTO_WAKE starts an exit to L-ACTIVE; a port that has become
time-critical leaves L-DEEP with event 0x3106 (R155, R156, R157). -/
def Obligations.LaneEventsTakeEffect : Prop :=
  (∀ (dt p k l : Nat) (s : State), let u := s.advance dt; let v := u.lane p k; let n := u.lportOfLane p k; let q := u.lp l
    (p ≠ 96 → u.laneWatched p k = true →
      Runs (.los dt p k) s (fun t => (t.lane p k).los = true ∧ (t.lane p k).losSeen = true ∧ (t.lane p k).lol = v.lol ∧
        (t.lane p k).lockedAt = none ∧ (t.lane p k).skew = none ∧ (t.lp n).up = false) ∧
      Runs (.lol dt p k) s (fun t => (t.lane p k).lol = true ∧ (t.lane p k).los = v.los ∧ (t.lane p k).losSeen = v.losSeen ∧
        (t.lane p k).lockedAt = none ∧ (t.lane p k).skew = none ∧ (t.lp n).up = false) ∧
      Runs (.losClear dt p k) s (fun t => (t.lane p k).los = false ∧ (t.lane p k).lol = v.lol ∧ (t.lp n).up = (u.lp n).up ∧
        (t.lane p k).lockedAt = (if v.lol = false then some (v.lockedAt.getD u.time.mono) else none)) ∧
      Runs (.lolClear dt p k) s (fun t => (t.lane p k).lol = false ∧ (t.lane p k).los = v.los ∧ (t.lp n).up = (u.lp n).up ∧
        (t.lane p k).lockedAt = (if v.los = false then some (v.lockedAt.getD u.time.mono) else none))) ∧
    (let g := u.port.mgmt
     (u.cal.loaded = true → u.asleep = false →
      Leads (.los dt 96 k) s { u with port.mgmt := { g with los := true, losSeen := true } } ∧
      Leads (.lol dt 96 k) s { u with port.mgmt := { g with lol := true } } ∧
      Leads (.losClear dt 96 k) s { u with port.mgmt := { g with los := false } } ∧
      Leads (.lolClear dt 96 k) s { u with port.mgmt := { g with lol := false } }) ∧
     (u.cal.loaded = false ∨ u.asleep = true → Leads (.los dt 96 k) s u ∧ Leads (.lol dt 96 k) s u ∧
      Leads (.losClear dt 96 k) s u ∧ Leads (.lolClear dt 96 k) s u)) ∧
    (p ≠ 96 → u.laneWatched p k = false → Leads (.los dt p k) s u ∧ Leads (.lol dt p k) s u ∧ Leads (.losClear dt p k) s u ∧
      Leads (.lolClear dt p k) s u) ∧
    (u.provided l = true → Runs (.pcsAlignmentLoss dt l) s (fun t => (t.lp l).up = false)) ∧
    (u.provided l = false → Leads (.pcsAlignmentLoss dt l) s u) ∧
    (u.canAlign l = true → Runs (.linkUp dt l) s (fun t => (t.lp l).up = true ∧ (t.lp l).upAt = u.stamp ∧ tfind t.fwd.held l = none)) ∧
    (u.canAlign l = false → Leads (.linkUp dt l) s u) ∧
    (∀ tap ask, u.trains n = true → u.laneUsed p k = true → tap < 5 → let w := u.setLp n { u.lp n with train := .training }
      let good := !v.eqLock && tapsLegal (TapAsk.taps ask tap v.taps)
      let x := (if good then w.setLane p k { v with taps := TapAsk.taps ask tap v.taps } else w).emit (.tap p k tap (!good))
      (v.adapted = true → Leads (.trainingRequest dt p k tap ask) s x) ∧
      (v.adapted = false → Runs (.trainingRequest dt p k tap ask) s (fun t =>
        (t.lane p k).taps = (x.lane p k).taps ∧ Out.tap p k tap (!good) ∈ t.out ∧
        ((t.lane p k).adapted = true ∨ ∃ j a, Out.ask p k j a ∈ t.out)))) ∧
    (u.trains l = true → Leads (.trainingComplete dt l) s (u.setLp l { q with train := .trained, trainFails := 0 })) ∧
    (u.trains l = true → q.trainFrom + q.trainLimit * milli ≤ u.time.mono → Runs (.trainingTimeout dt l) s (fun t =>
      (t.lp l).trainFails = q.trainFails + 1 ∧ (t.lp l).train = .autoNeg ∧ (t.lp l).trainFrom = u.time.mono)) ∧
    (u.trains l = false → Leads (.trainingComplete dt l) s u ∧ Leads (.trainingTimeout dt l) s u) ∧
    (∀ bins symbols, u.provided l = true → q.enabled = true → u.ctr.running = true →
      Runs (.fecDegradeCheck dt l bins symbols) s (fun t =>
        let bad := q.uncorr + getAt bins 16 0
        t.counter 6 l 16 = (u.counter 6 l 16 + getAt bins 16 0) % 2 ^ 48 ∧
        (u.ms.toNat % 4096 ≠ 0 ∨ q.comparedAt = some u.ms →
          (t.lp l).uncorr = bad ∧ (t.lp l).degraded = q.degraded ∧ (t.lp l).up = q.up) ∧
        (u.ms.toNat % 4096 = 0 → q.comparedAt ≠ some u.ms → (t.lp l).uncorr = 0 ∧
          (bad ≤ q.degradeThr ∨ q.degradeDown = false → (t.lp l).degraded = false ∧ (t.lp l).up = q.up) ∧
          (q.degradeThr < bad → q.degradeDown = true → q.up = true → (t.lp l).degraded = true ∧ (t.lp l).up = false)))) ∧
    (∀ bins symbols, q.enabled = false → Leads (.fecDegradeCheck dt l bins symbols) s u)) ∧
  (∀ (dt l : Nat) (s : State), let u := s.advance dt; let p := u.lp l
    (∀ t, p.moving = some t → (p.power ≠ 2 ∨ t = 2) → Runs (.lowPowerTransitionDone dt l) s (fun w =>
      (w.lp l).power = t ∧ (w.lp l).moving = none ∧ (w.lp l).up = (p.up && decide (t ≠ 2)) ∧ (w.lp l).enabled = p.enabled)) ∧
    (∀ t, p.moving = some t → p.power = 2 → t ≠ 2 → Leads (.lowPowerTransitionDone dt l) s u) ∧
    (p.moving = none → Leads (.lowPowerTransitionDone dt l) s u ∧ Leads (.wakeTimeout dt l) s u) ∧
    (p.wakeDue = true → p.autoWake = true → p.power ≠ 0 → p.moving = none → tfind u.power.shedPorts l = none →
      Runs (.autoWake dt l) s (fun w => (w.lp l).moving = some 0 ∧ (w.lp l).wakeDue = false ∧ (w.lp l).power = p.power)) ∧
    (p.wakeDue = false ∨ p.autoWake = false → Leads (.autoWake dt l) s u) ∧
    (u.critical l = true → p.enabled = true → p.power = 2 → p.moving = none → Runs (.timingWake dt l) s (fun w =>
      (w.lp l).moving = some 0 ∧ (w.lp l).wakeFrom = u.time.mono ∧ tfind w.power.shedPorts l = none)) ∧
    (u.critical l = false → Leads (.timingWake dt l) s u))

/-- When an L-DEEP exit has not brought the link up within the wake limit, the link is down from that instant under R147, and the device
records event 0x3105; the wake limit ranges from 2 ms to 1,000 ms and defaults to 10 ms, set by LANE_POWER (R158). -/
def Obligations.WakeLimitTakesTheLinkDown : Prop :=
  (∀ (dt l t : Nat) (s : State), let u := s.advance dt; let p := u.lp l
    p.moving = some t → p.power = 2 → t ≠ 2 →
    (p.wakeFrom + p.wakeLimit * milli ≤ u.time.mono →
      let w := u.setLp l { p with power := t, moving := none, up := false, downAt := u.stamp }
      Leads (.wakeTimeout dt l) s (raiseAt (laneDieOf (portOf l)) .warn 0x3105 (toBe 2 l) (raiseAt (laneDieOf (portOf l)) .warn 0x3102 (toBe 2 l)
        (pfcLinkDown l { w with fwd.held := tput w.fwd.held l w.time.mono })))) ∧
    (u.time.mono < p.wakeFrom + p.wakeLimit * milli → Leads (.wakeTimeout dt l) s u)) ∧
  (∀ (r : Req) (p s : State), Op.check .lanePower r p s = none → 2 ≤ fld r.params 4 2 ∧ fld r.params 4 2 ≤ 1000) ∧
  (∀ (r : Req) (c : Nat) (s : State), ((Op.apply .lanePower r c s).lp (fld r.params 0 2)).wakeLimit = fld r.params 4 2) ∧
  (∀ l, (State.reset.lp l).wakeLimit = 10)

/-! ### Link time transfer -/

/-- A compensation milestone takes the temperature of every die of the part, and leaves the coefficients of a port that is not in ESTIMATE
mode (R180, R182). A phase sample is dropped during the rotation or where the active timing lane is not used and locked; it gives RAW, and
once N is resolved the nearest phase, N moving by at most one period (R170, R171); with it one other lane in turn gives a skew sample, and
its skew is the mean of 512 (R172). A failed active lane gives way to the next locked lane of the logical port, with its skew taken up
and event 0x2202, or is reported as lost with 0x2204, which takes the port's reference entries' signal (R183); the configured lane comes
back after 4,096 milestones, and the phase samples go on corrected by its skew (R185). -/
def Obligations.TimingLanesFollowTheRules : Prop :=
  ∀ (dt p : Nat) (s : State), let u := s.advance dt; let k := u.link p; let a := k.activeLane
    (∀ temps, u.ms.toNat % 4096 ≠ 0 → Leads (.temperatureCompensation dt temps) s u) ∧
    (∀ temps, u.ms.toNat % 4096 = 0 → Runs (.temperatureCompensation dt temps) s (fun t =>
      t.cal.temps = (List.range 8).filterMap (fun d => if u.part.hasDie d then some (d, getAt temps d 0) else none) ∧
      ∀ q, (u.link q).estimate = false → t.link q = u.link q)) ∧
    (∀ phi lane skew, u.time.rotating = true ∨ u.phaseLane p = false → Leads (.timingPhaseSample dt p phi lane skew) s u) ∧
    (∀ (phi lane : Nat) (skew : Int), u.time.rotating = false → u.phaseLane p = true →
      let w := (rxDelay k.d k.coef u).2
      let raw := 5 * (rxDelay k.d k.coef u).1 - 80 * ((phi : Int) - k.corr)
      let q := { k with phi := some (80 * ((phi : Int) - k.corr)), raw := raw }
      (k.resolved = false → u.nextSkewLane p ≠ some lane → Leads (.timingPhaseSample dt p phi lane skew) s (w.setLink p q)) ∧
      (∀ n, k.resolved = true → u.nextSkewLane p ≠ some lane →
        (periodP < 2 * (raw + k.n * periodP - k.thetaPh) → n = k.n - 1) →
        (2 * (raw + k.n * periodP - k.thetaPh) < -periodP → n = k.n + 1) →
        (2 * (raw + k.n * periodP - k.thetaPh).natAbs ≤ periodP.natAbs → n = k.n) →
        Leads (.timingPhaseSample dt p phi lane skew) s (w.setLink p { q with n := n, thetaPh := raw + n * periodP })) ∧
      (∀ j, u.nextSkewLane p = some j → lane = j → let v := u.lane p j
        (v.locked = false → Runs (.timingPhaseSample dt p phi lane skew) s (fun t =>
          (t.link p).skewLane = j ∧ (t.link p).raw = raw ∧ t.lane p j = v)) ∧
        (v.locked = true → v.skewCount + 1 < 512 → Runs (.timingPhaseSample dt p phi lane skew) s (fun t =>
          (t.link p).skewLane = j ∧ (t.link p).raw = raw ∧
          (t.lane p j).skewCount = v.skewCount + 1 ∧ (t.lane p j).skewSum = v.skewSum + skew ∧ (t.lane p j).skew = v.skew)) ∧
        (v.locked = true → v.skewCount + 1 = 512 → Runs (.timingPhaseSample dt p phi lane skew) s (fun t =>
          (t.link p).skewLane = j ∧ (t.link p).raw = raw ∧ (t.lane p j).skewCount = 0 ∧
          ∃ m : Int, (t.lane p j).skew = some m ∧ (512 * m - (v.skewSum + skew)).natAbs < 512)))) ∧
    (p < u.part.ports → u.timingLane p a = true → (u.lane p a).locked = false →
      (u.fallbackLane p = none → k.laneLost = false → Leads (.timingFallback dt p) s (portSignalLoss p
        (raiseAt (laneDieOf p) .error 0x2204 [BitVec.ofNat 8 p, BitVec.ofNat 8 a] (u.setLink p { k with laneLost := true })))) ∧
      (u.fallbackLane p = none → k.laneLost = true → Leads (.timingFallback dt p) s u) ∧
      (∀ j v, u.fallbackLane p = some j → (u.lane p j).skew = some v → Runs (.timingFallback dt p) s (fun t =>
        (t.link p).activeLane = j ∧ (t.link p).corr = k.corr + v ∧ (t.link p).laneLost = false ∧ t.ref = u.ref)) ∧
      (∀ j, u.fallbackLane p = some j → (u.lane p j).skew = none → Runs (.timingFallback dt p) s (fun t =>
        (t.link p).activeLane = j ∧ (t.link p).corr = k.base ∧ (t.link p).laneLost = false ∧
        (u.followsPort p = false → t.ref = u.ref)))) ∧
    (u.part.ports ≤ p ∨ u.timingLane p a = false ∨ (u.lane p a).locked = true → Leads (.timingFallback dt p) s u) ∧
    (∀ v t, k.revert = true → a ≠ k.confLane → p < u.part.ports → (u.lane p k.confLane).locked = true →
      (u.lane p k.confLane).skew = some v → (u.lane p k.confLane).lockedAt = some t →
      (t + 4096 * slotUnits ≤ u.time.mono → Runs (.timingRevert dt p) s (fun w =>
        (w.link p).activeLane = k.confLane ∧ (w.link p).corr = k.corr + v ∧ (w.link p).base = k.corr + v ∧
        (w.link p).laneLost = false)) ∧
      (u.time.mono < t + 4096 * slotUnits → Leads (.timingRevert dt p) s u)) ∧
    (k.revert = false ∨ a = k.confLane ∨ (u.lane p k.confLane).skew = none → Leads (.timingRevert dt p) s u)

/-- While AX runs on a link that carries messages, a message falls due at each AX instant and leaves at a frame boundary that no reserved
window bars, with the next SEQUENCE; else it waits (R125, R173, R174). A received frame with the AX EtherType that is not an AX message of version 1 with a good FCS counts AX_BAD, one on a port without AX counts AX_UNEXPECTED, and else its stamps
stand ready to be echoed; one that echoes a message too far back, or never sent, is no exchange (R175); a completed one gives a delay from
0 to 1 ms, else it counts AX_DELAY_RANGE, and ends the silence (R176, R178). Past the silence limit event 0x2206 is recorded once. -/
def Obligations.AlmanacMessagesAreExchanged : Prop :=
  ∀ (dt p : Nat) (s : State), let u := s.advance dt; let k := u.link p; let heard := u.receives (u.timingLport p)
    (k.axEnable = true → u.axLink p = true → let l := u.timingLport p
      (k.axDue = false → u.axInstant p = false → Leads (.axSend dt p) s u) ∧
      (k.axDue = true ∨ u.axInstant p = true → (u.egress l).freeAt ≤ u.time.mono → u.axBarred l = false → u.loopsBack l = false →
        Runs (.axSend dt p) s (fun t =>
          (t.link p).axSeq = k.axSeq + 1 ∧ (t.link p).axSent = k.axSent + 1 ∧ (t.link p).axDue = false ∧ (t.link p).echo = k.echo ∧
          Out.ax p (axBytes u p (wireNow p 0 u).1) ∈ t.out ∧ (t.egress l).freeAt = u.time.mono + frameTime (u.gbps l) 64)) ∧
      (u.time.mono < (u.egress l).freeAt ∨ u.axBarred l = true →
        (u.axInstant p = true → Leads (.axSend dt p) s (u.setLink p { k with axDue := true })) ∧
        (u.axInstant p = false → Leads (.axSend dt p) s u))) ∧
    (k.axEnable = false ∨ u.axLink p = false → Leads (.axSend dt p) s u) ∧
    (∀ f, heard = false ∨ u.part.ports ≤ p → Leads (.axReceive dt p f) s u) ∧
    (∀ f, heard = true → p < u.part.ports → u.loopsBack (u.timingLport p) = false → fld f 12 2 ≠ u.fwd.etAx →
      Leads (.axReceive dt p f) s u) ∧
    (∀ f, heard = true → p < u.part.ports → u.loopsBack (u.timingLport p) = false → fld f 12 2 = u.fwd.etAx →
      (f.length ≠ 64 ∨ f.drop 60 ≠ fcs (f.take 60) ∨ fld f 14 1 / 16 ≠ 1 → Leads (.axReceive dt p f) s (countTime p 2 u)) ∧
      (f.length = 64 → f.drop 60 = fcs (f.take 60) → fld f 14 1 / 16 = 1 → k.axEnable = false →
        Leads (.axReceive dt p f) s (countTime p 3 u)) ∧
      (f.length = 64 → f.drop 60 = fcs (f.take 60) → fld f 14 1 / 16 = 1 → k.axEnable = true →
        let t4 := (wireNow p 1 u).1
        let back := sdiff k.axSeq (BitVec.ofNat 16 (fld f 18 2))
        let twice := ((t4 - BitVec.ofNat 80 (fld f 34 10)) - (BitVec.ofNat 80 (fld f 24 10) - BitVec.ofNat 80 (fld f 44 10))).toInt
        Runs (.axReceive dt p f) s (fun t =>
          (t.link p).lastRx = some u.time.mono ∧ (t.link p).peerTv = bit (fld f 15 1) 7 ∧ (t.link p).peerMgr = bit (fld f 15 1) 5 ∧
          (t.link p).peerNode = BitVec.ofNat 18 (fld f 20 4) ∧
          (t.link p).echo = some (BitVec.ofNat 16 (fld f 16 2), BitVec.ofNat 80 (fld f 24 10), t4) ∧
          (bit (fld f 15 1) 6 = false ∨ back < 1 ∨ 16 < back ∨ k.axSent < back.toNat ∨ twice < 0 ∨ 131072000000 < twice →
            (t.link p).lastValid = k.lastValid ∧ (t.link p).thetaX = k.thetaX ∧ (t.link p).d = k.d ∧ (t.link p).silent = k.silent) ∧
          (bit (fld f 15 1) 6 = true → 1 ≤ back → back ≤ 16 → back.toNat ≤ k.axSent → 0 ≤ twice → twice ≤ 131072000000 →
            (t.link p).lastValid = some u.time.mono ∧ (2 * (t.link p).d - twice).natAbs ≤ 1 ∧ (t.link p).silent = false ∧
            (t.link p).lastTv = (if bit (fld f 15 1) 7 = true then some u.time.mono else k.lastTv) ∧
            (t.link p).resolved = (k.resolved || k.phi.isSome))))) ∧
    (∀ due, due = max k.axFrom (max (k.lastValid.getD 0) (k.ptp.lastDone.getD 0)) + k.silence * second →
      (k.axEnable = true → k.silent = false → due ≤ u.time.mono →
        Leads (.axSilent dt p) s (raiseAt (laneDieOf p) .warn 0x2206 [BitVec.ofNat 8 p] (u.setLink p { k with silent := true }))) ∧
      (k.silent = true ∨ u.time.mono < due ∨ (k.axEnable = false ∧ k.ptp.enable = false) → Leads (.axSilent dt p) s u))

/-- A PTP port whose firmware does not run, whose link loops back, or that hears another domain, does nothing. An Announce is counted, and
the foreign master that sent it is kept with the attributes heard; the port takes the state that the BMCA decides before it sends; a one-step Sync at a slave is taken with its receive stamp, and one whose time is out of range counts as bad; a Delay_Req at a
master is answered while TIME_VALID is 1; the response that answers a slave's request completes the pair (R32, R187, R188). A master sends
Sync only while TIME_VALID is 1, a slave sends Delay_Req (R39). -/
def Obligations.PtpPortsFollowTheirStates : Prop :=
  ∀ (dt p : Nat) (m : PtpMsg) (s : State), let u := s.advance dt; let k := u.link p; let v := k.ptp
    (u.ptpRuns p = false ∨ u.loopsBack (u.timingLport p) = true ∨ m.domain ≠ u.port.ptpClock.domain →
      Leads (.ptpMessage dt p m) s u) ∧
    (u.ptpRuns p = false → ∀ kind, Leads (.ptpSendInterval dt p kind) s u) ∧
    (u.ptpRuns p = true → u.loopsBack (u.timingLport p) = false → m.domain = u.port.ptpClock.domain →
      (m.kind = 11 → Runs (.ptpMessage dt p m) s (fun t => (t.link p).ptp.announceRx = (v.announceRx + 1) % 2 ^ 32 ∧
        (m.identity ≠ u.ptpIdentity → ∃ f ∈ (t.link p).ptp.foreigns, f.sender = m.identity ∧ f.quality = m.quality ∧
          f.steps = m.steps ∧ f.times.head? = some u.time.mono) ∧
        (m.identity = u.ptpIdentity → (t.link p).ptp.foreigns = v.foreigns))) ∧
      (∀ t1, m.kind = 0 → m.twoStep = false → v.state = 9 → ofPtp m = some t1 → Runs (.ptpMessage dt p m) s (fun t =>
        (t.link p).ptp.syncRx = (v.syncRx + 1) % 2 ^ 32 ∧
        (t.link p).ptp.sync = some ((t1.toNat : Int), (wireNow p 1 u).1) ∧ (t.link p).ptp.badMsg = v.badMsg)) ∧
      (m.kind = 0 → m.twoStep = false → v.state = 9 → ofPtp m = none → Runs (.ptpMessage dt p m) s (fun t =>
        (t.link p).ptp.badMsg = (v.badMsg + 1) % 2 ^ 32 ∧ (t.link p).ptp.sync = v.sync)) ∧
      (m.kind = 0 → v.state ≠ 9 → Runs (.ptpMessage dt p m) s (fun t =>
        (t.link p).ptp.syncRx = (v.syncRx + 1) % 2 ^ 32 ∧ (t.link p).ptp.sync = v.sync)) ∧
      (m.kind = 1 → v.state = 6 → u.timeValid = true → Runs (.ptpMessage dt p m) s (fun t => t.link p = k ∧
        ∃ r, Out.ptp p r (u.macOf (u.timingLport p)) ∈ t.out ∧ r.kind = 9 ∧ r.sequence = m.sequence ∧ r.domain = u.port.ptpClock.domain)) ∧
      (m.kind = 1 → v.state ≠ 6 ∨ u.timeValid = false → Runs (.ptpMessage dt p m) s (fun t => t.link p = k)) ∧
      (∀ t3 e t4, m.kind = 9 → v.state = 9 → v.delayReq = some (m.sequence, t3) → v.sync = some e → ofPtp m = some t4 →
        Runs (.ptpMessage dt p m) s (fun t => (t.link p).ptp.lastDone = some u.time.mono ∧ (t.link p).ptp.delayReq = none ∧
          (t.link p).silent = false))) ∧
    (u.ptpRuns p = true → let x := ptpRun u; let src := u.macOf (u.timingLport p)
      (x.link p).ptp.state = u.ptpDecide p ∧
      (u.ptpDecide p = 6 → u.timeValid = true → Runs (.ptpSendInterval dt p 0) s (fun t => (t.link p).ptp.txSeq = v.txSeq + 1 ∧
        (u.loopsBack (u.timingLport p) = false →
          ∃ r, Out.ptp p r src ∈ t.out ∧ r.kind = 0 ∧ r.sequence = v.txSeq ∧ r.twoStep = v.twoStep))) ∧
      (u.ptpDecide p ≠ 6 ∨ u.timeValid = false → Leads (.ptpSendInterval dt p 0) s x) ∧
      (u.ptpDecide p = 9 → Runs (.ptpSendInterval dt p 1) s (fun t =>
        (t.link p).ptp.delayReq = some (v.delaySeq, (wireNow p 0 u).1) ∧ (t.link p).ptp.delaySeq = v.delaySeq + 1 ∧
        (t.link p).ptp.delayReqTx = (v.delayReqTx + 1) % 2 ^ 32)) ∧
      (u.ptpDecide p ≠ 9 → Leads (.ptpSendInterval dt p 1) s x) ∧
      (u.ptpDecide p = 6 → Runs (.ptpSendInterval dt p 11) s (fun t => (t.link p).ptp.announceSeq = v.announceSeq + 1 ∧
        (u.loopsBack (u.timingLport p) = false → ∃ r, Out.ptp p r src ∈ t.out ∧ r.kind = 11 ∧ r.sequence = v.announceSeq))) ∧
      (u.ptpDecide p ≠ 6 → Leads (.ptpSendInterval dt p 11) s x))

/-! ### Frames, pauses, calendars -/

/-- No AX message waits to leave a logical port ahead of its frames (R174). -/
def Sys2Proof.NoAxWaits (l : Nat) (s : State) : Prop := s.timingLport (portOf l) ≠ l ∨ (s.link (portOf l)).axDue = false

/-- A received frame that is no MAC control or AX frame is checked at its end: below 64 bytes it is dropped as RUNT, above the MTU as
OVERSIZE, with ingress stopped under 0x11, and where a byte finds no room under 0x04 or 0x05; else it is stored behind the frames of its
port, with the instant of its start-of-frame delimiter (R53, R54). A pipeline takes nothing while its
domain does not run or no input is ready; a frame with a bad FCS is dropped under code 1; a frame whose destination is known leaves for
its port's queue as received, and one with no entry is dropped under code 7 where misses are dropped (R52, R68 to R70, R80). An inject
record is taken whole, a bad one counted INJECT_ERR (R86). Dequeue sends a waiting AX message, and else the head of the highest strict
class that holds one (R135, R174). -/
def Obligations.FramesPassThrough : Prop :=
  ∀ (dt l : Nat) (s : State), let u := s.advance dt; let cfg := u.fwdCfg l
    (∀ ago mates f, u.receives l = false → Leads (.rxFrame dt l ⟨ago, mates⟩ f) s u) ∧
    (∀ ago mates f, u.loopsBack l = false → fld f 12 2 = u.fwd.etAx ∨ fld f 12 2 = 0x8808 → Leads (.rxFrame dt l ⟨ago, mates⟩ f) s u) ∧
    (∀ ago mates f, u.loopsBack l = true → tget u.fwd.loopback l [] = [] → Leads (.rxFrame dt l ⟨ago, mates⟩ f) s u) ∧
    (∀ ago mates f, u.receives l = true → u.loopsBack l = false → fld f 12 2 ≠ u.fwd.etAx → fld f 12 2 ≠ 0x8808 →
      let w := { u with board.active := if u.board.active.contains l then u.board.active else l :: u.board.active }
      let d := f.take (f.length - 4); let p := portOf l; let mtu := cfg.mtuAt (u.time.mono - ago)
      let r : RxFrame := { lport := l, data := d, arrival := (u.instantAgo ago).1, arrivalValid := (u.instantAgo ago).2
                           arrivalMono := u.time.mono - ago, endMono := u.time.mono, fcsOk := decide (fcs d = f.drop (f.length - 4)) }
      (f.length < 64 → Leads (.rxFrame dt l ⟨ago, mates⟩ f) s (dropIn l 2 none false d (freeRoom p (r.use u.time.mono) w))) ∧
      (64 ≤ f.length → mtu < f.length →
        Leads (.rxFrame dt l ⟨ago, mates⟩ f) s (dropIn l 3 none false d (freeRoom p (r.use (u.byteAt ago f.length mtu)) w))) ∧
      (64 ≤ f.length → f.length ≤ mtu → u.ingressStopped = true →
        Leads (.rxFrame dt l ⟨ago, mates⟩ f) s (dropIn l 0x11 none false d w)) ∧
      (∀ k, 64 ≤ f.length → f.length ≤ mtu → u.ingressStopped = false → u.noRoomAt p mates ago f.length = some k →
        Leads (.rxFrame dt l ⟨ago, mates⟩ f) s (dropIn l (if u.frozenDie (u.coreOfLport l) then 5 else 4) none false d
          (freeRoom p (r.use (u.byteAt ago f.length k)) w))) ∧
      (64 ≤ f.length → f.length ≤ mtu → u.ingressStopped = false → u.noRoomAt p mates ago f.length = none →
        Runs (.rxFrame dt l ⟨ago, mates⟩ f) s (fun t => t.fifo p = u.fifo p ++ [r]))) ∧
    (∀ pl, (u.core (if u.part.cores = 2 ∧ 24 ≤ pl then 1 else 0)).running = false ∨ u.part.pipelines ≤ pl ∨
      (∀ i, i < 3 → u.inputReady pl i = false) → Leads (.pipelineFrame dt pl) s u) ∧
    (∀ pl r host w, takeFrame pl u = (some (r, host), w) →
      (r.fcsOk = false → Leads (.pipelineFrame dt pl) s (dropIn r.lport 1 none host r.data w)) ∧
      (r.fcsOk = true → fld r.data 12 2 = u.fwd.etCommand → Leads (.pipelineFrame dt pl) s (inbandBytesIn r.lport r.data w)) ∧
      (r.fcsOk = true → fld r.data 12 2 ≠ u.fwd.etCommand → host = true ∨ u.ptpTaken r.lport r.data = false →
        let q := parse u.fwd.etWaymark r.data
        let vid := vidOf (u.fwdCfg r.lport) q
        let cls := classify u r.lport q r.data none
        u.forwards = true → u.power.stage = 0 → u.ctr.tagK = 0 → (u.fwdCfg r.lport).tagIn = 0 → q.waymark = false → u.fwd.acl = [] →
        (∀ n, n < 8 → (u.session n).destKind = 2) →
        (u.fwd.l2.find? (fun e => decide (e.vid = vid ∧ e.mac.toNat = daOf r.data)) = none → (u.fwdCfg r.lport).l2Miss = 0 →
          Leads (.pipelineFrame dt pl) s (dropIn r.lport 7 (some cls) host r.data w)) ∧
        (∀ e, u.fwd.l2.find? (fun e => decide (e.vid = vid ∧ e.mac.toNat = daOf r.data)) = some e → e.kind = 0 → e.target ≠ r.lport →
          cls < 7 → r.data.length + 4 ≤ (u.fwdCfg e.target).mtu → (u.fwdCfg e.target).tagOut = 0 → u.portDown e.target = false →
          u.line pl e.target cls = [] → u.power.retraining = [] →
          (let d := u.coreOfLport e.target; let n := cellsOf (r.data.length + 4)
           u.poolFits d (u.poolOf d cls) n = true ∧ u.queueFits d e.target cls n = true) →
          Runs (.pipelineFrame dt pl) s (fun t => ∃ b c before behind, t.queue e.target cls = before ++ b :: behind ∧
            before.map Branch.copy = (u.queue e.target cls).map Branch.copy ∧ c ∈ t.fwd.copies ∧
            c.id = b.copy ∧ c.frame.data = r.data ∧ c.frame.arrival = r.arrival ∧ b.mirror = false)))) ∧
    (∀ record, u.ringOf .inject = none ∨ u.fwd.injectHead.isSome = true → Leads (.injectFrame dt record) s u) ∧
    (∀ record k n size, u.ringOf .inject = some k → u.fwd.injectHead = none → n = fld record 2 2 →
      size = 16 + n + (16 - (16 + n) % 16) % 16 → size ≤ ((u.ring k).prod - (u.ring k).cons).toNat → 16 + n ≤ record.length →
      let w := u.setRing k { u.ring k with cons := (u.ring k).cons + BitVec.ofNat 32 size }
      let lp := fld record 0 2 / 32 % 512
      (n < 60 ∨ 16316 < n ∨ 2 ≤ fld record 0 2 / 16384 ∨ u.provided lp = false →
        Leads (.injectFrame dt record) s (countDevice 0 w)) ∧
      (60 ≤ n → n ≤ 16316 → fld record 0 2 / 16384 = 0 → u.provided lp = true → Leads (.injectFrame dt record) s { w with
        fwd.injectHead := some { mode := 0, lport := lp, cls := fld record 0 2 / 4 % 8, data := (record.drop 16).take n }
        fwd.injectAt := u.time.count, fwd.injectValid := u.timeValid, fwd.injectMono := u.time.mono }) ∧
      (60 ≤ n → n ≤ 16316 → fld record 0 2 / 16384 = 1 → u.provided lp = true → Leads (.injectFrame dt record) s
        (injectDirect { mode := 1, lport := lp, cls := fld record 0 2 / 4 % 8, data := (record.drop 16).take n } w))) ∧
    (∀ sound, NoAxWaits l u → u.canStart l = false → Leads (.dequeue dt l sound) s u) ∧
    (∀ sound p, u.timingLport p = l → portOf l = p → (u.link p).axDue = true → (u.link p).axEnable = true → u.axLink p = true →
      (u.egress l).freeAt ≤ u.time.mono → u.axBarred l = false → 0 < u.gbps l → Runs (.dequeue dt l sound) s (fun t =>
        (t.link p).axDue = false ∧ (t.link p).axSent = (u.link p).axSent + 1 ∧ t.fwd.branches = u.fwd.branches)) ∧
    (∀ sound b c, NoAxWaits l u → u.loopsBack l = false → c.frame.routed = false → u.canStart l = true → (∀ x ∈ u.fwd.branches, x.lport = l → x.cls < 4) → (u.queue l b.cls).head? = some b →
      bit (u.schedCfg l).strict b.cls = true → (∀ k, b.cls < k → k < 4 → u.queue l k = []) → u.eligible b = true →
      u.copyOf b.copy = some c → cfg.tagOut = 0 → (u.queueCfg l b.cls).ecn = 0 → b.marked = false →
      Runs (.dequeue dt l sound) s (fun t => t.queue l b.cls = (u.queue l b.cls).tail ∧
        Out.frame l (c.frame.data ++ fcs c.frame.data) sound ∈ t.out ∧
        (t.egress l).freeAt = u.time.mono + frameTime (u.gbps l) (c.frame.data.length + 4)))

/-- PFC (R98, R100, R102): XOFF is repeated while it is due or a freeze stands, sent, the link up and half its quanta have passed. A MAC
control frame below 64 bytes or above the MTU is dropped (R54); one with a bad FCS is dropped under code 1; a PAUSE and an unknown opcode are counted; a PFC frame is counted, and each priority it enables takes
its pause 400 ns later, which replaces the time that remained, 0 ending it. A pause ends when its time has run. -/
def Obligations.PausesTakeEffect : Prop :=
  ∀ (dt l p : Nat) (s : State), let u := s.advance dt; let st := u.pfcPort l p
    (st.due = true ∨ st.freeze = true → st.xoffSent = true → (u.lp l).up = true →
      u.quantaTime l st.quanta ≤ 2 * (u.time.mono - st.lastXoff) → Leads (.xoffRepeat dt l p) s (repeatNow l p u)) ∧
    ((st.due = false ∧ st.freeze = false) ∨ st.xoffSent = false ∨ (u.lp l).up = false ∨ 2 * (u.time.mono - st.lastXoff) < u.quantaTime l st.quanta →
      Leads (.xoffRepeat dt l p) s u) ∧
    (∀ ago f, u.receives l = false → Leads (.macControlRx dt l ⟨ago, f⟩) s u) ∧
    (∀ ago f, u.loopsBack l = false → fld f 12 2 ≠ 0x8808 → Leads (.macControlRx dt l ⟨ago, f⟩) s u) ∧
    (∀ ago f, u.receives l = true → u.loopsBack l = false → fld f 12 2 = 0x8808 →
      let d := f.take (f.length - 4); let mtu := (u.fwdCfg l).mtuAt (u.time.mono - ago)
      let c := ctxOf (parse u.fwd.etWaymark d) none false none
      (f.length < 64 → Leads (.macControlRx dt l ⟨ago, f⟩) s (dropIn l 2 none false d u)) ∧
      (64 ≤ f.length → mtu < f.length → Leads (.macControlRx dt l ⟨ago, f⟩) s (dropIn l 3 none false d u)) ∧
      (64 ≤ f.length → f.length ≤ mtu →
        (fcs d ≠ f.drop (f.length - 4) → Leads (.macControlRx dt l ⟨ago, f⟩) s (countBy c 3 l 1 1 u)) ∧
        (fcs d = f.drop (f.length - 4) → fld d 14 2 = 0x0001 → Leads (.macControlRx dt l ⟨ago, f⟩) s (countBy c 1 l 6 1 u)) ∧
        (fcs d = f.drop (f.length - 4) → fld d 14 2 ≠ 0x0001 → fld d 14 2 ≠ 0x0101 →
          Leads (.macControlRx dt l ⟨ago, f⟩) s (countBy c 1 l 7 1 u)) ∧
        (fcs d = f.drop (f.length - 4) → fld d 14 2 = 0x0101 → p < 8 → Runs (.macControlRx dt l ⟨ago, f⟩) s (fun t =>
          t.pfcPort l p = if bit (fld d 16 2) p = true
            then { st with incoming := st.incoming ++ [(u.time.mono + 400 * 65536, fld d (18 + 2 * p) 2)] } else st)))) ∧
    (st.incoming = [] → Leads (.pfcPauseStart dt l p) s u) ∧
    (∀ t q r, st.incoming = (t, q) :: r →
      (t ≤ u.time.mono → Leads (.pfcPauseStart dt l p) s (u.setPfcPort l p { st with
        incoming := r, pausedUntil := if q = 0 then none else some (t + u.quantaTime l q) })) ∧
      (u.time.mono < t → Leads (.pfcPauseStart dt l p) s u)) ∧
    (∀ t, st.pausedUntil = some t →
      (t ≤ u.time.mono → Leads (.pfcPauseEnd dt l p) s (u.setPfcPort l p { st with pausedUntil := none })) ∧
      (u.time.mono < t → Leads (.pfcPauseEnd dt l p) s u)) ∧
    (st.pausedUntil = none → Leads (.pfcPauseEnd dt l p) s u)

/-- Lines, holds and deadlines: a branch that waits in a residue line moves to its queue when its link is up and the queue check passes;
failing at its last retry it is dropped under 0x26, before that it has one retry fewer (R112, R113). An expired deadline head is discarded
under 0x33 while its domain runs (R134). A hold that has run with the link still down flushes the port, unless its die is frozen (R107,
R237). Calendars: within 0.5 ns of a release instant (R120) the class 7 head that fits starts, or waits for the frame on the wire (R121, R122); a window that closes is met by what is stored,
and the last allowed one discards under 0x30 (R123); the swap milestone makes the shadow active with event 0x4301 (R127), and a removal
leaves the port without calendar and without class 7 frames (R129). -/
def Obligations.QueuesFollowTime : Prop :=
  ∀ (dt l : Nat) (s : State), let u := s.advance dt; let next := (u.fwd.residueStart + 1) % u.part.pipelines
    ((∀ b ∈ u.fwd.branches, b.residue = none) → u.part.pipelines ≠ 0 →
      Leads (.residueRetry dt) s { u with fwd.residueStart := next }) ∧
    (∀ b c k pl, u.fwd.branches = [b] → b.residue = some k → b.fifo = some pl → b.cls < 4 → u.copyOf b.copy = some c →
      (u.core (u.coreOfLport b.lport)).running = true → u.portDown b.lport = false →
      let d := u.coreOfLport b.lport
      (u.queueFits d b.lport b.cls c.cells = true → Runs (.residueRetry dt) s (fun t => ∃ x rest, t.fwd.branches = x :: rest ∧
        (b.owes = false → rest = []) ∧ x.residue = none ∧ x.lport = b.lport ∧ x.cls = b.cls ∧ x.copy = b.copy ∧ x.admitted = u.time.mono)) ∧
      (u.queueFits d b.lport b.cls c.cells = false → k ≤ 1 → Runs (.residueRetry dt) s (fun t => t.fwd.branches = [])) ∧
      (u.queueFits d b.lport b.cls c.cells = false → 1 < k → Runs (.residueRetry dt) s (fun t =>
        t.fwd.branches = [{ b with residue := some (k - 1) }]))) ∧
    ((∀ b ∈ u.fwd.branches, deadlineClass b.cls = false) → Leads (.deadlineHeadCheck dt) s u) ∧
    (∀ b, u.fwd.branches = [b] → b.residue = none →
      (u.expired b = true → (u.core (u.coreOfLport b.lport)).running = true →
        Leads (.deadlineHeadCheck dt) s (discard 0x33 2 true b u)) ∧
      (u.expired b = false ∨ (u.core (u.coreOfLport b.lport)).running = false → Leads (.deadlineHeadCheck dt) s u)) ∧
    (∀ t, tfind u.fwd.held l = some t → u.time.running = true → u.linkIsDown l = true → u.frozenDie (u.coreOfLport l) = false →
      t + tget u.fwd.holds l 2000 * micro ≤ u.time.mono →
      Leads (.portHoldEnd dt l) s (flush l true { u with fwd.held := tdel u.fwd.held l })) ∧
    (tfind u.fwd.held l = none ∨ u.linkIsDown l = false ∨ u.frozenDie (u.coreOfLport l) = true → Leads (.portHoldEnd dt l) s u) ∧
    (u.calendar l = none → (∀ sound, Leads (.releaseInstant dt ⟨l, sound⟩) s u) ∧ Leads (.calendarRemoval dt l) s u ∧
      (NoAxWaits l u → Leads (.windowClose dt l) s u)) ∧
    (∀ sound, u.queue l 7 = [] ∨ (u.core (u.coreOfLport l)).running = false → Leads (.releaseInstant dt ⟨l, sound⟩) s u) ∧
    (∀ m, u.releaseSlot l = some m → ∃ c i, u.calendar l = some c ∧ (u.governs l m).1 = some i ∧ bit (u.governs l m).2 15 = true ∧
      m.toNat * slotUnits + c.offsetOf i ≤ u.time.count.toNat + 32768 ∧
      u.time.count.toNat ≤ m.toNat * slotUnits + c.offsetOf i + 32768) ∧
    (∀ sound c m b k close, u.calendar l = some c → u.releaseSlot l = some m → u.queue l 7 = [b] →
      u.copyOf b.copy = some k → u.branchWire b ≤ (c.windows.map c.duration).foldl max 0 →
      (u.canStart l = true → u.loopsBack l = false → u.scheduledPick l m = some (b, close) → Runs (.releaseInstant dt ⟨l, sound⟩) s (fun t =>
        t.queue l 7 = [] ∧ (t.egress l).close = some close ∧ (t.egress l).cls = 7 ∧
        ∃ bytes, Out.frame l bytes sound ∈ t.out)) ∧
      ((u.core (u.coreOfLport l)).running = true → u.time.mono < (u.egress l).freeAt → (u.egress l).cls ≠ 7 → Runs (.releaseInstant dt ⟨l, sound⟩) s (fun t =>
        t.queue l 7 = [b] ∧ (t.egress l).delayed = true ∧ (t.egress l).freeAt = (u.egress l).freeAt))) ∧
    (∀ c, NoAxWaits l u → u.calendar l = some c → (u.core (u.coreOfLport l)).running = false ∨ u.ms.toNat = 0 ∨
      u.closesOf l c (u.ms.toNat - 1) u.ms.toNat = 0 → Leads (.windowClose dt l) s u) ∧
    (∀ c b k, NoAxWaits l u → u.calendar l = some c → (u.core (u.coreOfLport l)).running = true → 0 < u.ms.toNat →
      0 < u.closesOf l c (u.ms.toNat - 1) u.ms.toNat → u.fwd.branches = [b] → b.lport = l → b.cls = 7 → b.residue = none →
      u.copyOf b.copy = some k → u.branchWire b ≤ (c.windows.map c.duration).foldl max 0 →
      (b.windows + 1 < c.windowLimit → Leads (.windowClose dt l) s { u with fwd.branches := [{ b with windows := b.windows + 1 }] }) ∧
      (c.windowLimit ≤ b.windows + 1 → Runs (.windowClose dt l) s (fun t => t.fwd.branches = []))) ∧
    (tfind u.fwd.swaps l = none → Leads (.calendarSwap dt l) s u) ∧
    (∀ c, tfind u.fwd.swaps l = some c →
      (later c.at_ u.ms = true ∨ u.frozenDie (u.coreOfLport l) = true → Leads (.calendarSwap dt l) s u) ∧
      (later c.at_ u.ms = false → u.frozenDie (u.coreOfLport l) = false → Runs (.calendarSwap dt l) s (fun t =>
        t.calendar l = some (u.shadowOf l) ∧ tfind t.fwd.swaps l = none ∧ tfind t.fwd.removals l = none))) ∧
    (tfind u.fwd.removals l = none → Leads (.calendarRemoval dt l) s u) ∧
    (∀ n c, tfind u.fwd.removals l = some n → u.calendar l = some c →
      let start := BitVec.ofNat 56 (u.ms.toNat / c.e * c.e)
      (later n start = false → u.frozenDie (u.coreOfLport l) = false → Runs (.calendarRemoval dt l) s (fun t =>
        t.calendar l = none ∧ t.queue l 7 = [] ∧ tfind t.fwd.swaps l = none)) ∧
      (later n start = true ∨ u.frozenDie (u.coreOfLport l) = true → Leads (.calendarRemoval dt l) s u))

/-! ### Measurement, counters, recorder, board -/

/-- A TDC edge counts only in an open gate and on the edge selected; one within 4 ns of the last is dropped with SPACING_LOST, every
DECIMATION-th is queued, and counted as lost when 4,096 wait (R270 to R274). A gate pin opens and closes the gates of its channels, a
pulse below 10 ns giving none and leaving no record; a window opens from its start and closes at its stop, where the report is stored, and an
edge at the stop belongs to the next gate (R275, R276, R281). -/
def Obligations.GatesAndEdgesAreMeasured : Prop :=
  ∀ (dt n : Nat) (s : State), let u := s.advance dt; let c := u.chan n
    let rcd := fun (falling : Bool) => stampRecord u n falling c.lostPending
    let b := (c.cfg.window c.window).2
    (∀ fall, c.enabled = false ∨ (c.gate = none ∧ c.cfg.arm ≠ 2) → Leads (.tdcEdge dt n fall) s u) ∧
    (∀ g fall, c.gate = some g → c.enabled = true → c.cfg.edgeSel = 2 → c.cfg.arm = 2 → c.cfg.period = 0 → reached (stampOf n u) b = true →
      Runs (.tdcEdge dt n fall) s (fun t => (t.chan n).gate = none ∧ (t.chan n).closing.length = c.closing.length + 1 ∧
        (t.chan n).queue = c.queue ∧ (t.chan n).done = true)) ∧
    (c.cfg.edgeSel = 0 → Leads (.tdcEdge dt n true) s u) ∧ (c.cfg.edgeSel = 1 → Leads (.tdcEdge dt n false) s u) ∧
    (∀ g fall, c.gate = some g → c.enabled = true → c.cfg.edgeSel = 2 → (c.cfg.arm = 2 → reached (stampOf n u) b = false) →
      (∀ t, c.lastEdge = some t → u.time.mono < t + 262144 →
        Leads (.tdcEdge dt n fall) s (countDevice (15 + n) (u.setChan n { c with gate := some { g with spacing := true } }))) ∧
      ((∀ t, c.lastEdge = some t → t + 262144 ≤ u.time.mono) → Runs (.tdcEdge dt n fall) s (fun t =>
        (t.chan n).lastEdge = some u.time.mono ∧ ((t.chan n).gate.map Gate.edges) = some (g.edges + 1) ∧
        (g.edges % c.cfg.decimation ≠ 0 → (t.chan n).queue = c.queue ∧ (t.chan n).lostPending = c.lostPending) ∧
        (g.edges % c.cfg.decimation = 0 → c.queue.length < 4096 →
          (t.chan n).queue = c.queue ++ [rcd fall] ∧ (t.chan n).lostPending = 0) ∧
        (g.edges % c.cfg.decimation = 0 → 4096 ≤ c.queue.length →
          (t.chan n).queue = c.queue ∧ (t.chan n).lostPending = satNat 32 (c.lostPending + 1))))) ∧
    (∀ pin level, n < 16 → Runs (.tdcGateEdge dt pin level) s (fun t =>
      (c.enabled = false ∨ c.cfg.arm ≠ 1 ∨ c.cfg.gatePin ≠ pin → t.chan n = c) ∧
      (c.enabled = true → c.cfg.arm = 1 → c.cfg.gatePin = pin → level = !c.cfg.activeLow → c.gate = none →
        t.chan n = { c with gate := some {
          opened := stampOf (16 + pin) u, openedMono := stampMono (16 + pin) u, lostBefore := c.lostPending, edgeBefore := c.lastEdge
          tv := u.timeValid } }) ∧
      (∀ g, c.enabled = true → c.cfg.arm = 1 → c.cfg.gatePin = pin → level = c.cfg.activeLow → c.gate = some g →
        (stampMono (16 + pin) u < g.openedMono + 655360 → t.chan n = { c with
          gate := none, queue := c.queue.take (c.queue.length - g.queued), lostPending := g.lostBefore, lastEdge := g.edgeBefore }) ∧
        (g.openedMono + 655360 ≤ stampMono (16 + pin) u → (t.chan n).gate = none ∧ (t.chan n).gateSeq = c.gateSeq + 1 ∧
          (t.chan n).closing.length = c.closing.length + 1)))) ∧
    (let a := (c.cfg.window c.window).1
     (c.enabled = true → c.done = false → c.cfg.arm = 2 → c.gate = none → reached u.time.count a = true → reached u.time.count b = false →
      Leads (.tdcWindowOpen dt n) s (u.setChan n { c with gate := some {
        opened := a, openedMono := u.time.mono - (sdiff u.time.count a).toNat, lostBefore := c.lostPending
        edgeBefore := c.lastEdge, tv := u.timeValid } })) ∧
     (c.enabled = false ∨ c.done = true ∨ c.cfg.arm ≠ 2 ∨ c.gate.isSome = true ∨ reached u.time.count a = false ∨
      reached u.time.count b = true → Leads (.tdcWindowOpen dt n) s u) ∧
     (∀ g, c.enabled = true → c.gate = some g → c.cfg.arm = 2 → reached u.time.count b = true → c.closing = [] →
      Runs (.tdcGateClose dt n) s (fun t => (t.chan n).gate = none ∧ (t.chan n).gateSeq = c.gateSeq + 1 ∧ (t.chan n).closing = [] ∧
        (t.chan n).queue = c.queue ∧ ∃ rep, (t.chan n).reports = (rep :: c.reports).take 4 ∧ rep.head? = some (BitVec.ofNat 8 (n * 16)))) ∧
     (c.closing = [] → c.enabled = false ∨ c.gate = none ∨ c.cfg.arm ≠ 2 ∨ reached u.time.count b = false →
      Leads (.tdcGateClose dt n) s u))

/-- Snapshots and the recorder: a periodic snapshot milestone that nothing has latched latches every counter while COUNTERS is ready
(R381); when it is whole the window changes over and its sequence moves (R383). The head of the pending queue is written to a free slot, or
over the oldest record of its severity or below, while RECORDER is ready (R396, R397); a freeze ends by itself after 60 s with event 0x6302
(R393); a new second of the monotonic counter clears the rate limits (R394). -/
def Obligations.SnapshotsAndRecordsAreKept : Prop :=
  ∀ (dt : Nat) (s : State), let u := s.advance dt
    (u.time.running = true → u.periodic = true → u.latchedNow = false → u.ready 9 = true →
      (∀ e ∈ u.fwd.egress, (tget u.fwd.egress e.1 {}).flight = none) → Runs (.snapshot dt) s (fun t =>
        t.ctr.latching = some { ms := u.ms, untimed := false, counters := u.ctr.live } ∧
        t.ctr.latched = some (u.ms, u.time.mono) ∧ t.ctr.window = u.ctr.latching.getD u.ctr.window)) ∧
    (u.time.running = false ∨ u.periodic = false ∨ u.latchedNow = true ∨ u.ready 9 = false → Leads (.snapshot dt) s u) ∧
    (∀ v, u.ctr.latching = some v → Leads (.snapshotLatched dt) s { u with
      ctr.window := v, ctr.latching := none, ctr.snapSeq := u.ctr.snapSeq + 1 }) ∧
    (u.ctr.latching = none → Leads (.snapshotLatched dt) s u) ∧
    (u.log.queue = [] ∨ u.ready 8 = false → Leads (.recordStore dt) s u) ∧
    (∀ r rest k, u.log.queue = r :: rest → u.ready 8 = true → slotFor r u.log.slots = some k → Leads (.recordStore dt) s { u with
      log.queue := rest, log.slots := tput u.log.slots k r, log.torn := u.log.torn.erase k }) ∧
    (∀ r rest, u.log.queue = r :: rest → u.ready 8 = true → slotFor r u.log.slots = none → Leads (.recordStore dt) s { u with
      log.queue := rest, log.dropped := satNat 32 (u.log.dropped + 1) }) ∧
    (∀ t, u.log.frozen = some t →
      (t + 60 * second ≤ u.time.mono → Leads (.recorderUnfrozen dt) s (raise .warn 0x6302 [] { u with log.frozen := none })) ∧
      (u.time.mono < t + 60 * second → Leads (.recorderUnfrozen dt) s u)) ∧
    (u.log.frozen = none → Leads (.recorderUnfrozen dt) s u) ∧
    (u.log.window ≠ u.time.mono / second → Leads (.rateWindowEnd dt) s { u with
      log.window := u.time.mono / second, log.accepted := [] }) ∧
    (u.log.window = u.time.mono / second → Leads (.rateWindowEnd dt) s u)

/-- The board: an LED frame, at a 65,536th milestone, shifts two bits a logical port, link up and activity, the highest number first, and clears the activity
(R416); a module-control frame leaves when a bit has changed (R417); the tenure of a module write ends done, or with event 0x3107 or 0x3108,
or loses arbitration up to eight times (R411, R412); MOD_INT_N records event 0x3109 (R414). A boundary-scan instruction that holds the
pins takes every link down and cuts every CLK_OUT off, and any other, or a TAP reset, gives the pins back, with no pulse in progress
(R426). -/
def Obligations.BoardEventsTakeEffect : Prop :=
  ∀ (dt : Nat) (s : State), let u := s.advance dt; let count := 4 * u.part.ports
    (u.pinsFree = true → u.time.running = true → u.ms.toNat % 65536 = 0 → ∃ bits, Leads (.ledFrame dt) s { u.emit (.led bits) with board.active := [] } ∧
      bits.length = 2 * count ∧ ∀ l, l < count →
        bits[2 * (count - 1 - l)]? = some (u.provided l && (u.lp l).up) ∧
        bits[2 * (count - 1 - l) + 1]? = some (u.provided l && u.board.active.contains l)) ∧
    (u.pinsFree = false ∨ u.time.running = false → Leads (.ledFrame dt) s u ∧ Leads (.modctlFrame dt) s u) ∧
    (u.ms.toNat % 65536 ≠ 0 → Leads (.ledFrame dt) s u) ∧
    (∀ ones, ones = (List.range u.part.ports).filter u.lpMode →
      (u.pinsFree = true → u.time.running = true → ones ≠ u.board.modctl → ∃ bits, Leads (.modctlFrame dt) s
        { u.emit (.modctl bits) with board.modctl := ones } ∧ bits.length = u.part.ports ∧
        ∀ p, p < u.part.ports → bits[u.part.ports - 1 - p]? = some (u.lpMode p)) ∧
      (ones = u.board.modctl → Leads (.modctlFrame dt) s u)) ∧
    (∀ bus result, u.pinsFree = false ∨ u.busWrite bus = none → Leads (.modBusWrite dt bus result) s u) ∧
    (∀ bus w, u.pinsFree = true → u.busWrite bus = some w →
      let gone := { u with board.modWrites := u.board.modWrites.erase w }
      (∀ mux bank page data, Runs (.modBusWrite dt bus (.done mux bank page data)) s (fun t =>
        t.board.modWrites = u.board.modWrites.erase w ∧ ∃ writes, Out.modBus bus writes ∈ t.out ∧
          (0x70, BitVec.ofNat 8 (2 ^ (w.port % 8))) ∈ writes)) ∧
      Leads (.modBusWrite dt bus .nack) s (raise .warn 0x3107 [BitVec.ofNat 8 w.port] gone) ∧
      Leads (.modBusWrite dt bus .stretch) s (raise .error 0x3108 [BitVec.ofNat 8 bus, BitVec.ofNat 8 w.port] gone) ∧
      (7 ≤ w.losses → Leads (.modBusWrite dt bus .lostArbitration) s
        (raise .error 0x3108 [BitVec.ofNat 8 bus, BitVec.ofNat 8 w.port] gone)) ∧
      (w.losses < 7 → Leads (.modBusWrite dt bus .lostArbitration) s { u with
        board.modWrites := u.board.modWrites.map (fun v => if v = w then { v with losses := v.losses + 1 } else v) })) ∧
    Leads (.modIntNFall dt) s (raise .note 0x3109 [] u) ∧
    (∀ i, u.power.vddCore0 = true → TapInstr.holdsPins i = true → Runs (.tapInstruction dt i) s (fun t =>
      t.board.scan = some i ∧ (∀ l ∈ u.enabledPorts, (t.lp l).up = false) ∧ t.cmd.holder ≠ 1 ∧
      ∀ n, u.outOn n = true → t.outOn n = false)) ∧
    let free := { u with board.scan := none
                         time.compares := if u.board.scan = none then u.time.compares else
                           u.time.compares.map (fun e => (e.1, { e.2 with pulseEnd := none })) }
    (∀ i, u.power.vddCore0 = true → TapInstr.holdsPins i = false → Leads (.tapInstruction dt i) s free) ∧
    (∀ i, u.power.vddCore0 = false → Leads (.tapInstruction dt i) s u) ∧
    Leads (.tapReset dt) s free
end

