-- ==== Sys2Proof/Laws/Bytes.lean ====
section
/-! SUPPORT. Big-endian numbers: what bytes spell, and that a number within its width reads back. -/

namespace Sys2Proof.Machine

@[simp] theorem toBe_length (n v : Nat) : (toBe n v).length = n := by
  induction n with
  | zero => rfl
  | succ n ih => simp [toBe, ih]

theorem beNat_foldl (bs : List Byte) (a : Nat) : bs.foldl (fun n b => n * 256 + b.toNat) a = a * 256 ^ bs.length + beNat bs := by
  induction bs generalizing a with
  | nil => simp [beNat]
  | cons b bs ih =>
    have h0 : beNat (b :: bs) = (0 * 256 + b.toNat) * 256 ^ bs.length + beNat bs := by
      rw [← ih]; rfl
    rw [List.foldl_cons, ih, h0, List.length_cons, pow_succ]
    ring

/-- The number of a longer list of bytes. -/
theorem beNat_cons (b : Byte) (bs : List Byte) : beNat (b :: bs) = b.toNat * 256 ^ bs.length + beNat bs := by
  rw [beNat, List.foldl_cons, beNat_foldl]; simp

/-- A number of `n` bytes reads back modulo their width. -/
theorem beNat_toBe (n v : Nat) : beNat (toBe n v) = v % 256 ^ n := by
  induction n with
  | zero => simp [toBe, beNat, Nat.mod_one]
  | succ n ih =>
    rw [toBe, beNat_cons, ih, toBe_length, BitVec.toNat_ofNat]
    have h : v % 256 ^ (n + 1) = v / 256 ^ n % 256 * 256 ^ n + v % 256 ^ n := by
      rw [pow_succ, Nat.mod_mul]; ring
    rw [h]

/-- A number within `n` bytes reads back. -/
theorem beNat_toBe_lt (n v : Nat) (h : v < 256 ^ n) : beNat (toBe n v) = v := by rw [beNat_toBe, Nat.mod_eq_of_lt h]

theorem beNat_lt (bs : List Byte) : beNat bs < 256 ^ bs.length := by
  induction bs with
  | nil => simp [beNat]
  | cons b bs ih =>
    rw [beNat_cons, List.length_cons, pow_succ]
    have hb := b.isLt
    have : b.toNat * 256 ^ bs.length + 256 ^ bs.length ≤ 256 * 256 ^ bs.length := by
      rw [← Nat.succ_mul]; exact Nat.mul_le_mul_right _ (by omega)
    omega

/-- A field that lies within the first part of a longer list. -/
theorem fld_append_left (a b : List Byte) (o n : Nat) (h : o + n ≤ a.length) : fld (a ++ b) o n = fld a o n := by
  unfold fld
  rw [List.drop_append_of_le_length (by omega), List.take_append_of_le_length (by simp; omega)]

/-- A field that lies behind the first part of a longer list. -/
theorem fld_append_right (a b : List Byte) (o n : Nat) : fld (a ++ b) (a.length + o) n = fld b o n := by
  unfold fld
  rw [List.drop_append, List.drop_of_length_le (by omega)]; simp

/-- The bytes of a number spell it. -/
theorem fld_toBe (n v : Nat) (h : v < 256 ^ n) : fld (toBe n v) 0 n = v := by
  unfold fld
  rw [List.drop_zero, List.take_of_length_le (by simp), beNat_toBe_lt n v h]

end Sys2Proof.Machine
end

