-- ==== Sys2Proof/Laws/Crypto.lean ====
section
/-! SUPPORT. The lengths of a hash and of a tag. -/

namespace Sys2Proof.Machine

theorem shaRounds_length (ks w v : List (BitVec 32)) (h : v.length = 8) : (shaRounds ks w v).length = 8 := by
  induction ks generalizing w v with
  | nil => exact h
  | cons k ks ih => exact ih _ _ (by simp [shaRound, h])

theorem shaBlock_length (h : List (BitVec 32)) (b : List Byte) (l : h.length = 8) : (shaBlock h b).length = 8 := by
  simp [shaBlock, shaRounds_length, l]

theorem shaBlocks_length (bs : List (List Byte)) (h : List (BitVec 32)) (l : h.length = 8) : (bs.foldl shaBlock h).length = 8 := by
  induction bs generalizing h with
  | nil => exact l
  | cons b bs ih => exact ih _ (shaBlock_length h b l)

theorem shaInit_length : shaInit.length = 8 := by decide +kernel

@[simp] theorem sha256_length (m : List Byte) : (sha256 m).length = 32 := by
  simp [sha256, List.length_flatMap, shaBlocks_length, shaInit_length]

@[simp] theorem hmac_length (k m : List Byte) : (hmac k m).length = 32 := by simp [hmac]

/-- A tag has 16 bytes (R252, R287). -/
@[simp] theorem tagOf_length (k m : List Byte) : (tagOf k m).length = 16 := by simp [tagOf]

end Sys2Proof.Machine
end

