-- ==== Sys2Proof/Laws/State.lean ====
section
/-! SUPPORT. One lemma for each field and each named update of State, true by unfolding the update. -/

namespace Sys2Proof.Machine

/-! ### State.emit -/

@[simp] theorem State.emit_part (s : State) (x : Out) : (s.emit x).part = s.part := rfl
@[simp] theorem State.emit_variant (s : State) (x : Out) : (s.emit x).variant = s.variant := rfl
@[simp] theorem State.emit_stepping (s : State) (x : Out) : (s.emit x).stepping = s.stepping := rfl
@[simp] theorem State.emit_serials (s : State) (x : Out) : (s.emit x).serials = s.serials := rfl
@[simp] theorem State.emit_macBase (s : State) (x : Out) : (s.emit x).macBase = s.macBase := rfl
@[simp] theorem State.emit_cmd (s : State) (x : Out) : (s.emit x).cmd = s.cmd := rfl
@[simp] theorem State.emit_time (s : State) (x : Out) : (s.emit x).time = s.time := rfl
@[simp] theorem State.emit_log (s : State) (x : Out) : (s.emit x).log = s.log := rfl
@[simp] theorem State.emit_power (s : State) (x : Out) : (s.emit x).power = s.power := rfl
@[simp] theorem State.emit_fwd (s : State) (x : Out) : (s.emit x).fwd = s.fwd := rfl
@[simp] theorem State.emit_port (s : State) (x : Out) : (s.emit x).port = s.port := rfl
@[simp] theorem State.emit_ref (s : State) (x : Out) : (s.emit x).ref = s.ref := rfl
@[simp] theorem State.emit_clk (s : State) (x : Out) : (s.emit x).clk = s.clk := rfl
@[simp] theorem State.emit_hier (s : State) (x : Out) : (s.emit x).hier = s.hier := rfl
@[simp] theorem State.emit_meas (s : State) (x : Out) : (s.emit x).meas = s.meas := rfl
@[simp] theorem State.emit_ctr (s : State) (x : Out) : (s.emit x).ctr = s.ctr := rfl
@[simp] theorem State.emit_cal (s : State) (x : Out) : (s.emit x).cal = s.cal := rfl
@[simp] theorem State.emit_board (s : State) (x : Out) : (s.emit x).board = s.board := rfl
@[simp] theorem State.emit_pending (s : State) (x : Out) : (s.emit x).pending = s.pending := rfl
@[simp] theorem State.emit_freeIx (s : State) (x : Out) : (s.emit x).freeIx = s.freeIx := rfl

/-! ### State.setLp -/

@[simp] theorem State.setLp_part (s : State) (l : Nat) (p : Lport) : (s.setLp l p).part = s.part := rfl
@[simp] theorem State.setLp_variant (s : State) (l : Nat) (p : Lport) : (s.setLp l p).variant = s.variant := rfl
@[simp] theorem State.setLp_stepping (s : State) (l : Nat) (p : Lport) : (s.setLp l p).stepping = s.stepping := rfl
@[simp] theorem State.setLp_serials (s : State) (l : Nat) (p : Lport) : (s.setLp l p).serials = s.serials := rfl
@[simp] theorem State.setLp_macBase (s : State) (l : Nat) (p : Lport) : (s.setLp l p).macBase = s.macBase := rfl
@[simp] theorem State.setLp_cmd (s : State) (l : Nat) (p : Lport) : (s.setLp l p).cmd = s.cmd := rfl
@[simp] theorem State.setLp_time (s : State) (l : Nat) (p : Lport) : (s.setLp l p).time = s.time := rfl
@[simp] theorem State.setLp_log (s : State) (l : Nat) (p : Lport) : (s.setLp l p).log = s.log := rfl
@[simp] theorem State.setLp_power (s : State) (l : Nat) (p : Lport) : (s.setLp l p).power = s.power := rfl
@[simp] theorem State.setLp_fwd (s : State) (l : Nat) (p : Lport) : (s.setLp l p).fwd = s.fwd := rfl
@[simp] theorem State.setLp_ref (s : State) (l : Nat) (p : Lport) : (s.setLp l p).ref = s.ref := rfl
@[simp] theorem State.setLp_clk (s : State) (l : Nat) (p : Lport) : (s.setLp l p).clk = s.clk := rfl
@[simp] theorem State.setLp_hier (s : State) (l : Nat) (p : Lport) : (s.setLp l p).hier = s.hier := rfl
@[simp] theorem State.setLp_meas (s : State) (l : Nat) (p : Lport) : (s.setLp l p).meas = s.meas := rfl
@[simp] theorem State.setLp_ctr (s : State) (l : Nat) (p : Lport) : (s.setLp l p).ctr = s.ctr := rfl
@[simp] theorem State.setLp_cal (s : State) (l : Nat) (p : Lport) : (s.setLp l p).cal = s.cal := rfl
@[simp] theorem State.setLp_board (s : State) (l : Nat) (p : Lport) : (s.setLp l p).board = s.board := rfl
@[simp] theorem State.setLp_pending (s : State) (l : Nat) (p : Lport) : (s.setLp l p).pending = s.pending := rfl
@[simp] theorem State.setLp_freeIx (s : State) (l : Nat) (p : Lport) : (s.setLp l p).freeIx = s.freeIx := rfl
@[simp] theorem State.setLp_out (s : State) (l : Nat) (p : Lport) : (s.setLp l p).out = s.out := rfl
@[simp] theorem State.setLp_port_breakout (s : State) (l : Nat) (p : Lport) : (s.setLp l p).port.breakout = s.port.breakout := rfl
@[simp] theorem State.setLp_port_lanes (s : State) (l : Nat) (p : Lport) : (s.setLp l p).port.lanes = s.port.lanes := rfl
@[simp] theorem State.setLp_port_mgmt (s : State) (l : Nat) (p : Lport) : (s.setLp l p).port.mgmt = s.port.mgmt := rfl
@[simp] theorem State.setLp_port_links (s : State) (l : Nat) (p : Lport) : (s.setLp l p).port.links = s.port.links := rfl
@[simp] theorem State.setLp_port_ptpClock (s : State) (l : Nat) (p : Lport) : (s.setLp l p).port.ptpClock = s.port.ptpClock := rfl

/-! ### State.setLane -/

@[simp] theorem State.setLane_part (s : State) (p k : Nat) (v : Lane) : (s.setLane p k v).part = s.part := rfl
@[simp] theorem State.setLane_variant (s : State) (p k : Nat) (v : Lane) : (s.setLane p k v).variant = s.variant := rfl
@[simp] theorem State.setLane_stepping (s : State) (p k : Nat) (v : Lane) : (s.setLane p k v).stepping = s.stepping := rfl
@[simp] theorem State.setLane_serials (s : State) (p k : Nat) (v : Lane) : (s.setLane p k v).serials = s.serials := rfl
@[simp] theorem State.setLane_macBase (s : State) (p k : Nat) (v : Lane) : (s.setLane p k v).macBase = s.macBase := rfl
@[simp] theorem State.setLane_cmd (s : State) (p k : Nat) (v : Lane) : (s.setLane p k v).cmd = s.cmd := rfl
@[simp] theorem State.setLane_time (s : State) (p k : Nat) (v : Lane) : (s.setLane p k v).time = s.time := rfl
@[simp] theorem State.setLane_log (s : State) (p k : Nat) (v : Lane) : (s.setLane p k v).log = s.log := rfl
@[simp] theorem State.setLane_power (s : State) (p k : Nat) (v : Lane) : (s.setLane p k v).power = s.power := rfl
@[simp] theorem State.setLane_fwd (s : State) (p k : Nat) (v : Lane) : (s.setLane p k v).fwd = s.fwd := rfl
@[simp] theorem State.setLane_ref (s : State) (p k : Nat) (v : Lane) : (s.setLane p k v).ref = s.ref := rfl
@[simp] theorem State.setLane_clk (s : State) (p k : Nat) (v : Lane) : (s.setLane p k v).clk = s.clk := rfl
@[simp] theorem State.setLane_hier (s : State) (p k : Nat) (v : Lane) : (s.setLane p k v).hier = s.hier := rfl
@[simp] theorem State.setLane_meas (s : State) (p k : Nat) (v : Lane) : (s.setLane p k v).meas = s.meas := rfl
@[simp] theorem State.setLane_ctr (s : State) (p k : Nat) (v : Lane) : (s.setLane p k v).ctr = s.ctr := rfl
@[simp] theorem State.setLane_cal (s : State) (p k : Nat) (v : Lane) : (s.setLane p k v).cal = s.cal := rfl
@[simp] theorem State.setLane_board (s : State) (p k : Nat) (v : Lane) : (s.setLane p k v).board = s.board := rfl
@[simp] theorem State.setLane_pending (s : State) (p k : Nat) (v : Lane) : (s.setLane p k v).pending = s.pending := rfl
@[simp] theorem State.setLane_freeIx (s : State) (p k : Nat) (v : Lane) : (s.setLane p k v).freeIx = s.freeIx := rfl
@[simp] theorem State.setLane_out (s : State) (p k : Nat) (v : Lane) : (s.setLane p k v).out = s.out := rfl
@[simp] theorem State.setLane_port_breakout (s : State) (p k : Nat) (v : Lane) : (s.setLane p k v).port.breakout = s.port.breakout := rfl
@[simp] theorem State.setLane_port_lports (s : State) (p k : Nat) (v : Lane) : (s.setLane p k v).port.lports = s.port.lports := rfl
@[simp] theorem State.setLane_port_mgmt (s : State) (p k : Nat) (v : Lane) : (s.setLane p k v).port.mgmt = s.port.mgmt := rfl
@[simp] theorem State.setLane_port_links (s : State) (p k : Nat) (v : Lane) : (s.setLane p k v).port.links = s.port.links := rfl
@[simp] theorem State.setLane_port_ptpClock (s : State) (p k : Nat) (v : Lane) : (s.setLane p k v).port.ptpClock = s.port.ptpClock := rfl

/-! ### State.setLink -/

@[simp] theorem State.setLink_part (s : State) (p : Nat) (v : Link) : (s.setLink p v).part = s.part := rfl
@[simp] theorem State.setLink_variant (s : State) (p : Nat) (v : Link) : (s.setLink p v).variant = s.variant := rfl
@[simp] theorem State.setLink_stepping (s : State) (p : Nat) (v : Link) : (s.setLink p v).stepping = s.stepping := rfl
@[simp] theorem State.setLink_serials (s : State) (p : Nat) (v : Link) : (s.setLink p v).serials = s.serials := rfl
@[simp] theorem State.setLink_macBase (s : State) (p : Nat) (v : Link) : (s.setLink p v).macBase = s.macBase := rfl
@[simp] theorem State.setLink_cmd (s : State) (p : Nat) (v : Link) : (s.setLink p v).cmd = s.cmd := rfl
@[simp] theorem State.setLink_time (s : State) (p : Nat) (v : Link) : (s.setLink p v).time = s.time := rfl
@[simp] theorem State.setLink_log (s : State) (p : Nat) (v : Link) : (s.setLink p v).log = s.log := rfl
@[simp] theorem State.setLink_power (s : State) (p : Nat) (v : Link) : (s.setLink p v).power = s.power := rfl
@[simp] theorem State.setLink_fwd (s : State) (p : Nat) (v : Link) : (s.setLink p v).fwd = s.fwd := rfl
@[simp] theorem State.setLink_ref (s : State) (p : Nat) (v : Link) : (s.setLink p v).ref = s.ref := rfl
@[simp] theorem State.setLink_clk (s : State) (p : Nat) (v : Link) : (s.setLink p v).clk = s.clk := rfl
@[simp] theorem State.setLink_hier (s : State) (p : Nat) (v : Link) : (s.setLink p v).hier = s.hier := rfl
@[simp] theorem State.setLink_meas (s : State) (p : Nat) (v : Link) : (s.setLink p v).meas = s.meas := rfl
@[simp] theorem State.setLink_ctr (s : State) (p : Nat) (v : Link) : (s.setLink p v).ctr = s.ctr := rfl
@[simp] theorem State.setLink_cal (s : State) (p : Nat) (v : Link) : (s.setLink p v).cal = s.cal := rfl
@[simp] theorem State.setLink_board (s : State) (p : Nat) (v : Link) : (s.setLink p v).board = s.board := rfl
@[simp] theorem State.setLink_pending (s : State) (p : Nat) (v : Link) : (s.setLink p v).pending = s.pending := rfl
@[simp] theorem State.setLink_freeIx (s : State) (p : Nat) (v : Link) : (s.setLink p v).freeIx = s.freeIx := rfl
@[simp] theorem State.setLink_out (s : State) (p : Nat) (v : Link) : (s.setLink p v).out = s.out := rfl
@[simp] theorem State.setLink_port_breakout (s : State) (p : Nat) (v : Link) : (s.setLink p v).port.breakout = s.port.breakout := rfl
@[simp] theorem State.setLink_port_lports (s : State) (p : Nat) (v : Link) : (s.setLink p v).port.lports = s.port.lports := rfl
@[simp] theorem State.setLink_port_lanes (s : State) (p : Nat) (v : Link) : (s.setLink p v).port.lanes = s.port.lanes := rfl
@[simp] theorem State.setLink_port_mgmt (s : State) (p : Nat) (v : Link) : (s.setLink p v).port.mgmt = s.port.mgmt := rfl
@[simp] theorem State.setLink_port_ptpClock (s : State) (p : Nat) (v : Link) : (s.setLink p v).port.ptpClock = s.port.ptpClock := rfl

/-! ### State.setRing -/

@[simp] theorem State.setRing_part (s : State) (d : Nat) (r : Ring) : (s.setRing d r).part = s.part := rfl
@[simp] theorem State.setRing_variant (s : State) (d : Nat) (r : Ring) : (s.setRing d r).variant = s.variant := rfl
@[simp] theorem State.setRing_stepping (s : State) (d : Nat) (r : Ring) : (s.setRing d r).stepping = s.stepping := rfl
@[simp] theorem State.setRing_serials (s : State) (d : Nat) (r : Ring) : (s.setRing d r).serials = s.serials := rfl
@[simp] theorem State.setRing_macBase (s : State) (d : Nat) (r : Ring) : (s.setRing d r).macBase = s.macBase := rfl
@[simp] theorem State.setRing_time (s : State) (d : Nat) (r : Ring) : (s.setRing d r).time = s.time := rfl
@[simp] theorem State.setRing_log (s : State) (d : Nat) (r : Ring) : (s.setRing d r).log = s.log := rfl
@[simp] theorem State.setRing_power (s : State) (d : Nat) (r : Ring) : (s.setRing d r).power = s.power := rfl
@[simp] theorem State.setRing_fwd (s : State) (d : Nat) (r : Ring) : (s.setRing d r).fwd = s.fwd := rfl
@[simp] theorem State.setRing_port (s : State) (d : Nat) (r : Ring) : (s.setRing d r).port = s.port := rfl
@[simp] theorem State.setRing_ref (s : State) (d : Nat) (r : Ring) : (s.setRing d r).ref = s.ref := rfl
@[simp] theorem State.setRing_clk (s : State) (d : Nat) (r : Ring) : (s.setRing d r).clk = s.clk := rfl
@[simp] theorem State.setRing_hier (s : State) (d : Nat) (r : Ring) : (s.setRing d r).hier = s.hier := rfl
@[simp] theorem State.setRing_meas (s : State) (d : Nat) (r : Ring) : (s.setRing d r).meas = s.meas := rfl
@[simp] theorem State.setRing_ctr (s : State) (d : Nat) (r : Ring) : (s.setRing d r).ctr = s.ctr := rfl
@[simp] theorem State.setRing_cal (s : State) (d : Nat) (r : Ring) : (s.setRing d r).cal = s.cal := rfl
@[simp] theorem State.setRing_board (s : State) (d : Nat) (r : Ring) : (s.setRing d r).board = s.board := rfl
@[simp] theorem State.setRing_pending (s : State) (d : Nat) (r : Ring) : (s.setRing d r).pending = s.pending := rfl
@[simp] theorem State.setRing_freeIx (s : State) (d : Nat) (r : Ring) : (s.setRing d r).freeIx = s.freeIx := rfl
@[simp] theorem State.setRing_out (s : State) (d : Nat) (r : Ring) : (s.setRing d r).out = s.out := rfl
@[simp] theorem State.setRing_cmd_commits (s : State) (d : Nat) (r : Ring) : (s.setRing d r).cmd.commits = s.cmd.commits := rfl
@[simp] theorem State.setRing_cmd_holder (s : State) (d : Nat) (r : Ring) : (s.setRing d r).cmd.holder = s.cmd.holder := rfl
@[simp] theorem State.setRing_cmd_lease (s : State) (d : Nat) (r : Ring) : (s.setRing d r).cmd.lease = s.cmd.lease := rfl
@[simp] theorem State.setRing_cmd_leaseFrom (s : State) (d : Nat) (r : Ring) : (s.setRing d r).cmd.leaseFrom = s.cmd.leaseFrom := rfl
@[simp] theorem State.setRing_cmd_pcieSeq (s : State) (d : Nat) (r : Ring) : (s.setRing d r).cmd.pcieSeq = s.cmd.pcieSeq := rfl
@[simp] theorem State.setRing_cmd_mgmtSeq (s : State) (d : Nat) (r : Ring) : (s.setRing d r).cmd.mgmtSeq = s.cmd.mgmtSeq := rfl
@[simp] theorem State.setRing_cmd_inbandLast (s : State) (d : Nat) (r : Ring) : (s.setRing d r).cmd.inbandLast = s.cmd.inbandLast := rfl
@[simp] theorem State.setRing_cmd_mailboxes (s : State) (d : Nat) (r : Ring) : (s.setRing d r).cmd.mailboxes = s.cmd.mailboxes := rfl
@[simp] theorem State.setRing_cmd_notifyPcie (s : State) (d : Nat) (r : Ring) : (s.setRing d r).cmd.notifyPcie = s.cmd.notifyPcie := rfl
@[simp] theorem State.setRing_cmd_notifyMgmt (s : State) (d : Nat) (r : Ring) : (s.setRing d r).cmd.notifyMgmt = s.cmd.notifyMgmt := rfl
@[simp] theorem State.setRing_cmd_notifyInband (s : State) (d : Nat) (r : Ring) : (s.setRing d r).cmd.notifyInband = s.cmd.notifyInband := rfl
@[simp] theorem State.setRing_cmd_mgmt (s : State) (d : Nat) (r : Ring) : (s.setRing d r).cmd.mgmt = s.cmd.mgmt := rfl
@[simp] theorem State.setRing_cmd_outstanding (s : State) (d : Nat) (r : Ring) : (s.setRing d r).cmd.outstanding = s.cmd.outstanding := rfl
@[simp] theorem State.setRing_cmd_inbandSeq (s : State) (d : Nat) (r : Ring) : (s.setRing d r).cmd.inbandSeq = s.cmd.inbandSeq := rfl
@[simp] theorem State.setRing_cmd_controllerUp (s : State) (d : Nat) (r : Ring) : (s.setRing d r).cmd.controllerUp = s.cmd.controllerUp := rfl
@[simp] theorem State.setRing_cmd_controllerReset (s : State) (d : Nat) (r : Ring) : (s.setRing d r).cmd.controllerReset = s.cmd.controllerReset := rfl
@[simp] theorem State.setRing_cmd_firmwareFault (s : State) (d : Nat) (r : Ring) : (s.setRing d r).cmd.firmwareFault = s.cmd.firmwareFault := rfl

/-! ### State.setCore -/

@[simp] theorem State.setCore_part (s : State) (d : Nat) (c : CoreDie) : (s.setCore d c).part = s.part := rfl
@[simp] theorem State.setCore_variant (s : State) (d : Nat) (c : CoreDie) : (s.setCore d c).variant = s.variant := rfl
@[simp] theorem State.setCore_stepping (s : State) (d : Nat) (c : CoreDie) : (s.setCore d c).stepping = s.stepping := rfl
@[simp] theorem State.setCore_serials (s : State) (d : Nat) (c : CoreDie) : (s.setCore d c).serials = s.serials := rfl
@[simp] theorem State.setCore_macBase (s : State) (d : Nat) (c : CoreDie) : (s.setCore d c).macBase = s.macBase := rfl
@[simp] theorem State.setCore_cmd (s : State) (d : Nat) (c : CoreDie) : (s.setCore d c).cmd = s.cmd := rfl
@[simp] theorem State.setCore_time (s : State) (d : Nat) (c : CoreDie) : (s.setCore d c).time = s.time := rfl
@[simp] theorem State.setCore_log (s : State) (d : Nat) (c : CoreDie) : (s.setCore d c).log = s.log := rfl
@[simp] theorem State.setCore_power (s : State) (d : Nat) (c : CoreDie) : (s.setCore d c).power = s.power := rfl
@[simp] theorem State.setCore_fwd (s : State) (d : Nat) (c : CoreDie) : (s.setCore d c).fwd = s.fwd := rfl
@[simp] theorem State.setCore_port (s : State) (d : Nat) (c : CoreDie) : (s.setCore d c).port = s.port := rfl
@[simp] theorem State.setCore_ref (s : State) (d : Nat) (c : CoreDie) : (s.setCore d c).ref = s.ref := rfl
@[simp] theorem State.setCore_hier (s : State) (d : Nat) (c : CoreDie) : (s.setCore d c).hier = s.hier := rfl
@[simp] theorem State.setCore_meas (s : State) (d : Nat) (c : CoreDie) : (s.setCore d c).meas = s.meas := rfl
@[simp] theorem State.setCore_ctr (s : State) (d : Nat) (c : CoreDie) : (s.setCore d c).ctr = s.ctr := rfl
@[simp] theorem State.setCore_cal (s : State) (d : Nat) (c : CoreDie) : (s.setCore d c).cal = s.cal := rfl
@[simp] theorem State.setCore_board (s : State) (d : Nat) (c : CoreDie) : (s.setCore d c).board = s.board := rfl
@[simp] theorem State.setCore_pending (s : State) (d : Nat) (c : CoreDie) : (s.setCore d c).pending = s.pending := rfl
@[simp] theorem State.setCore_freeIx (s : State) (d : Nat) (c : CoreDie) : (s.setCore d c).freeIx = s.freeIx := rfl
@[simp] theorem State.setCore_out (s : State) (d : Nat) (c : CoreDie) : (s.setCore d c).out = s.out := rfl
@[simp] theorem State.setCore_clk_oscOk (s : State) (d : Nat) (c : CoreDie) : (s.setCore d c).clk.oscOk = s.clk.oscOk := rfl
@[simp] theorem State.setCore_clk_oscLost (s : State) (d : Nat) (c : CoreDie) : (s.setCore d c).clk.oscLost = s.clk.oscLost := rfl
@[simp] theorem State.setCore_clk_oscLostAt (s : State) (d : Nat) (c : CoreDie) : (s.setCore d c).clk.oscLostAt = s.clk.oscLostAt := rfl
@[simp] theorem State.setCore_clk_mclkBoot (s : State) (d : Nat) (c : CoreDie) : (s.setCore d c).clk.mclkBoot = s.clk.mclkBoot := rfl
@[simp] theorem State.setCore_clk_oscTimeout (s : State) (d : Nat) (c : CoreDie) : (s.setCore d c).clk.oscTimeout = s.clk.oscTimeout := rfl
@[simp] theorem State.setCore_clk_asynLock (s : State) (d : Nat) (c : CoreDie) : (s.setCore d c).clk.asynLock = s.clk.asynLock := rfl
@[simp] theorem State.setCore_clk_fwdResets (s : State) (d : Nat) (c : CoreDie) : (s.setCore d c).clk.fwdResets = s.clk.fwdResets := rfl
@[simp] theorem State.setCore_clk_cclk (s : State) (d : Nat) (c : CoreDie) : (s.setCore d c).clk.cclk = s.clk.cclk := rfl
@[simp] theorem State.setCore_clk_ramp (s : State) (d : Nat) (c : CoreDie) : (s.setCore d c).clk.ramp = s.clk.ramp := rfl
@[simp] theorem State.setCore_clk_profile (s : State) (d : Nat) (c : CoreDie) : (s.setCore d c).clk.profile = s.clk.profile := rfl
@[simp] theorem State.setCore_clk_fused0 (s : State) (d : Nat) (c : CoreDie) : (s.setCore d c).clk.fused0 = s.clk.fused0 := rfl
@[simp] theorem State.setCore_clk_fused1 (s : State) (d : Nat) (c : CoreDie) : (s.setCore d c).clk.fused1 = s.clk.fused1 := rfl
@[simp] theorem State.setCore_clk_outs (s : State) (d : Nat) (c : CoreDie) : (s.setCore d c).clk.outs = s.clk.outs := rfl
@[simp] theorem State.setCore_clk_laneWindow (s : State) (d : Nat) (c : CoreDie) : (s.setCore d c).clk.laneWindow = s.clk.laneWindow := rfl
@[simp] theorem State.setCore_clk_laneN (s : State) (d : Nat) (c : CoreDie) : (s.setCore d c).clk.laneN = s.clk.laneN := rfl
@[simp] theorem State.setCore_clk_lanePlls (s : State) (d : Nat) (c : CoreDie) : (s.setCore d c).clk.lanePlls = s.clk.lanePlls := rfl

/-! ### State.setUnit -/

@[simp] theorem State.setUnit_part (s : State) (u : Nat) (c : Compare) : (s.setUnit u c).part = s.part := rfl
@[simp] theorem State.setUnit_variant (s : State) (u : Nat) (c : Compare) : (s.setUnit u c).variant = s.variant := rfl
@[simp] theorem State.setUnit_stepping (s : State) (u : Nat) (c : Compare) : (s.setUnit u c).stepping = s.stepping := rfl
@[simp] theorem State.setUnit_serials (s : State) (u : Nat) (c : Compare) : (s.setUnit u c).serials = s.serials := rfl
@[simp] theorem State.setUnit_macBase (s : State) (u : Nat) (c : Compare) : (s.setUnit u c).macBase = s.macBase := rfl
@[simp] theorem State.setUnit_cmd (s : State) (u : Nat) (c : Compare) : (s.setUnit u c).cmd = s.cmd := rfl
@[simp] theorem State.setUnit_log (s : State) (u : Nat) (c : Compare) : (s.setUnit u c).log = s.log := rfl
@[simp] theorem State.setUnit_power (s : State) (u : Nat) (c : Compare) : (s.setUnit u c).power = s.power := rfl
@[simp] theorem State.setUnit_fwd (s : State) (u : Nat) (c : Compare) : (s.setUnit u c).fwd = s.fwd := rfl
@[simp] theorem State.setUnit_port (s : State) (u : Nat) (c : Compare) : (s.setUnit u c).port = s.port := rfl
@[simp] theorem State.setUnit_ref (s : State) (u : Nat) (c : Compare) : (s.setUnit u c).ref = s.ref := rfl
@[simp] theorem State.setUnit_clk (s : State) (u : Nat) (c : Compare) : (s.setUnit u c).clk = s.clk := rfl
@[simp] theorem State.setUnit_hier (s : State) (u : Nat) (c : Compare) : (s.setUnit u c).hier = s.hier := rfl
@[simp] theorem State.setUnit_meas (s : State) (u : Nat) (c : Compare) : (s.setUnit u c).meas = s.meas := rfl
@[simp] theorem State.setUnit_ctr (s : State) (u : Nat) (c : Compare) : (s.setUnit u c).ctr = s.ctr := rfl
@[simp] theorem State.setUnit_cal (s : State) (u : Nat) (c : Compare) : (s.setUnit u c).cal = s.cal := rfl
@[simp] theorem State.setUnit_board (s : State) (u : Nat) (c : Compare) : (s.setUnit u c).board = s.board := rfl
@[simp] theorem State.setUnit_pending (s : State) (u : Nat) (c : Compare) : (s.setUnit u c).pending = s.pending := rfl
@[simp] theorem State.setUnit_freeIx (s : State) (u : Nat) (c : Compare) : (s.setUnit u c).freeIx = s.freeIx := rfl
@[simp] theorem State.setUnit_out (s : State) (u : Nat) (c : Compare) : (s.setUnit u c).out = s.out := rfl
@[simp] theorem State.setUnit_time_mono (s : State) (u : Nat) (c : Compare) : (s.setUnit u c).time.mono = s.time.mono := rfl
@[simp] theorem State.setUnit_time_count (s : State) (u : Nat) (c : Compare) : (s.setUnit u c).time.count = s.time.count := rfl
@[simp] theorem State.setUnit_time_seenCount (s : State) (u : Nat) (c : Compare) : (s.setUnit u c).time.seenCount = s.time.seenCount := rfl
@[simp] theorem State.setUnit_time_seenValid (s : State) (u : Nat) (c : Compare) : (s.setUnit u c).time.seenValid = s.time.seenValid := rfl
@[simp] theorem State.setUnit_time_moves (s : State) (u : Nat) (c : Compare) : (s.setUnit u c).time.moves = s.time.moves := rfl
@[simp] theorem State.setUnit_time_running (s : State) (u : Nat) (c : Compare) : (s.setUnit u c).time.running = s.time.running := rfl
@[simp] theorem State.setUnit_time_state (s : State) (u : Nat) (c : Compare) : (s.setUnit u c).time.state = s.time.state := rfl
@[simp] theorem State.setUnit_time_stepCount (s : State) (u : Nat) (c : Compare) : (s.setUnit u c).time.stepCount = s.time.stepCount := rfl
@[simp] theorem State.setUnit_time_jumpRefused (s : State) (u : Nat) (c : Compare) : (s.setUnit u c).time.jumpRefused = s.time.jumpRefused := rfl
@[simp] theorem State.setUnit_time_compareLate (s : State) (u : Nat) (c : Compare) : (s.setUnit u c).time.compareLate = s.time.compareLate := rfl
@[simp] theorem State.setUnit_time_offset (s : State) (u : Nat) (c : Compare) : (s.setUnit u c).time.offset = s.time.offset := rfl
@[simp] theorem State.setUnit_time_excess (s : State) (u : Nat) (c : Compare) : (s.setUnit u c).time.excess = s.time.excess := rfl
@[simp] theorem State.setUnit_time_within (s : State) (u : Nat) (c : Compare) : (s.setUnit u c).time.within = s.time.within := rfl
@[simp] theorem State.setUnit_time_jumpThr (s : State) (u : Nat) (c : Compare) : (s.setUnit u c).time.jumpThr = s.time.jumpThr := rfl
@[simp] theorem State.setUnit_time_stepThr (s : State) (u : Nat) (c : Compare) : (s.setUnit u c).time.stepThr = s.time.stepThr := rfl
@[simp] theorem State.setUnit_time_utcOffset (s : State) (u : Nat) (c : Compare) : (s.setUnit u c).time.utcOffset = s.time.utcOffset := rfl
@[simp] theorem State.setUnit_time_leap61 (s : State) (u : Nat) (c : Compare) : (s.setUnit u c).time.leap61 = s.time.leap61 := rfl
@[simp] theorem State.setUnit_time_leap59 (s : State) (u : Nat) (c : Compare) : (s.setUnit u c).time.leap59 = s.time.leap59 := rfl
@[simp] theorem State.setUnit_time_loadEntry (s : State) (u : Nat) (c : Compare) : (s.setUnit u c).time.loadEntry = s.time.loadEntry := rfl
@[simp] theorem State.setUnit_time_rotating (s : State) (u : Nat) (c : Compare) : (s.setUnit u c).time.rotating = s.time.rotating := rfl
@[simp] theorem State.setUnit_time_rotatePhase (s : State) (u : Nat) (c : Compare) : (s.setUnit u c).time.rotatePhase = s.time.rotatePhase := rfl
@[simp] theorem State.setUnit_time_rotateFrom (s : State) (u : Nat) (c : Compare) : (s.setUnit u c).time.rotateFrom = s.time.rotateFrom := rfl
@[simp] theorem State.setUnit_time_stoppedAt (s : State) (u : Nat) (c : Compare) : (s.setUnit u c).time.stoppedAt = s.time.stoppedAt := rfl
@[simp] theorem State.setUnit_time_tsSeq (s : State) (u : Nat) (c : Compare) : (s.setUnit u c).time.tsSeq = s.time.tsSeq := rfl
@[simp] theorem State.setUnit_time_tsNs (s : State) (u : Nat) (c : Compare) : (s.setUnit u c).time.tsNs = s.time.tsNs := rfl
@[simp] theorem State.setUnit_time_tsFrac (s : State) (u : Nat) (c : Compare) : (s.setUnit u c).time.tsFrac = s.time.tsFrac := rfl
@[simp] theorem State.setUnit_time_tsState (s : State) (u : Nat) (c : Compare) : (s.setUnit u c).time.tsState = s.time.tsState := rfl

/-! ### State.setMon -/

@[simp] theorem State.setMon_part (s : State) (i : Nat) (m : RefMon) : (s.setMon i m).part = s.part := rfl
@[simp] theorem State.setMon_variant (s : State) (i : Nat) (m : RefMon) : (s.setMon i m).variant = s.variant := rfl
@[simp] theorem State.setMon_stepping (s : State) (i : Nat) (m : RefMon) : (s.setMon i m).stepping = s.stepping := rfl
@[simp] theorem State.setMon_serials (s : State) (i : Nat) (m : RefMon) : (s.setMon i m).serials = s.serials := rfl
@[simp] theorem State.setMon_macBase (s : State) (i : Nat) (m : RefMon) : (s.setMon i m).macBase = s.macBase := rfl
@[simp] theorem State.setMon_cmd (s : State) (i : Nat) (m : RefMon) : (s.setMon i m).cmd = s.cmd := rfl
@[simp] theorem State.setMon_time (s : State) (i : Nat) (m : RefMon) : (s.setMon i m).time = s.time := rfl
@[simp] theorem State.setMon_log (s : State) (i : Nat) (m : RefMon) : (s.setMon i m).log = s.log := rfl
@[simp] theorem State.setMon_power (s : State) (i : Nat) (m : RefMon) : (s.setMon i m).power = s.power := rfl
@[simp] theorem State.setMon_fwd (s : State) (i : Nat) (m : RefMon) : (s.setMon i m).fwd = s.fwd := rfl
@[simp] theorem State.setMon_port (s : State) (i : Nat) (m : RefMon) : (s.setMon i m).port = s.port := rfl
@[simp] theorem State.setMon_clk (s : State) (i : Nat) (m : RefMon) : (s.setMon i m).clk = s.clk := rfl
@[simp] theorem State.setMon_hier (s : State) (i : Nat) (m : RefMon) : (s.setMon i m).hier = s.hier := rfl
@[simp] theorem State.setMon_meas (s : State) (i : Nat) (m : RefMon) : (s.setMon i m).meas = s.meas := rfl
@[simp] theorem State.setMon_ctr (s : State) (i : Nat) (m : RefMon) : (s.setMon i m).ctr = s.ctr := rfl
@[simp] theorem State.setMon_cal (s : State) (i : Nat) (m : RefMon) : (s.setMon i m).cal = s.cal := rfl
@[simp] theorem State.setMon_board (s : State) (i : Nat) (m : RefMon) : (s.setMon i m).board = s.board := rfl
@[simp] theorem State.setMon_pending (s : State) (i : Nat) (m : RefMon) : (s.setMon i m).pending = s.pending := rfl
@[simp] theorem State.setMon_freeIx (s : State) (i : Nat) (m : RefMon) : (s.setMon i m).freeIx = s.freeIx := rfl
@[simp] theorem State.setMon_out (s : State) (i : Nat) (m : RefMon) : (s.setMon i m).out = s.out := rfl
@[simp] theorem State.setMon_ref_table (s : State) (i : Nat) (m : RefMon) : (s.setMon i m).ref.table = s.ref.table := rfl
@[simp] theorem State.setMon_ref_pending (s : State) (i : Nat) (m : RefMon) : (s.setMon i m).ref.pending = s.ref.pending := rfl
@[simp] theorem State.setMon_ref_soft (s : State) (i : Nat) (m : RefMon) : (s.setMon i m).ref.soft = s.ref.soft := rfl
@[simp] theorem State.setMon_ref_hard (s : State) (i : Nat) (m : RefMon) : (s.setMon i m).ref.hard = s.ref.hard := rfl
@[simp] theorem State.setMon_ref_drift (s : State) (i : Nat) (m : RefMon) : (s.setMon i m).ref.drift = s.ref.drift := rfl
@[simp] theorem State.setMon_ref_disagree (s : State) (i : Nat) (m : RefMon) : (s.setMon i m).ref.disagree = s.ref.disagree := rfl
@[simp] theorem State.setMon_ref_qualTime (s : State) (i : Nat) (m : RefMon) : (s.setMon i m).ref.qualTime = s.ref.qualTime := rfl
@[simp] theorem State.setMon_ref_capture (s : State) (i : Nat) (m : RefMon) : (s.setMon i m).ref.capture = s.ref.capture := rfl
@[simp] theorem State.setMon_ref_pairs (s : State) (i : Nat) (m : RefMon) : (s.setMon i m).ref.pairs = s.ref.pairs := rfl
@[simp] theorem State.setMon_ref_selected (s : State) (i : Nat) (m : RefMon) : (s.setMon i m).ref.selected = s.ref.selected := rfl
@[simp] theorem State.setMon_ref_switchTo (s : State) (i : Nat) (m : RefMon) : (s.setMon i m).ref.switchTo = s.ref.switchTo := rfl
@[simp] theorem State.setMon_ref_forced (s : State) (i : Nat) (m : RefMon) : (s.setMon i m).ref.forced = s.ref.forced := rfl
@[simp] theorem State.setMon_ref_dpll (s : State) (i : Nat) (m : RefMon) : (s.setMon i m).ref.dpll = s.ref.dpll := rfl
@[simp] theorem State.setMon_ref_bandwidth (s : State) (i : Nat) (m : RefMon) : (s.setMon i m).ref.bandwidth = s.ref.bandwidth := rfl
@[simp] theorem State.setMon_ref_window (s : State) (i : Nat) (m : RefMon) : (s.setMon i m).ref.window = s.ref.window := rfl
@[simp] theorem State.setMon_ref_lockN (s : State) (i : Nat) (m : RefMon) : (s.setMon i m).ref.lockN = s.ref.lockN := rfl
@[simp] theorem State.setMon_ref_slope (s : State) (i : Nat) (m : RefMon) : (s.setMon i m).ref.slope = s.ref.slope := rfl
@[simp] theorem State.setMon_ref_historyW (s : State) (i : Nat) (m : RefMon) : (s.setMon i m).ref.historyW = s.ref.historyW := rfl
@[simp] theorem State.setMon_ref_validity (s : State) (i : Nat) (m : RefMon) : (s.setMon i m).ref.validity = s.ref.validity := rfl
@[simp] theorem State.setMon_ref_revertive (s : State) (i : Nat) (m : RefMon) : (s.setMon i m).ref.revertive = s.ref.revertive := rfl
@[simp] theorem State.setMon_ref_inWindow (s : State) (i : Nat) (m : RefMon) : (s.setMon i m).ref.inWindow = s.ref.inWindow := rfl
@[simp] theorem State.setMon_ref_outWindow (s : State) (i : Nat) (m : RefMon) : (s.setMon i m).ref.outWindow = s.ref.outWindow := rfl
@[simp] theorem State.setMon_ref_phaseError (s : State) (i : Nat) (m : RefMon) : (s.setMon i m).ref.phaseError = s.ref.phaseError := rfl
@[simp] theorem State.setMon_ref_pull (s : State) (i : Nat) (m : RefMon) : (s.setMon i m).ref.pull = s.ref.pull := rfl
@[simp] theorem State.setMon_ref_pulling (s : State) (i : Nat) (m : RefMon) : (s.setMon i m).ref.pulling = s.ref.pulling := rfl
@[simp] theorem State.setMon_ref_buildOut (s : State) (i : Nat) (m : RefMon) : (s.setMon i m).ref.buildOut = s.ref.buildOut := rfl
@[simp] theorem State.setMon_ref_resume (s : State) (i : Nat) (m : RefMon) : (s.setMon i m).ref.resume = s.ref.resume := rfl
@[simp] theorem State.setMon_ref_frequency (s : State) (i : Nat) (m : RefMon) : (s.setMon i m).ref.frequency = s.ref.frequency := rfl
@[simp] theorem State.setMon_ref_movedAt (s : State) (i : Nat) (m : RefMon) : (s.setMon i m).ref.movedAt = s.ref.movedAt := rfl
@[simp] theorem State.setMon_ref_holdEst (s : State) (i : Nat) (m : RefMon) : (s.setMon i m).ref.holdEst = s.ref.holdEst := rfl
@[simp] theorem State.setMon_ref_history (s : State) (i : Nat) (m : RefMon) : (s.setMon i m).ref.history = s.ref.history := rfl
@[simp] theorem State.setMon_ref_holdFrom (s : State) (i : Nat) (m : RefMon) : (s.setMon i m).ref.holdFrom = s.ref.holdFrom := rfl
@[simp] theorem State.setMon_ref_switches (s : State) (i : Nat) (m : RefMon) : (s.setMon i m).ref.switches = s.ref.switches := rfl

/-! ### State.setChan -/

@[simp] theorem State.setChan_part (s : State) (n : Nat) (c : Channel) : (s.setChan n c).part = s.part := rfl
@[simp] theorem State.setChan_variant (s : State) (n : Nat) (c : Channel) : (s.setChan n c).variant = s.variant := rfl
@[simp] theorem State.setChan_stepping (s : State) (n : Nat) (c : Channel) : (s.setChan n c).stepping = s.stepping := rfl
@[simp] theorem State.setChan_serials (s : State) (n : Nat) (c : Channel) : (s.setChan n c).serials = s.serials := rfl
@[simp] theorem State.setChan_macBase (s : State) (n : Nat) (c : Channel) : (s.setChan n c).macBase = s.macBase := rfl
@[simp] theorem State.setChan_cmd (s : State) (n : Nat) (c : Channel) : (s.setChan n c).cmd = s.cmd := rfl
@[simp] theorem State.setChan_time (s : State) (n : Nat) (c : Channel) : (s.setChan n c).time = s.time := rfl
@[simp] theorem State.setChan_log (s : State) (n : Nat) (c : Channel) : (s.setChan n c).log = s.log := rfl
@[simp] theorem State.setChan_power (s : State) (n : Nat) (c : Channel) : (s.setChan n c).power = s.power := rfl
@[simp] theorem State.setChan_fwd (s : State) (n : Nat) (c : Channel) : (s.setChan n c).fwd = s.fwd := rfl
@[simp] theorem State.setChan_port (s : State) (n : Nat) (c : Channel) : (s.setChan n c).port = s.port := rfl
@[simp] theorem State.setChan_ref (s : State) (n : Nat) (c : Channel) : (s.setChan n c).ref = s.ref := rfl
@[simp] theorem State.setChan_clk (s : State) (n : Nat) (c : Channel) : (s.setChan n c).clk = s.clk := rfl
@[simp] theorem State.setChan_hier (s : State) (n : Nat) (c : Channel) : (s.setChan n c).hier = s.hier := rfl
@[simp] theorem State.setChan_ctr (s : State) (n : Nat) (c : Channel) : (s.setChan n c).ctr = s.ctr := rfl
@[simp] theorem State.setChan_cal (s : State) (n : Nat) (c : Channel) : (s.setChan n c).cal = s.cal := rfl
@[simp] theorem State.setChan_board (s : State) (n : Nat) (c : Channel) : (s.setChan n c).board = s.board := rfl
@[simp] theorem State.setChan_pending (s : State) (n : Nat) (c : Channel) : (s.setChan n c).pending = s.pending := rfl
@[simp] theorem State.setChan_freeIx (s : State) (n : Nat) (c : Channel) : (s.setChan n c).freeIx = s.freeIx := rfl
@[simp] theorem State.setChan_out (s : State) (n : Nat) (c : Channel) : (s.setChan n c).out = s.out := rfl
@[simp] theorem State.setChan_meas_pins (s : State) (n : Nat) (c : Channel) : (s.setChan n c).meas.pins = s.meas.pins := rfl

/-! ### State.setRail -/

@[simp] theorem State.setRail_part (s : State) (r : Nat) (v : Rail) : (s.setRail r v).part = s.part := rfl
@[simp] theorem State.setRail_variant (s : State) (r : Nat) (v : Rail) : (s.setRail r v).variant = s.variant := rfl
@[simp] theorem State.setRail_stepping (s : State) (r : Nat) (v : Rail) : (s.setRail r v).stepping = s.stepping := rfl
@[simp] theorem State.setRail_serials (s : State) (r : Nat) (v : Rail) : (s.setRail r v).serials = s.serials := rfl
@[simp] theorem State.setRail_macBase (s : State) (r : Nat) (v : Rail) : (s.setRail r v).macBase = s.macBase := rfl
@[simp] theorem State.setRail_cmd (s : State) (r : Nat) (v : Rail) : (s.setRail r v).cmd = s.cmd := rfl
@[simp] theorem State.setRail_time (s : State) (r : Nat) (v : Rail) : (s.setRail r v).time = s.time := rfl
@[simp] theorem State.setRail_log (s : State) (r : Nat) (v : Rail) : (s.setRail r v).log = s.log := rfl
@[simp] theorem State.setRail_fwd (s : State) (r : Nat) (v : Rail) : (s.setRail r v).fwd = s.fwd := rfl
@[simp] theorem State.setRail_port (s : State) (r : Nat) (v : Rail) : (s.setRail r v).port = s.port := rfl
@[simp] theorem State.setRail_ref (s : State) (r : Nat) (v : Rail) : (s.setRail r v).ref = s.ref := rfl
@[simp] theorem State.setRail_clk (s : State) (r : Nat) (v : Rail) : (s.setRail r v).clk = s.clk := rfl
@[simp] theorem State.setRail_hier (s : State) (r : Nat) (v : Rail) : (s.setRail r v).hier = s.hier := rfl
@[simp] theorem State.setRail_meas (s : State) (r : Nat) (v : Rail) : (s.setRail r v).meas = s.meas := rfl
@[simp] theorem State.setRail_ctr (s : State) (r : Nat) (v : Rail) : (s.setRail r v).ctr = s.ctr := rfl
@[simp] theorem State.setRail_cal (s : State) (r : Nat) (v : Rail) : (s.setRail r v).cal = s.cal := rfl
@[simp] theorem State.setRail_board (s : State) (r : Nat) (v : Rail) : (s.setRail r v).board = s.board := rfl
@[simp] theorem State.setRail_pending (s : State) (r : Nat) (v : Rail) : (s.setRail r v).pending = s.pending := rfl
@[simp] theorem State.setRail_freeIx (s : State) (r : Nat) (v : Rail) : (s.setRail r v).freeIx = s.freeIx := rfl
@[simp] theorem State.setRail_out (s : State) (r : Nat) (v : Rail) : (s.setRail r v).out = s.out := rfl
@[simp] theorem State.setRail_power_mode (s : State) (r : Nat) (v : Rail) : (s.setRail r v).power.mode = s.power.mode := rfl
@[simp] theorem State.setRail_power_transition (s : State) (r : Nat) (v : Rail) : (s.setRail r v).power.transition = s.power.transition := rfl
@[simp] theorem State.setRail_power_restoreMode (s : State) (r : Nat) (v : Rail) : (s.setRail r v).power.restoreMode = s.power.restoreMode := rfl
@[simp] theorem State.setRail_power_porN (s : State) (r : Nat) (v : Rail) : (s.setRail r v).power.porN = s.power.porN := rfl
@[simp] theorem State.setRail_power_bootStep (s : State) (r : Nat) (v : Rail) : (s.setRail r v).power.bootStep = s.power.bootStep := rfl
@[simp] theorem State.setRail_power_bootSel (s : State) (r : Nat) (v : Rail) : (s.setRail r v).power.bootSel = s.power.bootSel := rfl
@[simp] theorem State.setRail_power_oscSel (s : State) (r : Nat) (v : Rail) : (s.setRail r v).power.oscSel = s.power.oscSel := rfl
@[simp] theorem State.setRail_power_slotB (s : State) (r : Nat) (v : Rail) : (s.setRail r v).power.slotB = s.power.slotB := rfl
@[simp] theorem State.setRail_power_fallback (s : State) (r : Nat) (v : Rail) : (s.setRail r v).power.fallback = s.power.fallback := rfl
@[simp] theorem State.setRail_power_fwVersion (s : State) (r : Nat) (v : Rail) : (s.setRail r v).power.fwVersion = s.power.fwVersion := rfl
@[simp] theorem State.setRail_power_secMin (s : State) (r : Nat) (v : Rail) : (s.setRail r v).power.secMin = s.power.secMin := rfl
@[simp] theorem State.setRail_power_booted (s : State) (r : Nat) (v : Rail) : (s.setRail r v).power.booted = s.power.booted := rfl
@[simp] theorem State.setRail_power_bootReason (s : State) (r : Nat) (v : Rail) : (s.setRail r v).power.bootReason = s.power.bootReason := rfl
@[simp] theorem State.setRail_power_porAt (s : State) (r : Nat) (v : Rail) : (s.setRail r v).power.porAt = s.power.porAt := rfl
@[simp] theorem State.setRail_power_elapsed (s : State) (r : Nat) (v : Rail) : (s.setRail r v).power.elapsed = s.power.elapsed := rfl
@[simp] theorem State.setRail_power_vddCore0 (s : State) (r : Nat) (v : Rail) : (s.setRail r v).power.vddCore0 = s.power.vddCore0 := rfl
@[simp] theorem State.setRail_power_vddCore1 (s : State) (r : Nat) (v : Rail) : (s.setRail r v).power.vddCore1 = s.power.vddCore1 := rfl
@[simp] theorem State.setRail_power_vddTime (s : State) (r : Nat) (v : Rail) : (s.setRail r v).power.vddTime = s.power.vddTime := rfl
@[simp] theorem State.setRail_power_timeTimeout (s : State) (r : Nat) (v : Rail) : (s.setRail r v).power.timeTimeout = s.power.timeTimeout := rfl
@[simp] theorem State.setRail_power_vkeep (s : State) (r : Nat) (v : Rail) : (s.setRail r v).power.vkeep = s.power.vkeep := rfl
@[simp] theorem State.setRail_power_vigil (s : State) (r : Nat) (v : Rail) : (s.setRail r v).power.vigil = s.power.vigil := rfl
@[simp] theorem State.setRail_power_opSeconds (s : State) (r : Nat) (v : Rail) : (s.setRail r v).power.opSeconds = s.power.opSeconds := rfl
@[simp] theorem State.setRail_power_powerCycles (s : State) (r : Nat) (v : Rail) : (s.setRail r v).power.powerCycles = s.power.powerCycles := rfl
@[simp] theorem State.setRail_power_coarseValid (s : State) (r : Nat) (v : Rail) : (s.setRail r v).power.coarseValid = s.power.coarseValid := rfl
@[simp] theorem State.setRail_power_coarseSec (s : State) (r : Nat) (v : Rail) : (s.setRail r v).power.coarseSec = s.power.coarseSec := rfl
@[simp] theorem State.setRail_power_coarseSub (s : State) (r : Nat) (v : Rail) : (s.setRail r v).power.coarseSub = s.power.coarseSub := rfl
@[simp] theorem State.setRail_power_coarseFrom (s : State) (r : Nat) (v : Rail) : (s.setRail r v).power.coarseFrom = s.power.coarseFrom := rfl
@[simp] theorem State.setRail_power_coarseTick (s : State) (r : Nat) (v : Rail) : (s.setRail r v).power.coarseTick = s.power.coarseTick := rfl
@[simp] theorem State.setRail_power_scratch (s : State) (r : Nat) (v : Rail) : (s.setRail r v).power.scratch = s.power.scratch := rfl
@[simp] theorem State.setRail_power_failure (s : State) (r : Nat) (v : Rail) : (s.setRail r v).power.failure = s.power.failure := rfl
@[simp] theorem State.setRail_power_trigWarn (s : State) (r : Nat) (v : Rail) : (s.setRail r v).power.trigWarn = s.power.trigWarn := rfl
@[simp] theorem State.setRail_power_trigCrit (s : State) (r : Nat) (v : Rail) : (s.setRail r v).power.trigCrit = s.power.trigCrit := rfl
@[simp] theorem State.setRail_power_trigLimit (s : State) (r : Nat) (v : Rail) : (s.setRail r v).power.trigLimit = s.power.trigLimit := rfl
@[simp] theorem State.setRail_power_trigThermal (s : State) (r : Nat) (v : Rail) : (s.setRail r v).power.trigThermal = s.power.trigThermal := rfl
@[simp] theorem State.setRail_power_trigEnable (s : State) (r : Nat) (v : Rail) : (s.setRail r v).power.trigEnable = s.power.trigEnable := rfl
@[simp] theorem State.setRail_power_dwell (s : State) (r : Nat) (v : Rail) : (s.setRail r v).power.dwell = s.power.dwell := rfl
@[simp] theorem State.setRail_power_stage (s : State) (r : Nat) (v : Rail) : (s.setRail r v).power.stage = s.power.stage := rfl
@[simp] theorem State.setRail_power_stageDone (s : State) (r : Nat) (v : Rail) : (s.setRail r v).power.stageDone = s.power.stageDone := rfl
@[simp] theorem State.setRail_power_stageAt (s : State) (r : Nat) (v : Rail) : (s.setRail r v).power.stageAt = s.power.stageAt := rfl
@[simp] theorem State.setRail_power_jumpToFive (s : State) (r : Nat) (v : Rail) : (s.setRail r v).power.jumpToFive = s.power.jumpToFive := rfl
@[simp] theorem State.setRail_power_clearedAt (s : State) (r : Nat) (v : Rail) : (s.setRail r v).power.clearedAt = s.power.clearedAt := rfl
@[simp] theorem State.setRail_power_restoredAt (s : State) (r : Nat) (v : Rail) : (s.setRail r v).power.restoredAt = s.power.restoredAt := rfl
@[simp] theorem State.setRail_power_restoring (s : State) (r : Nat) (v : Rail) : (s.setRail r v).power.restoring = s.power.restoring := rfl
@[simp] theorem State.setRail_power_cclkBefore (s : State) (r : Nat) (v : Rail) : (s.setRail r v).power.cclkBefore = s.power.cclkBefore := rfl
@[simp] theorem State.setRail_power_voltBefore (s : State) (r : Nat) (v : Rail) : (s.setRail r v).power.voltBefore = s.power.voltBefore := rfl
@[simp] theorem State.setRail_power_shedPorts (s : State) (r : Nat) (v : Rail) : (s.setRail r v).power.shedPorts = s.power.shedPorts := rfl
@[simp] theorem State.setRail_power_disabledPorts (s : State) (r : Nat) (v : Rail) : (s.setRail r v).power.disabledPorts = s.power.disabledPorts := rfl
@[simp] theorem State.setRail_power_dormant (s : State) (r : Nat) (v : Rail) : (s.setRail r v).power.dormant = s.power.dormant := rfl
@[simp] theorem State.setRail_power_wake (s : State) (r : Nat) (v : Rail) : (s.setRail r v).power.wake = s.power.wake := rfl
@[simp] theorem State.setRail_power_heldMode (s : State) (r : Nat) (v : Rail) : (s.setRail r v).power.heldMode = s.power.heldMode := rfl
@[simp] theorem State.setRail_power_entryCompat (s : State) (r : Nat) (v : Rail) : (s.setRail r v).power.entryCompat = s.power.entryCompat := rfl
@[simp] theorem State.setRail_power_compat (s : State) (r : Nat) (v : Rail) : (s.setRail r v).power.compat = s.power.compat := rfl
@[simp] theorem State.setRail_power_wakeEn (s : State) (r : Nat) (v : Rail) : (s.setRail r v).power.wakeEn = s.power.wakeEn := rfl
@[simp] theorem State.setRail_power_padsLatched (s : State) (r : Nat) (v : Rail) : (s.setRail r v).power.padsLatched = s.power.padsLatched := rfl
@[simp] theorem State.setRail_power_dormantVolt (s : State) (r : Nat) (v : Rail) : (s.setRail r v).power.dormantVolt = s.power.dormantVolt := rfl
@[simp] theorem State.setRail_power_dormantCclk (s : State) (r : Nat) (v : Rail) : (s.setRail r v).power.dormantCclk = s.power.dormantCclk := rfl
@[simp] theorem State.setRail_power_dormantPorts (s : State) (r : Nat) (v : Rail) : (s.setRail r v).power.dormantPorts = s.power.dormantPorts := rfl
@[simp] theorem State.setRail_power_lost0 (s : State) (r : Nat) (v : Rail) : (s.setRail r v).power.lost0 = s.power.lost0 := rfl
@[simp] theorem State.setRail_power_lost1 (s : State) (r : Nat) (v : Rail) : (s.setRail r v).power.lost1 = s.power.lost1 := rfl
@[simp] theorem State.setRail_power_bists (s : State) (r : Nat) (v : Rail) : (s.setRail r v).power.bists = s.power.bists := rfl
@[simp] theorem State.setRail_power_trained (s : State) (r : Nat) (v : Rail) : (s.setRail r v).power.trained = s.power.trained := rfl
@[simp] theorem State.setRail_power_failedSegments (s : State) (r : Nat) (v : Rail) : (s.setRail r v).power.failedSegments = s.power.failedSegments := rfl
@[simp] theorem State.setRail_power_retraining (s : State) (r : Nat) (v : Rail) : (s.setRail r v).power.retraining = s.power.retraining := rfl
@[simp] theorem State.setRail_power_coreSkew (s : State) (r : Nat) (v : Rail) : (s.setRail r v).power.coreSkew = s.power.coreSkew := rfl
@[simp] theorem State.setRail_power_coreDiff (s : State) (r : Nat) (v : Rail) : (s.setRail r v).power.coreDiff = s.power.coreDiff := rfl
@[simp] theorem State.setRail_power_retrained (s : State) (r : Nat) (v : Rail) : (s.setRail r v).power.retrained = s.power.retrained := rfl
@[simp] theorem State.setRail_power_shownReady (s : State) (r : Nat) (v : Rail) : (s.setRail r v).power.shownReady = s.power.shownReady := rfl
@[simp] theorem State.setRail_power_readySeq (s : State) (r : Nat) (v : Rail) : (s.setRail r v).power.readySeq = s.power.readySeq := rfl
@[simp] theorem State.setRail_power_readyInt (s : State) (r : Nat) (v : Rail) : (s.setRail r v).power.readyInt = s.power.readyInt := rfl
@[simp] theorem State.setRail_power_readyVector (s : State) (r : Nat) (v : Rail) : (s.setRail r v).power.readyVector = s.power.readyVector := rfl
@[simp] theorem State.setRail_power_mgmtUp (s : State) (r : Nat) (v : Rail) : (s.setRail r v).power.mgmtUp = s.power.mgmtUp := rfl

/-! ### State.setMailbox -/

@[simp] theorem State.setMailbox_part (s : State) (q : Nat) (m : Mailbox) : (s.setMailbox q m).part = s.part := rfl
@[simp] theorem State.setMailbox_variant (s : State) (q : Nat) (m : Mailbox) : (s.setMailbox q m).variant = s.variant := rfl
@[simp] theorem State.setMailbox_stepping (s : State) (q : Nat) (m : Mailbox) : (s.setMailbox q m).stepping = s.stepping := rfl
@[simp] theorem State.setMailbox_serials (s : State) (q : Nat) (m : Mailbox) : (s.setMailbox q m).serials = s.serials := rfl
@[simp] theorem State.setMailbox_macBase (s : State) (q : Nat) (m : Mailbox) : (s.setMailbox q m).macBase = s.macBase := rfl
@[simp] theorem State.setMailbox_time (s : State) (q : Nat) (m : Mailbox) : (s.setMailbox q m).time = s.time := rfl
@[simp] theorem State.setMailbox_log (s : State) (q : Nat) (m : Mailbox) : (s.setMailbox q m).log = s.log := rfl
@[simp] theorem State.setMailbox_power (s : State) (q : Nat) (m : Mailbox) : (s.setMailbox q m).power = s.power := rfl
@[simp] theorem State.setMailbox_fwd (s : State) (q : Nat) (m : Mailbox) : (s.setMailbox q m).fwd = s.fwd := rfl
@[simp] theorem State.setMailbox_port (s : State) (q : Nat) (m : Mailbox) : (s.setMailbox q m).port = s.port := rfl
@[simp] theorem State.setMailbox_ref (s : State) (q : Nat) (m : Mailbox) : (s.setMailbox q m).ref = s.ref := rfl
@[simp] theorem State.setMailbox_clk (s : State) (q : Nat) (m : Mailbox) : (s.setMailbox q m).clk = s.clk := rfl
@[simp] theorem State.setMailbox_hier (s : State) (q : Nat) (m : Mailbox) : (s.setMailbox q m).hier = s.hier := rfl
@[simp] theorem State.setMailbox_meas (s : State) (q : Nat) (m : Mailbox) : (s.setMailbox q m).meas = s.meas := rfl
@[simp] theorem State.setMailbox_ctr (s : State) (q : Nat) (m : Mailbox) : (s.setMailbox q m).ctr = s.ctr := rfl
@[simp] theorem State.setMailbox_cal (s : State) (q : Nat) (m : Mailbox) : (s.setMailbox q m).cal = s.cal := rfl
@[simp] theorem State.setMailbox_board (s : State) (q : Nat) (m : Mailbox) : (s.setMailbox q m).board = s.board := rfl
@[simp] theorem State.setMailbox_pending (s : State) (q : Nat) (m : Mailbox) : (s.setMailbox q m).pending = s.pending := rfl
@[simp] theorem State.setMailbox_freeIx (s : State) (q : Nat) (m : Mailbox) : (s.setMailbox q m).freeIx = s.freeIx := rfl
@[simp] theorem State.setMailbox_out (s : State) (q : Nat) (m : Mailbox) : (s.setMailbox q m).out = s.out := rfl
@[simp] theorem State.setMailbox_cmd_commits (s : State) (q : Nat) (m : Mailbox) : (s.setMailbox q m).cmd.commits = s.cmd.commits := rfl
@[simp] theorem State.setMailbox_cmd_holder (s : State) (q : Nat) (m : Mailbox) : (s.setMailbox q m).cmd.holder = s.cmd.holder := rfl
@[simp] theorem State.setMailbox_cmd_lease (s : State) (q : Nat) (m : Mailbox) : (s.setMailbox q m).cmd.lease = s.cmd.lease := rfl
@[simp] theorem State.setMailbox_cmd_leaseFrom (s : State) (q : Nat) (m : Mailbox) : (s.setMailbox q m).cmd.leaseFrom = s.cmd.leaseFrom := rfl
@[simp] theorem State.setMailbox_cmd_pcieSeq (s : State) (q : Nat) (m : Mailbox) : (s.setMailbox q m).cmd.pcieSeq = s.cmd.pcieSeq := rfl
@[simp] theorem State.setMailbox_cmd_mgmtSeq (s : State) (q : Nat) (m : Mailbox) : (s.setMailbox q m).cmd.mgmtSeq = s.cmd.mgmtSeq := rfl
@[simp] theorem State.setMailbox_cmd_inbandLast (s : State) (q : Nat) (m : Mailbox) : (s.setMailbox q m).cmd.inbandLast = s.cmd.inbandLast := rfl
@[simp] theorem State.setMailbox_cmd_notifyPcie (s : State) (q : Nat) (m : Mailbox) : (s.setMailbox q m).cmd.notifyPcie = s.cmd.notifyPcie := rfl
@[simp] theorem State.setMailbox_cmd_notifyMgmt (s : State) (q : Nat) (m : Mailbox) : (s.setMailbox q m).cmd.notifyMgmt = s.cmd.notifyMgmt := rfl
@[simp] theorem State.setMailbox_cmd_notifyInband (s : State) (q : Nat) (m : Mailbox) : (s.setMailbox q m).cmd.notifyInband = s.cmd.notifyInband := rfl
@[simp] theorem State.setMailbox_cmd_mgmt (s : State) (q : Nat) (m : Mailbox) : (s.setMailbox q m).cmd.mgmt = s.cmd.mgmt := rfl
@[simp] theorem State.setMailbox_cmd_outstanding (s : State) (q : Nat) (m : Mailbox) : (s.setMailbox q m).cmd.outstanding = s.cmd.outstanding := rfl
@[simp] theorem State.setMailbox_cmd_inbandSeq (s : State) (q : Nat) (m : Mailbox) : (s.setMailbox q m).cmd.inbandSeq = s.cmd.inbandSeq := rfl
@[simp] theorem State.setMailbox_cmd_controllerUp (s : State) (q : Nat) (m : Mailbox) : (s.setMailbox q m).cmd.controllerUp = s.cmd.controllerUp := rfl
@[simp] theorem State.setMailbox_cmd_controllerReset (s : State) (q : Nat) (m : Mailbox) : (s.setMailbox q m).cmd.controllerReset = s.cmd.controllerReset := rfl
@[simp] theorem State.setMailbox_cmd_firmwareFault (s : State) (q : Nat) (m : Mailbox) : (s.setMailbox q m).cmd.firmwareFault = s.cmd.firmwareFault := rfl
@[simp] theorem State.setMailbox_cmd_rings (s : State) (q : Nat) (m : Mailbox) : (s.setMailbox q m).cmd.rings = s.cmd.rings := rfl

/-! ### State.setEgress -/

@[simp] theorem State.setEgress_part (s : State) (l : Nat) (e : Egress) : (s.setEgress l e).part = s.part := rfl
@[simp] theorem State.setEgress_variant (s : State) (l : Nat) (e : Egress) : (s.setEgress l e).variant = s.variant := rfl
@[simp] theorem State.setEgress_stepping (s : State) (l : Nat) (e : Egress) : (s.setEgress l e).stepping = s.stepping := rfl
@[simp] theorem State.setEgress_serials (s : State) (l : Nat) (e : Egress) : (s.setEgress l e).serials = s.serials := rfl
@[simp] theorem State.setEgress_macBase (s : State) (l : Nat) (e : Egress) : (s.setEgress l e).macBase = s.macBase := rfl
@[simp] theorem State.setEgress_cmd (s : State) (l : Nat) (e : Egress) : (s.setEgress l e).cmd = s.cmd := rfl
@[simp] theorem State.setEgress_time (s : State) (l : Nat) (e : Egress) : (s.setEgress l e).time = s.time := rfl
@[simp] theorem State.setEgress_log (s : State) (l : Nat) (e : Egress) : (s.setEgress l e).log = s.log := rfl
@[simp] theorem State.setEgress_power (s : State) (l : Nat) (e : Egress) : (s.setEgress l e).power = s.power := rfl
@[simp] theorem State.setEgress_port (s : State) (l : Nat) (e : Egress) : (s.setEgress l e).port = s.port := rfl
@[simp] theorem State.setEgress_ref (s : State) (l : Nat) (e : Egress) : (s.setEgress l e).ref = s.ref := rfl
@[simp] theorem State.setEgress_clk (s : State) (l : Nat) (e : Egress) : (s.setEgress l e).clk = s.clk := rfl
@[simp] theorem State.setEgress_hier (s : State) (l : Nat) (e : Egress) : (s.setEgress l e).hier = s.hier := rfl
@[simp] theorem State.setEgress_meas (s : State) (l : Nat) (e : Egress) : (s.setEgress l e).meas = s.meas := rfl
@[simp] theorem State.setEgress_ctr (s : State) (l : Nat) (e : Egress) : (s.setEgress l e).ctr = s.ctr := rfl
@[simp] theorem State.setEgress_cal (s : State) (l : Nat) (e : Egress) : (s.setEgress l e).cal = s.cal := rfl
@[simp] theorem State.setEgress_board (s : State) (l : Nat) (e : Egress) : (s.setEgress l e).board = s.board := rfl
@[simp] theorem State.setEgress_pending (s : State) (l : Nat) (e : Egress) : (s.setEgress l e).pending = s.pending := rfl
@[simp] theorem State.setEgress_freeIx (s : State) (l : Nat) (e : Egress) : (s.setEgress l e).freeIx = s.freeIx := rfl
@[simp] theorem State.setEgress_out (s : State) (l : Nat) (e : Egress) : (s.setEgress l e).out = s.out := rfl
@[simp] theorem State.setEgress_fwd_fifos (s : State) (l : Nat) (e : Egress) : (s.setEgress l e).fwd.fifos = s.fwd.fifos := rfl
@[simp] theorem State.setEgress_fwd_injectHead (s : State) (l : Nat) (e : Egress) : (s.setEgress l e).fwd.injectHead = s.fwd.injectHead := rfl
@[simp] theorem State.setEgress_fwd_injectAt (s : State) (l : Nat) (e : Egress) : (s.setEgress l e).fwd.injectAt = s.fwd.injectAt := rfl
@[simp] theorem State.setEgress_fwd_injectValid (s : State) (l : Nat) (e : Egress) : (s.setEgress l e).fwd.injectValid = s.fwd.injectValid := rfl
@[simp] theorem State.setEgress_fwd_injectMono (s : State) (l : Nat) (e : Egress) : (s.setEgress l e).fwd.injectMono = s.fwd.injectMono := rfl
@[simp] theorem State.setEgress_fwd_fifoPast (s : State) (l : Nat) (e : Egress) : (s.setEgress l e).fwd.fifoPast = s.fwd.fifoPast := rfl
@[simp] theorem State.setEgress_fwd_flushDue (s : State) (l : Nat) (e : Egress) : (s.setEgress l e).fwd.flushDue = s.fwd.flushDue := rfl
@[simp] theorem State.setEgress_fwd_loopback (s : State) (l : Nat) (e : Egress) : (s.setEgress l e).fwd.loopback = s.fwd.loopback := rfl
@[simp] theorem State.setEgress_fwd_crossings (s : State) (l : Nat) (e : Egress) : (s.setEgress l e).fwd.crossings = s.fwd.crossings := rfl
@[simp] theorem State.setEgress_fwd_nextInput (s : State) (l : Nat) (e : Egress) : (s.setEgress l e).fwd.nextInput = s.fwd.nextInput := rfl
@[simp] theorem State.setEgress_fwd_nextLport (s : State) (l : Nat) (e : Egress) : (s.setEgress l e).fwd.nextLport = s.fwd.nextLport := rfl
@[simp] theorem State.setEgress_fwd_l2 (s : State) (l : Nat) (e : Egress) : (s.setEgress l e).fwd.l2 = s.fwd.l2 := rfl
@[simp] theorem State.setEgress_fwd_lpm4 (s : State) (l : Nat) (e : Egress) : (s.setEgress l e).fwd.lpm4 = s.fwd.lpm4 := rfl
@[simp] theorem State.setEgress_fwd_lpm6s (s : State) (l : Nat) (e : Egress) : (s.setEgress l e).fwd.lpm6s = s.fwd.lpm6s := rfl
@[simp] theorem State.setEgress_fwd_lpm6l (s : State) (l : Nat) (e : Egress) : (s.setEgress l e).fwd.lpm6l = s.fwd.lpm6l := rfl
@[simp] theorem State.setEgress_fwd_nexthops (s : State) (l : Nat) (e : Egress) : (s.setEgress l e).fwd.nexthops = s.fwd.nexthops := rfl
@[simp] theorem State.setEgress_fwd_ecmp (s : State) (l : Nat) (e : Egress) : (s.setEgress l e).fwd.ecmp = s.fwd.ecmp := rfl
@[simp] theorem State.setEgress_fwd_acl (s : State) (l : Nat) (e : Egress) : (s.setEgress l e).fwd.acl = s.fwd.acl := rfl
@[simp] theorem State.setEgress_fwd_groups (s : State) (l : Nat) (e : Egress) : (s.setEgress l e).fwd.groups = s.fwd.groups := rfl
@[simp] theorem State.setEgress_fwd_lportFwd (s : State) (l : Nat) (e : Egress) : (s.setEgress l e).fwd.lportFwd = s.fwd.lportFwd := rfl
@[simp] theorem State.setEgress_fwd_dscpMap (s : State) (l : Nat) (e : Egress) : (s.setEgress l e).fwd.dscpMap = s.fwd.dscpMap := rfl
@[simp] theorem State.setEgress_fwd_pcpMap (s : State) (l : Nat) (e : Egress) : (s.setEgress l e).fwd.pcpMap = s.fwd.pcpMap := rfl
@[simp] theorem State.setEgress_fwd_mirrors (s : State) (l : Nat) (e : Egress) : (s.setEgress l e).fwd.mirrors = s.fwd.mirrors := rfl
@[simp] theorem State.setEgress_fwd_buckets (s : State) (l : Nat) (e : Egress) : (s.setEgress l e).fwd.buckets = s.fwd.buckets := rfl
@[simp] theorem State.setEgress_fwd_l3MissPunt (s : State) (l : Nat) (e : Egress) : (s.setEgress l e).fwd.l3MissPunt = s.fwd.l3MissPunt := rfl
@[simp] theorem State.setEgress_fwd_ttlDrop (s : State) (l : Nat) (e : Egress) : (s.setEgress l e).fwd.ttlDrop = s.fwd.ttlDrop := rfl
@[simp] theorem State.setEgress_fwd_etWaymark (s : State) (l : Nat) (e : Egress) : (s.setEgress l e).fwd.etWaymark = s.fwd.etWaymark := rfl
@[simp] theorem State.setEgress_fwd_etAx (s : State) (l : Nat) (e : Egress) : (s.setEgress l e).fwd.etAx = s.fwd.etAx := rfl
@[simp] theorem State.setEgress_fwd_etCommand (s : State) (l : Nat) (e : Egress) : (s.setEgress l e).fwd.etCommand = s.fwd.etCommand := rfl
@[simp] theorem State.setEgress_fwd_seed (s : State) (l : Nat) (e : Egress) : (s.setEgress l e).fwd.seed = s.fwd.seed := rfl
@[simp] theorem State.setEgress_fwd_pools (s : State) (l : Nat) (e : Egress) : (s.setEgress l e).fwd.pools = s.fwd.pools := rfl
@[simp] theorem State.setEgress_fwd_poolsPending (s : State) (l : Nat) (e : Egress) : (s.setEgress l e).fwd.poolsPending = s.fwd.poolsPending := rfl
@[simp] theorem State.setEgress_fwd_peaks (s : State) (l : Nat) (e : Egress) : (s.setEgress l e).fwd.peaks = s.fwd.peaks := rfl
@[simp] theorem State.setEgress_fwd_queues (s : State) (l : Nat) (e : Egress) : (s.setEgress l e).fwd.queues = s.fwd.queues := rfl
@[simp] theorem State.setEgress_fwd_pfc (s : State) (l : Nat) (e : Egress) : (s.setEgress l e).fwd.pfc = s.fwd.pfc := rfl
@[simp] theorem State.setEgress_fwd_pfcPort (s : State) (l : Nat) (e : Egress) : (s.setEgress l e).fwd.pfcPort = s.fwd.pfcPort := rfl
@[simp] theorem State.setEgress_fwd_holds (s : State) (l : Nat) (e : Egress) : (s.setEgress l e).fwd.holds = s.fwd.holds := rfl
@[simp] theorem State.setEgress_fwd_held (s : State) (l : Nat) (e : Egress) : (s.setEgress l e).fwd.held = s.fwd.held := rfl
@[simp] theorem State.setEgress_fwd_residueLimit (s : State) (l : Nat) (e : Egress) : (s.setEgress l e).fwd.residueLimit = s.fwd.residueLimit := rfl
@[simp] theorem State.setEgress_fwd_residueStart (s : State) (l : Nat) (e : Egress) : (s.setEgress l e).fwd.residueStart = s.fwd.residueStart := rfl
@[simp] theorem State.setEgress_fwd_copies (s : State) (l : Nat) (e : Egress) : (s.setEgress l e).fwd.copies = s.fwd.copies := rfl
@[simp] theorem State.setEgress_fwd_nextCopy (s : State) (l : Nat) (e : Egress) : (s.setEgress l e).fwd.nextCopy = s.fwd.nextCopy := rfl
@[simp] theorem State.setEgress_fwd_branches (s : State) (l : Nat) (e : Egress) : (s.setEgress l e).fwd.branches = s.fwd.branches := rfl
@[simp] theorem State.setEgress_fwd_active (s : State) (l : Nat) (e : Egress) : (s.setEgress l e).fwd.active = s.fwd.active := rfl
@[simp] theorem State.setEgress_fwd_shadow (s : State) (l : Nat) (e : Egress) : (s.setEgress l e).fwd.shadow = s.fwd.shadow := rfl
@[simp] theorem State.setEgress_fwd_swaps (s : State) (l : Nat) (e : Egress) : (s.setEgress l e).fwd.swaps = s.fwd.swaps := rfl
@[simp] theorem State.setEgress_fwd_removals (s : State) (l : Nat) (e : Egress) : (s.setEgress l e).fwd.removals = s.fwd.removals := rfl
@[simp] theorem State.setEgress_fwd_sched (s : State) (l : Nat) (e : Egress) : (s.setEgress l e).fwd.sched = s.fwd.sched := rfl
@[simp] theorem State.setEgress_fwd_budgets (s : State) (l : Nat) (e : Egress) : (s.setEgress l e).fwd.budgets = s.fwd.budgets := rfl

end Sys2Proof.Machine
end

