-- ==== Sys2Proof/Laws/Ops.lean ====
section
/-! SUPPORT. What the shared operations leave unchanged: time passing, free values, counters, rings, events. -/

namespace Sys2Proof.Machine

/-! ### Time passes -/

theorem loadCoarse_eq (s : State) : ∃ a b c f t, loadCoarse s =
    { s with power.coarseValid := a, power.coarseFrom := f, power.coarseTick := t, power.coarseSec := b, power.coarseSub := c } :=
  ⟨_, _, _, _, _, rfl⟩

theorem State.advance_eq (s : State) (dt : Nat) : ∃ n a b c f t m x y, s.advance dt =
    { s with time.mono := s.time.mono + dt, time.count := n, power.coarseValid := a, power.coarseSec := b, power.coarseSub := c
             power.coarseFrom := f, power.coarseTick := t, out := [], time.moves := m, time.seenCount := x, time.seenValid := y } := by
  unfold State.advance loadCoarse noteCount
  dsimp only
  split
  · split
    · exact ⟨_, _, _, _, _, _, _, _, _, rfl⟩
    · exact ⟨_, _, _, _, _, _, _, _, _, rfl⟩
  · exact ⟨_, _, _, _, _, _, _, _, _, rfl⟩

@[simp] theorem State.advance_part (s : State) (dt : Nat) : (s.advance dt).part = s.part := by
  obtain ⟨n, a, b, c, f, t, m, x, y, h⟩ := s.advance_eq dt; rw [h]
@[simp] theorem State.advance_variant (s : State) (dt : Nat) : (s.advance dt).variant = s.variant := by
  obtain ⟨n, a, b, c, f, t, m, x, y, h⟩ := s.advance_eq dt; rw [h]
@[simp] theorem State.advance_stepping (s : State) (dt : Nat) : (s.advance dt).stepping = s.stepping := by
  obtain ⟨n, a, b, c, f, t, m, x, y, h⟩ := s.advance_eq dt; rw [h]
@[simp] theorem State.advance_serials (s : State) (dt : Nat) : (s.advance dt).serials = s.serials := by
  obtain ⟨n, a, b, c, f, t, m, x, y, h⟩ := s.advance_eq dt; rw [h]
@[simp] theorem State.advance_macBase (s : State) (dt : Nat) : (s.advance dt).macBase = s.macBase := by
  obtain ⟨n, a, b, c, f, t, m, x, y, h⟩ := s.advance_eq dt; rw [h]
@[simp] theorem State.advance_cmd (s : State) (dt : Nat) : (s.advance dt).cmd = s.cmd := by
  obtain ⟨n, a, b, c, f, t, m, x, y, h⟩ := s.advance_eq dt; rw [h]
@[simp] theorem State.advance_log (s : State) (dt : Nat) : (s.advance dt).log = s.log := by
  obtain ⟨n, a, b, c, f, t, m, x, y, h⟩ := s.advance_eq dt; rw [h]
@[simp] theorem State.advance_fwd (s : State) (dt : Nat) : (s.advance dt).fwd = s.fwd := by
  obtain ⟨n, a, b, c, f, t, m, x, y, h⟩ := s.advance_eq dt; rw [h]
@[simp] theorem State.advance_port (s : State) (dt : Nat) : (s.advance dt).port = s.port := by
  obtain ⟨n, a, b, c, f, t, m, x, y, h⟩ := s.advance_eq dt; rw [h]
@[simp] theorem State.advance_ref (s : State) (dt : Nat) : (s.advance dt).ref = s.ref := by
  obtain ⟨n, a, b, c, f, t, m, x, y, h⟩ := s.advance_eq dt; rw [h]
@[simp] theorem State.advance_clk (s : State) (dt : Nat) : (s.advance dt).clk = s.clk := by
  obtain ⟨n, a, b, c, f, t, m, x, y, h⟩ := s.advance_eq dt; rw [h]
@[simp] theorem State.advance_hier (s : State) (dt : Nat) : (s.advance dt).hier = s.hier := by
  obtain ⟨n, a, b, c, f, t, m, x, y, h⟩ := s.advance_eq dt; rw [h]
@[simp] theorem State.advance_meas (s : State) (dt : Nat) : (s.advance dt).meas = s.meas := by
  obtain ⟨n, a, b, c, f, t, m, x, y, h⟩ := s.advance_eq dt; rw [h]
@[simp] theorem State.advance_ctr (s : State) (dt : Nat) : (s.advance dt).ctr = s.ctr := by
  obtain ⟨n, a, b, c, f, t, m, x, y, h⟩ := s.advance_eq dt; rw [h]
@[simp] theorem State.advance_cal (s : State) (dt : Nat) : (s.advance dt).cal = s.cal := by
  obtain ⟨n, a, b, c, f, t, m, x, y, h⟩ := s.advance_eq dt; rw [h]
@[simp] theorem State.advance_board (s : State) (dt : Nat) : (s.advance dt).board = s.board := by
  obtain ⟨n, a, b, c, f, t, m, x, y, h⟩ := s.advance_eq dt; rw [h]
@[simp] theorem State.advance_pending (s : State) (dt : Nat) : (s.advance dt).pending = s.pending := by
  obtain ⟨n, a, b, c, f, t, m, x, y, h⟩ := s.advance_eq dt; rw [h]
@[simp] theorem State.advance_freeIx (s : State) (dt : Nat) : (s.advance dt).freeIx = s.freeIx := by
  obtain ⟨n, a, b, c, f, t, m, x, y, h⟩ := s.advance_eq dt; rw [h]
@[simp] theorem State.advance_power_mode (s : State) (dt : Nat) : (s.advance dt).power.mode = s.power.mode := by
  obtain ⟨n, a, b, c, f, t, m, x, y, h⟩ := s.advance_eq dt; rw [h]
@[simp] theorem State.advance_power_transition (s : State) (dt : Nat) : (s.advance dt).power.transition = s.power.transition := by
  obtain ⟨n, a, b, c, f, t, m, x, y, h⟩ := s.advance_eq dt; rw [h]
@[simp] theorem State.advance_power_restoreMode (s : State) (dt : Nat) : (s.advance dt).power.restoreMode = s.power.restoreMode := by
  obtain ⟨n, a, b, c, f, t, m, x, y, h⟩ := s.advance_eq dt; rw [h]
@[simp] theorem State.advance_power_porN (s : State) (dt : Nat) : (s.advance dt).power.porN = s.power.porN := by
  obtain ⟨n, a, b, c, f, t, m, x, y, h⟩ := s.advance_eq dt; rw [h]
@[simp] theorem State.advance_power_bootStep (s : State) (dt : Nat) : (s.advance dt).power.bootStep = s.power.bootStep := by
  obtain ⟨n, a, b, c, f, t, m, x, y, h⟩ := s.advance_eq dt; rw [h]
@[simp] theorem State.advance_power_bootSel (s : State) (dt : Nat) : (s.advance dt).power.bootSel = s.power.bootSel := by
  obtain ⟨n, a, b, c, f, t, m, x, y, h⟩ := s.advance_eq dt; rw [h]
@[simp] theorem State.advance_power_oscSel (s : State) (dt : Nat) : (s.advance dt).power.oscSel = s.power.oscSel := by
  obtain ⟨n, a, b, c, f, t, m, x, y, h⟩ := s.advance_eq dt; rw [h]
@[simp] theorem State.advance_power_slotB (s : State) (dt : Nat) : (s.advance dt).power.slotB = s.power.slotB := by
  obtain ⟨n, a, b, c, f, t, m, x, y, h⟩ := s.advance_eq dt; rw [h]
@[simp] theorem State.advance_power_fallback (s : State) (dt : Nat) : (s.advance dt).power.fallback = s.power.fallback := by
  obtain ⟨n, a, b, c, f, t, m, x, y, h⟩ := s.advance_eq dt; rw [h]
@[simp] theorem State.advance_power_fwVersion (s : State) (dt : Nat) : (s.advance dt).power.fwVersion = s.power.fwVersion := by
  obtain ⟨n, a, b, c, f, t, m, x, y, h⟩ := s.advance_eq dt; rw [h]
@[simp] theorem State.advance_power_secMin (s : State) (dt : Nat) : (s.advance dt).power.secMin = s.power.secMin := by
  obtain ⟨n, a, b, c, f, t, m, x, y, h⟩ := s.advance_eq dt; rw [h]
@[simp] theorem State.advance_power_booted (s : State) (dt : Nat) : (s.advance dt).power.booted = s.power.booted := by
  obtain ⟨n, a, b, c, f, t, m, x, y, h⟩ := s.advance_eq dt; rw [h]
@[simp] theorem State.advance_power_bootReason (s : State) (dt : Nat) : (s.advance dt).power.bootReason = s.power.bootReason := by
  obtain ⟨n, a, b, c, f, t, m, x, y, h⟩ := s.advance_eq dt; rw [h]
@[simp] theorem State.advance_power_porAt (s : State) (dt : Nat) : (s.advance dt).power.porAt = s.power.porAt := by
  obtain ⟨n, a, b, c, f, t, m, x, y, h⟩ := s.advance_eq dt; rw [h]
@[simp] theorem State.advance_power_elapsed (s : State) (dt : Nat) : (s.advance dt).power.elapsed = s.power.elapsed := by
  obtain ⟨n, a, b, c, f, t, m, x, y, h⟩ := s.advance_eq dt; rw [h]
@[simp] theorem State.advance_power_vddCore0 (s : State) (dt : Nat) : (s.advance dt).power.vddCore0 = s.power.vddCore0 := by
  obtain ⟨n, a, b, c, f, t, m, x, y, h⟩ := s.advance_eq dt; rw [h]
@[simp] theorem State.advance_power_vddCore1 (s : State) (dt : Nat) : (s.advance dt).power.vddCore1 = s.power.vddCore1 := by
  obtain ⟨n, a, b, c, f, t, m, x, y, h⟩ := s.advance_eq dt; rw [h]
@[simp] theorem State.advance_power_vddTime (s : State) (dt : Nat) : (s.advance dt).power.vddTime = s.power.vddTime := by
  obtain ⟨n, a, b, c, f, t, m, x, y, h⟩ := s.advance_eq dt; rw [h]
@[simp] theorem State.advance_power_timeTimeout (s : State) (dt : Nat) : (s.advance dt).power.timeTimeout = s.power.timeTimeout := by
  obtain ⟨n, a, b, c, f, t, m, x, y, h⟩ := s.advance_eq dt; rw [h]
@[simp] theorem State.advance_power_vkeep (s : State) (dt : Nat) : (s.advance dt).power.vkeep = s.power.vkeep := by
  obtain ⟨n, a, b, c, f, t, m, x, y, h⟩ := s.advance_eq dt; rw [h]
@[simp] theorem State.advance_power_vigil (s : State) (dt : Nat) : (s.advance dt).power.vigil = s.power.vigil := by
  obtain ⟨n, a, b, c, f, t, m, x, y, h⟩ := s.advance_eq dt; rw [h]
@[simp] theorem State.advance_power_opSeconds (s : State) (dt : Nat) : (s.advance dt).power.opSeconds = s.power.opSeconds := by
  obtain ⟨n, a, b, c, f, t, m, x, y, h⟩ := s.advance_eq dt; rw [h]
@[simp] theorem State.advance_power_powerCycles (s : State) (dt : Nat) : (s.advance dt).power.powerCycles = s.power.powerCycles := by
  obtain ⟨n, a, b, c, f, t, m, x, y, h⟩ := s.advance_eq dt; rw [h]
@[simp] theorem State.advance_power_scratch (s : State) (dt : Nat) : (s.advance dt).power.scratch = s.power.scratch := by
  obtain ⟨n, a, b, c, f, t, m, x, y, h⟩ := s.advance_eq dt; rw [h]
@[simp] theorem State.advance_power_failure (s : State) (dt : Nat) : (s.advance dt).power.failure = s.power.failure := by
  obtain ⟨n, a, b, c, f, t, m, x, y, h⟩ := s.advance_eq dt; rw [h]
@[simp] theorem State.advance_power_rails (s : State) (dt : Nat) : (s.advance dt).power.rails = s.power.rails := by
  obtain ⟨n, a, b, c, f, t, m, x, y, h⟩ := s.advance_eq dt; rw [h]
@[simp] theorem State.advance_power_trigWarn (s : State) (dt : Nat) : (s.advance dt).power.trigWarn = s.power.trigWarn := by
  obtain ⟨n, a, b, c, f, t, m, x, y, h⟩ := s.advance_eq dt; rw [h]
@[simp] theorem State.advance_power_trigCrit (s : State) (dt : Nat) : (s.advance dt).power.trigCrit = s.power.trigCrit := by
  obtain ⟨n, a, b, c, f, t, m, x, y, h⟩ := s.advance_eq dt; rw [h]
@[simp] theorem State.advance_power_trigLimit (s : State) (dt : Nat) : (s.advance dt).power.trigLimit = s.power.trigLimit := by
  obtain ⟨n, a, b, c, f, t, m, x, y, h⟩ := s.advance_eq dt; rw [h]
@[simp] theorem State.advance_power_trigThermal (s : State) (dt : Nat) : (s.advance dt).power.trigThermal = s.power.trigThermal := by
  obtain ⟨n, a, b, c, f, t, m, x, y, h⟩ := s.advance_eq dt; rw [h]
@[simp] theorem State.advance_power_trigEnable (s : State) (dt : Nat) : (s.advance dt).power.trigEnable = s.power.trigEnable := by
  obtain ⟨n, a, b, c, f, t, m, x, y, h⟩ := s.advance_eq dt; rw [h]
@[simp] theorem State.advance_power_dwell (s : State) (dt : Nat) : (s.advance dt).power.dwell = s.power.dwell := by
  obtain ⟨n, a, b, c, f, t, m, x, y, h⟩ := s.advance_eq dt; rw [h]
@[simp] theorem State.advance_power_stage (s : State) (dt : Nat) : (s.advance dt).power.stage = s.power.stage := by
  obtain ⟨n, a, b, c, f, t, m, x, y, h⟩ := s.advance_eq dt; rw [h]
@[simp] theorem State.advance_power_stageDone (s : State) (dt : Nat) : (s.advance dt).power.stageDone = s.power.stageDone := by
  obtain ⟨n, a, b, c, f, t, m, x, y, h⟩ := s.advance_eq dt; rw [h]
@[simp] theorem State.advance_power_stageAt (s : State) (dt : Nat) : (s.advance dt).power.stageAt = s.power.stageAt := by
  obtain ⟨n, a, b, c, f, t, m, x, y, h⟩ := s.advance_eq dt; rw [h]
@[simp] theorem State.advance_power_jumpToFive (s : State) (dt : Nat) : (s.advance dt).power.jumpToFive = s.power.jumpToFive := by
  obtain ⟨n, a, b, c, f, t, m, x, y, h⟩ := s.advance_eq dt; rw [h]
@[simp] theorem State.advance_power_clearedAt (s : State) (dt : Nat) : (s.advance dt).power.clearedAt = s.power.clearedAt := by
  obtain ⟨n, a, b, c, f, t, m, x, y, h⟩ := s.advance_eq dt; rw [h]
@[simp] theorem State.advance_power_restoredAt (s : State) (dt : Nat) : (s.advance dt).power.restoredAt = s.power.restoredAt := by
  obtain ⟨n, a, b, c, f, t, m, x, y, h⟩ := s.advance_eq dt; rw [h]
@[simp] theorem State.advance_power_restoring (s : State) (dt : Nat) : (s.advance dt).power.restoring = s.power.restoring := by
  obtain ⟨n, a, b, c, f, t, m, x, y, h⟩ := s.advance_eq dt; rw [h]
@[simp] theorem State.advance_power_cclkBefore (s : State) (dt : Nat) : (s.advance dt).power.cclkBefore = s.power.cclkBefore := by
  obtain ⟨n, a, b, c, f, t, m, x, y, h⟩ := s.advance_eq dt; rw [h]
@[simp] theorem State.advance_power_voltBefore (s : State) (dt : Nat) : (s.advance dt).power.voltBefore = s.power.voltBefore := by
  obtain ⟨n, a, b, c, f, t, m, x, y, h⟩ := s.advance_eq dt; rw [h]
@[simp] theorem State.advance_power_shedPorts (s : State) (dt : Nat) : (s.advance dt).power.shedPorts = s.power.shedPorts := by
  obtain ⟨n, a, b, c, f, t, m, x, y, h⟩ := s.advance_eq dt; rw [h]
@[simp] theorem State.advance_power_disabledPorts (s : State) (dt : Nat) : (s.advance dt).power.disabledPorts = s.power.disabledPorts := by
  obtain ⟨n, a, b, c, f, t, m, x, y, h⟩ := s.advance_eq dt; rw [h]
@[simp] theorem State.advance_power_dormant (s : State) (dt : Nat) : (s.advance dt).power.dormant = s.power.dormant := by
  obtain ⟨n, a, b, c, f, t, m, x, y, h⟩ := s.advance_eq dt; rw [h]
@[simp] theorem State.advance_power_wake (s : State) (dt : Nat) : (s.advance dt).power.wake = s.power.wake := by
  obtain ⟨n, a, b, c, f, t, m, x, y, h⟩ := s.advance_eq dt; rw [h]
@[simp] theorem State.advance_power_heldMode (s : State) (dt : Nat) : (s.advance dt).power.heldMode = s.power.heldMode := by
  obtain ⟨n, a, b, c, f, t, m, x, y, h⟩ := s.advance_eq dt; rw [h]
@[simp] theorem State.advance_power_entryCompat (s : State) (dt : Nat) : (s.advance dt).power.entryCompat = s.power.entryCompat := by
  obtain ⟨n, a, b, c, f, t, m, x, y, h⟩ := s.advance_eq dt; rw [h]
@[simp] theorem State.advance_power_compat (s : State) (dt : Nat) : (s.advance dt).power.compat = s.power.compat := by
  obtain ⟨n, a, b, c, f, t, m, x, y, h⟩ := s.advance_eq dt; rw [h]
@[simp] theorem State.advance_power_wakeEn (s : State) (dt : Nat) : (s.advance dt).power.wakeEn = s.power.wakeEn := by
  obtain ⟨n, a, b, c, f, t, m, x, y, h⟩ := s.advance_eq dt; rw [h]
@[simp] theorem State.advance_power_padsLatched (s : State) (dt : Nat) : (s.advance dt).power.padsLatched = s.power.padsLatched := by
  obtain ⟨n, a, b, c, f, t, m, x, y, h⟩ := s.advance_eq dt; rw [h]
@[simp] theorem State.advance_power_dormantVolt (s : State) (dt : Nat) : (s.advance dt).power.dormantVolt = s.power.dormantVolt := by
  obtain ⟨n, a, b, c, f, t, m, x, y, h⟩ := s.advance_eq dt; rw [h]
@[simp] theorem State.advance_power_dormantCclk (s : State) (dt : Nat) : (s.advance dt).power.dormantCclk = s.power.dormantCclk := by
  obtain ⟨n, a, b, c, f, t, m, x, y, h⟩ := s.advance_eq dt; rw [h]
@[simp] theorem State.advance_power_dormantPorts (s : State) (dt : Nat) : (s.advance dt).power.dormantPorts = s.power.dormantPorts := by
  obtain ⟨n, a, b, c, f, t, m, x, y, h⟩ := s.advance_eq dt; rw [h]
@[simp] theorem State.advance_power_lost0 (s : State) (dt : Nat) : (s.advance dt).power.lost0 = s.power.lost0 := by
  obtain ⟨n, a, b, c, f, t, m, x, y, h⟩ := s.advance_eq dt; rw [h]
@[simp] theorem State.advance_power_lost1 (s : State) (dt : Nat) : (s.advance dt).power.lost1 = s.power.lost1 := by
  obtain ⟨n, a, b, c, f, t, m, x, y, h⟩ := s.advance_eq dt; rw [h]
@[simp] theorem State.advance_power_bists (s : State) (dt : Nat) : (s.advance dt).power.bists = s.power.bists := by
  obtain ⟨n, a, b, c, f, t, m, x, y, h⟩ := s.advance_eq dt; rw [h]
@[simp] theorem State.advance_power_trained (s : State) (dt : Nat) : (s.advance dt).power.trained = s.power.trained := by
  obtain ⟨n, a, b, c, f, t, m, x, y, h⟩ := s.advance_eq dt; rw [h]
@[simp] theorem State.advance_power_failedSegments (s : State) (dt : Nat) : (s.advance dt).power.failedSegments = s.power.failedSegments := by
  obtain ⟨n, a, b, c, f, t, m, x, y, h⟩ := s.advance_eq dt; rw [h]
@[simp] theorem State.advance_power_retraining (s : State) (dt : Nat) : (s.advance dt).power.retraining = s.power.retraining := by
  obtain ⟨n, a, b, c, f, t, m, x, y, h⟩ := s.advance_eq dt; rw [h]
@[simp] theorem State.advance_power_coreSkew (s : State) (dt : Nat) : (s.advance dt).power.coreSkew = s.power.coreSkew := by
  obtain ⟨n, a, b, c, f, t, m, x, y, h⟩ := s.advance_eq dt; rw [h]
@[simp] theorem State.advance_power_coreDiff (s : State) (dt : Nat) : (s.advance dt).power.coreDiff = s.power.coreDiff := by
  obtain ⟨n, a, b, c, f, t, m, x, y, h⟩ := s.advance_eq dt; rw [h]
@[simp] theorem State.advance_power_retrained (s : State) (dt : Nat) : (s.advance dt).power.retrained = s.power.retrained := by
  obtain ⟨n, a, b, c, f, t, m, x, y, h⟩ := s.advance_eq dt; rw [h]
@[simp] theorem State.advance_power_shownReady (s : State) (dt : Nat) : (s.advance dt).power.shownReady = s.power.shownReady := by
  obtain ⟨n, a, b, c, f, t, m, x, y, h⟩ := s.advance_eq dt; rw [h]
@[simp] theorem State.advance_power_readySeq (s : State) (dt : Nat) : (s.advance dt).power.readySeq = s.power.readySeq := by
  obtain ⟨n, a, b, c, f, t, m, x, y, h⟩ := s.advance_eq dt; rw [h]
@[simp] theorem State.advance_power_readyInt (s : State) (dt : Nat) : (s.advance dt).power.readyInt = s.power.readyInt := by
  obtain ⟨n, a, b, c, f, t, m, x, y, h⟩ := s.advance_eq dt; rw [h]
@[simp] theorem State.advance_power_readyVector (s : State) (dt : Nat) : (s.advance dt).power.readyVector = s.power.readyVector := by
  obtain ⟨n, a, b, c, f, t, m, x, y, h⟩ := s.advance_eq dt; rw [h]
@[simp] theorem State.advance_power_mgmtUp (s : State) (dt : Nat) : (s.advance dt).power.mgmtUp = s.power.mgmtUp := by
  obtain ⟨n, a, b, c, f, t, m, x, y, h⟩ := s.advance_eq dt; rw [h]
@[simp] theorem State.advance_time_running (s : State) (dt : Nat) : (s.advance dt).time.running = s.time.running := by
  obtain ⟨n, a, b, c, f, t, m, x, y, h⟩ := s.advance_eq dt; rw [h]
@[simp] theorem State.advance_time_state (s : State) (dt : Nat) : (s.advance dt).time.state = s.time.state := by
  obtain ⟨n, a, b, c, f, t, m, x, y, h⟩ := s.advance_eq dt; rw [h]
@[simp] theorem State.advance_time_stepCount (s : State) (dt : Nat) : (s.advance dt).time.stepCount = s.time.stepCount := by
  obtain ⟨n, a, b, c, f, t, m, x, y, h⟩ := s.advance_eq dt; rw [h]
@[simp] theorem State.advance_time_jumpRefused (s : State) (dt : Nat) : (s.advance dt).time.jumpRefused = s.time.jumpRefused := by
  obtain ⟨n, a, b, c, f, t, m, x, y, h⟩ := s.advance_eq dt; rw [h]
@[simp] theorem State.advance_time_compareLate (s : State) (dt : Nat) : (s.advance dt).time.compareLate = s.time.compareLate := by
  obtain ⟨n, a, b, c, f, t, m, x, y, h⟩ := s.advance_eq dt; rw [h]
@[simp] theorem State.advance_time_offset (s : State) (dt : Nat) : (s.advance dt).time.offset = s.time.offset := by
  obtain ⟨n, a, b, c, f, t, m, x, y, h⟩ := s.advance_eq dt; rw [h]
@[simp] theorem State.advance_time_excess (s : State) (dt : Nat) : (s.advance dt).time.excess = s.time.excess := by
  obtain ⟨n, a, b, c, f, t, m, x, y, h⟩ := s.advance_eq dt; rw [h]
@[simp] theorem State.advance_time_within (s : State) (dt : Nat) : (s.advance dt).time.within = s.time.within := by
  obtain ⟨n, a, b, c, f, t, m, x, y, h⟩ := s.advance_eq dt; rw [h]
@[simp] theorem State.advance_time_jumpThr (s : State) (dt : Nat) : (s.advance dt).time.jumpThr = s.time.jumpThr := by
  obtain ⟨n, a, b, c, f, t, m, x, y, h⟩ := s.advance_eq dt; rw [h]
@[simp] theorem State.advance_time_stepThr (s : State) (dt : Nat) : (s.advance dt).time.stepThr = s.time.stepThr := by
  obtain ⟨n, a, b, c, f, t, m, x, y, h⟩ := s.advance_eq dt; rw [h]
@[simp] theorem State.advance_time_utcOffset (s : State) (dt : Nat) : (s.advance dt).time.utcOffset = s.time.utcOffset := by
  obtain ⟨n, a, b, c, f, t, m, x, y, h⟩ := s.advance_eq dt; rw [h]
@[simp] theorem State.advance_time_leap61 (s : State) (dt : Nat) : (s.advance dt).time.leap61 = s.time.leap61 := by
  obtain ⟨n, a, b, c, f, t, m, x, y, h⟩ := s.advance_eq dt; rw [h]
@[simp] theorem State.advance_time_leap59 (s : State) (dt : Nat) : (s.advance dt).time.leap59 = s.time.leap59 := by
  obtain ⟨n, a, b, c, f, t, m, x, y, h⟩ := s.advance_eq dt; rw [h]
@[simp] theorem State.advance_time_loadEntry (s : State) (dt : Nat) : (s.advance dt).time.loadEntry = s.time.loadEntry := by
  obtain ⟨n, a, b, c, f, t, m, x, y, h⟩ := s.advance_eq dt; rw [h]
@[simp] theorem State.advance_time_rotating (s : State) (dt : Nat) : (s.advance dt).time.rotating = s.time.rotating := by
  obtain ⟨n, a, b, c, f, t, m, x, y, h⟩ := s.advance_eq dt; rw [h]
@[simp] theorem State.advance_time_rotatePhase (s : State) (dt : Nat) : (s.advance dt).time.rotatePhase = s.time.rotatePhase := by
  obtain ⟨n, a, b, c, f, t, m, x, y, h⟩ := s.advance_eq dt; rw [h]
@[simp] theorem State.advance_time_rotateFrom (s : State) (dt : Nat) : (s.advance dt).time.rotateFrom = s.time.rotateFrom := by
  obtain ⟨n, a, b, c, f, t, m, x, y, h⟩ := s.advance_eq dt; rw [h]
@[simp] theorem State.advance_time_stoppedAt (s : State) (dt : Nat) : (s.advance dt).time.stoppedAt = s.time.stoppedAt := by
  obtain ⟨n, a, b, c, f, t, m, x, y, h⟩ := s.advance_eq dt; rw [h]
@[simp] theorem State.advance_time_tsSeq (s : State) (dt : Nat) : (s.advance dt).time.tsSeq = s.time.tsSeq := by
  obtain ⟨n, a, b, c, f, t, m, x, y, h⟩ := s.advance_eq dt; rw [h]
@[simp] theorem State.advance_time_tsNs (s : State) (dt : Nat) : (s.advance dt).time.tsNs = s.time.tsNs := by
  obtain ⟨n, a, b, c, f, t, m, x, y, h⟩ := s.advance_eq dt; rw [h]
@[simp] theorem State.advance_time_tsFrac (s : State) (dt : Nat) : (s.advance dt).time.tsFrac = s.time.tsFrac := by
  obtain ⟨n, a, b, c, f, t, m, x, y, h⟩ := s.advance_eq dt; rw [h]
@[simp] theorem State.advance_time_tsState (s : State) (dt : Nat) : (s.advance dt).time.tsState = s.time.tsState := by
  obtain ⟨n, a, b, c, f, t, m, x, y, h⟩ := s.advance_eq dt; rw [h]
@[simp] theorem State.advance_time_compares (s : State) (dt : Nat) : (s.advance dt).time.compares = s.time.compares := by
  obtain ⟨n, a, b, c, f, t, m, x, y, h⟩ := s.advance_eq dt; rw [h]
@[simp] theorem State.advance_mono (s : State) (dt : Nat) : (s.advance dt).time.mono = s.time.mono + dt := by
  obtain ⟨n, a, b, c, f, t, m, x, y, h⟩ := s.advance_eq dt; rw [h]
@[simp] theorem State.advance_out (s : State) (dt : Nat) : (s.advance dt).out = [] := by
  obtain ⟨n, a, b, c, f, t, m, x, y, h⟩ := s.advance_eq dt; rw [h]

/-! ### INT_N and free values -/

theorem pulseInt_eq (s : State) : ∃ i o, pulseInt s = { s with board.intAt := i, out := o } ∧ ∀ x ∈ s.out, x ∈ o := by
  unfold pulseInt
  split
  · split
    · exact ⟨_, _, rfl, fun _ h => h⟩
    · exact ⟨_, _, rfl, fun _ h => List.mem_cons_of_mem _ h⟩
  · exact ⟨_, _, rfl, fun _ h => List.mem_cons_of_mem _ h⟩

@[simp] theorem pulseInt_part (s : State) : (pulseInt s).part = s.part := by
  obtain ⟨i, o, h, _⟩ := pulseInt_eq s; rw [h]
@[simp] theorem pulseInt_variant (s : State) : (pulseInt s).variant = s.variant := by
  obtain ⟨i, o, h, _⟩ := pulseInt_eq s; rw [h]
@[simp] theorem pulseInt_stepping (s : State) : (pulseInt s).stepping = s.stepping := by
  obtain ⟨i, o, h, _⟩ := pulseInt_eq s; rw [h]
@[simp] theorem pulseInt_serials (s : State) : (pulseInt s).serials = s.serials := by
  obtain ⟨i, o, h, _⟩ := pulseInt_eq s; rw [h]
@[simp] theorem pulseInt_macBase (s : State) : (pulseInt s).macBase = s.macBase := by
  obtain ⟨i, o, h, _⟩ := pulseInt_eq s; rw [h]
@[simp] theorem pulseInt_cmd (s : State) : (pulseInt s).cmd = s.cmd := by
  obtain ⟨i, o, h, _⟩ := pulseInt_eq s; rw [h]
@[simp] theorem pulseInt_time (s : State) : (pulseInt s).time = s.time := by
  obtain ⟨i, o, h, _⟩ := pulseInt_eq s; rw [h]
@[simp] theorem pulseInt_log (s : State) : (pulseInt s).log = s.log := by
  obtain ⟨i, o, h, _⟩ := pulseInt_eq s; rw [h]
@[simp] theorem pulseInt_power (s : State) : (pulseInt s).power = s.power := by
  obtain ⟨i, o, h, _⟩ := pulseInt_eq s; rw [h]
@[simp] theorem pulseInt_fwd (s : State) : (pulseInt s).fwd = s.fwd := by
  obtain ⟨i, o, h, _⟩ := pulseInt_eq s; rw [h]
@[simp] theorem pulseInt_port (s : State) : (pulseInt s).port = s.port := by
  obtain ⟨i, o, h, _⟩ := pulseInt_eq s; rw [h]
@[simp] theorem pulseInt_ref (s : State) : (pulseInt s).ref = s.ref := by
  obtain ⟨i, o, h, _⟩ := pulseInt_eq s; rw [h]
@[simp] theorem pulseInt_clk (s : State) : (pulseInt s).clk = s.clk := by
  obtain ⟨i, o, h, _⟩ := pulseInt_eq s; rw [h]
@[simp] theorem pulseInt_hier (s : State) : (pulseInt s).hier = s.hier := by
  obtain ⟨i, o, h, _⟩ := pulseInt_eq s; rw [h]
@[simp] theorem pulseInt_meas (s : State) : (pulseInt s).meas = s.meas := by
  obtain ⟨i, o, h, _⟩ := pulseInt_eq s; rw [h]
@[simp] theorem pulseInt_ctr (s : State) : (pulseInt s).ctr = s.ctr := by
  obtain ⟨i, o, h, _⟩ := pulseInt_eq s; rw [h]
@[simp] theorem pulseInt_cal (s : State) : (pulseInt s).cal = s.cal := by
  obtain ⟨i, o, h, _⟩ := pulseInt_eq s; rw [h]
@[simp] theorem pulseInt_pending (s : State) : (pulseInt s).pending = s.pending := by
  obtain ⟨i, o, h, _⟩ := pulseInt_eq s; rw [h]
@[simp] theorem pulseInt_freeIx (s : State) : (pulseInt s).freeIx = s.freeIx := by
  obtain ⟨i, o, h, _⟩ := pulseInt_eq s; rw [h]
@[simp] theorem pulseInt_board_active (s : State) : (pulseInt s).board.active = s.board.active := by
  obtain ⟨i, o, h, _⟩ := pulseInt_eq s; rw [h]
@[simp] theorem pulseInt_board_modctl (s : State) : (pulseInt s).board.modctl = s.board.modctl := by
  obtain ⟨i, o, h, _⟩ := pulseInt_eq s; rw [h]
@[simp] theorem pulseInt_board_modWrites (s : State) : (pulseInt s).board.modWrites = s.board.modWrites := by
  obtain ⟨i, o, h, _⟩ := pulseInt_eq s; rw [h]
@[simp] theorem pulseInt_board_modReset (s : State) : (pulseInt s).board.modReset = s.board.modReset := by
  obtain ⟨i, o, h, _⟩ := pulseInt_eq s; rw [h]
@[simp] theorem pulseInt_board_scan (s : State) : (pulseInt s).board.scan = s.board.scan := by
  obtain ⟨i, o, h, _⟩ := pulseInt_eq s; rw [h]

@[simp] theorem draw_part (n : Nat) (s : State) : ((draw n s).2).part = s.part := rfl
@[simp] theorem draw_variant (n : Nat) (s : State) : ((draw n s).2).variant = s.variant := rfl
@[simp] theorem draw_stepping (n : Nat) (s : State) : ((draw n s).2).stepping = s.stepping := rfl
@[simp] theorem draw_serials (n : Nat) (s : State) : ((draw n s).2).serials = s.serials := rfl
@[simp] theorem draw_macBase (n : Nat) (s : State) : ((draw n s).2).macBase = s.macBase := rfl
@[simp] theorem draw_cmd (n : Nat) (s : State) : ((draw n s).2).cmd = s.cmd := rfl
@[simp] theorem draw_time (n : Nat) (s : State) : ((draw n s).2).time = s.time := rfl
@[simp] theorem draw_log (n : Nat) (s : State) : ((draw n s).2).log = s.log := rfl
@[simp] theorem draw_power (n : Nat) (s : State) : ((draw n s).2).power = s.power := rfl
@[simp] theorem draw_fwd (n : Nat) (s : State) : ((draw n s).2).fwd = s.fwd := rfl
@[simp] theorem draw_port (n : Nat) (s : State) : ((draw n s).2).port = s.port := rfl
@[simp] theorem draw_ref (n : Nat) (s : State) : ((draw n s).2).ref = s.ref := rfl
@[simp] theorem draw_clk (n : Nat) (s : State) : ((draw n s).2).clk = s.clk := rfl
@[simp] theorem draw_hier (n : Nat) (s : State) : ((draw n s).2).hier = s.hier := rfl
@[simp] theorem draw_meas (n : Nat) (s : State) : ((draw n s).2).meas = s.meas := rfl
@[simp] theorem draw_ctr (n : Nat) (s : State) : ((draw n s).2).ctr = s.ctr := rfl
@[simp] theorem draw_cal (n : Nat) (s : State) : ((draw n s).2).cal = s.cal := rfl
@[simp] theorem draw_board (n : Nat) (s : State) : ((draw n s).2).board = s.board := rfl
@[simp] theorem draw_pending (n : Nat) (s : State) : ((draw n s).2).pending = s.pending := rfl
@[simp] theorem draw_out (n : Nat) (s : State) : ((draw n s).2).out = s.out := rfl
@[simp] theorem drawBit_part (s : State) : ((drawBit s).2).part = s.part := rfl
@[simp] theorem drawBit_variant (s : State) : ((drawBit s).2).variant = s.variant := rfl
@[simp] theorem drawBit_stepping (s : State) : ((drawBit s).2).stepping = s.stepping := rfl
@[simp] theorem drawBit_serials (s : State) : ((drawBit s).2).serials = s.serials := rfl
@[simp] theorem drawBit_macBase (s : State) : ((drawBit s).2).macBase = s.macBase := rfl
@[simp] theorem drawBit_cmd (s : State) : ((drawBit s).2).cmd = s.cmd := rfl
@[simp] theorem drawBit_time (s : State) : ((drawBit s).2).time = s.time := rfl
@[simp] theorem drawBit_log (s : State) : ((drawBit s).2).log = s.log := rfl
@[simp] theorem drawBit_power (s : State) : ((drawBit s).2).power = s.power := rfl
@[simp] theorem drawBit_fwd (s : State) : ((drawBit s).2).fwd = s.fwd := rfl
@[simp] theorem drawBit_port (s : State) : ((drawBit s).2).port = s.port := rfl
@[simp] theorem drawBit_ref (s : State) : ((drawBit s).2).ref = s.ref := rfl
@[simp] theorem drawBit_clk (s : State) : ((drawBit s).2).clk = s.clk := rfl
@[simp] theorem drawBit_hier (s : State) : ((drawBit s).2).hier = s.hier := rfl
@[simp] theorem drawBit_meas (s : State) : ((drawBit s).2).meas = s.meas := rfl
@[simp] theorem drawBit_ctr (s : State) : ((drawBit s).2).ctr = s.ctr := rfl
@[simp] theorem drawBit_cal (s : State) : ((drawBit s).2).cal = s.cal := rfl
@[simp] theorem drawBit_board (s : State) : ((drawBit s).2).board = s.board := rfl
@[simp] theorem drawBit_pending (s : State) : ((drawBit s).2).pending = s.pending := rfl
@[simp] theorem drawBit_out (s : State) : ((drawBit s).2).out = s.out := rfl

/-! ### Counters -/

theorem addKey_eq (k n : Nat) (s : State) : ∃ c, addKey k n s = { s with ctr.live := c } := by
  unfold addKey
  split
  · exact ⟨_, rfl⟩
  · exact ⟨s.ctr.live, rfl⟩

@[simp] theorem addKey_part (k n : Nat) (s : State) : (addKey k n s).part = s.part := by
  obtain ⟨c, h⟩ := addKey_eq k n s; rw [h]
@[simp] theorem addKey_variant (k n : Nat) (s : State) : (addKey k n s).variant = s.variant := by
  obtain ⟨c, h⟩ := addKey_eq k n s; rw [h]
@[simp] theorem addKey_stepping (k n : Nat) (s : State) : (addKey k n s).stepping = s.stepping := by
  obtain ⟨c, h⟩ := addKey_eq k n s; rw [h]
@[simp] theorem addKey_serials (k n : Nat) (s : State) : (addKey k n s).serials = s.serials := by
  obtain ⟨c, h⟩ := addKey_eq k n s; rw [h]
@[simp] theorem addKey_macBase (k n : Nat) (s : State) : (addKey k n s).macBase = s.macBase := by
  obtain ⟨c, h⟩ := addKey_eq k n s; rw [h]
@[simp] theorem addKey_cmd (k n : Nat) (s : State) : (addKey k n s).cmd = s.cmd := by
  obtain ⟨c, h⟩ := addKey_eq k n s; rw [h]
@[simp] theorem addKey_time (k n : Nat) (s : State) : (addKey k n s).time = s.time := by
  obtain ⟨c, h⟩ := addKey_eq k n s; rw [h]
@[simp] theorem addKey_log (k n : Nat) (s : State) : (addKey k n s).log = s.log := by
  obtain ⟨c, h⟩ := addKey_eq k n s; rw [h]
@[simp] theorem addKey_power (k n : Nat) (s : State) : (addKey k n s).power = s.power := by
  obtain ⟨c, h⟩ := addKey_eq k n s; rw [h]
@[simp] theorem addKey_fwd (k n : Nat) (s : State) : (addKey k n s).fwd = s.fwd := by
  obtain ⟨c, h⟩ := addKey_eq k n s; rw [h]
@[simp] theorem addKey_port (k n : Nat) (s : State) : (addKey k n s).port = s.port := by
  obtain ⟨c, h⟩ := addKey_eq k n s; rw [h]
@[simp] theorem addKey_ref (k n : Nat) (s : State) : (addKey k n s).ref = s.ref := by
  obtain ⟨c, h⟩ := addKey_eq k n s; rw [h]
@[simp] theorem addKey_clk (k n : Nat) (s : State) : (addKey k n s).clk = s.clk := by
  obtain ⟨c, h⟩ := addKey_eq k n s; rw [h]
@[simp] theorem addKey_hier (k n : Nat) (s : State) : (addKey k n s).hier = s.hier := by
  obtain ⟨c, h⟩ := addKey_eq k n s; rw [h]
@[simp] theorem addKey_meas (k n : Nat) (s : State) : (addKey k n s).meas = s.meas := by
  obtain ⟨c, h⟩ := addKey_eq k n s; rw [h]
@[simp] theorem addKey_cal (k n : Nat) (s : State) : (addKey k n s).cal = s.cal := by
  obtain ⟨c, h⟩ := addKey_eq k n s; rw [h]
@[simp] theorem addKey_board (k n : Nat) (s : State) : (addKey k n s).board = s.board := by
  obtain ⟨c, h⟩ := addKey_eq k n s; rw [h]
@[simp] theorem addKey_pending (k n : Nat) (s : State) : (addKey k n s).pending = s.pending := by
  obtain ⟨c, h⟩ := addKey_eq k n s; rw [h]
@[simp] theorem addKey_freeIx (k n : Nat) (s : State) : (addKey k n s).freeIx = s.freeIx := by
  obtain ⟨c, h⟩ := addKey_eq k n s; rw [h]
@[simp] theorem addKey_out (k n : Nat) (s : State) : (addKey k n s).out = s.out := by
  obtain ⟨c, h⟩ := addKey_eq k n s; rw [h]
@[simp] theorem addKey_ctr_running (k n : Nat) (s : State) : (addKey k n s).ctr.running = s.ctr.running := by
  obtain ⟨c, h⟩ := addKey_eq k n s; rw [h]
@[simp] theorem addKey_ctr_latching (k n : Nat) (s : State) : (addKey k n s).ctr.latching = s.ctr.latching := by
  obtain ⟨c, h⟩ := addKey_eq k n s; rw [h]
@[simp] theorem addKey_ctr_window (k n : Nat) (s : State) : (addKey k n s).ctr.window = s.ctr.window := by
  obtain ⟨c, h⟩ := addKey_eq k n s; rw [h]
@[simp] theorem addKey_ctr_snapSeq (k n : Nat) (s : State) : (addKey k n s).ctr.snapSeq = s.ctr.snapSeq := by
  obtain ⟨c, h⟩ := addKey_eq k n s; rw [h]
@[simp] theorem addKey_ctr_latched (k n : Nat) (s : State) : (addKey k n s).ctr.latched = s.ctr.latched := by
  obtain ⟨c, h⟩ := addKey_eq k n s; rw [h]
@[simp] theorem addKey_ctr_skipped (k n : Nat) (s : State) : (addKey k n s).ctr.skipped = s.ctr.skipped := by
  obtain ⟨c, h⟩ := addKey_eq k n s; rw [h]
@[simp] theorem addKey_ctr_interval (k n : Nat) (s : State) : (addKey k n s).ctr.interval = s.ctr.interval := by
  obtain ⟨c, h⟩ := addKey_eq k n s; rw [h]
@[simp] theorem addKey_ctr_filters (k n : Nat) (s : State) : (addKey k n s).ctr.filters = s.ctr.filters := by
  obtain ⟨c, h⟩ := addKey_eq k n s; rw [h]
@[simp] theorem addKey_ctr_restarts (k n : Nat) (s : State) : (addKey k n s).ctr.restarts = s.ctr.restarts := by
  obtain ⟨c, h⟩ := addKey_eq k n s; rw [h]
@[simp] theorem addKey_ctr_tagK (k n : Nat) (s : State) : (addKey k n s).ctr.tagK = s.ctr.tagK := by
  obtain ⟨c, h⟩ := addKey_eq k n s; rw [h]
@[simp] theorem addKey_ctr_tagPipelines (k n : Nat) (s : State) : (addKey k n s).ctr.tagPipelines = s.ctr.tagPipelines := by
  obtain ⟨c, h⟩ := addKey_eq k n s; rw [h]
@[simp] theorem addKey_ctr_tagSeed (k n : Nat) (s : State) : (addKey k n s).ctr.tagSeed = s.ctr.tagSeed := by
  obtain ⟨c, h⟩ := addKey_eq k n s; rw [h]
@[simp] theorem addKey_ctr_lfsrs (k n : Nat) (s : State) : (addKey k n s).ctr.lfsrs = s.ctr.lfsrs := by
  obtain ⟨c, h⟩ := addKey_eq k n s; rw [h]
@[simp] theorem addKey_ctr_tagId (k n : Nat) (s : State) : (addKey k n s).ctr.tagId = s.ctr.tagId := by
  obtain ⟨c, h⟩ := addKey_eq k n s; rw [h]
@[simp] theorem addKey_ctr_tagQ (k n : Nat) (s : State) : (addKey k n s).ctr.tagQ = s.ctr.tagQ := by
  obtain ⟨c, h⟩ := addKey_eq k n s; rw [h]

@[simp] theorem countDevice_part (i : Nat) (s : State) : (countDevice i s).part = s.part := by simp [countDevice]
@[simp] theorem countDevice_variant (i : Nat) (s : State) : (countDevice i s).variant = s.variant := by simp [countDevice]
@[simp] theorem countDevice_stepping (i : Nat) (s : State) : (countDevice i s).stepping = s.stepping := by simp [countDevice]
@[simp] theorem countDevice_serials (i : Nat) (s : State) : (countDevice i s).serials = s.serials := by simp [countDevice]
@[simp] theorem countDevice_macBase (i : Nat) (s : State) : (countDevice i s).macBase = s.macBase := by simp [countDevice]
@[simp] theorem countDevice_cmd (i : Nat) (s : State) : (countDevice i s).cmd = s.cmd := by simp [countDevice]
@[simp] theorem countDevice_time (i : Nat) (s : State) : (countDevice i s).time = s.time := by simp [countDevice]
@[simp] theorem countDevice_log (i : Nat) (s : State) : (countDevice i s).log = s.log := by simp [countDevice]
@[simp] theorem countDevice_power (i : Nat) (s : State) : (countDevice i s).power = s.power := by simp [countDevice]
@[simp] theorem countDevice_fwd (i : Nat) (s : State) : (countDevice i s).fwd = s.fwd := by simp [countDevice]
@[simp] theorem countDevice_port (i : Nat) (s : State) : (countDevice i s).port = s.port := by simp [countDevice]
@[simp] theorem countDevice_ref (i : Nat) (s : State) : (countDevice i s).ref = s.ref := by simp [countDevice]
@[simp] theorem countDevice_clk (i : Nat) (s : State) : (countDevice i s).clk = s.clk := by simp [countDevice]
@[simp] theorem countDevice_hier (i : Nat) (s : State) : (countDevice i s).hier = s.hier := by simp [countDevice]
@[simp] theorem countDevice_meas (i : Nat) (s : State) : (countDevice i s).meas = s.meas := by simp [countDevice]
@[simp] theorem countDevice_cal (i : Nat) (s : State) : (countDevice i s).cal = s.cal := by simp [countDevice]
@[simp] theorem countDevice_board (i : Nat) (s : State) : (countDevice i s).board = s.board := by simp [countDevice]
@[simp] theorem countDevice_pending (i : Nat) (s : State) : (countDevice i s).pending = s.pending := by simp [countDevice]
@[simp] theorem countDevice_freeIx (i : Nat) (s : State) : (countDevice i s).freeIx = s.freeIx := by simp [countDevice]
@[simp] theorem countDevice_out (i : Nat) (s : State) : (countDevice i s).out = s.out := by simp [countDevice]
@[simp] theorem countDevice_ctr_running (i : Nat) (s : State) : (countDevice i s).ctr.running = s.ctr.running := by simp [countDevice]
@[simp] theorem countDevice_ctr_latching (i : Nat) (s : State) : (countDevice i s).ctr.latching = s.ctr.latching := by simp [countDevice]
@[simp] theorem countDevice_ctr_window (i : Nat) (s : State) : (countDevice i s).ctr.window = s.ctr.window := by simp [countDevice]
@[simp] theorem countDevice_ctr_snapSeq (i : Nat) (s : State) : (countDevice i s).ctr.snapSeq = s.ctr.snapSeq := by simp [countDevice]
@[simp] theorem countDevice_ctr_latched (i : Nat) (s : State) : (countDevice i s).ctr.latched = s.ctr.latched := by simp [countDevice]
@[simp] theorem countDevice_ctr_skipped (i : Nat) (s : State) : (countDevice i s).ctr.skipped = s.ctr.skipped := by simp [countDevice]
@[simp] theorem countDevice_ctr_interval (i : Nat) (s : State) : (countDevice i s).ctr.interval = s.ctr.interval := by simp [countDevice]
@[simp] theorem countDevice_ctr_filters (i : Nat) (s : State) : (countDevice i s).ctr.filters = s.ctr.filters := by simp [countDevice]
@[simp] theorem countDevice_ctr_restarts (i : Nat) (s : State) : (countDevice i s).ctr.restarts = s.ctr.restarts := by simp [countDevice]
@[simp] theorem countDevice_ctr_tagK (i : Nat) (s : State) : (countDevice i s).ctr.tagK = s.ctr.tagK := by simp [countDevice]
@[simp] theorem countDevice_ctr_tagPipelines (i : Nat) (s : State) : (countDevice i s).ctr.tagPipelines = s.ctr.tagPipelines := by simp [countDevice]
@[simp] theorem countDevice_ctr_tagSeed (i : Nat) (s : State) : (countDevice i s).ctr.tagSeed = s.ctr.tagSeed := by simp [countDevice]
@[simp] theorem countDevice_ctr_lfsrs (i : Nat) (s : State) : (countDevice i s).ctr.lfsrs = s.ctr.lfsrs := by simp [countDevice]
@[simp] theorem countDevice_ctr_tagId (i : Nat) (s : State) : (countDevice i s).ctr.tagId = s.ctr.tagId := by simp [countDevice]
@[simp] theorem countDevice_ctr_tagQ (i : Nat) (s : State) : (countDevice i s).ctr.tagQ = s.ctr.tagQ := by simp [countDevice]

@[simp] theorem countTime_part (p i : Nat) (s : State) : (countTime p i s).part = s.part := by simp [countTime]
@[simp] theorem countTime_variant (p i : Nat) (s : State) : (countTime p i s).variant = s.variant := by simp [countTime]
@[simp] theorem countTime_stepping (p i : Nat) (s : State) : (countTime p i s).stepping = s.stepping := by simp [countTime]
@[simp] theorem countTime_serials (p i : Nat) (s : State) : (countTime p i s).serials = s.serials := by simp [countTime]
@[simp] theorem countTime_macBase (p i : Nat) (s : State) : (countTime p i s).macBase = s.macBase := by simp [countTime]
@[simp] theorem countTime_cmd (p i : Nat) (s : State) : (countTime p i s).cmd = s.cmd := by simp [countTime]
@[simp] theorem countTime_time (p i : Nat) (s : State) : (countTime p i s).time = s.time := by simp [countTime]
@[simp] theorem countTime_log (p i : Nat) (s : State) : (countTime p i s).log = s.log := by simp [countTime]
@[simp] theorem countTime_power (p i : Nat) (s : State) : (countTime p i s).power = s.power := by simp [countTime]
@[simp] theorem countTime_fwd (p i : Nat) (s : State) : (countTime p i s).fwd = s.fwd := by simp [countTime]
@[simp] theorem countTime_port (p i : Nat) (s : State) : (countTime p i s).port = s.port := by simp [countTime]
@[simp] theorem countTime_ref (p i : Nat) (s : State) : (countTime p i s).ref = s.ref := by simp [countTime]
@[simp] theorem countTime_clk (p i : Nat) (s : State) : (countTime p i s).clk = s.clk := by simp [countTime]
@[simp] theorem countTime_hier (p i : Nat) (s : State) : (countTime p i s).hier = s.hier := by simp [countTime]
@[simp] theorem countTime_meas (p i : Nat) (s : State) : (countTime p i s).meas = s.meas := by simp [countTime]
@[simp] theorem countTime_cal (p i : Nat) (s : State) : (countTime p i s).cal = s.cal := by simp [countTime]
@[simp] theorem countTime_board (p i : Nat) (s : State) : (countTime p i s).board = s.board := by simp [countTime]
@[simp] theorem countTime_pending (p i : Nat) (s : State) : (countTime p i s).pending = s.pending := by simp [countTime]
@[simp] theorem countTime_freeIx (p i : Nat) (s : State) : (countTime p i s).freeIx = s.freeIx := by simp [countTime]
@[simp] theorem countTime_out (p i : Nat) (s : State) : (countTime p i s).out = s.out := by simp [countTime]
@[simp] theorem countTime_ctr_running (p i : Nat) (s : State) : (countTime p i s).ctr.running = s.ctr.running := by simp [countTime]
@[simp] theorem countTime_ctr_latching (p i : Nat) (s : State) : (countTime p i s).ctr.latching = s.ctr.latching := by simp [countTime]
@[simp] theorem countTime_ctr_window (p i : Nat) (s : State) : (countTime p i s).ctr.window = s.ctr.window := by simp [countTime]
@[simp] theorem countTime_ctr_snapSeq (p i : Nat) (s : State) : (countTime p i s).ctr.snapSeq = s.ctr.snapSeq := by simp [countTime]
@[simp] theorem countTime_ctr_latched (p i : Nat) (s : State) : (countTime p i s).ctr.latched = s.ctr.latched := by simp [countTime]
@[simp] theorem countTime_ctr_skipped (p i : Nat) (s : State) : (countTime p i s).ctr.skipped = s.ctr.skipped := by simp [countTime]
@[simp] theorem countTime_ctr_interval (p i : Nat) (s : State) : (countTime p i s).ctr.interval = s.ctr.interval := by simp [countTime]
@[simp] theorem countTime_ctr_filters (p i : Nat) (s : State) : (countTime p i s).ctr.filters = s.ctr.filters := by simp [countTime]
@[simp] theorem countTime_ctr_restarts (p i : Nat) (s : State) : (countTime p i s).ctr.restarts = s.ctr.restarts := by simp [countTime]
@[simp] theorem countTime_ctr_tagK (p i : Nat) (s : State) : (countTime p i s).ctr.tagK = s.ctr.tagK := by simp [countTime]
@[simp] theorem countTime_ctr_tagPipelines (p i : Nat) (s : State) : (countTime p i s).ctr.tagPipelines = s.ctr.tagPipelines := by simp [countTime]
@[simp] theorem countTime_ctr_tagSeed (p i : Nat) (s : State) : (countTime p i s).ctr.tagSeed = s.ctr.tagSeed := by simp [countTime]
@[simp] theorem countTime_ctr_lfsrs (p i : Nat) (s : State) : (countTime p i s).ctr.lfsrs = s.ctr.lfsrs := by simp [countTime]
@[simp] theorem countTime_ctr_tagId (p i : Nat) (s : State) : (countTime p i s).ctr.tagId = s.ctr.tagId := by simp [countTime]
@[simp] theorem countTime_ctr_tagQ (p i : Nat) (s : State) : (countTime p i s).ctr.tagQ = s.ctr.tagQ := by simp [countTime]

/-! ### Rings and events -/

theorem ringPush_eq (k : RingKind) (x : List Byte) (s : State) : ∃ r, (ringPush k x s).2 = { s with cmd.rings := r } := by
  unfold ringPush
  split
  · exact ⟨s.cmd.rings, rfl⟩
  · exact ⟨_, rfl⟩
  · dsimp only
    split <;> exact ⟨_, rfl⟩

@[simp] theorem ringPush_part (k : RingKind) (x : List Byte) (s : State) : ((ringPush k x s).2).part = s.part := by
  obtain ⟨r, h⟩ := ringPush_eq k x s; rw [h]
@[simp] theorem ringPush_variant (k : RingKind) (x : List Byte) (s : State) : ((ringPush k x s).2).variant = s.variant := by
  obtain ⟨r, h⟩ := ringPush_eq k x s; rw [h]
@[simp] theorem ringPush_stepping (k : RingKind) (x : List Byte) (s : State) : ((ringPush k x s).2).stepping = s.stepping := by
  obtain ⟨r, h⟩ := ringPush_eq k x s; rw [h]
@[simp] theorem ringPush_serials (k : RingKind) (x : List Byte) (s : State) : ((ringPush k x s).2).serials = s.serials := by
  obtain ⟨r, h⟩ := ringPush_eq k x s; rw [h]
@[simp] theorem ringPush_macBase (k : RingKind) (x : List Byte) (s : State) : ((ringPush k x s).2).macBase = s.macBase := by
  obtain ⟨r, h⟩ := ringPush_eq k x s; rw [h]
@[simp] theorem ringPush_time (k : RingKind) (x : List Byte) (s : State) : ((ringPush k x s).2).time = s.time := by
  obtain ⟨r, h⟩ := ringPush_eq k x s; rw [h]
@[simp] theorem ringPush_log (k : RingKind) (x : List Byte) (s : State) : ((ringPush k x s).2).log = s.log := by
  obtain ⟨r, h⟩ := ringPush_eq k x s; rw [h]
@[simp] theorem ringPush_power (k : RingKind) (x : List Byte) (s : State) : ((ringPush k x s).2).power = s.power := by
  obtain ⟨r, h⟩ := ringPush_eq k x s; rw [h]
@[simp] theorem ringPush_fwd (k : RingKind) (x : List Byte) (s : State) : ((ringPush k x s).2).fwd = s.fwd := by
  obtain ⟨r, h⟩ := ringPush_eq k x s; rw [h]
@[simp] theorem ringPush_port (k : RingKind) (x : List Byte) (s : State) : ((ringPush k x s).2).port = s.port := by
  obtain ⟨r, h⟩ := ringPush_eq k x s; rw [h]
@[simp] theorem ringPush_ref (k : RingKind) (x : List Byte) (s : State) : ((ringPush k x s).2).ref = s.ref := by
  obtain ⟨r, h⟩ := ringPush_eq k x s; rw [h]
@[simp] theorem ringPush_clk (k : RingKind) (x : List Byte) (s : State) : ((ringPush k x s).2).clk = s.clk := by
  obtain ⟨r, h⟩ := ringPush_eq k x s; rw [h]
@[simp] theorem ringPush_hier (k : RingKind) (x : List Byte) (s : State) : ((ringPush k x s).2).hier = s.hier := by
  obtain ⟨r, h⟩ := ringPush_eq k x s; rw [h]
@[simp] theorem ringPush_meas (k : RingKind) (x : List Byte) (s : State) : ((ringPush k x s).2).meas = s.meas := by
  obtain ⟨r, h⟩ := ringPush_eq k x s; rw [h]
@[simp] theorem ringPush_ctr (k : RingKind) (x : List Byte) (s : State) : ((ringPush k x s).2).ctr = s.ctr := by
  obtain ⟨r, h⟩ := ringPush_eq k x s; rw [h]
@[simp] theorem ringPush_cal (k : RingKind) (x : List Byte) (s : State) : ((ringPush k x s).2).cal = s.cal := by
  obtain ⟨r, h⟩ := ringPush_eq k x s; rw [h]
@[simp] theorem ringPush_board (k : RingKind) (x : List Byte) (s : State) : ((ringPush k x s).2).board = s.board := by
  obtain ⟨r, h⟩ := ringPush_eq k x s; rw [h]
@[simp] theorem ringPush_pending (k : RingKind) (x : List Byte) (s : State) : ((ringPush k x s).2).pending = s.pending := by
  obtain ⟨r, h⟩ := ringPush_eq k x s; rw [h]
@[simp] theorem ringPush_freeIx (k : RingKind) (x : List Byte) (s : State) : ((ringPush k x s).2).freeIx = s.freeIx := by
  obtain ⟨r, h⟩ := ringPush_eq k x s; rw [h]
@[simp] theorem ringPush_out (k : RingKind) (x : List Byte) (s : State) : ((ringPush k x s).2).out = s.out := by
  obtain ⟨r, h⟩ := ringPush_eq k x s; rw [h]
@[simp] theorem ringPush_cmd_commits (k : RingKind) (x : List Byte) (s : State) : ((ringPush k x s).2).cmd.commits = s.cmd.commits := by
  obtain ⟨r, h⟩ := ringPush_eq k x s; rw [h]
@[simp] theorem ringPush_cmd_holder (k : RingKind) (x : List Byte) (s : State) : ((ringPush k x s).2).cmd.holder = s.cmd.holder := by
  obtain ⟨r, h⟩ := ringPush_eq k x s; rw [h]
@[simp] theorem ringPush_cmd_lease (k : RingKind) (x : List Byte) (s : State) : ((ringPush k x s).2).cmd.lease = s.cmd.lease := by
  obtain ⟨r, h⟩ := ringPush_eq k x s; rw [h]
@[simp] theorem ringPush_cmd_leaseFrom (k : RingKind) (x : List Byte) (s : State) : ((ringPush k x s).2).cmd.leaseFrom = s.cmd.leaseFrom := by
  obtain ⟨r, h⟩ := ringPush_eq k x s; rw [h]
@[simp] theorem ringPush_cmd_pcieSeq (k : RingKind) (x : List Byte) (s : State) : ((ringPush k x s).2).cmd.pcieSeq = s.cmd.pcieSeq := by
  obtain ⟨r, h⟩ := ringPush_eq k x s; rw [h]
@[simp] theorem ringPush_cmd_mgmtSeq (k : RingKind) (x : List Byte) (s : State) : ((ringPush k x s).2).cmd.mgmtSeq = s.cmd.mgmtSeq := by
  obtain ⟨r, h⟩ := ringPush_eq k x s; rw [h]
@[simp] theorem ringPush_cmd_inbandLast (k : RingKind) (x : List Byte) (s : State) : ((ringPush k x s).2).cmd.inbandLast = s.cmd.inbandLast := by
  obtain ⟨r, h⟩ := ringPush_eq k x s; rw [h]
@[simp] theorem ringPush_cmd_mailboxes (k : RingKind) (x : List Byte) (s : State) : ((ringPush k x s).2).cmd.mailboxes = s.cmd.mailboxes := by
  obtain ⟨r, h⟩ := ringPush_eq k x s; rw [h]
@[simp] theorem ringPush_cmd_notifyPcie (k : RingKind) (x : List Byte) (s : State) : ((ringPush k x s).2).cmd.notifyPcie = s.cmd.notifyPcie := by
  obtain ⟨r, h⟩ := ringPush_eq k x s; rw [h]
@[simp] theorem ringPush_cmd_notifyMgmt (k : RingKind) (x : List Byte) (s : State) : ((ringPush k x s).2).cmd.notifyMgmt = s.cmd.notifyMgmt := by
  obtain ⟨r, h⟩ := ringPush_eq k x s; rw [h]
@[simp] theorem ringPush_cmd_notifyInband (k : RingKind) (x : List Byte) (s : State) : ((ringPush k x s).2).cmd.notifyInband = s.cmd.notifyInband := by
  obtain ⟨r, h⟩ := ringPush_eq k x s; rw [h]
@[simp] theorem ringPush_cmd_mgmt (k : RingKind) (x : List Byte) (s : State) : ((ringPush k x s).2).cmd.mgmt = s.cmd.mgmt := by
  obtain ⟨r, h⟩ := ringPush_eq k x s; rw [h]
@[simp] theorem ringPush_cmd_outstanding (k : RingKind) (x : List Byte) (s : State) : ((ringPush k x s).2).cmd.outstanding = s.cmd.outstanding := by
  obtain ⟨r, h⟩ := ringPush_eq k x s; rw [h]
@[simp] theorem ringPush_cmd_inbandSeq (k : RingKind) (x : List Byte) (s : State) : ((ringPush k x s).2).cmd.inbandSeq = s.cmd.inbandSeq := by
  obtain ⟨r, h⟩ := ringPush_eq k x s; rw [h]
@[simp] theorem ringPush_cmd_controllerUp (k : RingKind) (x : List Byte) (s : State) : ((ringPush k x s).2).cmd.controllerUp = s.cmd.controllerUp := by
  obtain ⟨r, h⟩ := ringPush_eq k x s; rw [h]
@[simp] theorem ringPush_cmd_controllerReset (k : RingKind) (x : List Byte) (s : State) : ((ringPush k x s).2).cmd.controllerReset = s.cmd.controllerReset := by
  obtain ⟨r, h⟩ := ringPush_eq k x s; rw [h]
@[simp] theorem ringPush_cmd_firmwareFault (k : RingKind) (x : List Byte) (s : State) : ((ringPush k x s).2).cmd.firmwareFault = s.cmd.firmwareFault := by
  obtain ⟨r, h⟩ := ringPush_eq k x s; rw [h]

theorem accept_eq (r : Record) (s : State) : ∃ l g m i o, accept r s =
    { s with log := l, cmd.rings := g, hier.mirrorQ := m, board.intAt := i, out := o } ∧ ∀ x ∈ s.out, x ∈ o := by
  unfold accept
  dsimp only
  obtain ⟨g, hg⟩ := ringPush_eq .event { r with seq := s.log.next }.bytes { s with log.next := s.log.next + 1 }
  rw [hg]
  (repeat' split) <;> first
    | exact ⟨_, _, _, _, _, rfl, fun _ h => h⟩
    | (refine (pulseInt_eq _).elim fun i hi => hi.elim fun o ho => ⟨_, _, _, i, o, ho.1, fun x h => ho.2 x h⟩)

theorem accept_of_log (r : Record) (u s : State) (h : ∃ l, u = { s with log := l }) : ∃ l g m i o, accept r u =
    { s with log := l, cmd.rings := g, hier.mirrorQ := m, board.intAt := i, out := o } ∧ ∀ x ∈ s.out, x ∈ o := by
  obtain ⟨l, rfl⟩ := h
  obtain ⟨l2, g, m, i, o, e, ho⟩ := accept_eq r { s with log := l }
  exact ⟨l2, g, m, i, o, e, ho⟩

theorem raiseAt_eq (d : Nat) (v : Severity) (c : Nat) (p : List Byte) (s : State) : ∃ l g m i o, raiseAt d v c p s =
    { s with log := l, cmd.rings := g, hier.mirrorQ := m, board.intAt := i, out := o } ∧ ∀ x ∈ s.out, x ∈ o := by
  unfold raiseAt
  split
  · exact ⟨_, _, _, _, _, rfl, fun _ h => h⟩
  · dsimp only
    split
    · exact ⟨_, _, _, _, _, rfl, fun _ h => h⟩
    · generalize hs : (if s.time.mono / second = s.log.window then s else { s with log.window := s.time.mono / second, log.accepted := [] }) = u
      have hu : ∃ l, u = { s with log := l } := by
        rw [← hs]; split
        · exact ⟨s.log, rfl⟩
        · exact ⟨_, rfl⟩
      obtain ⟨l, rfl⟩ := hu
      split
      · exact ⟨_, _, _, _, _, rfl, fun _ h => h⟩
      · split
        · exact accept_of_log _ _ s ⟨_, rfl⟩
        · split <;> exact ⟨_, _, _, _, _, rfl, fun _ h => h⟩

@[simp] theorem raiseAt_part (d : Nat) (v : Severity) (c : Nat) (p : List Byte) (s : State) : (raiseAt d v c p s).part = s.part := by
  obtain ⟨l, g, m, i, o, h, _⟩ := raiseAt_eq d v c p s; rw [h]
@[simp] theorem raiseAt_variant (d : Nat) (v : Severity) (c : Nat) (p : List Byte) (s : State) : (raiseAt d v c p s).variant = s.variant := by
  obtain ⟨l, g, m, i, o, h, _⟩ := raiseAt_eq d v c p s; rw [h]
@[simp] theorem raiseAt_stepping (d : Nat) (v : Severity) (c : Nat) (p : List Byte) (s : State) : (raiseAt d v c p s).stepping = s.stepping := by
  obtain ⟨l, g, m, i, o, h, _⟩ := raiseAt_eq d v c p s; rw [h]
@[simp] theorem raiseAt_serials (d : Nat) (v : Severity) (c : Nat) (p : List Byte) (s : State) : (raiseAt d v c p s).serials = s.serials := by
  obtain ⟨l, g, m, i, o, h, _⟩ := raiseAt_eq d v c p s; rw [h]
@[simp] theorem raiseAt_macBase (d : Nat) (v : Severity) (c : Nat) (p : List Byte) (s : State) : (raiseAt d v c p s).macBase = s.macBase := by
  obtain ⟨l, g, m, i, o, h, _⟩ := raiseAt_eq d v c p s; rw [h]
@[simp] theorem raiseAt_time (d : Nat) (v : Severity) (c : Nat) (p : List Byte) (s : State) : (raiseAt d v c p s).time = s.time := by
  obtain ⟨l, g, m, i, o, h, _⟩ := raiseAt_eq d v c p s; rw [h]
@[simp] theorem raiseAt_power (d : Nat) (v : Severity) (c : Nat) (p : List Byte) (s : State) : (raiseAt d v c p s).power = s.power := by
  obtain ⟨l, g, m, i, o, h, _⟩ := raiseAt_eq d v c p s; rw [h]
@[simp] theorem raiseAt_fwd (d : Nat) (v : Severity) (c : Nat) (p : List Byte) (s : State) : (raiseAt d v c p s).fwd = s.fwd := by
  obtain ⟨l, g, m, i, o, h, _⟩ := raiseAt_eq d v c p s; rw [h]
@[simp] theorem raiseAt_port (d : Nat) (v : Severity) (c : Nat) (p : List Byte) (s : State) : (raiseAt d v c p s).port = s.port := by
  obtain ⟨l, g, m, i, o, h, _⟩ := raiseAt_eq d v c p s; rw [h]
@[simp] theorem raiseAt_ref (d : Nat) (v : Severity) (c : Nat) (p : List Byte) (s : State) : (raiseAt d v c p s).ref = s.ref := by
  obtain ⟨l, g, m, i, o, h, _⟩ := raiseAt_eq d v c p s; rw [h]
@[simp] theorem raiseAt_clk (d : Nat) (v : Severity) (c : Nat) (p : List Byte) (s : State) : (raiseAt d v c p s).clk = s.clk := by
  obtain ⟨l, g, m, i, o, h, _⟩ := raiseAt_eq d v c p s; rw [h]
@[simp] theorem raiseAt_meas (d : Nat) (v : Severity) (c : Nat) (p : List Byte) (s : State) : (raiseAt d v c p s).meas = s.meas := by
  obtain ⟨l, g, m, i, o, h, _⟩ := raiseAt_eq d v c p s; rw [h]
@[simp] theorem raiseAt_ctr (d : Nat) (v : Severity) (c : Nat) (p : List Byte) (s : State) : (raiseAt d v c p s).ctr = s.ctr := by
  obtain ⟨l, g, m, i, o, h, _⟩ := raiseAt_eq d v c p s; rw [h]
@[simp] theorem raiseAt_cal (d : Nat) (v : Severity) (c : Nat) (p : List Byte) (s : State) : (raiseAt d v c p s).cal = s.cal := by
  obtain ⟨l, g, m, i, o, h, _⟩ := raiseAt_eq d v c p s; rw [h]
@[simp] theorem raiseAt_pending (d : Nat) (v : Severity) (c : Nat) (p : List Byte) (s : State) : (raiseAt d v c p s).pending = s.pending := by
  obtain ⟨l, g, m, i, o, h, _⟩ := raiseAt_eq d v c p s; rw [h]
@[simp] theorem raiseAt_freeIx (d : Nat) (v : Severity) (c : Nat) (p : List Byte) (s : State) : (raiseAt d v c p s).freeIx = s.freeIx := by
  obtain ⟨l, g, m, i, o, h, _⟩ := raiseAt_eq d v c p s; rw [h]
@[simp] theorem raiseAt_board_active (d : Nat) (v : Severity) (c : Nat) (p : List Byte) (s : State) : (raiseAt d v c p s).board.active = s.board.active := by
  obtain ⟨l, g, m, i, o, h, _⟩ := raiseAt_eq d v c p s; rw [h]
@[simp] theorem raiseAt_board_modctl (d : Nat) (v : Severity) (c : Nat) (p : List Byte) (s : State) : (raiseAt d v c p s).board.modctl = s.board.modctl := by
  obtain ⟨l, g, m, i, o, h, _⟩ := raiseAt_eq d v c p s; rw [h]
@[simp] theorem raiseAt_board_modWrites (d : Nat) (v : Severity) (c : Nat) (p : List Byte) (s : State) : (raiseAt d v c p s).board.modWrites = s.board.modWrites := by
  obtain ⟨l, g, m, i, o, h, _⟩ := raiseAt_eq d v c p s; rw [h]
@[simp] theorem raiseAt_board_modReset (d : Nat) (v : Severity) (c : Nat) (p : List Byte) (s : State) : (raiseAt d v c p s).board.modReset = s.board.modReset := by
  obtain ⟨l, g, m, i, o, h, _⟩ := raiseAt_eq d v c p s; rw [h]
@[simp] theorem raiseAt_board_scan (d : Nat) (v : Severity) (c : Nat) (p : List Byte) (s : State) : (raiseAt d v c p s).board.scan = s.board.scan := by
  obtain ⟨l, g, m, i, o, h, _⟩ := raiseAt_eq d v c p s; rw [h]
@[simp] theorem raiseAt_cmd_commits (d : Nat) (v : Severity) (c : Nat) (p : List Byte) (s : State) : (raiseAt d v c p s).cmd.commits = s.cmd.commits := by
  obtain ⟨l, g, m, i, o, h, _⟩ := raiseAt_eq d v c p s; rw [h]
@[simp] theorem raiseAt_cmd_holder (d : Nat) (v : Severity) (c : Nat) (p : List Byte) (s : State) : (raiseAt d v c p s).cmd.holder = s.cmd.holder := by
  obtain ⟨l, g, m, i, o, h, _⟩ := raiseAt_eq d v c p s; rw [h]
@[simp] theorem raiseAt_cmd_lease (d : Nat) (v : Severity) (c : Nat) (p : List Byte) (s : State) : (raiseAt d v c p s).cmd.lease = s.cmd.lease := by
  obtain ⟨l, g, m, i, o, h, _⟩ := raiseAt_eq d v c p s; rw [h]
@[simp] theorem raiseAt_cmd_leaseFrom (d : Nat) (v : Severity) (c : Nat) (p : List Byte) (s : State) : (raiseAt d v c p s).cmd.leaseFrom = s.cmd.leaseFrom := by
  obtain ⟨l, g, m, i, o, h, _⟩ := raiseAt_eq d v c p s; rw [h]
@[simp] theorem raiseAt_cmd_pcieSeq (d : Nat) (v : Severity) (c : Nat) (p : List Byte) (s : State) : (raiseAt d v c p s).cmd.pcieSeq = s.cmd.pcieSeq := by
  obtain ⟨l, g, m, i, o, h, _⟩ := raiseAt_eq d v c p s; rw [h]
@[simp] theorem raiseAt_cmd_mgmtSeq (d : Nat) (v : Severity) (c : Nat) (p : List Byte) (s : State) : (raiseAt d v c p s).cmd.mgmtSeq = s.cmd.mgmtSeq := by
  obtain ⟨l, g, m, i, o, h, _⟩ := raiseAt_eq d v c p s; rw [h]
@[simp] theorem raiseAt_cmd_inbandLast (d : Nat) (v : Severity) (c : Nat) (p : List Byte) (s : State) : (raiseAt d v c p s).cmd.inbandLast = s.cmd.inbandLast := by
  obtain ⟨l, g, m, i, o, h, _⟩ := raiseAt_eq d v c p s; rw [h]
@[simp] theorem raiseAt_cmd_mailboxes (d : Nat) (v : Severity) (c : Nat) (p : List Byte) (s : State) : (raiseAt d v c p s).cmd.mailboxes = s.cmd.mailboxes := by
  obtain ⟨l, g, m, i, o, h, _⟩ := raiseAt_eq d v c p s; rw [h]
@[simp] theorem raiseAt_cmd_notifyPcie (d : Nat) (v : Severity) (c : Nat) (p : List Byte) (s : State) : (raiseAt d v c p s).cmd.notifyPcie = s.cmd.notifyPcie := by
  obtain ⟨l, g, m, i, o, h, _⟩ := raiseAt_eq d v c p s; rw [h]
@[simp] theorem raiseAt_cmd_notifyMgmt (d : Nat) (v : Severity) (c : Nat) (p : List Byte) (s : State) : (raiseAt d v c p s).cmd.notifyMgmt = s.cmd.notifyMgmt := by
  obtain ⟨l, g, m, i, o, h, _⟩ := raiseAt_eq d v c p s; rw [h]
@[simp] theorem raiseAt_cmd_notifyInband (d : Nat) (v : Severity) (c : Nat) (p : List Byte) (s : State) : (raiseAt d v c p s).cmd.notifyInband = s.cmd.notifyInband := by
  obtain ⟨l, g, m, i, o, h, _⟩ := raiseAt_eq d v c p s; rw [h]
@[simp] theorem raiseAt_cmd_mgmt (d : Nat) (v : Severity) (c : Nat) (p : List Byte) (s : State) : (raiseAt d v c p s).cmd.mgmt = s.cmd.mgmt := by
  obtain ⟨l, g, m, i, o, h, _⟩ := raiseAt_eq d v c p s; rw [h]
@[simp] theorem raiseAt_cmd_outstanding (d : Nat) (v : Severity) (c : Nat) (p : List Byte) (s : State) : (raiseAt d v c p s).cmd.outstanding = s.cmd.outstanding := by
  obtain ⟨l, g, m, i, o, h, _⟩ := raiseAt_eq d v c p s; rw [h]
@[simp] theorem raiseAt_cmd_inbandSeq (d : Nat) (v : Severity) (c : Nat) (p : List Byte) (s : State) : (raiseAt d v c p s).cmd.inbandSeq = s.cmd.inbandSeq := by
  obtain ⟨l, g, m, i, o, h, _⟩ := raiseAt_eq d v c p s; rw [h]
@[simp] theorem raiseAt_cmd_controllerUp (d : Nat) (v : Severity) (c : Nat) (p : List Byte) (s : State) : (raiseAt d v c p s).cmd.controllerUp = s.cmd.controllerUp := by
  obtain ⟨l, g, m, i, o, h, _⟩ := raiseAt_eq d v c p s; rw [h]
@[simp] theorem raiseAt_cmd_controllerReset (d : Nat) (v : Severity) (c : Nat) (p : List Byte) (s : State) : (raiseAt d v c p s).cmd.controllerReset = s.cmd.controllerReset := by
  obtain ⟨l, g, m, i, o, h, _⟩ := raiseAt_eq d v c p s; rw [h]
@[simp] theorem raiseAt_cmd_firmwareFault (d : Nat) (v : Severity) (c : Nat) (p : List Byte) (s : State) : (raiseAt d v c p s).cmd.firmwareFault = s.cmd.firmwareFault := by
  obtain ⟨l, g, m, i, o, h, _⟩ := raiseAt_eq d v c p s; rw [h]
@[simp] theorem raiseAt_hier_role (d : Nat) (v : Severity) (c : Nat) (p : List Byte) (s : State) : (raiseAt d v c p s).hier.role = s.hier.role := by
  obtain ⟨l, g, m, i, o, h, _⟩ := raiseAt_eq d v c p s; rw [h]
@[simp] theorem raiseAt_hier_node (d : Nat) (v : Severity) (c : Nat) (p : List Byte) (s : State) : (raiseAt d v c p s).hier.node = s.hier.node := by
  obtain ⟨l, g, m, i, o, h, _⟩ := raiseAt_eq d v c p s; rw [h]
@[simp] theorem raiseAt_hier_last (d : Nat) (v : Severity) (c : Nat) (p : List Byte) (s : State) : (raiseAt d v c p s).hier.last = s.hier.last := by
  obtain ⟨l, g, m, i, o, h, _⟩ := raiseAt_eq d v c p s; rw [h]
@[simp] theorem raiseAt_hier_manager (d : Nat) (v : Severity) (c : Nat) (p : List Byte) (s : State) : (raiseAt d v c p s).hier.manager = s.hier.manager := by
  obtain ⟨l, g, m, i, o, h, _⟩ := raiseAt_eq d v c p s; rw [h]
@[simp] theorem raiseAt_hier_depth (d : Nat) (v : Severity) (c : Nat) (p : List Byte) (s : State) : (raiseAt d v c p s).hier.depth = s.hier.depth := by
  obtain ⟨l, g, m, i, o, h, _⟩ := raiseAt_eq d v c p s; rw [h]
@[simp] theorem raiseAt_hier_candidates (d : Nat) (v : Severity) (c : Nat) (p : List Byte) (s : State) : (raiseAt d v c p s).hier.candidates = s.hier.candidates := by
  obtain ⟨l, g, m, i, o, h, _⟩ := raiseAt_eq d v c p s; rw [h]
@[simp] theorem raiseAt_hier_parent (d : Nat) (v : Severity) (c : Nat) (p : List Byte) (s : State) : (raiseAt d v c p s).hier.parent = s.hier.parent := by
  obtain ⟨l, g, m, i, o, h, _⟩ := raiseAt_eq d v c p s; rw [h]
@[simp] theorem raiseAt_hier_parentPort (d : Nat) (v : Severity) (c : Nat) (p : List Byte) (s : State) : (raiseAt d v c p s).hier.parentPort = s.hier.parentPort := by
  obtain ⟨l, g, m, i, o, h, _⟩ := raiseAt_eq d v c p s; rw [h]
@[simp] theorem raiseAt_hier_noParentSince (d : Nat) (v : Severity) (c : Nat) (p : List Byte) (s : State) : (raiseAt d v c p s).hier.noParentSince = s.hier.noParentSince := by
  obtain ⟨l, g, m, i, o, h, _⟩ := raiseAt_eq d v c p s; rw [h]
@[simp] theorem raiseAt_hier_cls (d : Nat) (v : Severity) (c : Nat) (p : List Byte) (s : State) : (raiseAt d v c p s).hier.cls = s.hier.cls := by
  obtain ⟨l, g, m, i, o, h, _⟩ := raiseAt_eq d v c p s; rw [h]
@[simp] theorem raiseAt_hier_mirrorUp (d : Nat) (v : Severity) (c : Nat) (p : List Byte) (s : State) : (raiseAt d v c p s).hier.mirrorUp = s.hier.mirrorUp := by
  obtain ⟨l, g, m, i, o, h, _⟩ := raiseAt_eq d v c p s; rw [h]
@[simp] theorem raiseAt_hier_eventSink (d : Nat) (v : Severity) (c : Nat) (p : List Byte) (s : State) : (raiseAt d v c p s).hier.eventSink = s.hier.eventSink := by
  obtain ⟨l, g, m, i, o, h, _⟩ := raiseAt_eq d v c p s; rw [h]
@[simp] theorem raiseAt_hier_deviceKey (d : Nat) (v : Severity) (c : Nat) (p : List Byte) (s : State) : (raiseAt d v c p s).hier.deviceKey = s.hier.deviceKey := by
  obtain ⟨l, g, m, i, o, h, _⟩ := raiseAt_eq d v c p s; rw [h]
@[simp] theorem raiseAt_hier_fabricKey (d : Nat) (v : Severity) (c : Nat) (p : List Byte) (s : State) : (raiseAt d v c p s).hier.fabricKey = s.hier.fabricKey := by
  obtain ⟨l, g, m, i, o, h, _⟩ := raiseAt_eq d v c p s; rw [h]
@[simp] theorem raiseAt_hier_keyInUse (d : Nat) (v : Severity) (c : Nat) (p : List Byte) (s : State) : (raiseAt d v c p s).hier.keyInUse = s.hier.keyInUse := by
  obtain ⟨l, g, m, i, o, h, _⟩ := raiseAt_eq d v c p s; rw [h]
@[simp] theorem raiseAt_hier_oldKey (d : Nat) (v : Severity) (c : Nat) (p : List Byte) (s : State) : (raiseAt d v c p s).hier.oldKey = s.hier.oldKey := by
  obtain ⟨l, g, m, i, o, h, _⟩ := raiseAt_eq d v c p s; rw [h]
@[simp] theorem raiseAt_hier_rolledAt (d : Nat) (v : Severity) (c : Nat) (p : List Byte) (s : State) : (raiseAt d v c p s).hier.rolledAt = s.hier.rolledAt := by
  obtain ⟨l, g, m, i, o, h, _⟩ := raiseAt_eq d v c p s; rw [h]
@[simp] theorem raiseAt_hier_workers (d : Nat) (v : Severity) (c : Nat) (p : List Byte) (s : State) : (raiseAt d v c p s).hier.workers = s.hier.workers := by
  obtain ⟨l, g, m, i, o, h, _⟩ := raiseAt_eq d v c p s; rw [h]
@[simp] theorem raiseAt_hier_epochs (d : Nat) (v : Severity) (c : Nat) (p : List Byte) (s : State) : (raiseAt d v c p s).hier.epochs = s.hier.epochs := by
  obtain ⟨l, g, m, i, o, h, _⟩ := raiseAt_eq d v c p s; rw [h]
@[simp] theorem raiseAt_hier_epochMismatch (d : Nat) (v : Severity) (c : Nat) (p : List Byte) (s : State) : (raiseAt d v c p s).hier.epochMismatch = s.hier.epochMismatch := by
  obtain ⟨l, g, m, i, o, h, _⟩ := raiseAt_eq d v c p s; rw [h]
@[simp] theorem raiseAt_hier_replays (d : Nat) (v : Severity) (c : Nat) (p : List Byte) (s : State) : (raiseAt d v c p s).hier.replays = s.hier.replays := by
  obtain ⟨l, g, m, i, o, h, _⟩ := raiseAt_eq d v c p s; rw [h]
@[simp] theorem raiseAt_hier_replayFloor (d : Nat) (v : Severity) (c : Nat) (p : List Byte) (s : State) : (raiseAt d v c p s).hier.replayFloor = s.hier.replayFloor := by
  obtain ⟨l, g, m, i, o, h, _⟩ := raiseAt_eq d v c p s; rw [h]
@[simp] theorem raiseAt_hier_enrolling (d : Nat) (v : Severity) (c : Nat) (p : List Byte) (s : State) : (raiseAt d v c p s).hier.enrolling = s.hier.enrolling := by
  obtain ⟨l, g, m, i, o, h, _⟩ := raiseAt_eq d v c p s; rw [h]
@[simp] theorem raiseAt_hier_orphanQ (d : Nat) (v : Severity) (c : Nat) (p : List Byte) (s : State) : (raiseAt d v c p s).hier.orphanQ = s.hier.orphanQ := by
  obtain ⟨l, g, m, i, o, h, _⟩ := raiseAt_eq d v c p s; rw [h]
@[simp] theorem raiseAt_hier_mirrorWindow (d : Nat) (v : Severity) (c : Nat) (p : List Byte) (s : State) : (raiseAt d v c p s).hier.mirrorWindow = s.hier.mirrorWindow := by
  obtain ⟨l, g, m, i, o, h, _⟩ := raiseAt_eq d v c p s; rw [h]
@[simp] theorem raiseAt_hier_mirrorSent (d : Nat) (v : Severity) (c : Nat) (p : List Byte) (s : State) : (raiseAt d v c p s).hier.mirrorSent = s.hier.mirrorSent := by
  obtain ⟨l, g, m, i, o, h, _⟩ := raiseAt_eq d v c p s; rw [h]
theorem raiseAt_out (d : Nat) (v : Severity) (c : Nat) (p : List Byte) (s : State) (x : Out) (h : x ∈ s.out) :
    x ∈ (raiseAt d v c p s).out := by
  obtain ⟨l, g, m, i, o, e, k⟩ := raiseAt_eq d v c p s; rw [e]; exact k x h

@[simp] theorem raise_part (v : Severity) (c : Nat) (p : List Byte) (s : State) : (raise v c p s).part = s.part := by simp [raise]
@[simp] theorem raise_variant (v : Severity) (c : Nat) (p : List Byte) (s : State) : (raise v c p s).variant = s.variant := by simp [raise]
@[simp] theorem raise_stepping (v : Severity) (c : Nat) (p : List Byte) (s : State) : (raise v c p s).stepping = s.stepping := by simp [raise]
@[simp] theorem raise_serials (v : Severity) (c : Nat) (p : List Byte) (s : State) : (raise v c p s).serials = s.serials := by simp [raise]
@[simp] theorem raise_macBase (v : Severity) (c : Nat) (p : List Byte) (s : State) : (raise v c p s).macBase = s.macBase := by simp [raise]
@[simp] theorem raise_time (v : Severity) (c : Nat) (p : List Byte) (s : State) : (raise v c p s).time = s.time := by simp [raise]
@[simp] theorem raise_power (v : Severity) (c : Nat) (p : List Byte) (s : State) : (raise v c p s).power = s.power := by simp [raise]
@[simp] theorem raise_fwd (v : Severity) (c : Nat) (p : List Byte) (s : State) : (raise v c p s).fwd = s.fwd := by simp [raise]
@[simp] theorem raise_port (v : Severity) (c : Nat) (p : List Byte) (s : State) : (raise v c p s).port = s.port := by simp [raise]
@[simp] theorem raise_ref (v : Severity) (c : Nat) (p : List Byte) (s : State) : (raise v c p s).ref = s.ref := by simp [raise]
@[simp] theorem raise_clk (v : Severity) (c : Nat) (p : List Byte) (s : State) : (raise v c p s).clk = s.clk := by simp [raise]
@[simp] theorem raise_meas (v : Severity) (c : Nat) (p : List Byte) (s : State) : (raise v c p s).meas = s.meas := by simp [raise]
@[simp] theorem raise_ctr (v : Severity) (c : Nat) (p : List Byte) (s : State) : (raise v c p s).ctr = s.ctr := by simp [raise]
@[simp] theorem raise_cal (v : Severity) (c : Nat) (p : List Byte) (s : State) : (raise v c p s).cal = s.cal := by simp [raise]
@[simp] theorem raise_pending (v : Severity) (c : Nat) (p : List Byte) (s : State) : (raise v c p s).pending = s.pending := by simp [raise]
@[simp] theorem raise_freeIx (v : Severity) (c : Nat) (p : List Byte) (s : State) : (raise v c p s).freeIx = s.freeIx := by simp [raise]
@[simp] theorem raise_board_active (v : Severity) (c : Nat) (p : List Byte) (s : State) : (raise v c p s).board.active = s.board.active := by simp [raise]
@[simp] theorem raise_board_modctl (v : Severity) (c : Nat) (p : List Byte) (s : State) : (raise v c p s).board.modctl = s.board.modctl := by simp [raise]
@[simp] theorem raise_board_modWrites (v : Severity) (c : Nat) (p : List Byte) (s : State) : (raise v c p s).board.modWrites = s.board.modWrites := by simp [raise]
@[simp] theorem raise_board_modReset (v : Severity) (c : Nat) (p : List Byte) (s : State) : (raise v c p s).board.modReset = s.board.modReset := by simp [raise]
@[simp] theorem raise_board_scan (v : Severity) (c : Nat) (p : List Byte) (s : State) : (raise v c p s).board.scan = s.board.scan := by simp [raise]
@[simp] theorem raise_cmd_commits (v : Severity) (c : Nat) (p : List Byte) (s : State) : (raise v c p s).cmd.commits = s.cmd.commits := by simp [raise]
@[simp] theorem raise_cmd_holder (v : Severity) (c : Nat) (p : List Byte) (s : State) : (raise v c p s).cmd.holder = s.cmd.holder := by simp [raise]
@[simp] theorem raise_cmd_lease (v : Severity) (c : Nat) (p : List Byte) (s : State) : (raise v c p s).cmd.lease = s.cmd.lease := by simp [raise]
@[simp] theorem raise_cmd_leaseFrom (v : Severity) (c : Nat) (p : List Byte) (s : State) : (raise v c p s).cmd.leaseFrom = s.cmd.leaseFrom := by simp [raise]
@[simp] theorem raise_cmd_pcieSeq (v : Severity) (c : Nat) (p : List Byte) (s : State) : (raise v c p s).cmd.pcieSeq = s.cmd.pcieSeq := by simp [raise]
@[simp] theorem raise_cmd_mgmtSeq (v : Severity) (c : Nat) (p : List Byte) (s : State) : (raise v c p s).cmd.mgmtSeq = s.cmd.mgmtSeq := by simp [raise]
@[simp] theorem raise_cmd_inbandLast (v : Severity) (c : Nat) (p : List Byte) (s : State) : (raise v c p s).cmd.inbandLast = s.cmd.inbandLast := by simp [raise]
@[simp] theorem raise_cmd_mailboxes (v : Severity) (c : Nat) (p : List Byte) (s : State) : (raise v c p s).cmd.mailboxes = s.cmd.mailboxes := by simp [raise]
@[simp] theorem raise_cmd_notifyPcie (v : Severity) (c : Nat) (p : List Byte) (s : State) : (raise v c p s).cmd.notifyPcie = s.cmd.notifyPcie := by simp [raise]
@[simp] theorem raise_cmd_notifyMgmt (v : Severity) (c : Nat) (p : List Byte) (s : State) : (raise v c p s).cmd.notifyMgmt = s.cmd.notifyMgmt := by simp [raise]
@[simp] theorem raise_cmd_notifyInband (v : Severity) (c : Nat) (p : List Byte) (s : State) : (raise v c p s).cmd.notifyInband = s.cmd.notifyInband := by simp [raise]
@[simp] theorem raise_cmd_mgmt (v : Severity) (c : Nat) (p : List Byte) (s : State) : (raise v c p s).cmd.mgmt = s.cmd.mgmt := by simp [raise]
@[simp] theorem raise_cmd_outstanding (v : Severity) (c : Nat) (p : List Byte) (s : State) : (raise v c p s).cmd.outstanding = s.cmd.outstanding := by simp [raise]
@[simp] theorem raise_cmd_inbandSeq (v : Severity) (c : Nat) (p : List Byte) (s : State) : (raise v c p s).cmd.inbandSeq = s.cmd.inbandSeq := by simp [raise]
@[simp] theorem raise_cmd_controllerUp (v : Severity) (c : Nat) (p : List Byte) (s : State) : (raise v c p s).cmd.controllerUp = s.cmd.controllerUp := by simp [raise]
@[simp] theorem raise_cmd_controllerReset (v : Severity) (c : Nat) (p : List Byte) (s : State) : (raise v c p s).cmd.controllerReset = s.cmd.controllerReset := by simp [raise]
@[simp] theorem raise_cmd_firmwareFault (v : Severity) (c : Nat) (p : List Byte) (s : State) : (raise v c p s).cmd.firmwareFault = s.cmd.firmwareFault := by simp [raise]
@[simp] theorem raise_hier_role (v : Severity) (c : Nat) (p : List Byte) (s : State) : (raise v c p s).hier.role = s.hier.role := by simp [raise]
@[simp] theorem raise_hier_node (v : Severity) (c : Nat) (p : List Byte) (s : State) : (raise v c p s).hier.node = s.hier.node := by simp [raise]
@[simp] theorem raise_hier_last (v : Severity) (c : Nat) (p : List Byte) (s : State) : (raise v c p s).hier.last = s.hier.last := by simp [raise]
@[simp] theorem raise_hier_manager (v : Severity) (c : Nat) (p : List Byte) (s : State) : (raise v c p s).hier.manager = s.hier.manager := by simp [raise]
@[simp] theorem raise_hier_depth (v : Severity) (c : Nat) (p : List Byte) (s : State) : (raise v c p s).hier.depth = s.hier.depth := by simp [raise]
@[simp] theorem raise_hier_candidates (v : Severity) (c : Nat) (p : List Byte) (s : State) : (raise v c p s).hier.candidates = s.hier.candidates := by simp [raise]
@[simp] theorem raise_hier_parent (v : Severity) (c : Nat) (p : List Byte) (s : State) : (raise v c p s).hier.parent = s.hier.parent := by simp [raise]
@[simp] theorem raise_hier_parentPort (v : Severity) (c : Nat) (p : List Byte) (s : State) : (raise v c p s).hier.parentPort = s.hier.parentPort := by simp [raise]
@[simp] theorem raise_hier_noParentSince (v : Severity) (c : Nat) (p : List Byte) (s : State) : (raise v c p s).hier.noParentSince = s.hier.noParentSince := by simp [raise]
@[simp] theorem raise_hier_cls (v : Severity) (c : Nat) (p : List Byte) (s : State) : (raise v c p s).hier.cls = s.hier.cls := by simp [raise]
@[simp] theorem raise_hier_mirrorUp (v : Severity) (c : Nat) (p : List Byte) (s : State) : (raise v c p s).hier.mirrorUp = s.hier.mirrorUp := by simp [raise]
@[simp] theorem raise_hier_eventSink (v : Severity) (c : Nat) (p : List Byte) (s : State) : (raise v c p s).hier.eventSink = s.hier.eventSink := by simp [raise]
@[simp] theorem raise_hier_deviceKey (v : Severity) (c : Nat) (p : List Byte) (s : State) : (raise v c p s).hier.deviceKey = s.hier.deviceKey := by simp [raise]
@[simp] theorem raise_hier_fabricKey (v : Severity) (c : Nat) (p : List Byte) (s : State) : (raise v c p s).hier.fabricKey = s.hier.fabricKey := by simp [raise]
@[simp] theorem raise_hier_keyInUse (v : Severity) (c : Nat) (p : List Byte) (s : State) : (raise v c p s).hier.keyInUse = s.hier.keyInUse := by simp [raise]
@[simp] theorem raise_hier_oldKey (v : Severity) (c : Nat) (p : List Byte) (s : State) : (raise v c p s).hier.oldKey = s.hier.oldKey := by simp [raise]
@[simp] theorem raise_hier_rolledAt (v : Severity) (c : Nat) (p : List Byte) (s : State) : (raise v c p s).hier.rolledAt = s.hier.rolledAt := by simp [raise]
@[simp] theorem raise_hier_workers (v : Severity) (c : Nat) (p : List Byte) (s : State) : (raise v c p s).hier.workers = s.hier.workers := by simp [raise]
@[simp] theorem raise_hier_epochs (v : Severity) (c : Nat) (p : List Byte) (s : State) : (raise v c p s).hier.epochs = s.hier.epochs := by simp [raise]
@[simp] theorem raise_hier_epochMismatch (v : Severity) (c : Nat) (p : List Byte) (s : State) : (raise v c p s).hier.epochMismatch = s.hier.epochMismatch := by simp [raise]
@[simp] theorem raise_hier_replays (v : Severity) (c : Nat) (p : List Byte) (s : State) : (raise v c p s).hier.replays = s.hier.replays := by simp [raise]
@[simp] theorem raise_hier_replayFloor (v : Severity) (c : Nat) (p : List Byte) (s : State) : (raise v c p s).hier.replayFloor = s.hier.replayFloor := by simp [raise]
@[simp] theorem raise_hier_enrolling (v : Severity) (c : Nat) (p : List Byte) (s : State) : (raise v c p s).hier.enrolling = s.hier.enrolling := by simp [raise]
@[simp] theorem raise_hier_orphanQ (v : Severity) (c : Nat) (p : List Byte) (s : State) : (raise v c p s).hier.orphanQ = s.hier.orphanQ := by simp [raise]
@[simp] theorem raise_hier_mirrorWindow (v : Severity) (c : Nat) (p : List Byte) (s : State) : (raise v c p s).hier.mirrorWindow = s.hier.mirrorWindow := by simp [raise]
@[simp] theorem raise_hier_mirrorSent (v : Severity) (c : Nat) (p : List Byte) (s : State) : (raise v c p s).hier.mirrorSent = s.hier.mirrorSent := by simp [raise]
theorem raise_out (v : Severity) (c : Nat) (p : List Byte) (s : State) (x : Out) (h : x ∈ s.out) :
    x ∈ (raise v c p s).out := raiseAt_out 0xFF v c p s x h

end Sys2Proof.Machine
end

