-- ==== Sys2Proof/Laws/Tables.lean ====
section
/-! SUPPORT. Reading after writing in the sparse tables and the sparse byte memories, and their canonical form. -/

namespace Sys2Proof.Machine

variable {β : Type}

@[simp] theorem tget_nil (k : Nat) (d : β) : tget ([] : Tbl β) k d = d := rfl

/-- A table reads back what was put at a key. -/
@[simp] theorem tget_tput_same (t : Tbl β) (k : Nat) (v d : β) : tget (tput t k v) k d = v := by
  induction t with
  | nil => simp [tput, tget]
  | cons e r ih =>
    obtain ⟨j, w⟩ := e
    unfold tput
    split
    · next h => simp [tget, ih, Nat.ne_of_lt h]
    · split <;> simp [tget]

/-- A put leaves every other key alone. -/
theorem tget_tput_other (t : Tbl β) (k j : Nat) (v d : β) (h : j ≠ k) : tget (tput t k v) j d = tget t j d := by
  induction t with
  | nil => simp [tput, tget, Ne.symm h]
  | cons e r ih =>
    obtain ⟨i, w⟩ := e
    unfold tput
    split
    · simp [tget, ih]
    · split
      · next h1 h2 => subst h2; simp [tget, Ne.symm h]
      · simp [tget, Ne.symm h]

/-- A key deleted from a table reads as the default. -/
@[simp] theorem tget_tdel_same (t : Tbl β) (k : Nat) (d : β) : tget (tdel t k) k d = d := by
  induction t with
  | nil => rfl
  | cons e r ih =>
    obtain ⟨j, w⟩ := e
    by_cases h : j = k
    · subst h; simpa [tdel] using ih
    · simpa [tdel, tget, h] using ih

/-- A deletion leaves every other key alone. -/
theorem tget_tdel_other (t : Tbl β) (k j : Nat) (d : β) (h : j ≠ k) : tget (tdel t k) j d = tget t j d := by
  induction t with
  | nil => rfl
  | cons e r ih =>
    obtain ⟨i, w⟩ := e
    by_cases hk : i = k
    · subst hk; simpa [tdel, tget, Ne.symm h] using ih
    · by_cases hj : i = j
      · subst hj; simp [tdel, tget, h]
      · simpa [tdel, tget, hk, hj] using ih

/-- A key that was put is listed with its value. -/
@[simp] theorem tfind_tput_same (t : Tbl β) (k : Nat) (v : β) : tfind (tput t k v) k = some v := by
  induction t with
  | nil => simp [tput, tfind]
  | cons e r ih =>
    obtain ⟨j, w⟩ := e
    unfold tput
    split
    · next h => simp [tfind, ih, Nat.ne_of_lt h]
    · split <;> simp [tfind]

/-- A key deleted is not listed. -/
@[simp] theorem tfind_tdel_same (t : Tbl β) (k : Nat) : tfind (tdel t k) k = none := by
  induction t with
  | nil => rfl
  | cons e r ih =>
    obtain ⟨j, w⟩ := e
    by_cases h : j = k
    · subst h; simpa [tdel] using ih
    · simpa [tdel, tfind, h] using ih

/-- The keys of a table after a put. -/
theorem mem_tput_key (t : Tbl β) (k j : Nat) (v : β) : j ∈ (tput t k v).map (·.1) ↔ j = k ∨ j ∈ t.map (·.1) := by
  induction t with
  | nil => simp [tput]
  | cons e r ih =>
    obtain ⟨i, w⟩ := e
    unfold tput
    split
    · simp only [List.map_cons, List.mem_cons, ih]; tauto
    · split
      · next h => subst h; simp
      · simp

/-- A key that a table does not list reads as the default. -/
theorem tget_of_not_mem (t : Tbl β) (k : Nat) (d : β) (h : k ∉ t.map (·.1)) : tget t k d = d := by
  induction t with
  | nil => rfl
  | cons e r ih =>
    obtain ⟨j, w⟩ := e
    simp only [List.map_cons, List.mem_cons, not_or] at h
    simp only [tget, if_neg (Ne.symm h.1)]
    exact ih h.2

/-! ### Byte memories -/

/-- A byte memory reads back the byte written. -/
@[simp] theorem memByte_memPut_same (m : List Host.Cell) (o : Nat) (b : Byte) : memByte (memPut m o b) o = b := by
  unfold memByte memPut
  split
  · next h => rw [tget_tdel_same]; exact h.symm
  · exact tget_tput_same _ _ _ _

/-- A byte written leaves every other byte alone. -/
theorem memByte_memPut_other (m : List Host.Cell) (o i : Nat) (b : Byte) (h : i ≠ o) : memByte (memPut m o b) i = memByte m i := by
  unfold memByte memPut
  split
  · exact tget_tdel_other _ _ _ _ h
  · exact tget_tput_other _ _ _ _ _ h

/-- A byte after a run of bytes has been written. -/
theorem memByte_memWrite (bs : List Byte) (m : List Host.Cell) (o i : Nat) :
    memByte (memWrite m o bs) i = if o ≤ i ∧ i < o + bs.length then bs.getD (i - o) 0 else memByte m i := by
  induction bs generalizing m o with
  | nil => simp [memWrite]
  | cons b bs ih =>
    rw [memWrite, ih]
    by_cases h0 : i = o
    · subst h0; simp
    · by_cases h1 : o ≤ i ∧ i < o + (b :: bs).length
      · have h2 : o + 1 ≤ i ∧ i < o + 1 + bs.length := by simp only [List.length_cons] at h1; omega
        rw [if_pos h1, if_pos h2]
        obtain ⟨k, rfl⟩ : ∃ k, i = o + 1 + k := ⟨i - (o + 1), by omega⟩
        have e1 : o + 1 + k - (o + 1) = k := by omega
        have e2 : o + 1 + k - o = k + 1 := by omega
        rw [e1, e2]; simp
      · have h2 : ¬ (o + 1 ≤ i ∧ i < o + 1 + bs.length) := by simp only [List.length_cons] at h1; omega
        rw [if_neg h1, if_neg h2, memByte_memPut_other _ _ _ _ h0]

/-- A run of bytes reads back whole. -/
theorem memBytes_memWrite (bs : List Byte) (m : List Host.Cell) : memBytes (memWrite m 0 bs) 0 bs.length = bs := by
  apply List.ext_getElem
  · simp [memBytes]
  · intro i h1 h2
    simp only [memBytes, List.getElem_map, List.getElem_range, memByte_memWrite]
    simp [h2]

/-- The canonical form is that offsets rise strictly and no listed byte is 0. -/
theorem memWf_iff (m : List Host.Cell) : memWf m = true ↔ m.Pairwise (fun a b => a.1 < b.1) ∧ ∀ e ∈ m, e.2 ≠ 0 := by
  induction m with
  | nil => simp [memWf]
  | cons e r ih =>
    obtain ⟨o, b⟩ := e
    match r, ih with
    | [], _ => simp [memWf]
    | (o', b') :: r, ih =>
      simp only [memWf, Bool.and_eq_true, decide_eq_true_eq, bne_iff_ne, ih, List.pairwise_cons, List.mem_cons, forall_eq_or_imp]
      constructor
      · rintro ⟨⟨h1, h2⟩, ⟨h3, h4⟩, h5, h6⟩
        exact ⟨⟨⟨h1, fun a ha => Nat.lt_trans h1 (h3 a ha)⟩, h3, h4⟩, h2, h5, h6⟩
      · rintro ⟨⟨⟨h1, _⟩, h3, h4⟩, h2, h5, h6⟩
        exact ⟨⟨h1, h2⟩, ⟨h3, h4⟩, h5, h6⟩

theorem mem_tput {t : Tbl β} {k : Nat} {v : β} {e : Nat × β} (h : e ∈ tput t k v) : e = (k, v) ∨ e ∈ t := by
  induction t with
  | nil => simpa [tput] using h
  | cons x r ih =>
    obtain ⟨j, w⟩ := x
    unfold tput at h
    split at h
    · rcases List.mem_cons.mp h with h | h
      · exact .inr (h ▸ List.mem_cons_self)
      · exact (ih h).imp id (List.mem_cons_of_mem _)
    · split at h
      · rcases List.mem_cons.mp h with h | h
        · exact .inl h
        · exact .inr (List.mem_cons_of_mem _ h)
      · rcases List.mem_cons.mp h with h | h
        · exact .inl h
        · exact .inr h

theorem tput_pairwise {t : Tbl β} (k : Nat) (v : β) (h : t.Pairwise (fun a b => a.1 < b.1)) :
    (tput t k v).Pairwise (fun a b => a.1 < b.1) := by
  induction t with
  | nil => simp [tput]
  | cons x r ih =>
    obtain ⟨j, w⟩ := x
    rw [List.pairwise_cons] at h
    unfold tput
    split
    · next hj =>
      refine List.pairwise_cons.mpr ⟨fun e he => ?_, ih h.2⟩
      rcases mem_tput he with rfl | he
      · exact hj
      · exact h.1 e he
    · split
      · next hj => exact List.pairwise_cons.mpr ⟨fun e he => hj ▸ h.1 e he, h.2⟩
      · next h1 h2 =>
        refine List.pairwise_cons.mpr ⟨fun e he => ?_, List.pairwise_cons.mpr h⟩
        have hk : k < j := by omega
        rcases List.mem_cons.mp he with rfl | he
        · exact hk
        · exact Nat.lt_trans hk (h.1 e he)

/-- Every write keeps the canonical form. -/
theorem memWf_memPut (m : List Host.Cell) (o : Nat) (b : Byte) (h : memWf m = true) : memWf (memPut m o b) = true := by
  rw [memWf_iff] at h ⊢
  unfold memPut
  split
  · exact ⟨h.1.filter _, fun e he => h.2 e (List.mem_of_mem_filter he)⟩
  · next hb =>
    refine ⟨tput_pairwise o b h.1, fun e he => ?_⟩
    rcases mem_tput he with rfl | he
    · exact hb
    · exact h.2 e he

/-- Every run of writes keeps the canonical form. -/
theorem memWf_memWrite (bs : List Byte) (m : List Host.Cell) (o : Nat) (h : memWf m = true) : memWf (memWrite m o bs) = true := by
  induction bs generalizing m o with
  | nil => exact h
  | cons b bs ih => exact ih _ _ (memWf_memPut m o b h)

end Sys2Proof.Machine
end

