-- ==== Sys2Proof/Laws/Occur.lean ====
section
/-! SUPPORT. What follows every command (the watch on the parents, the CLK_OUT outputs, the ready block) and what it leaves unchanged;
the step on the front of the queue. -/

namespace Sys2Proof.Machine

theorem pulse_of_shown (u s : State) (h : ∃ a b o, u = { s with power.shownReady := a, power.readySeq := b, out := o } ∧ ∀ x ∈ s.out, x ∈ o) :
    ∃ a b i o, pulseInt u = { s with power.shownReady := a, power.readySeq := b, board.intAt := i, out := o } ∧ ∀ x ∈ s.out, x ∈ o := by
  obtain ⟨a, b, o, rfl, ho⟩ := h
  obtain ⟨i, o2, e, ho2⟩ := pulseInt_eq { s with power.shownReady := a, power.readySeq := b, out := o }
  exact ⟨a, b, i, o2, e, fun x hx => ho2 x (ho x hx)⟩

theorem settle_eq (s : State) : ∃ a b i o, settle s =
    { s with power.shownReady := a, power.readySeq := b, board.intAt := i, out := o } ∧ ∀ x ∈ s.out, x ∈ o := by
  unfold settle
  dsimp only
  split
  · split
    · exact ⟨_, _, _, _, rfl, fun _ h => h⟩
    · split
      · exact pulse_of_shown _ s ⟨_, _, _, rfl, fun _ h => List.mem_cons_of_mem _ h⟩
      · exact pulse_of_shown _ s ⟨_, _, _, rfl, fun _ h => h⟩
  · exact ⟨_, _, _, _, rfl, fun _ h => h⟩

@[simp] theorem settle_part (s : State) : (settle s).part = s.part := by
  obtain ⟨a, b, i, o, h, _⟩ := settle_eq s; rw [h]
@[simp] theorem settle_variant (s : State) : (settle s).variant = s.variant := by
  obtain ⟨a, b, i, o, h, _⟩ := settle_eq s; rw [h]
@[simp] theorem settle_stepping (s : State) : (settle s).stepping = s.stepping := by
  obtain ⟨a, b, i, o, h, _⟩ := settle_eq s; rw [h]
@[simp] theorem settle_serials (s : State) : (settle s).serials = s.serials := by
  obtain ⟨a, b, i, o, h, _⟩ := settle_eq s; rw [h]
@[simp] theorem settle_macBase (s : State) : (settle s).macBase = s.macBase := by
  obtain ⟨a, b, i, o, h, _⟩ := settle_eq s; rw [h]
@[simp] theorem settle_cmd (s : State) : (settle s).cmd = s.cmd := by
  obtain ⟨a, b, i, o, h, _⟩ := settle_eq s; rw [h]
@[simp] theorem settle_time (s : State) : (settle s).time = s.time := by
  obtain ⟨a, b, i, o, h, _⟩ := settle_eq s; rw [h]
@[simp] theorem settle_log (s : State) : (settle s).log = s.log := by
  obtain ⟨a, b, i, o, h, _⟩ := settle_eq s; rw [h]
@[simp] theorem settle_fwd (s : State) : (settle s).fwd = s.fwd := by
  obtain ⟨a, b, i, o, h, _⟩ := settle_eq s; rw [h]
@[simp] theorem settle_port (s : State) : (settle s).port = s.port := by
  obtain ⟨a, b, i, o, h, _⟩ := settle_eq s; rw [h]
@[simp] theorem settle_ref (s : State) : (settle s).ref = s.ref := by
  obtain ⟨a, b, i, o, h, _⟩ := settle_eq s; rw [h]
@[simp] theorem settle_clk (s : State) : (settle s).clk = s.clk := by
  obtain ⟨a, b, i, o, h, _⟩ := settle_eq s; rw [h]
@[simp] theorem settle_hier (s : State) : (settle s).hier = s.hier := by
  obtain ⟨a, b, i, o, h, _⟩ := settle_eq s; rw [h]
@[simp] theorem settle_meas (s : State) : (settle s).meas = s.meas := by
  obtain ⟨a, b, i, o, h, _⟩ := settle_eq s; rw [h]
@[simp] theorem settle_ctr (s : State) : (settle s).ctr = s.ctr := by
  obtain ⟨a, b, i, o, h, _⟩ := settle_eq s; rw [h]
@[simp] theorem settle_cal (s : State) : (settle s).cal = s.cal := by
  obtain ⟨a, b, i, o, h, _⟩ := settle_eq s; rw [h]
@[simp] theorem settle_pending (s : State) : (settle s).pending = s.pending := by
  obtain ⟨a, b, i, o, h, _⟩ := settle_eq s; rw [h]
@[simp] theorem settle_freeIx (s : State) : (settle s).freeIx = s.freeIx := by
  obtain ⟨a, b, i, o, h, _⟩ := settle_eq s; rw [h]
@[simp] theorem settle_board_active (s : State) : (settle s).board.active = s.board.active := by
  obtain ⟨a, b, i, o, h, _⟩ := settle_eq s; rw [h]
@[simp] theorem settle_board_modctl (s : State) : (settle s).board.modctl = s.board.modctl := by
  obtain ⟨a, b, i, o, h, _⟩ := settle_eq s; rw [h]
@[simp] theorem settle_board_modWrites (s : State) : (settle s).board.modWrites = s.board.modWrites := by
  obtain ⟨a, b, i, o, h, _⟩ := settle_eq s; rw [h]
@[simp] theorem settle_board_modReset (s : State) : (settle s).board.modReset = s.board.modReset := by
  obtain ⟨a, b, i, o, h, _⟩ := settle_eq s; rw [h]
@[simp] theorem settle_board_scan (s : State) : (settle s).board.scan = s.board.scan := by
  obtain ⟨a, b, i, o, h, _⟩ := settle_eq s; rw [h]
@[simp] theorem settle_power_mode (s : State) : (settle s).power.mode = s.power.mode := by
  obtain ⟨a, b, i, o, h, _⟩ := settle_eq s; rw [h]
@[simp] theorem settle_power_transition (s : State) : (settle s).power.transition = s.power.transition := by
  obtain ⟨a, b, i, o, h, _⟩ := settle_eq s; rw [h]
@[simp] theorem settle_power_restoreMode (s : State) : (settle s).power.restoreMode = s.power.restoreMode := by
  obtain ⟨a, b, i, o, h, _⟩ := settle_eq s; rw [h]
@[simp] theorem settle_power_porN (s : State) : (settle s).power.porN = s.power.porN := by
  obtain ⟨a, b, i, o, h, _⟩ := settle_eq s; rw [h]
@[simp] theorem settle_power_bootStep (s : State) : (settle s).power.bootStep = s.power.bootStep := by
  obtain ⟨a, b, i, o, h, _⟩ := settle_eq s; rw [h]
@[simp] theorem settle_power_bootSel (s : State) : (settle s).power.bootSel = s.power.bootSel := by
  obtain ⟨a, b, i, o, h, _⟩ := settle_eq s; rw [h]
@[simp] theorem settle_power_oscSel (s : State) : (settle s).power.oscSel = s.power.oscSel := by
  obtain ⟨a, b, i, o, h, _⟩ := settle_eq s; rw [h]
@[simp] theorem settle_power_slotB (s : State) : (settle s).power.slotB = s.power.slotB := by
  obtain ⟨a, b, i, o, h, _⟩ := settle_eq s; rw [h]
@[simp] theorem settle_power_fallback (s : State) : (settle s).power.fallback = s.power.fallback := by
  obtain ⟨a, b, i, o, h, _⟩ := settle_eq s; rw [h]
@[simp] theorem settle_power_fwVersion (s : State) : (settle s).power.fwVersion = s.power.fwVersion := by
  obtain ⟨a, b, i, o, h, _⟩ := settle_eq s; rw [h]
@[simp] theorem settle_power_secMin (s : State) : (settle s).power.secMin = s.power.secMin := by
  obtain ⟨a, b, i, o, h, _⟩ := settle_eq s; rw [h]
@[simp] theorem settle_power_booted (s : State) : (settle s).power.booted = s.power.booted := by
  obtain ⟨a, b, i, o, h, _⟩ := settle_eq s; rw [h]
@[simp] theorem settle_power_bootReason (s : State) : (settle s).power.bootReason = s.power.bootReason := by
  obtain ⟨a, b, i, o, h, _⟩ := settle_eq s; rw [h]
@[simp] theorem settle_power_porAt (s : State) : (settle s).power.porAt = s.power.porAt := by
  obtain ⟨a, b, i, o, h, _⟩ := settle_eq s; rw [h]
@[simp] theorem settle_power_elapsed (s : State) : (settle s).power.elapsed = s.power.elapsed := by
  obtain ⟨a, b, i, o, h, _⟩ := settle_eq s; rw [h]
@[simp] theorem settle_power_vddCore0 (s : State) : (settle s).power.vddCore0 = s.power.vddCore0 := by
  obtain ⟨a, b, i, o, h, _⟩ := settle_eq s; rw [h]
@[simp] theorem settle_power_vddCore1 (s : State) : (settle s).power.vddCore1 = s.power.vddCore1 := by
  obtain ⟨a, b, i, o, h, _⟩ := settle_eq s; rw [h]
@[simp] theorem settle_power_vddTime (s : State) : (settle s).power.vddTime = s.power.vddTime := by
  obtain ⟨a, b, i, o, h, _⟩ := settle_eq s; rw [h]
@[simp] theorem settle_power_timeTimeout (s : State) : (settle s).power.timeTimeout = s.power.timeTimeout := by
  obtain ⟨a, b, i, o, h, _⟩ := settle_eq s; rw [h]
@[simp] theorem settle_power_vkeep (s : State) : (settle s).power.vkeep = s.power.vkeep := by
  obtain ⟨a, b, i, o, h, _⟩ := settle_eq s; rw [h]
@[simp] theorem settle_power_vigil (s : State) : (settle s).power.vigil = s.power.vigil := by
  obtain ⟨a, b, i, o, h, _⟩ := settle_eq s; rw [h]
@[simp] theorem settle_power_opSeconds (s : State) : (settle s).power.opSeconds = s.power.opSeconds := by
  obtain ⟨a, b, i, o, h, _⟩ := settle_eq s; rw [h]
@[simp] theorem settle_power_powerCycles (s : State) : (settle s).power.powerCycles = s.power.powerCycles := by
  obtain ⟨a, b, i, o, h, _⟩ := settle_eq s; rw [h]
@[simp] theorem settle_power_coarseValid (s : State) : (settle s).power.coarseValid = s.power.coarseValid := by
  obtain ⟨a, b, i, o, h, _⟩ := settle_eq s; rw [h]
@[simp] theorem settle_power_coarseSec (s : State) : (settle s).power.coarseSec = s.power.coarseSec := by
  obtain ⟨a, b, i, o, h, _⟩ := settle_eq s; rw [h]
@[simp] theorem settle_power_coarseSub (s : State) : (settle s).power.coarseSub = s.power.coarseSub := by
  obtain ⟨a, b, i, o, h, _⟩ := settle_eq s; rw [h]
@[simp] theorem settle_power_coarseFrom (s : State) : (settle s).power.coarseFrom = s.power.coarseFrom := by
  obtain ⟨a, b, i, o, h, _⟩ := settle_eq s; rw [h]
@[simp] theorem settle_power_coarseTick (s : State) : (settle s).power.coarseTick = s.power.coarseTick := by
  obtain ⟨a, b, i, o, h, _⟩ := settle_eq s; rw [h]
@[simp] theorem settle_power_scratch (s : State) : (settle s).power.scratch = s.power.scratch := by
  obtain ⟨a, b, i, o, h, _⟩ := settle_eq s; rw [h]
@[simp] theorem settle_power_failure (s : State) : (settle s).power.failure = s.power.failure := by
  obtain ⟨a, b, i, o, h, _⟩ := settle_eq s; rw [h]
@[simp] theorem settle_power_rails (s : State) : (settle s).power.rails = s.power.rails := by
  obtain ⟨a, b, i, o, h, _⟩ := settle_eq s; rw [h]
@[simp] theorem settle_power_trigWarn (s : State) : (settle s).power.trigWarn = s.power.trigWarn := by
  obtain ⟨a, b, i, o, h, _⟩ := settle_eq s; rw [h]
@[simp] theorem settle_power_trigCrit (s : State) : (settle s).power.trigCrit = s.power.trigCrit := by
  obtain ⟨a, b, i, o, h, _⟩ := settle_eq s; rw [h]
@[simp] theorem settle_power_trigLimit (s : State) : (settle s).power.trigLimit = s.power.trigLimit := by
  obtain ⟨a, b, i, o, h, _⟩ := settle_eq s; rw [h]
@[simp] theorem settle_power_trigThermal (s : State) : (settle s).power.trigThermal = s.power.trigThermal := by
  obtain ⟨a, b, i, o, h, _⟩ := settle_eq s; rw [h]
@[simp] theorem settle_power_trigEnable (s : State) : (settle s).power.trigEnable = s.power.trigEnable := by
  obtain ⟨a, b, i, o, h, _⟩ := settle_eq s; rw [h]
@[simp] theorem settle_power_dwell (s : State) : (settle s).power.dwell = s.power.dwell := by
  obtain ⟨a, b, i, o, h, _⟩ := settle_eq s; rw [h]
@[simp] theorem settle_power_stage (s : State) : (settle s).power.stage = s.power.stage := by
  obtain ⟨a, b, i, o, h, _⟩ := settle_eq s; rw [h]
@[simp] theorem settle_power_stageDone (s : State) : (settle s).power.stageDone = s.power.stageDone := by
  obtain ⟨a, b, i, o, h, _⟩ := settle_eq s; rw [h]
@[simp] theorem settle_power_stageAt (s : State) : (settle s).power.stageAt = s.power.stageAt := by
  obtain ⟨a, b, i, o, h, _⟩ := settle_eq s; rw [h]
@[simp] theorem settle_power_jumpToFive (s : State) : (settle s).power.jumpToFive = s.power.jumpToFive := by
  obtain ⟨a, b, i, o, h, _⟩ := settle_eq s; rw [h]
@[simp] theorem settle_power_clearedAt (s : State) : (settle s).power.clearedAt = s.power.clearedAt := by
  obtain ⟨a, b, i, o, h, _⟩ := settle_eq s; rw [h]
@[simp] theorem settle_power_restoredAt (s : State) : (settle s).power.restoredAt = s.power.restoredAt := by
  obtain ⟨a, b, i, o, h, _⟩ := settle_eq s; rw [h]
@[simp] theorem settle_power_restoring (s : State) : (settle s).power.restoring = s.power.restoring := by
  obtain ⟨a, b, i, o, h, _⟩ := settle_eq s; rw [h]
@[simp] theorem settle_power_cclkBefore (s : State) : (settle s).power.cclkBefore = s.power.cclkBefore := by
  obtain ⟨a, b, i, o, h, _⟩ := settle_eq s; rw [h]
@[simp] theorem settle_power_voltBefore (s : State) : (settle s).power.voltBefore = s.power.voltBefore := by
  obtain ⟨a, b, i, o, h, _⟩ := settle_eq s; rw [h]
@[simp] theorem settle_power_shedPorts (s : State) : (settle s).power.shedPorts = s.power.shedPorts := by
  obtain ⟨a, b, i, o, h, _⟩ := settle_eq s; rw [h]
@[simp] theorem settle_power_disabledPorts (s : State) : (settle s).power.disabledPorts = s.power.disabledPorts := by
  obtain ⟨a, b, i, o, h, _⟩ := settle_eq s; rw [h]
@[simp] theorem settle_power_dormant (s : State) : (settle s).power.dormant = s.power.dormant := by
  obtain ⟨a, b, i, o, h, _⟩ := settle_eq s; rw [h]
@[simp] theorem settle_power_wake (s : State) : (settle s).power.wake = s.power.wake := by
  obtain ⟨a, b, i, o, h, _⟩ := settle_eq s; rw [h]
@[simp] theorem settle_power_heldMode (s : State) : (settle s).power.heldMode = s.power.heldMode := by
  obtain ⟨a, b, i, o, h, _⟩ := settle_eq s; rw [h]
@[simp] theorem settle_power_entryCompat (s : State) : (settle s).power.entryCompat = s.power.entryCompat := by
  obtain ⟨a, b, i, o, h, _⟩ := settle_eq s; rw [h]
@[simp] theorem settle_power_compat (s : State) : (settle s).power.compat = s.power.compat := by
  obtain ⟨a, b, i, o, h, _⟩ := settle_eq s; rw [h]
@[simp] theorem settle_power_wakeEn (s : State) : (settle s).power.wakeEn = s.power.wakeEn := by
  obtain ⟨a, b, i, o, h, _⟩ := settle_eq s; rw [h]
@[simp] theorem settle_power_padsLatched (s : State) : (settle s).power.padsLatched = s.power.padsLatched := by
  obtain ⟨a, b, i, o, h, _⟩ := settle_eq s; rw [h]
@[simp] theorem settle_power_dormantVolt (s : State) : (settle s).power.dormantVolt = s.power.dormantVolt := by
  obtain ⟨a, b, i, o, h, _⟩ := settle_eq s; rw [h]
@[simp] theorem settle_power_dormantCclk (s : State) : (settle s).power.dormantCclk = s.power.dormantCclk := by
  obtain ⟨a, b, i, o, h, _⟩ := settle_eq s; rw [h]
@[simp] theorem settle_power_dormantPorts (s : State) : (settle s).power.dormantPorts = s.power.dormantPorts := by
  obtain ⟨a, b, i, o, h, _⟩ := settle_eq s; rw [h]
@[simp] theorem settle_power_lost0 (s : State) : (settle s).power.lost0 = s.power.lost0 := by
  obtain ⟨a, b, i, o, h, _⟩ := settle_eq s; rw [h]
@[simp] theorem settle_power_lost1 (s : State) : (settle s).power.lost1 = s.power.lost1 := by
  obtain ⟨a, b, i, o, h, _⟩ := settle_eq s; rw [h]
@[simp] theorem settle_power_bists (s : State) : (settle s).power.bists = s.power.bists := by
  obtain ⟨a, b, i, o, h, _⟩ := settle_eq s; rw [h]
@[simp] theorem settle_power_trained (s : State) : (settle s).power.trained = s.power.trained := by
  obtain ⟨a, b, i, o, h, _⟩ := settle_eq s; rw [h]
@[simp] theorem settle_power_failedSegments (s : State) : (settle s).power.failedSegments = s.power.failedSegments := by
  obtain ⟨a, b, i, o, h, _⟩ := settle_eq s; rw [h]
@[simp] theorem settle_power_retraining (s : State) : (settle s).power.retraining = s.power.retraining := by
  obtain ⟨a, b, i, o, h, _⟩ := settle_eq s; rw [h]
@[simp] theorem settle_power_coreSkew (s : State) : (settle s).power.coreSkew = s.power.coreSkew := by
  obtain ⟨a, b, i, o, h, _⟩ := settle_eq s; rw [h]
@[simp] theorem settle_power_coreDiff (s : State) : (settle s).power.coreDiff = s.power.coreDiff := by
  obtain ⟨a, b, i, o, h, _⟩ := settle_eq s; rw [h]
@[simp] theorem settle_power_retrained (s : State) : (settle s).power.retrained = s.power.retrained := by
  obtain ⟨a, b, i, o, h, _⟩ := settle_eq s; rw [h]
@[simp] theorem settle_power_readyInt (s : State) : (settle s).power.readyInt = s.power.readyInt := by
  obtain ⟨a, b, i, o, h, _⟩ := settle_eq s; rw [h]
@[simp] theorem settle_power_readyVector (s : State) : (settle s).power.readyVector = s.power.readyVector := by
  obtain ⟨a, b, i, o, h, _⟩ := settle_eq s; rw [h]
@[simp] theorem settle_power_mgmtUp (s : State) : (settle s).power.mgmtUp = s.power.mgmtUp := by
  obtain ⟨a, b, i, o, h, _⟩ := settle_eq s; rw [h]

theorem raise_of_outs (v : Severity) (k : Nat) (p : List Byte) (u s : State) (h : ∃ c, u = { s with clk.outs := c }) :
    ∃ c l g m i o, raise v k p u = { s with clk.outs := c, log := l, cmd.rings := g, hier.mirrorQ := m, board.intAt := i, out := o } ∧ ∀ x ∈ s.out, x ∈ o := by
  obtain ⟨c, rfl⟩ := h
  obtain ⟨l, g, m, i, o, e, ho⟩ := raiseAt_eq 0xFF v k p { s with clk.outs := c }
  exact ⟨c, l, g, m, i, o, e, ho⟩

theorem squelchIt_eq (n : Nat) (s : State) : ∃ c l g m i o, squelchIt n s =
    { s with clk.outs := c, log := l, cmd.rings := g, hier.mirrorQ := m, board.intAt := i, out := o } ∧ ∀ x ∈ s.out, x ∈ o := by
  unfold squelchIt
  dsimp only
  split
  · exact ⟨_, _, _, _, _, _, rfl, fun _ h => h⟩
  · split
    · exact raise_of_outs _ _ _ _ s ⟨_, rfl⟩
    · exact ⟨_, _, _, _, _, _, rfl, fun _ h => h⟩

theorem stopOut_eq (n : Nat) (d : AT80) (s : State) : ∃ c o, stopOut n d s = { s with clk.outs := c, out := o } ∧ ∀ x ∈ s.out, x ∈ o := by
  unfold stopOut
  dsimp only
  split
  · exact ⟨s.clk.outs, s.out, rfl, fun _ h => h⟩
  · exact ⟨_, _, rfl, fun _ h => List.mem_cons_of_mem _ h⟩

theorem followOut_eq (n : Nat) (s : State) : ∃ c o, followOut n s = { s with clk.outs := c, out := o } ∧ ∀ x ∈ s.out, x ∈ o := by
  unfold followOut
  dsimp only
  split
  · exact ⟨_, _, rfl, fun _ h => List.mem_cons_of_mem _ h⟩
  · exact stopOut_eq n 0 s
  · exact ⟨s.clk.outs, s.out, rfl, fun _ h => h⟩

theorem squelchOut_eq (s : State) (n : Nat) : ∃ c l g m i o, squelchOut s n =
    { s with clk.outs := c, log := l, cmd.rings := g, hier.mirrorQ := m, board.intAt := i, out := o } ∧ ∀ x ∈ s.out, x ∈ o := by
  obtain ⟨c, l, g, m, i, o, h, ho⟩ := squelchIt_eq n s
  obtain ⟨c2, o2, h2, ho2⟩ := followOut_eq n (squelchIt n s)
  rw [h] at h2 ho2
  refine ⟨c2, l, g, m, i, o2, ?_, fun x hx => ho2 x (ho x hx)⟩
  rw [squelchOut, h, h2]

theorem squelchFold_eq (ks : List Nat) (s : State) : ∃ c l g m i o, ks.foldl squelchOut s =
    { s with clk.outs := c, log := l, cmd.rings := g, hier.mirrorQ := m, board.intAt := i, out := o } ∧ ∀ x ∈ s.out, x ∈ o := by
  induction ks generalizing s with
  | nil => exact ⟨_, _, _, _, _, _, rfl, fun _ h => h⟩
  | cons k ks ih =>
    obtain ⟨c, l, g, m, i, o, e, ho⟩ := squelchOut_eq s k
    obtain ⟨c2, l2, g2, m2, i2, o2, e2, ho2⟩ := ih (squelchOut s k)
    rw [e] at e2 ho2
    refine ⟨c2, l2, g2, m2, i2, o2, ?_, fun x h => ho2 x (ho x h)⟩
    rw [List.foldl_cons, e, e2]

theorem squelchAll_eq (s : State) : ∃ c l g m i o, squelchAll s =
    { s with clk.outs := c, log := l, cmd.rings := g, hier.mirrorQ := m, board.intAt := i, out := o } ∧ ∀ x ∈ s.out, x ∈ o :=
  squelchFold_eq _ s

@[simp] theorem squelchAll_part (s : State) : (squelchAll s).part = s.part := by
  obtain ⟨c, l, g, m, i, o, h, _⟩ := squelchAll_eq s; rw [h]
@[simp] theorem squelchAll_variant (s : State) : (squelchAll s).variant = s.variant := by
  obtain ⟨c, l, g, m, i, o, h, _⟩ := squelchAll_eq s; rw [h]
@[simp] theorem squelchAll_stepping (s : State) : (squelchAll s).stepping = s.stepping := by
  obtain ⟨c, l, g, m, i, o, h, _⟩ := squelchAll_eq s; rw [h]
@[simp] theorem squelchAll_serials (s : State) : (squelchAll s).serials = s.serials := by
  obtain ⟨c, l, g, m, i, o, h, _⟩ := squelchAll_eq s; rw [h]
@[simp] theorem squelchAll_macBase (s : State) : (squelchAll s).macBase = s.macBase := by
  obtain ⟨c, l, g, m, i, o, h, _⟩ := squelchAll_eq s; rw [h]
@[simp] theorem squelchAll_time (s : State) : (squelchAll s).time = s.time := by
  obtain ⟨c, l, g, m, i, o, h, _⟩ := squelchAll_eq s; rw [h]
@[simp] theorem squelchAll_power (s : State) : (squelchAll s).power = s.power := by
  obtain ⟨c, l, g, m, i, o, h, _⟩ := squelchAll_eq s; rw [h]
@[simp] theorem squelchAll_fwd (s : State) : (squelchAll s).fwd = s.fwd := by
  obtain ⟨c, l, g, m, i, o, h, _⟩ := squelchAll_eq s; rw [h]
@[simp] theorem squelchAll_port (s : State) : (squelchAll s).port = s.port := by
  obtain ⟨c, l, g, m, i, o, h, _⟩ := squelchAll_eq s; rw [h]
@[simp] theorem squelchAll_ref (s : State) : (squelchAll s).ref = s.ref := by
  obtain ⟨c, l, g, m, i, o, h, _⟩ := squelchAll_eq s; rw [h]
@[simp] theorem squelchAll_meas (s : State) : (squelchAll s).meas = s.meas := by
  obtain ⟨c, l, g, m, i, o, h, _⟩ := squelchAll_eq s; rw [h]
@[simp] theorem squelchAll_ctr (s : State) : (squelchAll s).ctr = s.ctr := by
  obtain ⟨c, l, g, m, i, o, h, _⟩ := squelchAll_eq s; rw [h]
@[simp] theorem squelchAll_cal (s : State) : (squelchAll s).cal = s.cal := by
  obtain ⟨c, l, g, m, i, o, h, _⟩ := squelchAll_eq s; rw [h]
@[simp] theorem squelchAll_pending (s : State) : (squelchAll s).pending = s.pending := by
  obtain ⟨c, l, g, m, i, o, h, _⟩ := squelchAll_eq s; rw [h]
@[simp] theorem squelchAll_freeIx (s : State) : (squelchAll s).freeIx = s.freeIx := by
  obtain ⟨c, l, g, m, i, o, h, _⟩ := squelchAll_eq s; rw [h]
@[simp] theorem squelchAll_board_active (s : State) : (squelchAll s).board.active = s.board.active := by
  obtain ⟨c, l, g, m, i, o, h, _⟩ := squelchAll_eq s; rw [h]
@[simp] theorem squelchAll_board_modctl (s : State) : (squelchAll s).board.modctl = s.board.modctl := by
  obtain ⟨c, l, g, m, i, o, h, _⟩ := squelchAll_eq s; rw [h]
@[simp] theorem squelchAll_board_modWrites (s : State) : (squelchAll s).board.modWrites = s.board.modWrites := by
  obtain ⟨c, l, g, m, i, o, h, _⟩ := squelchAll_eq s; rw [h]
@[simp] theorem squelchAll_board_modReset (s : State) : (squelchAll s).board.modReset = s.board.modReset := by
  obtain ⟨c, l, g, m, i, o, h, _⟩ := squelchAll_eq s; rw [h]
@[simp] theorem squelchAll_board_scan (s : State) : (squelchAll s).board.scan = s.board.scan := by
  obtain ⟨c, l, g, m, i, o, h, _⟩ := squelchAll_eq s; rw [h]
@[simp] theorem squelchAll_clk_oscOk (s : State) : (squelchAll s).clk.oscOk = s.clk.oscOk := by
  obtain ⟨c, l, g, m, i, o, h, _⟩ := squelchAll_eq s; rw [h]
@[simp] theorem squelchAll_clk_oscLost (s : State) : (squelchAll s).clk.oscLost = s.clk.oscLost := by
  obtain ⟨c, l, g, m, i, o, h, _⟩ := squelchAll_eq s; rw [h]
@[simp] theorem squelchAll_clk_oscLostAt (s : State) : (squelchAll s).clk.oscLostAt = s.clk.oscLostAt := by
  obtain ⟨c, l, g, m, i, o, h, _⟩ := squelchAll_eq s; rw [h]
@[simp] theorem squelchAll_clk_mclkBoot (s : State) : (squelchAll s).clk.mclkBoot = s.clk.mclkBoot := by
  obtain ⟨c, l, g, m, i, o, h, _⟩ := squelchAll_eq s; rw [h]
@[simp] theorem squelchAll_clk_oscTimeout (s : State) : (squelchAll s).clk.oscTimeout = s.clk.oscTimeout := by
  obtain ⟨c, l, g, m, i, o, h, _⟩ := squelchAll_eq s; rw [h]
@[simp] theorem squelchAll_clk_asynLock (s : State) : (squelchAll s).clk.asynLock = s.clk.asynLock := by
  obtain ⟨c, l, g, m, i, o, h, _⟩ := squelchAll_eq s; rw [h]
@[simp] theorem squelchAll_clk_cores (s : State) : (squelchAll s).clk.cores = s.clk.cores := by
  obtain ⟨c, l, g, m, i, o, h, _⟩ := squelchAll_eq s; rw [h]
@[simp] theorem squelchAll_clk_fwdResets (s : State) : (squelchAll s).clk.fwdResets = s.clk.fwdResets := by
  obtain ⟨c, l, g, m, i, o, h, _⟩ := squelchAll_eq s; rw [h]
@[simp] theorem squelchAll_clk_cclk (s : State) : (squelchAll s).clk.cclk = s.clk.cclk := by
  obtain ⟨c, l, g, m, i, o, h, _⟩ := squelchAll_eq s; rw [h]
@[simp] theorem squelchAll_clk_ramp (s : State) : (squelchAll s).clk.ramp = s.clk.ramp := by
  obtain ⟨c, l, g, m, i, o, h, _⟩ := squelchAll_eq s; rw [h]
@[simp] theorem squelchAll_clk_profile (s : State) : (squelchAll s).clk.profile = s.clk.profile := by
  obtain ⟨c, l, g, m, i, o, h, _⟩ := squelchAll_eq s; rw [h]
@[simp] theorem squelchAll_clk_fused0 (s : State) : (squelchAll s).clk.fused0 = s.clk.fused0 := by
  obtain ⟨c, l, g, m, i, o, h, _⟩ := squelchAll_eq s; rw [h]
@[simp] theorem squelchAll_clk_fused1 (s : State) : (squelchAll s).clk.fused1 = s.clk.fused1 := by
  obtain ⟨c, l, g, m, i, o, h, _⟩ := squelchAll_eq s; rw [h]
@[simp] theorem squelchAll_clk_laneWindow (s : State) : (squelchAll s).clk.laneWindow = s.clk.laneWindow := by
  obtain ⟨c, l, g, m, i, o, h, _⟩ := squelchAll_eq s; rw [h]
@[simp] theorem squelchAll_clk_laneN (s : State) : (squelchAll s).clk.laneN = s.clk.laneN := by
  obtain ⟨c, l, g, m, i, o, h, _⟩ := squelchAll_eq s; rw [h]
@[simp] theorem squelchAll_clk_lanePlls (s : State) : (squelchAll s).clk.lanePlls = s.clk.lanePlls := by
  obtain ⟨c, l, g, m, i, o, h, _⟩ := squelchAll_eq s; rw [h]
@[simp] theorem squelchAll_cmd_commits (s : State) : (squelchAll s).cmd.commits = s.cmd.commits := by
  obtain ⟨c, l, g, m, i, o, h, _⟩ := squelchAll_eq s; rw [h]
@[simp] theorem squelchAll_cmd_holder (s : State) : (squelchAll s).cmd.holder = s.cmd.holder := by
  obtain ⟨c, l, g, m, i, o, h, _⟩ := squelchAll_eq s; rw [h]
@[simp] theorem squelchAll_cmd_lease (s : State) : (squelchAll s).cmd.lease = s.cmd.lease := by
  obtain ⟨c, l, g, m, i, o, h, _⟩ := squelchAll_eq s; rw [h]
@[simp] theorem squelchAll_cmd_leaseFrom (s : State) : (squelchAll s).cmd.leaseFrom = s.cmd.leaseFrom := by
  obtain ⟨c, l, g, m, i, o, h, _⟩ := squelchAll_eq s; rw [h]
@[simp] theorem squelchAll_cmd_pcieSeq (s : State) : (squelchAll s).cmd.pcieSeq = s.cmd.pcieSeq := by
  obtain ⟨c, l, g, m, i, o, h, _⟩ := squelchAll_eq s; rw [h]
@[simp] theorem squelchAll_cmd_mgmtSeq (s : State) : (squelchAll s).cmd.mgmtSeq = s.cmd.mgmtSeq := by
  obtain ⟨c, l, g, m, i, o, h, _⟩ := squelchAll_eq s; rw [h]
@[simp] theorem squelchAll_cmd_inbandLast (s : State) : (squelchAll s).cmd.inbandLast = s.cmd.inbandLast := by
  obtain ⟨c, l, g, m, i, o, h, _⟩ := squelchAll_eq s; rw [h]
@[simp] theorem squelchAll_cmd_mailboxes (s : State) : (squelchAll s).cmd.mailboxes = s.cmd.mailboxes := by
  obtain ⟨c, l, g, m, i, o, h, _⟩ := squelchAll_eq s; rw [h]
@[simp] theorem squelchAll_cmd_notifyPcie (s : State) : (squelchAll s).cmd.notifyPcie = s.cmd.notifyPcie := by
  obtain ⟨c, l, g, m, i, o, h, _⟩ := squelchAll_eq s; rw [h]
@[simp] theorem squelchAll_cmd_notifyMgmt (s : State) : (squelchAll s).cmd.notifyMgmt = s.cmd.notifyMgmt := by
  obtain ⟨c, l, g, m, i, o, h, _⟩ := squelchAll_eq s; rw [h]
@[simp] theorem squelchAll_cmd_notifyInband (s : State) : (squelchAll s).cmd.notifyInband = s.cmd.notifyInband := by
  obtain ⟨c, l, g, m, i, o, h, _⟩ := squelchAll_eq s; rw [h]
@[simp] theorem squelchAll_cmd_mgmt (s : State) : (squelchAll s).cmd.mgmt = s.cmd.mgmt := by
  obtain ⟨c, l, g, m, i, o, h, _⟩ := squelchAll_eq s; rw [h]
@[simp] theorem squelchAll_cmd_outstanding (s : State) : (squelchAll s).cmd.outstanding = s.cmd.outstanding := by
  obtain ⟨c, l, g, m, i, o, h, _⟩ := squelchAll_eq s; rw [h]
@[simp] theorem squelchAll_cmd_inbandSeq (s : State) : (squelchAll s).cmd.inbandSeq = s.cmd.inbandSeq := by
  obtain ⟨c, l, g, m, i, o, h, _⟩ := squelchAll_eq s; rw [h]
@[simp] theorem squelchAll_cmd_controllerUp (s : State) : (squelchAll s).cmd.controllerUp = s.cmd.controllerUp := by
  obtain ⟨c, l, g, m, i, o, h, _⟩ := squelchAll_eq s; rw [h]
@[simp] theorem squelchAll_cmd_controllerReset (s : State) : (squelchAll s).cmd.controllerReset = s.cmd.controllerReset := by
  obtain ⟨c, l, g, m, i, o, h, _⟩ := squelchAll_eq s; rw [h]
@[simp] theorem squelchAll_cmd_firmwareFault (s : State) : (squelchAll s).cmd.firmwareFault = s.cmd.firmwareFault := by
  obtain ⟨c, l, g, m, i, o, h, _⟩ := squelchAll_eq s; rw [h]
@[simp] theorem squelchAll_hier_role (s : State) : (squelchAll s).hier.role = s.hier.role := by
  obtain ⟨c, l, g, m, i, o, h, _⟩ := squelchAll_eq s; rw [h]
@[simp] theorem squelchAll_hier_node (s : State) : (squelchAll s).hier.node = s.hier.node := by
  obtain ⟨c, l, g, m, i, o, h, _⟩ := squelchAll_eq s; rw [h]
@[simp] theorem squelchAll_hier_last (s : State) : (squelchAll s).hier.last = s.hier.last := by
  obtain ⟨c, l, g, m, i, o, h, _⟩ := squelchAll_eq s; rw [h]
@[simp] theorem squelchAll_hier_manager (s : State) : (squelchAll s).hier.manager = s.hier.manager := by
  obtain ⟨c, l, g, m, i, o, h, _⟩ := squelchAll_eq s; rw [h]
@[simp] theorem squelchAll_hier_depth (s : State) : (squelchAll s).hier.depth = s.hier.depth := by
  obtain ⟨c, l, g, m, i, o, h, _⟩ := squelchAll_eq s; rw [h]
@[simp] theorem squelchAll_hier_candidates (s : State) : (squelchAll s).hier.candidates = s.hier.candidates := by
  obtain ⟨c, l, g, m, i, o, h, _⟩ := squelchAll_eq s; rw [h]
@[simp] theorem squelchAll_hier_parent (s : State) : (squelchAll s).hier.parent = s.hier.parent := by
  obtain ⟨c, l, g, m, i, o, h, _⟩ := squelchAll_eq s; rw [h]
@[simp] theorem squelchAll_hier_parentPort (s : State) : (squelchAll s).hier.parentPort = s.hier.parentPort := by
  obtain ⟨c, l, g, m, i, o, h, _⟩ := squelchAll_eq s; rw [h]
@[simp] theorem squelchAll_hier_noParentSince (s : State) : (squelchAll s).hier.noParentSince = s.hier.noParentSince := by
  obtain ⟨c, l, g, m, i, o, h, _⟩ := squelchAll_eq s; rw [h]
@[simp] theorem squelchAll_hier_cls (s : State) : (squelchAll s).hier.cls = s.hier.cls := by
  obtain ⟨c, l, g, m, i, o, h, _⟩ := squelchAll_eq s; rw [h]
@[simp] theorem squelchAll_hier_mirrorUp (s : State) : (squelchAll s).hier.mirrorUp = s.hier.mirrorUp := by
  obtain ⟨c, l, g, m, i, o, h, _⟩ := squelchAll_eq s; rw [h]
@[simp] theorem squelchAll_hier_eventSink (s : State) : (squelchAll s).hier.eventSink = s.hier.eventSink := by
  obtain ⟨c, l, g, m, i, o, h, _⟩ := squelchAll_eq s; rw [h]
@[simp] theorem squelchAll_hier_deviceKey (s : State) : (squelchAll s).hier.deviceKey = s.hier.deviceKey := by
  obtain ⟨c, l, g, m, i, o, h, _⟩ := squelchAll_eq s; rw [h]
@[simp] theorem squelchAll_hier_fabricKey (s : State) : (squelchAll s).hier.fabricKey = s.hier.fabricKey := by
  obtain ⟨c, l, g, m, i, o, h, _⟩ := squelchAll_eq s; rw [h]
@[simp] theorem squelchAll_hier_keyInUse (s : State) : (squelchAll s).hier.keyInUse = s.hier.keyInUse := by
  obtain ⟨c, l, g, m, i, o, h, _⟩ := squelchAll_eq s; rw [h]
@[simp] theorem squelchAll_hier_oldKey (s : State) : (squelchAll s).hier.oldKey = s.hier.oldKey := by
  obtain ⟨c, l, g, m, i, o, h, _⟩ := squelchAll_eq s; rw [h]
@[simp] theorem squelchAll_hier_rolledAt (s : State) : (squelchAll s).hier.rolledAt = s.hier.rolledAt := by
  obtain ⟨c, l, g, m, i, o, h, _⟩ := squelchAll_eq s; rw [h]
@[simp] theorem squelchAll_hier_workers (s : State) : (squelchAll s).hier.workers = s.hier.workers := by
  obtain ⟨c, l, g, m, i, o, h, _⟩ := squelchAll_eq s; rw [h]
@[simp] theorem squelchAll_hier_epochs (s : State) : (squelchAll s).hier.epochs = s.hier.epochs := by
  obtain ⟨c, l, g, m, i, o, h, _⟩ := squelchAll_eq s; rw [h]
@[simp] theorem squelchAll_hier_epochMismatch (s : State) : (squelchAll s).hier.epochMismatch = s.hier.epochMismatch := by
  obtain ⟨c, l, g, m, i, o, h, _⟩ := squelchAll_eq s; rw [h]
@[simp] theorem squelchAll_hier_replays (s : State) : (squelchAll s).hier.replays = s.hier.replays := by
  obtain ⟨c, l, g, m, i, o, h, _⟩ := squelchAll_eq s; rw [h]
@[simp] theorem squelchAll_hier_replayFloor (s : State) : (squelchAll s).hier.replayFloor = s.hier.replayFloor := by
  obtain ⟨c, l, g, m, i, o, h, _⟩ := squelchAll_eq s; rw [h]
@[simp] theorem squelchAll_hier_enrolling (s : State) : (squelchAll s).hier.enrolling = s.hier.enrolling := by
  obtain ⟨c, l, g, m, i, o, h, _⟩ := squelchAll_eq s; rw [h]
@[simp] theorem squelchAll_hier_orphanQ (s : State) : (squelchAll s).hier.orphanQ = s.hier.orphanQ := by
  obtain ⟨c, l, g, m, i, o, h, _⟩ := squelchAll_eq s; rw [h]
@[simp] theorem squelchAll_hier_mirrorWindow (s : State) : (squelchAll s).hier.mirrorWindow = s.hier.mirrorWindow := by
  obtain ⟨c, l, g, m, i, o, h, _⟩ := squelchAll_eq s; rw [h]
@[simp] theorem squelchAll_hier_mirrorSent (s : State) : (squelchAll s).hier.mirrorSent = s.hier.mirrorSent := by
  obtain ⟨c, l, g, m, i, o, h, _⟩ := squelchAll_eq s; rw [h]

theorem trackParent_eq (s : State) : ∃ n, trackParent s = { s with hier.noParentSince := n } := by
  unfold trackParent
  split
  · exact ⟨s.hier.noParentSince, rfl⟩
  · split
    · exact ⟨_, rfl⟩
    · exact ⟨_, rfl⟩
    · exact ⟨s.hier.noParentSince, rfl⟩

@[simp] theorem trackParent_part (s : State) : (trackParent s).part = s.part := by
  obtain ⟨n, h⟩ := trackParent_eq s; rw [h]
@[simp] theorem trackParent_variant (s : State) : (trackParent s).variant = s.variant := by
  obtain ⟨n, h⟩ := trackParent_eq s; rw [h]
@[simp] theorem trackParent_stepping (s : State) : (trackParent s).stepping = s.stepping := by
  obtain ⟨n, h⟩ := trackParent_eq s; rw [h]
@[simp] theorem trackParent_serials (s : State) : (trackParent s).serials = s.serials := by
  obtain ⟨n, h⟩ := trackParent_eq s; rw [h]
@[simp] theorem trackParent_macBase (s : State) : (trackParent s).macBase = s.macBase := by
  obtain ⟨n, h⟩ := trackParent_eq s; rw [h]
@[simp] theorem trackParent_cmd (s : State) : (trackParent s).cmd = s.cmd := by
  obtain ⟨n, h⟩ := trackParent_eq s; rw [h]
@[simp] theorem trackParent_time (s : State) : (trackParent s).time = s.time := by
  obtain ⟨n, h⟩ := trackParent_eq s; rw [h]
@[simp] theorem trackParent_log (s : State) : (trackParent s).log = s.log := by
  obtain ⟨n, h⟩ := trackParent_eq s; rw [h]
@[simp] theorem trackParent_power (s : State) : (trackParent s).power = s.power := by
  obtain ⟨n, h⟩ := trackParent_eq s; rw [h]
@[simp] theorem trackParent_fwd (s : State) : (trackParent s).fwd = s.fwd := by
  obtain ⟨n, h⟩ := trackParent_eq s; rw [h]
@[simp] theorem trackParent_port (s : State) : (trackParent s).port = s.port := by
  obtain ⟨n, h⟩ := trackParent_eq s; rw [h]
@[simp] theorem trackParent_ref (s : State) : (trackParent s).ref = s.ref := by
  obtain ⟨n, h⟩ := trackParent_eq s; rw [h]
@[simp] theorem trackParent_clk (s : State) : (trackParent s).clk = s.clk := by
  obtain ⟨n, h⟩ := trackParent_eq s; rw [h]
@[simp] theorem trackParent_meas (s : State) : (trackParent s).meas = s.meas := by
  obtain ⟨n, h⟩ := trackParent_eq s; rw [h]
@[simp] theorem trackParent_ctr (s : State) : (trackParent s).ctr = s.ctr := by
  obtain ⟨n, h⟩ := trackParent_eq s; rw [h]
@[simp] theorem trackParent_cal (s : State) : (trackParent s).cal = s.cal := by
  obtain ⟨n, h⟩ := trackParent_eq s; rw [h]
@[simp] theorem trackParent_board (s : State) : (trackParent s).board = s.board := by
  obtain ⟨n, h⟩ := trackParent_eq s; rw [h]
@[simp] theorem trackParent_pending (s : State) : (trackParent s).pending = s.pending := by
  obtain ⟨n, h⟩ := trackParent_eq s; rw [h]
@[simp] theorem trackParent_freeIx (s : State) : (trackParent s).freeIx = s.freeIx := by
  obtain ⟨n, h⟩ := trackParent_eq s; rw [h]
@[simp] theorem trackParent_out (s : State) : (trackParent s).out = s.out := by
  obtain ⟨n, h⟩ := trackParent_eq s; rw [h]
@[simp] theorem trackParent_hier_role (s : State) : (trackParent s).hier.role = s.hier.role := by
  obtain ⟨n, h⟩ := trackParent_eq s; rw [h]
@[simp] theorem trackParent_hier_node (s : State) : (trackParent s).hier.node = s.hier.node := by
  obtain ⟨n, h⟩ := trackParent_eq s; rw [h]
@[simp] theorem trackParent_hier_last (s : State) : (trackParent s).hier.last = s.hier.last := by
  obtain ⟨n, h⟩ := trackParent_eq s; rw [h]
@[simp] theorem trackParent_hier_manager (s : State) : (trackParent s).hier.manager = s.hier.manager := by
  obtain ⟨n, h⟩ := trackParent_eq s; rw [h]
@[simp] theorem trackParent_hier_depth (s : State) : (trackParent s).hier.depth = s.hier.depth := by
  obtain ⟨n, h⟩ := trackParent_eq s; rw [h]
@[simp] theorem trackParent_hier_candidates (s : State) : (trackParent s).hier.candidates = s.hier.candidates := by
  obtain ⟨n, h⟩ := trackParent_eq s; rw [h]
@[simp] theorem trackParent_hier_parent (s : State) : (trackParent s).hier.parent = s.hier.parent := by
  obtain ⟨n, h⟩ := trackParent_eq s; rw [h]
@[simp] theorem trackParent_hier_parentPort (s : State) : (trackParent s).hier.parentPort = s.hier.parentPort := by
  obtain ⟨n, h⟩ := trackParent_eq s; rw [h]
@[simp] theorem trackParent_hier_cls (s : State) : (trackParent s).hier.cls = s.hier.cls := by
  obtain ⟨n, h⟩ := trackParent_eq s; rw [h]
@[simp] theorem trackParent_hier_mirrorUp (s : State) : (trackParent s).hier.mirrorUp = s.hier.mirrorUp := by
  obtain ⟨n, h⟩ := trackParent_eq s; rw [h]
@[simp] theorem trackParent_hier_eventSink (s : State) : (trackParent s).hier.eventSink = s.hier.eventSink := by
  obtain ⟨n, h⟩ := trackParent_eq s; rw [h]
@[simp] theorem trackParent_hier_deviceKey (s : State) : (trackParent s).hier.deviceKey = s.hier.deviceKey := by
  obtain ⟨n, h⟩ := trackParent_eq s; rw [h]
@[simp] theorem trackParent_hier_fabricKey (s : State) : (trackParent s).hier.fabricKey = s.hier.fabricKey := by
  obtain ⟨n, h⟩ := trackParent_eq s; rw [h]
@[simp] theorem trackParent_hier_keyInUse (s : State) : (trackParent s).hier.keyInUse = s.hier.keyInUse := by
  obtain ⟨n, h⟩ := trackParent_eq s; rw [h]
@[simp] theorem trackParent_hier_oldKey (s : State) : (trackParent s).hier.oldKey = s.hier.oldKey := by
  obtain ⟨n, h⟩ := trackParent_eq s; rw [h]
@[simp] theorem trackParent_hier_rolledAt (s : State) : (trackParent s).hier.rolledAt = s.hier.rolledAt := by
  obtain ⟨n, h⟩ := trackParent_eq s; rw [h]
@[simp] theorem trackParent_hier_workers (s : State) : (trackParent s).hier.workers = s.hier.workers := by
  obtain ⟨n, h⟩ := trackParent_eq s; rw [h]
@[simp] theorem trackParent_hier_epochs (s : State) : (trackParent s).hier.epochs = s.hier.epochs := by
  obtain ⟨n, h⟩ := trackParent_eq s; rw [h]
@[simp] theorem trackParent_hier_epochMismatch (s : State) : (trackParent s).hier.epochMismatch = s.hier.epochMismatch := by
  obtain ⟨n, h⟩ := trackParent_eq s; rw [h]
@[simp] theorem trackParent_hier_replays (s : State) : (trackParent s).hier.replays = s.hier.replays := by
  obtain ⟨n, h⟩ := trackParent_eq s; rw [h]
@[simp] theorem trackParent_hier_replayFloor (s : State) : (trackParent s).hier.replayFloor = s.hier.replayFloor := by
  obtain ⟨n, h⟩ := trackParent_eq s; rw [h]
@[simp] theorem trackParent_hier_enrolling (s : State) : (trackParent s).hier.enrolling = s.hier.enrolling := by
  obtain ⟨n, h⟩ := trackParent_eq s; rw [h]
@[simp] theorem trackParent_hier_mirrorQ (s : State) : (trackParent s).hier.mirrorQ = s.hier.mirrorQ := by
  obtain ⟨n, h⟩ := trackParent_eq s; rw [h]
@[simp] theorem trackParent_hier_orphanQ (s : State) : (trackParent s).hier.orphanQ = s.hier.orphanQ := by
  obtain ⟨n, h⟩ := trackParent_eq s; rw [h]
@[simp] theorem trackParent_hier_mirrorWindow (s : State) : (trackParent s).hier.mirrorWindow = s.hier.mirrorWindow := by
  obtain ⟨n, h⟩ := trackParent_eq s; rw [h]
@[simp] theorem trackParent_hier_mirrorSent (s : State) : (trackParent s).hier.mirrorSent = s.hier.mirrorSent := by
  obtain ⟨n, h⟩ := trackParent_eq s; rw [h]

/-- Everything that `finish` can change. -/
theorem finish_eq (s : State) : ∃ np c l g m a b i o, finish s =
    { s with hier.noParentSince := np, clk.outs := c, log := l, cmd.rings := g, hier.mirrorQ := m, power.shownReady := a, power.readySeq := b, board.intAt := i, out := o } ∧
    ∀ x ∈ s.out, x ∈ o := by
  obtain ⟨np, h1⟩ := trackParent_eq s
  obtain ⟨c, l, g, m, i, o, h2, ho⟩ := squelchAll_eq (trackParent s)
  obtain ⟨a, b, i2, o2, h3, ho2⟩ := settle_eq (squelchAll (trackParent s))
  refine ⟨np, c, l, g, m, a, b, i2, o2, ?_, ?_⟩
  · rw [finish, h3, h2, h1]
  · intro x hx
    apply ho2
    rw [h2]
    apply ho
    rw [h1]
    exact hx

@[simp] theorem finish_part (s : State) : (finish s).part = s.part := by
  obtain ⟨np, c, l, g, m, a, b, i, o, h, _⟩ := finish_eq s; rw [h]
@[simp] theorem finish_variant (s : State) : (finish s).variant = s.variant := by
  obtain ⟨np, c, l, g, m, a, b, i, o, h, _⟩ := finish_eq s; rw [h]
@[simp] theorem finish_stepping (s : State) : (finish s).stepping = s.stepping := by
  obtain ⟨np, c, l, g, m, a, b, i, o, h, _⟩ := finish_eq s; rw [h]
@[simp] theorem finish_serials (s : State) : (finish s).serials = s.serials := by
  obtain ⟨np, c, l, g, m, a, b, i, o, h, _⟩ := finish_eq s; rw [h]
@[simp] theorem finish_macBase (s : State) : (finish s).macBase = s.macBase := by
  obtain ⟨np, c, l, g, m, a, b, i, o, h, _⟩ := finish_eq s; rw [h]
@[simp] theorem finish_time (s : State) : (finish s).time = s.time := by
  obtain ⟨np, c, l, g, m, a, b, i, o, h, _⟩ := finish_eq s; rw [h]
@[simp] theorem finish_fwd (s : State) : (finish s).fwd = s.fwd := by
  obtain ⟨np, c, l, g, m, a, b, i, o, h, _⟩ := finish_eq s; rw [h]
@[simp] theorem finish_port (s : State) : (finish s).port = s.port := by
  obtain ⟨np, c, l, g, m, a, b, i, o, h, _⟩ := finish_eq s; rw [h]
@[simp] theorem finish_ref (s : State) : (finish s).ref = s.ref := by
  obtain ⟨np, c, l, g, m, a, b, i, o, h, _⟩ := finish_eq s; rw [h]
@[simp] theorem finish_meas (s : State) : (finish s).meas = s.meas := by
  obtain ⟨np, c, l, g, m, a, b, i, o, h, _⟩ := finish_eq s; rw [h]
@[simp] theorem finish_ctr (s : State) : (finish s).ctr = s.ctr := by
  obtain ⟨np, c, l, g, m, a, b, i, o, h, _⟩ := finish_eq s; rw [h]
@[simp] theorem finish_cal (s : State) : (finish s).cal = s.cal := by
  obtain ⟨np, c, l, g, m, a, b, i, o, h, _⟩ := finish_eq s; rw [h]
@[simp] theorem finish_pending (s : State) : (finish s).pending = s.pending := by
  obtain ⟨np, c, l, g, m, a, b, i, o, h, _⟩ := finish_eq s; rw [h]
@[simp] theorem finish_freeIx (s : State) : (finish s).freeIx = s.freeIx := by
  obtain ⟨np, c, l, g, m, a, b, i, o, h, _⟩ := finish_eq s; rw [h]
@[simp] theorem finish_board_active (s : State) : (finish s).board.active = s.board.active := by
  obtain ⟨np, c, l, g, m, a, b, i, o, h, _⟩ := finish_eq s; rw [h]
@[simp] theorem finish_board_modctl (s : State) : (finish s).board.modctl = s.board.modctl := by
  obtain ⟨np, c, l, g, m, a, b, i, o, h, _⟩ := finish_eq s; rw [h]
@[simp] theorem finish_board_modWrites (s : State) : (finish s).board.modWrites = s.board.modWrites := by
  obtain ⟨np, c, l, g, m, a, b, i, o, h, _⟩ := finish_eq s; rw [h]
@[simp] theorem finish_board_modReset (s : State) : (finish s).board.modReset = s.board.modReset := by
  obtain ⟨np, c, l, g, m, a, b, i, o, h, _⟩ := finish_eq s; rw [h]
@[simp] theorem finish_board_scan (s : State) : (finish s).board.scan = s.board.scan := by
  obtain ⟨np, c, l, g, m, a, b, i, o, h, _⟩ := finish_eq s; rw [h]
@[simp] theorem finish_clk_oscOk (s : State) : (finish s).clk.oscOk = s.clk.oscOk := by
  obtain ⟨np, c, l, g, m, a, b, i, o, h, _⟩ := finish_eq s; rw [h]
@[simp] theorem finish_clk_oscLost (s : State) : (finish s).clk.oscLost = s.clk.oscLost := by
  obtain ⟨np, c, l, g, m, a, b, i, o, h, _⟩ := finish_eq s; rw [h]
@[simp] theorem finish_clk_oscLostAt (s : State) : (finish s).clk.oscLostAt = s.clk.oscLostAt := by
  obtain ⟨np, c, l, g, m, a, b, i, o, h, _⟩ := finish_eq s; rw [h]
@[simp] theorem finish_clk_mclkBoot (s : State) : (finish s).clk.mclkBoot = s.clk.mclkBoot := by
  obtain ⟨np, c, l, g, m, a, b, i, o, h, _⟩ := finish_eq s; rw [h]
@[simp] theorem finish_clk_oscTimeout (s : State) : (finish s).clk.oscTimeout = s.clk.oscTimeout := by
  obtain ⟨np, c, l, g, m, a, b, i, o, h, _⟩ := finish_eq s; rw [h]
@[simp] theorem finish_clk_asynLock (s : State) : (finish s).clk.asynLock = s.clk.asynLock := by
  obtain ⟨np, c, l, g, m, a, b, i, o, h, _⟩ := finish_eq s; rw [h]
@[simp] theorem finish_clk_cores (s : State) : (finish s).clk.cores = s.clk.cores := by
  obtain ⟨np, c, l, g, m, a, b, i, o, h, _⟩ := finish_eq s; rw [h]
@[simp] theorem finish_clk_fwdResets (s : State) : (finish s).clk.fwdResets = s.clk.fwdResets := by
  obtain ⟨np, c, l, g, m, a, b, i, o, h, _⟩ := finish_eq s; rw [h]
@[simp] theorem finish_clk_cclk (s : State) : (finish s).clk.cclk = s.clk.cclk := by
  obtain ⟨np, c, l, g, m, a, b, i, o, h, _⟩ := finish_eq s; rw [h]
@[simp] theorem finish_clk_ramp (s : State) : (finish s).clk.ramp = s.clk.ramp := by
  obtain ⟨np, c, l, g, m, a, b, i, o, h, _⟩ := finish_eq s; rw [h]
@[simp] theorem finish_clk_profile (s : State) : (finish s).clk.profile = s.clk.profile := by
  obtain ⟨np, c, l, g, m, a, b, i, o, h, _⟩ := finish_eq s; rw [h]
@[simp] theorem finish_clk_fused0 (s : State) : (finish s).clk.fused0 = s.clk.fused0 := by
  obtain ⟨np, c, l, g, m, a, b, i, o, h, _⟩ := finish_eq s; rw [h]
@[simp] theorem finish_clk_fused1 (s : State) : (finish s).clk.fused1 = s.clk.fused1 := by
  obtain ⟨np, c, l, g, m, a, b, i, o, h, _⟩ := finish_eq s; rw [h]
@[simp] theorem finish_clk_laneWindow (s : State) : (finish s).clk.laneWindow = s.clk.laneWindow := by
  obtain ⟨np, c, l, g, m, a, b, i, o, h, _⟩ := finish_eq s; rw [h]
@[simp] theorem finish_clk_laneN (s : State) : (finish s).clk.laneN = s.clk.laneN := by
  obtain ⟨np, c, l, g, m, a, b, i, o, h, _⟩ := finish_eq s; rw [h]
@[simp] theorem finish_clk_lanePlls (s : State) : (finish s).clk.lanePlls = s.clk.lanePlls := by
  obtain ⟨np, c, l, g, m, a, b, i, o, h, _⟩ := finish_eq s; rw [h]
@[simp] theorem finish_cmd_commits (s : State) : (finish s).cmd.commits = s.cmd.commits := by
  obtain ⟨np, c, l, g, m, a, b, i, o, h, _⟩ := finish_eq s; rw [h]
@[simp] theorem finish_cmd_holder (s : State) : (finish s).cmd.holder = s.cmd.holder := by
  obtain ⟨np, c, l, g, m, a, b, i, o, h, _⟩ := finish_eq s; rw [h]
@[simp] theorem finish_cmd_lease (s : State) : (finish s).cmd.lease = s.cmd.lease := by
  obtain ⟨np, c, l, g, m, a, b, i, o, h, _⟩ := finish_eq s; rw [h]
@[simp] theorem finish_cmd_leaseFrom (s : State) : (finish s).cmd.leaseFrom = s.cmd.leaseFrom := by
  obtain ⟨np, c, l, g, m, a, b, i, o, h, _⟩ := finish_eq s; rw [h]
@[simp] theorem finish_cmd_pcieSeq (s : State) : (finish s).cmd.pcieSeq = s.cmd.pcieSeq := by
  obtain ⟨np, c, l, g, m, a, b, i, o, h, _⟩ := finish_eq s; rw [h]
@[simp] theorem finish_cmd_mgmtSeq (s : State) : (finish s).cmd.mgmtSeq = s.cmd.mgmtSeq := by
  obtain ⟨np, c, l, g, m, a, b, i, o, h, _⟩ := finish_eq s; rw [h]
@[simp] theorem finish_cmd_inbandLast (s : State) : (finish s).cmd.inbandLast = s.cmd.inbandLast := by
  obtain ⟨np, c, l, g, m, a, b, i, o, h, _⟩ := finish_eq s; rw [h]
@[simp] theorem finish_cmd_mailboxes (s : State) : (finish s).cmd.mailboxes = s.cmd.mailboxes := by
  obtain ⟨np, c, l, g, m, a, b, i, o, h, _⟩ := finish_eq s; rw [h]
@[simp] theorem finish_cmd_notifyPcie (s : State) : (finish s).cmd.notifyPcie = s.cmd.notifyPcie := by
  obtain ⟨np, c, l, g, m, a, b, i, o, h, _⟩ := finish_eq s; rw [h]
@[simp] theorem finish_cmd_notifyMgmt (s : State) : (finish s).cmd.notifyMgmt = s.cmd.notifyMgmt := by
  obtain ⟨np, c, l, g, m, a, b, i, o, h, _⟩ := finish_eq s; rw [h]
@[simp] theorem finish_cmd_notifyInband (s : State) : (finish s).cmd.notifyInband = s.cmd.notifyInband := by
  obtain ⟨np, c, l, g, m, a, b, i, o, h, _⟩ := finish_eq s; rw [h]
@[simp] theorem finish_cmd_mgmt (s : State) : (finish s).cmd.mgmt = s.cmd.mgmt := by
  obtain ⟨np, c, l, g, m, a, b, i, o, h, _⟩ := finish_eq s; rw [h]
@[simp] theorem finish_cmd_outstanding (s : State) : (finish s).cmd.outstanding = s.cmd.outstanding := by
  obtain ⟨np, c, l, g, m, a, b, i, o, h, _⟩ := finish_eq s; rw [h]
@[simp] theorem finish_cmd_inbandSeq (s : State) : (finish s).cmd.inbandSeq = s.cmd.inbandSeq := by
  obtain ⟨np, c, l, g, m, a, b, i, o, h, _⟩ := finish_eq s; rw [h]
@[simp] theorem finish_cmd_controllerUp (s : State) : (finish s).cmd.controllerUp = s.cmd.controllerUp := by
  obtain ⟨np, c, l, g, m, a, b, i, o, h, _⟩ := finish_eq s; rw [h]
@[simp] theorem finish_cmd_controllerReset (s : State) : (finish s).cmd.controllerReset = s.cmd.controllerReset := by
  obtain ⟨np, c, l, g, m, a, b, i, o, h, _⟩ := finish_eq s; rw [h]
@[simp] theorem finish_cmd_firmwareFault (s : State) : (finish s).cmd.firmwareFault = s.cmd.firmwareFault := by
  obtain ⟨np, c, l, g, m, a, b, i, o, h, _⟩ := finish_eq s; rw [h]
@[simp] theorem finish_hier_role (s : State) : (finish s).hier.role = s.hier.role := by
  obtain ⟨np, c, l, g, m, a, b, i, o, h, _⟩ := finish_eq s; rw [h]
@[simp] theorem finish_hier_node (s : State) : (finish s).hier.node = s.hier.node := by
  obtain ⟨np, c, l, g, m, a, b, i, o, h, _⟩ := finish_eq s; rw [h]
@[simp] theorem finish_hier_last (s : State) : (finish s).hier.last = s.hier.last := by
  obtain ⟨np, c, l, g, m, a, b, i, o, h, _⟩ := finish_eq s; rw [h]
@[simp] theorem finish_hier_manager (s : State) : (finish s).hier.manager = s.hier.manager := by
  obtain ⟨np, c, l, g, m, a, b, i, o, h, _⟩ := finish_eq s; rw [h]
@[simp] theorem finish_hier_depth (s : State) : (finish s).hier.depth = s.hier.depth := by
  obtain ⟨np, c, l, g, m, a, b, i, o, h, _⟩ := finish_eq s; rw [h]
@[simp] theorem finish_hier_candidates (s : State) : (finish s).hier.candidates = s.hier.candidates := by
  obtain ⟨np, c, l, g, m, a, b, i, o, h, _⟩ := finish_eq s; rw [h]
@[simp] theorem finish_hier_parent (s : State) : (finish s).hier.parent = s.hier.parent := by
  obtain ⟨np, c, l, g, m, a, b, i, o, h, _⟩ := finish_eq s; rw [h]
@[simp] theorem finish_hier_parentPort (s : State) : (finish s).hier.parentPort = s.hier.parentPort := by
  obtain ⟨np, c, l, g, m, a, b, i, o, h, _⟩ := finish_eq s; rw [h]
@[simp] theorem finish_hier_cls (s : State) : (finish s).hier.cls = s.hier.cls := by
  obtain ⟨np, c, l, g, m, a, b, i, o, h, _⟩ := finish_eq s; rw [h]
@[simp] theorem finish_hier_mirrorUp (s : State) : (finish s).hier.mirrorUp = s.hier.mirrorUp := by
  obtain ⟨np, c, l, g, m, a, b, i, o, h, _⟩ := finish_eq s; rw [h]
@[simp] theorem finish_hier_eventSink (s : State) : (finish s).hier.eventSink = s.hier.eventSink := by
  obtain ⟨np, c, l, g, m, a, b, i, o, h, _⟩ := finish_eq s; rw [h]
@[simp] theorem finish_hier_deviceKey (s : State) : (finish s).hier.deviceKey = s.hier.deviceKey := by
  obtain ⟨np, c, l, g, m, a, b, i, o, h, _⟩ := finish_eq s; rw [h]
@[simp] theorem finish_hier_fabricKey (s : State) : (finish s).hier.fabricKey = s.hier.fabricKey := by
  obtain ⟨np, c, l, g, m, a, b, i, o, h, _⟩ := finish_eq s; rw [h]
@[simp] theorem finish_hier_keyInUse (s : State) : (finish s).hier.keyInUse = s.hier.keyInUse := by
  obtain ⟨np, c, l, g, m, a, b, i, o, h, _⟩ := finish_eq s; rw [h]
@[simp] theorem finish_hier_oldKey (s : State) : (finish s).hier.oldKey = s.hier.oldKey := by
  obtain ⟨np, c, l, g, m, a, b, i, o, h, _⟩ := finish_eq s; rw [h]
@[simp] theorem finish_hier_rolledAt (s : State) : (finish s).hier.rolledAt = s.hier.rolledAt := by
  obtain ⟨np, c, l, g, m, a, b, i, o, h, _⟩ := finish_eq s; rw [h]
@[simp] theorem finish_hier_workers (s : State) : (finish s).hier.workers = s.hier.workers := by
  obtain ⟨np, c, l, g, m, a, b, i, o, h, _⟩ := finish_eq s; rw [h]
@[simp] theorem finish_hier_epochs (s : State) : (finish s).hier.epochs = s.hier.epochs := by
  obtain ⟨np, c, l, g, m, a, b, i, o, h, _⟩ := finish_eq s; rw [h]
@[simp] theorem finish_hier_epochMismatch (s : State) : (finish s).hier.epochMismatch = s.hier.epochMismatch := by
  obtain ⟨np, c, l, g, m, a, b, i, o, h, _⟩ := finish_eq s; rw [h]
@[simp] theorem finish_hier_replays (s : State) : (finish s).hier.replays = s.hier.replays := by
  obtain ⟨np, c, l, g, m, a, b, i, o, h, _⟩ := finish_eq s; rw [h]
@[simp] theorem finish_hier_replayFloor (s : State) : (finish s).hier.replayFloor = s.hier.replayFloor := by
  obtain ⟨np, c, l, g, m, a, b, i, o, h, _⟩ := finish_eq s; rw [h]
@[simp] theorem finish_hier_enrolling (s : State) : (finish s).hier.enrolling = s.hier.enrolling := by
  obtain ⟨np, c, l, g, m, a, b, i, o, h, _⟩ := finish_eq s; rw [h]
@[simp] theorem finish_hier_orphanQ (s : State) : (finish s).hier.orphanQ = s.hier.orphanQ := by
  obtain ⟨np, c, l, g, m, a, b, i, o, h, _⟩ := finish_eq s; rw [h]
@[simp] theorem finish_hier_mirrorWindow (s : State) : (finish s).hier.mirrorWindow = s.hier.mirrorWindow := by
  obtain ⟨np, c, l, g, m, a, b, i, o, h, _⟩ := finish_eq s; rw [h]
@[simp] theorem finish_hier_mirrorSent (s : State) : (finish s).hier.mirrorSent = s.hier.mirrorSent := by
  obtain ⟨np, c, l, g, m, a, b, i, o, h, _⟩ := finish_eq s; rw [h]
@[simp] theorem finish_power_mode (s : State) : (finish s).power.mode = s.power.mode := by
  obtain ⟨np, c, l, g, m, a, b, i, o, h, _⟩ := finish_eq s; rw [h]
@[simp] theorem finish_power_transition (s : State) : (finish s).power.transition = s.power.transition := by
  obtain ⟨np, c, l, g, m, a, b, i, o, h, _⟩ := finish_eq s; rw [h]
@[simp] theorem finish_power_restoreMode (s : State) : (finish s).power.restoreMode = s.power.restoreMode := by
  obtain ⟨np, c, l, g, m, a, b, i, o, h, _⟩ := finish_eq s; rw [h]
@[simp] theorem finish_power_porN (s : State) : (finish s).power.porN = s.power.porN := by
  obtain ⟨np, c, l, g, m, a, b, i, o, h, _⟩ := finish_eq s; rw [h]
@[simp] theorem finish_power_bootStep (s : State) : (finish s).power.bootStep = s.power.bootStep := by
  obtain ⟨np, c, l, g, m, a, b, i, o, h, _⟩ := finish_eq s; rw [h]
@[simp] theorem finish_power_bootSel (s : State) : (finish s).power.bootSel = s.power.bootSel := by
  obtain ⟨np, c, l, g, m, a, b, i, o, h, _⟩ := finish_eq s; rw [h]
@[simp] theorem finish_power_oscSel (s : State) : (finish s).power.oscSel = s.power.oscSel := by
  obtain ⟨np, c, l, g, m, a, b, i, o, h, _⟩ := finish_eq s; rw [h]
@[simp] theorem finish_power_slotB (s : State) : (finish s).power.slotB = s.power.slotB := by
  obtain ⟨np, c, l, g, m, a, b, i, o, h, _⟩ := finish_eq s; rw [h]
@[simp] theorem finish_power_fallback (s : State) : (finish s).power.fallback = s.power.fallback := by
  obtain ⟨np, c, l, g, m, a, b, i, o, h, _⟩ := finish_eq s; rw [h]
@[simp] theorem finish_power_fwVersion (s : State) : (finish s).power.fwVersion = s.power.fwVersion := by
  obtain ⟨np, c, l, g, m, a, b, i, o, h, _⟩ := finish_eq s; rw [h]
@[simp] theorem finish_power_secMin (s : State) : (finish s).power.secMin = s.power.secMin := by
  obtain ⟨np, c, l, g, m, a, b, i, o, h, _⟩ := finish_eq s; rw [h]
@[simp] theorem finish_power_booted (s : State) : (finish s).power.booted = s.power.booted := by
  obtain ⟨np, c, l, g, m, a, b, i, o, h, _⟩ := finish_eq s; rw [h]
@[simp] theorem finish_power_bootReason (s : State) : (finish s).power.bootReason = s.power.bootReason := by
  obtain ⟨np, c, l, g, m, a, b, i, o, h, _⟩ := finish_eq s; rw [h]
@[simp] theorem finish_power_porAt (s : State) : (finish s).power.porAt = s.power.porAt := by
  obtain ⟨np, c, l, g, m, a, b, i, o, h, _⟩ := finish_eq s; rw [h]
@[simp] theorem finish_power_elapsed (s : State) : (finish s).power.elapsed = s.power.elapsed := by
  obtain ⟨np, c, l, g, m, a, b, i, o, h, _⟩ := finish_eq s; rw [h]
@[simp] theorem finish_power_vddCore0 (s : State) : (finish s).power.vddCore0 = s.power.vddCore0 := by
  obtain ⟨np, c, l, g, m, a, b, i, o, h, _⟩ := finish_eq s; rw [h]
@[simp] theorem finish_power_vddCore1 (s : State) : (finish s).power.vddCore1 = s.power.vddCore1 := by
  obtain ⟨np, c, l, g, m, a, b, i, o, h, _⟩ := finish_eq s; rw [h]
@[simp] theorem finish_power_vddTime (s : State) : (finish s).power.vddTime = s.power.vddTime := by
  obtain ⟨np, c, l, g, m, a, b, i, o, h, _⟩ := finish_eq s; rw [h]
@[simp] theorem finish_power_timeTimeout (s : State) : (finish s).power.timeTimeout = s.power.timeTimeout := by
  obtain ⟨np, c, l, g, m, a, b, i, o, h, _⟩ := finish_eq s; rw [h]
@[simp] theorem finish_power_vkeep (s : State) : (finish s).power.vkeep = s.power.vkeep := by
  obtain ⟨np, c, l, g, m, a, b, i, o, h, _⟩ := finish_eq s; rw [h]
@[simp] theorem finish_power_vigil (s : State) : (finish s).power.vigil = s.power.vigil := by
  obtain ⟨np, c, l, g, m, a, b, i, o, h, _⟩ := finish_eq s; rw [h]
@[simp] theorem finish_power_opSeconds (s : State) : (finish s).power.opSeconds = s.power.opSeconds := by
  obtain ⟨np, c, l, g, m, a, b, i, o, h, _⟩ := finish_eq s; rw [h]
@[simp] theorem finish_power_powerCycles (s : State) : (finish s).power.powerCycles = s.power.powerCycles := by
  obtain ⟨np, c, l, g, m, a, b, i, o, h, _⟩ := finish_eq s; rw [h]
@[simp] theorem finish_power_coarseValid (s : State) : (finish s).power.coarseValid = s.power.coarseValid := by
  obtain ⟨np, c, l, g, m, a, b, i, o, h, _⟩ := finish_eq s; rw [h]
@[simp] theorem finish_power_coarseSec (s : State) : (finish s).power.coarseSec = s.power.coarseSec := by
  obtain ⟨np, c, l, g, m, a, b, i, o, h, _⟩ := finish_eq s; rw [h]
@[simp] theorem finish_power_coarseSub (s : State) : (finish s).power.coarseSub = s.power.coarseSub := by
  obtain ⟨np, c, l, g, m, a, b, i, o, h, _⟩ := finish_eq s; rw [h]
@[simp] theorem finish_power_coarseFrom (s : State) : (finish s).power.coarseFrom = s.power.coarseFrom := by
  obtain ⟨np, c, l, g, m, a, b, i, o, h, _⟩ := finish_eq s; rw [h]
@[simp] theorem finish_power_coarseTick (s : State) : (finish s).power.coarseTick = s.power.coarseTick := by
  obtain ⟨np, c, l, g, m, a, b, i, o, h, _⟩ := finish_eq s; rw [h]
@[simp] theorem finish_power_scratch (s : State) : (finish s).power.scratch = s.power.scratch := by
  obtain ⟨np, c, l, g, m, a, b, i, o, h, _⟩ := finish_eq s; rw [h]
@[simp] theorem finish_power_failure (s : State) : (finish s).power.failure = s.power.failure := by
  obtain ⟨np, c, l, g, m, a, b, i, o, h, _⟩ := finish_eq s; rw [h]
@[simp] theorem finish_power_rails (s : State) : (finish s).power.rails = s.power.rails := by
  obtain ⟨np, c, l, g, m, a, b, i, o, h, _⟩ := finish_eq s; rw [h]
@[simp] theorem finish_power_trigWarn (s : State) : (finish s).power.trigWarn = s.power.trigWarn := by
  obtain ⟨np, c, l, g, m, a, b, i, o, h, _⟩ := finish_eq s; rw [h]
@[simp] theorem finish_power_trigCrit (s : State) : (finish s).power.trigCrit = s.power.trigCrit := by
  obtain ⟨np, c, l, g, m, a, b, i, o, h, _⟩ := finish_eq s; rw [h]
@[simp] theorem finish_power_trigLimit (s : State) : (finish s).power.trigLimit = s.power.trigLimit := by
  obtain ⟨np, c, l, g, m, a, b, i, o, h, _⟩ := finish_eq s; rw [h]
@[simp] theorem finish_power_trigThermal (s : State) : (finish s).power.trigThermal = s.power.trigThermal := by
  obtain ⟨np, c, l, g, m, a, b, i, o, h, _⟩ := finish_eq s; rw [h]
@[simp] theorem finish_power_trigEnable (s : State) : (finish s).power.trigEnable = s.power.trigEnable := by
  obtain ⟨np, c, l, g, m, a, b, i, o, h, _⟩ := finish_eq s; rw [h]
@[simp] theorem finish_power_dwell (s : State) : (finish s).power.dwell = s.power.dwell := by
  obtain ⟨np, c, l, g, m, a, b, i, o, h, _⟩ := finish_eq s; rw [h]
@[simp] theorem finish_power_stage (s : State) : (finish s).power.stage = s.power.stage := by
  obtain ⟨np, c, l, g, m, a, b, i, o, h, _⟩ := finish_eq s; rw [h]
@[simp] theorem finish_power_stageDone (s : State) : (finish s).power.stageDone = s.power.stageDone := by
  obtain ⟨np, c, l, g, m, a, b, i, o, h, _⟩ := finish_eq s; rw [h]
@[simp] theorem finish_power_stageAt (s : State) : (finish s).power.stageAt = s.power.stageAt := by
  obtain ⟨np, c, l, g, m, a, b, i, o, h, _⟩ := finish_eq s; rw [h]
@[simp] theorem finish_power_jumpToFive (s : State) : (finish s).power.jumpToFive = s.power.jumpToFive := by
  obtain ⟨np, c, l, g, m, a, b, i, o, h, _⟩ := finish_eq s; rw [h]
@[simp] theorem finish_power_clearedAt (s : State) : (finish s).power.clearedAt = s.power.clearedAt := by
  obtain ⟨np, c, l, g, m, a, b, i, o, h, _⟩ := finish_eq s; rw [h]
@[simp] theorem finish_power_restoredAt (s : State) : (finish s).power.restoredAt = s.power.restoredAt := by
  obtain ⟨np, c, l, g, m, a, b, i, o, h, _⟩ := finish_eq s; rw [h]
@[simp] theorem finish_power_restoring (s : State) : (finish s).power.restoring = s.power.restoring := by
  obtain ⟨np, c, l, g, m, a, b, i, o, h, _⟩ := finish_eq s; rw [h]
@[simp] theorem finish_power_cclkBefore (s : State) : (finish s).power.cclkBefore = s.power.cclkBefore := by
  obtain ⟨np, c, l, g, m, a, b, i, o, h, _⟩ := finish_eq s; rw [h]
@[simp] theorem finish_power_voltBefore (s : State) : (finish s).power.voltBefore = s.power.voltBefore := by
  obtain ⟨np, c, l, g, m, a, b, i, o, h, _⟩ := finish_eq s; rw [h]
@[simp] theorem finish_power_shedPorts (s : State) : (finish s).power.shedPorts = s.power.shedPorts := by
  obtain ⟨np, c, l, g, m, a, b, i, o, h, _⟩ := finish_eq s; rw [h]
@[simp] theorem finish_power_disabledPorts (s : State) : (finish s).power.disabledPorts = s.power.disabledPorts := by
  obtain ⟨np, c, l, g, m, a, b, i, o, h, _⟩ := finish_eq s; rw [h]
@[simp] theorem finish_power_dormant (s : State) : (finish s).power.dormant = s.power.dormant := by
  obtain ⟨np, c, l, g, m, a, b, i, o, h, _⟩ := finish_eq s; rw [h]
@[simp] theorem finish_power_wake (s : State) : (finish s).power.wake = s.power.wake := by
  obtain ⟨np, c, l, g, m, a, b, i, o, h, _⟩ := finish_eq s; rw [h]
@[simp] theorem finish_power_heldMode (s : State) : (finish s).power.heldMode = s.power.heldMode := by
  obtain ⟨np, c, l, g, m, a, b, i, o, h, _⟩ := finish_eq s; rw [h]
@[simp] theorem finish_power_entryCompat (s : State) : (finish s).power.entryCompat = s.power.entryCompat := by
  obtain ⟨np, c, l, g, m, a, b, i, o, h, _⟩ := finish_eq s; rw [h]
@[simp] theorem finish_power_compat (s : State) : (finish s).power.compat = s.power.compat := by
  obtain ⟨np, c, l, g, m, a, b, i, o, h, _⟩ := finish_eq s; rw [h]
@[simp] theorem finish_power_wakeEn (s : State) : (finish s).power.wakeEn = s.power.wakeEn := by
  obtain ⟨np, c, l, g, m, a, b, i, o, h, _⟩ := finish_eq s; rw [h]
@[simp] theorem finish_power_padsLatched (s : State) : (finish s).power.padsLatched = s.power.padsLatched := by
  obtain ⟨np, c, l, g, m, a, b, i, o, h, _⟩ := finish_eq s; rw [h]
@[simp] theorem finish_power_dormantVolt (s : State) : (finish s).power.dormantVolt = s.power.dormantVolt := by
  obtain ⟨np, c, l, g, m, a, b, i, o, h, _⟩ := finish_eq s; rw [h]
@[simp] theorem finish_power_dormantCclk (s : State) : (finish s).power.dormantCclk = s.power.dormantCclk := by
  obtain ⟨np, c, l, g, m, a, b, i, o, h, _⟩ := finish_eq s; rw [h]
@[simp] theorem finish_power_dormantPorts (s : State) : (finish s).power.dormantPorts = s.power.dormantPorts := by
  obtain ⟨np, c, l, g, m, a, b, i, o, h, _⟩ := finish_eq s; rw [h]
@[simp] theorem finish_power_lost0 (s : State) : (finish s).power.lost0 = s.power.lost0 := by
  obtain ⟨np, c, l, g, m, a, b, i, o, h, _⟩ := finish_eq s; rw [h]
@[simp] theorem finish_power_lost1 (s : State) : (finish s).power.lost1 = s.power.lost1 := by
  obtain ⟨np, c, l, g, m, a, b, i, o, h, _⟩ := finish_eq s; rw [h]
@[simp] theorem finish_power_bists (s : State) : (finish s).power.bists = s.power.bists := by
  obtain ⟨np, c, l, g, m, a, b, i, o, h, _⟩ := finish_eq s; rw [h]
@[simp] theorem finish_power_trained (s : State) : (finish s).power.trained = s.power.trained := by
  obtain ⟨np, c, l, g, m, a, b, i, o, h, _⟩ := finish_eq s; rw [h]
@[simp] theorem finish_power_failedSegments (s : State) : (finish s).power.failedSegments = s.power.failedSegments := by
  obtain ⟨np, c, l, g, m, a, b, i, o, h, _⟩ := finish_eq s; rw [h]
@[simp] theorem finish_power_retraining (s : State) : (finish s).power.retraining = s.power.retraining := by
  obtain ⟨np, c, l, g, m, a, b, i, o, h, _⟩ := finish_eq s; rw [h]
@[simp] theorem finish_power_coreSkew (s : State) : (finish s).power.coreSkew = s.power.coreSkew := by
  obtain ⟨np, c, l, g, m, a, b, i, o, h, _⟩ := finish_eq s; rw [h]
@[simp] theorem finish_power_coreDiff (s : State) : (finish s).power.coreDiff = s.power.coreDiff := by
  obtain ⟨np, c, l, g, m, a, b, i, o, h, _⟩ := finish_eq s; rw [h]
@[simp] theorem finish_power_retrained (s : State) : (finish s).power.retrained = s.power.retrained := by
  obtain ⟨np, c, l, g, m, a, b, i, o, h, _⟩ := finish_eq s; rw [h]
@[simp] theorem finish_power_readyInt (s : State) : (finish s).power.readyInt = s.power.readyInt := by
  obtain ⟨np, c, l, g, m, a, b, i, o, h, _⟩ := finish_eq s; rw [h]
@[simp] theorem finish_power_readyVector (s : State) : (finish s).power.readyVector = s.power.readyVector := by
  obtain ⟨np, c, l, g, m, a, b, i, o, h, _⟩ := finish_eq s; rw [h]
@[simp] theorem finish_power_mgmtUp (s : State) : (finish s).power.mgmtUp = s.power.mgmtUp := by
  obtain ⟨np, c, l, g, m, a, b, i, o, h, _⟩ := finish_eq s; rw [h]

theorem finish_out (s : State) (x : Out) (h : x ∈ s.out) : x ∈ (finish s).out := by
  obtain ⟨np, c, l, g, m, a, b, i, o, e, k⟩ := finish_eq s; rw [e]; exact k x h


/-! ### Frames -/

/-- A part of the state is the same as itself. -/
theorem same_refl (m : Mod) (s : State) : m.same s s := by cases m <;> simp [Mod.same]

/-- Sameness carries over. -/
theorem same_trans {m : Mod} {s t u : State} (h1 : m.same s t) (h2 : m.same t u) : m.same s u := by
  cases m <;> simp only [Mod.same] at * <;> first
    | exact h2.trans h1
    | exact ⟨h2.1.trans h1.1, h2.2.1.trans h1.2.1, h2.2.2.1.trans h1.2.2.1, h2.2.2.2.1.trans h1.2.2.2.1,
        h2.2.2.2.2.1.trans h1.2.2.2.2.1, h2.2.2.2.2.2.trans h1.2.2.2.2.2⟩

/-- An event leaves every part but the recorder as it was. -/
theorem raiseAt_same (d : Nat) (v : Severity) (c : Nat) (p : List Byte) (s : State) (m : Mod) (hm : m ≠ .log) :
    m.same s (raiseAt d v c p s) := by
  obtain ⟨l, g, q, i, o, h, _⟩ := raiseAt_eq d v c p s
  rw [h]
  cases m <;> first | exact absurd rfl hm | simp [Mod.same]

/-- What follows a command leaves every part but the recorder as it was. -/
theorem finish_same (s : State) (m : Mod) (hm : m ≠ .log) : m.same s (finish s) := by
  obtain ⟨np, c, l, g, q, a, b, i, o, h, _⟩ := finish_eq s
  rw [h]
  cases m <;> first | exact absurd rfl hm | simp [Mod.same]

/-- A frame carries over what follows a command. -/
theorem frame_finish {cs : List Mod} {s t : State} (h : OnlyIn cs s t) : OnlyIn cs s (finish t) :=
  fun m hm hc => same_trans (h m hm hc) (finish_same t m hm)

/-- A frame carries over an event. -/
theorem frame_raiseAt {cs : List Mod} {s t : State} (d : Nat) (v : Severity) (c : Nat) (p : List Byte) (h : OnlyIn cs s t) :
    OnlyIn cs s (raiseAt d v c p t) := fun m hm hc => same_trans (h m hm hc) (raiseAt_same d v c p t m hm)

/-- Nothing changes. -/
theorem frame_refl (cs : List Mod) (s : State) : OnlyIn cs s s := fun m _ _ => same_refl m s

/-- Frames carry over. -/
theorem frame_trans {cs : List Mod} {s t u : State} (h1 : OnlyIn cs s t) (h2 : OnlyIn cs t u) : OnlyIn cs s u :=
  fun m hm hc => same_trans (h1 m hm hc) (h2 m hm hc)

/-- A frame may name more parts. -/
theorem frame_mono {cs ds : List Mod} {s t : State} (h : OnlyIn cs s t) (hs : ∀ m ∈ cs, m ∈ ds) : OnlyIn ds s t :=
  fun m hm hd => h m hm (fun hc => hd (hs m hc))

/-- A command that runs in `occur` completes with what its operation leaves. -/
theorem occur_runs (dt : Nat) (s : State) (f : State → State) (P : State → Prop) (h : P (finish (f (s.advance dt)))) :
    ∃ t, occur dt s f = .next t ∧ P t := ⟨_, rfl, h⟩

end Sys2Proof.Machine
end

