-- ==== Sys2Proof/Tests/Slice0.lean ====
section
/-! SUPPORT. Tests: the words of the spec that the definitions must reproduce, well-formedness, and for each statement a state and
operands that meet its hypotheses. -/

namespace Sys2Proof.Tests

open Sys2Proof Sys2Proof.Machine

set_option maxRecDepth 8000
set_option Elab.async false

/-- A device in SERVICE, an hour after power was applied, with PCIe holding the right of way. -/
def live : State :=
  { State.reset with
    cmd := { controllerUp := true, holder := 1 }
    time := { running := true, state := .host, mono := 3600 * second, count := 3600 * second }
    log := { scanned := true, window := 3600 }
    power := { mode := .service, porN := true, booted := true, bootStep := 11, trained := [0, 1, 2, 3, 4, 5, 6] }
    clk := { oscOk := true, asynLock := true, cclk := 1600, lanePlls := [0, 1]
             cores := [(0, { cclkLock := true, bclkLock := true, running := true, initialised := true }),
                       (1, { cclkLock := true, bclkLock := true, running := true, initialised := true })] }
    ctr := { running := true }
    cal := { set := factorySet, valid := 1022, loaded := true } }

/-- A packet of a mailbox queue to the local device. -/
def pkt (q : List Byte) : Req :=
  { src := .pcie 0, version := 1, kind := 0, rsvFlags := 0, broadcast := false, ms := none, force := false, tag := none, seq := 5
    rsvTarget := 0, target := 0x3FFFF, params := q }

/-- Parameters of TIME_THRESHOLDS: 100 ns and 2,000 ns. -/
def thr : List Byte := [0, 0, 0, 100, 0, 0, 7, 208]

theorem witness_StepRunsTheFrontCommand : ({ live with pending := [.tsSeq 0] } : State).pending = .tsSeq 0 :: [] ∧ live.pending = [] := ⟨rfl, rfl⟩


/-- A packet that a state's mailbox can deliver is delivered. -/
theorem executes (o : Op) (q : List Byte) (s : State) (h : (pkt q).wf = true ∧ (pkt q).sized = true)
    (a : s.pcieLives = true ∧ (s.mailbox 0).state = .idle ∧ s.ready 10 = true ∧ s.cmd.pcieSeq.last = none ∧ s.cmd.firmwareFault = false) :
    Executes o (pkt q) s := by
  refine ⟨⟨h.1, h.2, rfl, rfl, rfl, rfl, rfl, fun h => Bool.noConfusion h, ⟨a.1, a.2.1⟩, a.2.2.1, .inl rfl, rfl⟩, .inr (fun l h => ?_), a.2.2.2.2⟩
  have : s.cmd.pcieSeq.last = some l := h
  rw [a.2.2.2.1] at this
  exact absurd this (by simp)

theorem accepts (o : Op) (q : List Byte) (s : State) (h : (pkt q).wf = true ∧ (pkt q).sized = true)
    (a : s.pcieLives = true ∧ (s.mailbox 0).state = .idle ∧ s.ready 10 = true ∧ s.cmd.pcieSeq.last = none ∧ s.cmd.firmwareFault = false)
    (j : judge o (pkt q) (opened o (pkt q) s) = none) : Accepts o (pkt q) s := ⟨executes o q s h a, j⟩

theorem witness_WriteWaitsForItsMilestone : Accepts .mcastConfig (pkt [16, 0, 0, 0]) (live.advance 0) ∧
    Op.kind .mcastConfig = .write ∧ Op.announces .mcastConfig = false ∧
    (opened .mcastConfig (pkt [16, 0, 0, 0]) (live.advance 0)).ready 3 = true :=
  ⟨accepts _ _ _ (by decide) (by decide +kernel) (by decide +kernel), rfl, by decide, by decide +kernel⟩

/-- `live` with logical port 0, 400GBASE on two lanes, enabled and its link up. -/
def linked : State :=
  { live with
    port := { lports := [(0, { type := 4, enabled := true, up := true })]
              lanes := [(0, { los := false, lol := false, lockedAt := some 0 }), (1, { los := false, lol := false, lockedAt := some 0, skew := some 7 })] } }

theorem witness_WritesThatActAtAcceptanceWaitToo :
    (Accepts .timeThresholds (pkt thr) (live.advance 0) ∧ Op.announces .timeThresholds = true ∧
      (opened .timeThresholds (pkt thr) (live.advance 0)).ready 3 = true) ∧
    (Accepts .calendarEnable (pkt [0, 0, 0, 0]) (linked.advance 0) ∧ (opened .calendarEnable (pkt [0, 0, 0, 0]) (linked.advance 0)).ready 3 = true) ∧
    (Accepts .rampStart (pkt [6, 64, 0, 0]) (live.advance 0) ∧ fld (pkt [6, 64, 0, 0]).params 0 2 =
      (opened .rampStart (pkt [6, 64, 0, 0]) (live.advance 0)).clk.cclk) :=
  ⟨⟨accepts _ _ _ (by decide) (by decide +kernel) (by decide +kernel), by decide, by decide +kernel⟩,
   ⟨accepts _ _ _ (by decide) (by decide +kernel) (by decide +kernel), by decide +kernel⟩,
   ⟨accepts _ _ _ (by decide) (by decide +kernel) (by decide +kernel), by decide +kernel⟩⟩

/-- `live` before the Almanac runs. -/
def dark : State := { live with time := { mono := 3600 * second } }

theorem witness_WriteCommitsAtOnceWithoutMilestones : Accepts .mcastConfig (pkt [16, 0, 0, 0]) (dark.advance 0) ∧
    Op.latches .mcastConfig = false ∧ (opened .mcastConfig (pkt [16, 0, 0, 0]) (dark.advance 0)).ready 3 = false :=
  ⟨accepts _ _ _ (by decide) (by decide +kernel) (by decide +kernel), by decide, by decide +kernel⟩

theorem witness_PendingSetsAreWrittenAtAcceptance : Op.kind .rampProfile = .pend ∧
    Accepts .rampProfile (pkt [1, 0, 0, 0, 6, 64, 0, 100]) (live.advance 0) :=
  ⟨rfl, accepts _ _ _ (by decide) (by decide +kernel) (by decide +kernel)⟩

theorem witness_ReadsChangeNothing : Op.kind .timeGet = .read ∧ Accepts .timeGet (pkt []) (live.advance 0) ∧
    Accepts .deviceInfo (pkt []) (live.advance 0) ∧ Accepts .laneStatus (pkt [0, 0, 0, 0]) (linked.advance 0) ∧
    Accepts .laneStatus (pkt [0, 1, 0, 0]) (linked.advance 0) :=
  ⟨rfl, accepts _ _ _ (by decide) (by decide +kernel) (by decide +kernel), accepts _ _ _ (by decide) (by decide +kernel) (by decide +kernel),
   accepts _ _ _ (by decide) (by decide +kernel) (by decide +kernel), accepts _ _ _ (by decide) (by decide +kernel) (by decide +kernel)⟩

/-- `live` with another transport, or none, holding the right of way. -/
def heldByCode (n : Nat) : State := { live with cmd.holder := n }

theorem witness_RightOfWayIsClaimedAndYielded :
    (Executes .rowClaim (pkt [0, 0, 14, 16]) (live.advance 0) ∧ fld (pkt [0, 0, 14, 16]).params 0 4 = 3600) ∧
    (Executes .rowClaim (pkt [0, 0, 0, 0]) ((heldByCode 2).advance 0) ∧ (opened .rowClaim (pkt [0, 0, 0, 0]) ((heldByCode 2).advance 0)).cmd.holder ≠ 1) ∧
    (Executes .rowYield (pkt []) (live.advance 0) ∧ (opened .rowYield (pkt []) (live.advance 0)).cmd.holder = 1) ∧
    (Executes .rowYield (pkt []) ((heldByCode 0).advance 0) ∧ (opened .rowYield (pkt []) ((heldByCode 0).advance 0)).cmd.holder ≠ 1) :=
  ⟨⟨executes _ _ _ (by decide) (by decide +kernel), by decide⟩, ⟨executes _ _ _ (by decide) (by decide +kernel), by decide +kernel⟩,
   ⟨executes _ _ _ (by decide) (by decide +kernel), by decide +kernel⟩, ⟨executes _ _ _ (by decide) (by decide +kernel), by decide +kernel⟩⟩

theorem witness_SyncResetsTheSequence : Delivered .cmdSync (pkt []) (live.advance 0) ∧ (live.advance 0).cmd.firmwareFault = false :=
  ⟨(executes .cmdSync [] _ (by decide) (by decide +kernel)).1, rfl⟩

theorem witness_RefusedPacketsChangeNothing : Executes .mcastConfig (pkt [16, 0, 0, 1]) (live.advance 0) ∧
    judge .mcastConfig (pkt [16, 0, 0, 1]) (opened .mcastConfig (pkt [16, 0, 0, 1]) (live.advance 0)) = some (refused .range 1) :=
  ⟨executes _ _ _ (by decide) (by decide +kernel), by decide +kernel⟩

theorem witness_RightOfWayAndModeAreChecked :
    (Executes .mcastConfig (pkt [16, 0, 0, 0]) ((heldByCode 2).advance 0) ∧
      transportRej .mcastConfig (pkt [16, 0, 0, 0]) (opened .mcastConfig (pkt [16, 0, 0, 0]) ((heldByCode 2).advance 0)) = none ∧
      readinessRej .mcastConfig (pkt [16, 0, 0, 0]) (opened .mcastConfig (pkt [16, 0, 0, 0]) ((heldByCode 2).advance 0)) = none) ∧
    (Executes .release (pkt []) (live.advance 0) ∧ Op.kind .release = .inbandOnly) ∧
    (∀ s : State, s = { live with power.mode := .dormant } → Executes .mcastConfig (pkt [16, 0, 0, 0]) (s.advance 0) ∧
      (opened .mcastConfig (pkt [16, 0, 0, 0]) (s.advance 0)).power.mode = .dormant) :=
  ⟨⟨executes _ _ _ (by decide) (by decide +kernel), by decide +kernel, by decide +kernel⟩,
   ⟨executes _ _ _ (by decide) (by decide +kernel), rfl⟩,
   fun s h => by subst h; exact ⟨executes _ _ _ (by decide) (by decide +kernel), by decide +kernel⟩⟩

theorem witness_OldAndBadPacketsAreNotProcessed :
    (∀ s : State, s = { live with cmd.pcieSeq := { last := some 5 } } →
      Delivered .mcastConfig (pkt [16, 0, 0, 0]) (s.advance 0) ∧ ((s.advance 0).seqOf (.pcie 0)).last = some 5 ∧ later 5 (5 : BitVec 32) = false) ∧
    ((({ pkt [] with version := 2 } : Req).wf = true) ∧ ({ pkt [] with version := 2 } : Req).sized = true ∧
      CanDeliver { pkt [] with version := 2 } (live.advance 0)) := by
  refine ⟨fun s h => ?_, by decide, by decide, by decide +kernel, by decide +kernel⟩
  subst h
  refine ⟨⟨by decide, by decide, rfl, rfl, rfl, rfl, rfl, fun h => Bool.noConfusion h, ⟨by decide +kernel, by decide +kernel⟩,
    by decide +kernel, .inl rfl, rfl⟩, rfl, by decide +kernel⟩

/-- A commit that waits for a milestone to come. -/
def waiting (o : Op) (q : List Byte) : Commit := { ms := (live.advance 0).nextMs, op := o, req := pkt q, choice := 0 }

/-- The root of a tree with a worker on P0. -/
def rooted : State :=
  { linked with hier := { role := .root, node := 1, last := 9, deviceKey := some (List.replicate 32 0), fabricKey := some (List.replicate 32 1)
                          keyInUse := true, workers := [(0, { first := 2, last := 5 })] } }

/-- ENROLL of a worker on P1 with nodes 6 to 9. -/
def enrol : List Byte := [1, 0, 0, 0, 0, 0, 0, 6, 0, 0, 0, 9] ++ List.replicate 40 0

theorem witness_ActionsTakeEffectAtOnce :
    (∀ s : State, s = { live with cmd.commits := [waiting .timeStep (List.replicate 8 0)] } → Accepts .timeStepCancel (pkt []) (s.advance 0)) ∧
    (∀ s : State, s = { rooted with port.lports := [(4, { type := 4, enabled := true, up := true })] } → Accepts .enroll (pkt enrol) (s.advance 0)) ∧
    Accepts .releaseWorker (pkt [0, 0, 0, 0]) (rooted.advance 0) := by
  refine ⟨fun s h => ?_, fun s h => ?_, accepts _ _ _ (by decide) (by decide +kernel) (by decide +kernel)⟩
  · subst h; exact accepts _ _ _ (by decide) (by decide +kernel) (by decide +kernel)
  · subst h; exact accepts _ _ _ (by decide) (by decide +kernel) (by decide +kernel)

theorem usual (o : Op) (q : List Byte) (s : State) (h : (pkt q).wf = true ∧ (pkt q).sized = true)
    (a : s.pcieLives = true ∧ (s.mailbox 0).state = .idle ∧ s.ready 10 = true ∧ s.cmd.pcieSeq.last = none ∧ s.cmd.firmwareFault = false)
    (u : sizeCheck o q = none ∧ ((opened o (pkt q) s).power.mode ≠ .dormant ∨ o.inDormant = true) ∧ readinessRej o (pkt q) (opened o (pkt q) s) = none ∧
      (opened o (pkt q) s).cmd.commits = [] ∧ (o.kind.writes = true → (opened o (pkt q) s).cmd.holder = (pkt q).src.code ∧
        (opened o (pkt q) s).power.transition = none) ∧ (o = .keyProvision ∨ o = .fabricKeySet → (pkt q).src.code = 1) ∧
      (o.fromRoot = true → (opened o (pkt q) s).hier.role = .root ∨ (opened o (pkt q) s).hier.role = .unenrolled)) : Usual o (pkt q) s :=
  ⟨executes o q s h a, rfl, u⟩

theorem witness_ReadsAndPendingSetsComplete :
    Usual .deviceInfo (pkt []) (live.advance 0) ∧
    (∀ q, q = [95, 0, 0, 0] → Usual .portStatus (pkt q) (live.advance 0) ∧ fld q 0 1 < (opened .portStatus (pkt q) (live.advance 0)).part.ports ∧ fld q 1 3 = 0) ∧
    (∀ q, q = [1, 124, 0, 0] → Usual .fecHistogram (pkt q) (live.advance 0) ∧ fld q 0 2 < 384 ∧
      portOf (fld q 0 2) < (opened .fecHistogram (pkt q) (live.advance 0)).part.ports ∧
      (opened .fecHistogram (pkt q) (live.advance 0)).provided (fld q 0 2) = true ∧ fld q 2 2 = 0) ∧
    (∀ q, q = [95, 0, 1, 0] → Usual .prbsStatus (pkt q) (live.advance 0) ∧ fld q 2 1 ≤ 1) ∧
    (∀ q, q = [95, 1, 0, 0] → Usual .laneStatus (pkt q) (live.advance 0) ∧ fld q 1 1 ≤ 1) ∧
    (∀ q, q = [0, 0, 63, 255, 5, 0, 0, 0] → Usual .tableRead (pkt q) (live.advance 0) ∧ fld q 0 4 < 16384 ∧ fld q 4 1 = 5) ∧
    (∀ q, q = [0, 0, 0, 0, 1, 3, 0, 0] → Usual .bufferStatus (pkt q) (live.advance 0) ∧
      fld q 4 1 < (opened .bufferStatus (pkt q) (live.advance 0)).part.cores ∧ fld q 5 1 ≤ 3) ∧
    (∀ q, q = [1, 124, 1, 0, 0, 0, 0, 9] → Usual .calendarRead (pkt q) (live.advance 0) ∧ (opened .calendarRead (pkt q) (live.advance 0)).provided (fld q 0 2) = true) ∧
    (∀ q, q = [15, 0, 0, 0] → Usual .tdcResult (pkt q) (live.advance 0) ∧ fld q 0 1 ≤ 15) ∧
    (∀ q, q = [0, 0, 0, 0, 0, 1, 0, 0] → Usual .counterRead (pkt q) (live.advance 0) ∧ 1 ≤ fld q 4 2 ∧ fld q 6 2 < ctrInstances (fld q 4 2)) ∧
    (∀ q, q = [0, 3, 240, 96, 0, 0, 15, 160] → Usual .calExport (pkt q) (live.advance 0) ∧ fld q 0 4 + fld q 4 4 = 262144) ∧
    (∀ q, q = [1, 0, 0, 0, 6, 64, 0, 100] → Usual .rampProfile (pkt q) (live.advance 0) ∧
      Op.check .rampProfile (pkt q) (opened .rampProfile (pkt q) (live.advance 0)) (opened .rampProfile (pkt q) (live.advance 0)) = none) := by
  refine ⟨usual _ _ _ (by decide) (by decide +kernel) (by decide +kernel), ?_, ?_, ?_, ?_, ?_, ?_, ?_, ?_, ?_, ?_, ?_⟩ <;>
    (intro q h; subst h; exact ⟨usual _ _ _ (by decide) (by decide +kernel) (by decide +kernel), by decide +kernel⟩)

theorem witness_WritesComplete :
    (∀ q, q = [16, 0, 0, 0] → (∀ s, s = live.advance 0 ∨ s = dark.advance 0 → Usual .mcastConfig (pkt q) s ∧
      Op.check .mcastConfig (pkt q) (opened .mcastConfig (pkt q) s) (opened .mcastConfig (pkt q) s) = none ∧
      Op.busy .mcastConfig (pkt q) (opened .mcastConfig (pkt q) s) (opened .mcastConfig (pkt q) s) = none)) ∧
    (opened .mcastConfig (pkt [16, 0, 0, 0]) (live.advance 0)).ready 3 = true ∧ (opened .mcastConfig (pkt [16, 0, 0, 0]) (dark.advance 0)).ready 3 = false ∧
    (∀ q, q = List.replicate 32 7 → Usual .fabricKeySet (pkt q) (live.advance 0) ∧
      Op.check .fabricKeySet (pkt q) (opened .fabricKeySet (pkt q) (live.advance 0)) (opened .fabricKeySet (pkt q) (live.advance 0)) = none) := by
  refine ⟨fun q h s h' => ?_, by decide +kernel, by decide +kernel, fun q h => ?_⟩
  · subst h
    rcases h' with h' | h' <;> subst h' <;> exact ⟨usual _ _ _ (by decide) (by decide +kernel) (by decide +kernel), by decide +kernel⟩
  · subst h; exact ⟨usual _ _ _ (by decide) (by decide +kernel) (by decide +kernel), by decide +kernel⟩

/-- A packet that comes in-band on P0 from node 2, at the milestone of `live`, tagged under the fabric key. -/
def inband (o : Op) (q : List Byte) : Req :=
  let ms : Milestone := (live.advance 0).ms
  let r : Req := { pkt q with src := .inband 0 2 ms 0, tag := some [] }
  { r with tag := some (tagOf (List.replicate 32 1) (inbandFields 2 ms ++ r.body o.code)) }

/-- The state after the freshness check of `inband` at a device of the tree. -/
def fresh (s : State) : State := (freshen 2 5 (live.advance 0).ms s).getD s

theorem inband_sized (o : Op) (q : List Byte) (h : q.length % 4 = 0 ∧ q.length ≤ 4092) : (inband o q).sized = true := by
  simp only [Req.sized, inband, tagOf_length, decide_true, Bool.and_true, decide_eq_true_eq, Req.size, pkt, Source.largest]
  simp
  omega

theorem comes (o : Op) (q : List Byte) (s : State) (h : q.length % 4 = 0 ∧ q.length ≤ 4092)
    (a : s.receives (s.timingLport 0) = true ∧ s.ingressStopped = false ∧ s.ready 10 = true ∧ s.hier.role ≠ .unenrolled ∧
      s.keyNow = some (List.replicate 32 1))
    (b : (freshen 2 5 (live.advance 0).ms s).isSome = true) : ComesInband o (inband o q) 0 2 s (fresh s) := by
  refine ⟨(live.advance 0).ms, 0, List.replicate 32 1, rfl, inband_sized o q h, a.1, a.2.1, a.2.2.1, rfl, a.2.2.2.1, a.2.2.2.2, ?_, by decide, rfl, rfl, rfl,
    rfl, rfl, fun h => Bool.noConfusion h, rfl, ?_⟩
  · simp only [State.tagPasses, Bool.or_eq_true, decide_eq_true_eq]
    exact .inl rfl
  · simp only [fresh]
    cases h : freshen 2 5 (live.advance 0).ms s with
    | none => rw [h] at b; exact Bool.noConfusion b
    | some w => show freshen 2 5 _ s = _; simpa using h

theorem witness_FirmwareFaultAbandonsTheCommand :
    (∀ s : State, s = { live with cmd.firmwareFault := true } → Delivered .timeGet (pkt []) (s.advance 0) ∧
      NewPacket .timeGet (pkt []) (s.advance 0) ∧ (s.advance 0).cmd.firmwareFault = true) ∧
    (∀ s : State, s = { rooted with cmd.firmwareFault := true } → ComesInband .timeGet (inband .timeGet []) 0 2 (s.advance 0) (fresh (s.advance 0)) ∧
      (fresh (s.advance 0)).hier.role = .root ∧ (fresh (s.advance 0)).cmd.firmwareFault = true) := by
  refine ⟨fun s h => ?_, fun s h => ?_⟩
  · subst h
    exact ⟨⟨by decide, by decide, rfl, rfl, rfl, rfl, rfl, fun h => Bool.noConfusion h, ⟨by decide +kernel, by decide +kernel⟩,
      by decide +kernel, .inl rfl, rfl⟩, .inr (fun l h => absurd (show (none : Option (BitVec 32)) = some l from h) (by simp)), rfl⟩
  · subst h; exact ⟨comes _ _ _ (by decide) (by decide +kernel) (by decide +kernel), by decide +kernel, by decide +kernel⟩

theorem witness_InbandCommandsExecute :
    (ComesInband .timeGet (inband .timeGet []) 0 2 (rooted.advance 0) (fresh (rooted.advance 0)) ∧ (fresh (rooted.advance 0)).hier.role = .root ∧
      (fresh (rooted.advance 0)).cmd.firmwareFault = false ∧
      judge .timeGet (inband .timeGet []) { fresh (rooted.advance 0) with cmd.inbandLast := some 5 } = none) ∧
    (ComesInband .mcastConfig (inband .mcastConfig [16, 0, 0, 0]) 0 2 (rooted.advance 0) (fresh (rooted.advance 0)) ∧
      judge .mcastConfig (inband .mcastConfig [16, 0, 0, 0]) { fresh (rooted.advance 0) with cmd.inbandLast := some 5 } =
        some (refused .noRightOfWay 1)) :=
  ⟨⟨comes _ _ _ (by decide) (by decide +kernel) (by decide +kernel), by decide +kernel, by decide +kernel, by decide +kernel⟩,
   comes _ _ _ (by decide) (by decide +kernel) (by decide +kernel), by decide +kernel⟩

/-- The parameters of ENROLL_REQ at the ends of their ranges: node 1, last 0x3FFFE, manager 0x3FFFE, depth 8. -/
def enrolReq : List Byte := [0, 0, 0, 1, 0, 3, 255, 254, 0, 3, 255, 254, 8, 0, 0, 0] ++ List.replicate 40 0

theorem witness_EnrolmentTakesThePlaceNamed :
    (linked.advance 0).receives ((linked.advance 0).timingLport 0) = true ∧ (linked.advance 0).ingressStopped = false ∧
    (linked.advance 0).ready 10 = true ∧ (linked.advance 0).hier.role = .unenrolled ∧ (linked.advance 0).hier.deviceKey = some (List.replicate 32 0) ∧
    ({ linked with hier.deviceKey := none } : State).hier.deviceKey = none ∧ (linked.advance 0).ready 3 = true ∧ enrolReq.length = 56 ∧
    1 ≤ fld enrolReq 0 4 ∧ fld enrolReq 0 4 ≤ fld enrolReq 4 4 ∧ fld enrolReq 4 4 ≤ 0x3FFFE ∧ 1 ≤ fld enrolReq 8 4 ∧
    fld enrolReq 8 4 ≤ 0x3FFFE ∧ 1 ≤ fld enrolReq 12 1 ∧ fld enrolReq 12 1 ≤ 8 ∧ fld enrolReq 13 3 = 0 := by decide +kernel

/-- A worker ENROLLED under node 2 through P0. -/
def worker : State :=
  { linked with hier := { role := .enrolled, node := 3, last := 5, manager := 2, depth := 1, parentPort := some 0, fabricKey := some (List.replicate 32 1)
                          keyInUse := true, noParentSince := some 0 }
                port.links := [(0, { peerMgr := true, peerNode := 2 })] }

theorem witness_ReleaseClearsThePlace :
    (ComesInband .release (inband .release []) 0 2 (worker.advance 0) (fresh (worker.advance 0)) ∧
      (fresh (worker.advance 0)).hier.manager = 2 ∧ (fresh (worker.advance 0)).hier.role = .enrolled) ∧
    (ComesInband .release (inband .release []) 0 2 (rooted.advance 0) (fresh (rooted.advance 0)) ∧ (fresh (rooted.advance 0)).hier.role = .root) :=
  ⟨⟨comes _ _ _ (by decide) (by decide +kernel) (by decide +kernel), by decide +kernel, by decide +kernel⟩,
   comes _ _ _ (by decide) (by decide +kernel) (by decide +kernel), by decide +kernel⟩

/-- ANNOUNCE_TIMESCALE for the milestone after next, and for one gone by. -/
def soon : List Byte := toBe 8 ((live.advance 0).ms.toNat + 2) ++ [0, 37, 0, 1]
def gone : List Byte := toBe 8 1 ++ [0, 37, 0, 1]

theorem witness_AnnouncementsWaitForTheirMilestone :
    (∀ w, w = fresh (worker.advance 0) → w.cmd.commits.length < 256 ∧ w.upPort = some 0 ∧
      (∀ x ∈ ([(.announceStep, soon.take 8 ++ List.replicate 20 0), (.announceTimescale, soon), (.announceEpochs, soon.take 8 ++ List.replicate 32 0),
          (.announceSettings, soon.take 8 ++ [0, 0, 0, 100, 0, 0, 7, 208, 0x88, 0xB7, 0x88, 0xB6, 0x88, 0xB5, 0, 0])] : List (Op × List Byte)),
        ComesInband x.1 (inband x.1 x.2) 0 2 (worker.advance 0) w ∧ readinessRej x.1 (inband x.1 x.2) w = none ∧ sizeCheck x.1 x.2 = none ∧
        x.1.check (inband x.1 x.2) w w = none ∧ later (BitVec.ofNat 56 (fld x.2 0 8)) w.ms = true)) ∧
    (ComesInband .announceTimescale (inband .announceTimescale soon) 0 2 (rooted.advance 0) (fresh (rooted.advance 0)) ∧
      isAnnouncement .announceTimescale = true ∧ (fresh (rooted.advance 0)).hier.role ≠ .enrolled) ∧
    (∀ w, w = fresh (worker.advance 0) → ComesInband .announceTimescale (inband .announceTimescale soon) 0 2 (worker.advance 0) w ∧
      w.hier.role = .enrolled ∧ w.hier.manager = 2 ∧ w.upPort = some 0 ∧ readinessRej .announceTimescale (inband .announceTimescale soon) w = none ∧
      sizeCheck .announceTimescale soon = none ∧ Op.check .announceTimescale (inband .announceTimescale soon) w w = none ∧
      w.cmd.commits.length < 256 ∧ later (BitVec.ofNat 56 (fld soon 0 8)) w.ms = true ∧ later (BitVec.ofNat 56 (fld gone 0 8)) w.ms = false ∧
      w.keyNow = some (List.replicate 32 1)) :=
  ⟨fun w h => by
     subst h
     refine ⟨by decide +kernel, by decide +kernel, ?_⟩
     simp only [List.forall_mem_cons, List.not_mem_nil, false_imp_iff, implies_true, and_true]
     refine ⟨⟨?_, ?_⟩, ⟨?_, ?_⟩, ⟨?_, ?_⟩, ⟨?_, ?_⟩⟩
     all_goals first | exact comes _ _ _ (by decide) (by decide +kernel) (by decide +kernel) | decide +kernel,
   ⟨comes _ _ _ (by decide) (by decide +kernel) (by decide +kernel), by decide, by decide +kernel⟩,
   fun w h => by
     subst h
     exact ⟨comes _ _ _ (by decide) (by decide +kernel) (by decide +kernel), by decide +kernel⟩⟩

/-- A commit whose milestone has come, and one whose milestone has not. -/
def dueCommit (o : Op) (q : List Byte) : Commit := { ms := (live.advance 0).ms, op := o, req := pkt q, choice := 0 }

/-- `live` between two periodic snapshots with commits in its pending store. -/
def storing (cs : List Commit) : State := { live with cmd.commits := cs, ctr.interval := 4000000 }

theorem witness_MilestonesApplyDueCommits :
    (∀ s c, s = (storing [dueCommit .mcastConfig [1, 0, 0, 0]]).advance 0 → c = dueCommit .mcastConfig [1, 0, 0, 0] →
      s.time.running = true ∧ s.cmd.commits = [c] ∧ s.due c = true ∧ s.latchDue [c] = false) ∧
    (∀ s a b, a = dueCommit .mcastConfig [1, 0, 0, 0] → b = dueCommit .timeStep (List.replicate 8 0) → s = (storing [a, b]).advance 0 →
      s.due a = true ∧ s.due b = true ∧ later a.ms b.ms = false ∧ s.latchDue [a, b] = false ∧ Op.moves a.op = false ∧ Op.moves b.op = true) ∧
    (∀ s a b, a = dueCommit .timeStep (List.replicate 8 0) → b = dueCommit .mcastConfig [1, 0, 0, 0] → s = (storing [a, b]).advance 0 →
      s.due a = true ∧ s.due b = true ∧ s.latchDue [a, b] = false ∧ Op.moves a.op = true ∧ Op.moves b.op = false) ∧
    (∀ s a b, a = waiting .mcastConfig [1, 0, 0, 0] → b = dueCommit .mcastConfig [2, 0, 0, 0] → s = (storing [a, b]).advance 0 →
      s.due a = false ∧ s.due b = true ∧ s.latchDue [b] = false) ∧
    ((∀ c ∈ ((storing [waiting .mcastConfig [1, 0, 0, 0]]).advance 0).cmd.commits, later c.ms (live.advance 0).ms = true) ∧
      ((storing []).advance 0).latchDue [] = false) ∧ (dark.advance 0).time.running = false := by
  refine ⟨?_, ?_, ?_, ?_, ⟨by decide +kernel, by decide +kernel⟩, by decide +kernel⟩
  · intro s c h1 h2; subst h1 h2; decide +kernel
  · intro s a b h1 h2 h3; subst h1 h2 h3; decide +kernel
  · intro s a b h1 h2 h3; subst h1 h2 h3; decide +kernel
  · intro s a b h1 h2 h3; subst h1 h2 h3; decide +kernel

theorem witness_ThresholdsAreSetAtTheMilestone :
    Op.check .timeThresholds (pkt (toBe 4 1 ++ toBe 4 1000000000)) (live.advance 0) (live.advance 0) = none ∧
    Op.check .timeThresholds (pkt (toBe 4 0 ++ toBe 4 1000000000)) (live.advance 0) (live.advance 0) ≠ none ∧
    Op.check .timeThresholds (pkt (toBe 4 1 ++ toBe 4 1000000001)) (live.advance 0) (live.advance 0) ≠ none ∧
    (∀ s c, c = dueCommit .timeThresholds thr → s = (storing [c]).advance 0 →
      c.op = .timeThresholds ∧ s.time.running = true ∧ s.cmd.commits = [c] ∧ s.due c = true ∧ s.latchDue [c] = false) := by
  refine ⟨by decide +kernel, by decide +kernel, by decide +kernel, ?_⟩
  intro s c h1 h2; subst h1 h2; decide +kernel

theorem witness_SettingsTakeTheirValues : (63 : Nat) < 64 ∧ (7 : Nat) < 8 ∧
    (Op.apply .classMaps (pkt (List.replicate 63 0 ++ [5] ++ List.replicate 8 3)) 0 live).fwd.dscpMap[63]? = some 5 := by decide +kernel

/-- One 12-byte entry of L2_WRITE: VID 4094, MAC 02:00:00:00:00:01, logical port 8. -/
def l2One : List Byte := [0, 1, 0, 0, 15, 254, 2, 0, 0, 0, 0, 1, 0, 0, 0, 8]

theorem witness_TableWritesSetTheirEntries :
    entries l2One 12 = [l2One.drop 4] ∧ entries ([0, 1, 0, 0] ++ List.replicate 24 0) 24 = [List.replicate 24 0] ∧
    entries ([0, 1, 0, 0] ++ List.replicate 16 0) 16 = [List.replicate 16 0] ∧ entries ([0, 1, 0, 0] ++ List.replicate 52 0) 52 = [List.replicate 52 0] ∧
    entries ([0, 1, 0, 0] ++ List.replicate 140 0) 140 = [List.replicate 140 0] ∧
    fld ([0, 5, 0, 1] : List Byte) 0 2 ≤ 5 ∧ (5 : Nat) < fld ([0, 5, 0, 1] : List Byte) 0 2 + fld ([0, 5, 0, 1] : List Byte) 2 2 := by decide +kernel

theorem witness_PortAndQueueSettingsTakeTheirValues : (7 : Nat) < 8 ∧
    (Op.apply .prbsConfig (pkt [0, 128, 2, 3]) 0 linked).lane 0 7 = { linked.lane 0 7 with prbsGen := 2, prbsChk := 3 } ∧
    (Op.apply .prbsConfig (pkt [0, 128, 2, 3]) 0 linked).lane 0 0 = linked.lane 0 0 := by decide +kernel

theorem witness_StepsMoveTheCount : live.time.state ≠ .unset ∧ State.reset.time.state = .unset ∧
    fld ([0, 0, 0, 0, 0, 0, 0, 1, 1] : List Byte) 8 1 = 1 ∧ fld ([0, 0, 0, 0, 0, 0, 0, 1, 0] : List Byte) 8 1 ≠ 1 ∧
    (Op.apply .timeStep (pkt [255, 255, 255, 255, 255, 255, 0, 0]) 0 live).time.count = 3600 * second - 65536 := by decide +kernel

theorem witness_ClaimsAndKeysTakeEffect :
    (live.unit 0).function ≠ 4 ∧ (({ live with time.compares := [(0, { claimed := true, function := 4 })] } : State).unit 0).function = 4 ∧
    (live.mon 0).held = false ∧ (({ live with ref.mons := [(0, { held := true })] } : State).mon 0).held = true ∧ (live.refEntry 0).enable = false ∧
    (({ live with ref.mons := [(0, { held := true })], ref.table := [(0, { enable := true })] } : State).refEntry 0).enable = true ∧
    ({ live with hier.deviceKey := none } : State).hier.deviceKey = none ∧ live.hier.deviceKey = some (List.replicate 32 0) ∧
    live.hier.role = .unenrolled ∧ rooted.hier.role = .root ∧ worker.hier.role = .enrolled ∧ rooted.hier.keyInUse = true ∧
    (fld ([1] : List Byte) 0 1).testBit 0 = true ∧ (7 : Nat) < 8 := by decide +kernel

theorem witness_EveryStepShowsReadiness : ReadyShown State.reset ∧ ∃ t, step { State.reset with pending := [.vkeepApplied 0] } = .next t :=
  ⟨by unfold ReadyShown; decide +kernel, _, rfl⟩

theorem witness_EveryStepSquelchesOutputs : OutputsFollowDpll State.reset ∧ ∃ t, step { State.reset with pending := [.vigilReady 0] } = .next t :=
  ⟨fun _ => rfl, _, rfl⟩

theorem witness_EveryStepWatchesParents : ParentsWatched worker ∧ worker.hier.role = .enrolled ∧ ∃ t, step { worker with pending := [.tsSeq 0] } = .next t :=
  ⟨fun _ => by decide +kernel, rfl, _, rfl⟩

theorem witness_PacketsReadBack : ({ pkt thr with ms := some 7, tag := some (List.replicate 16 0), broadcast := true, force := true } : Req).wf = true :=
  by decide

theorem witness_RowsTouchOnlyTheirParts : rowParts (.losClear 0 0 0) = some (0, [.port]) ∧ ∃ t, exec (.losClear 0 0 0) live = .next t := ⟨rfl, _, rfl⟩

/-- `live` with a mailbox queue in a state. -/
def queued (q : QState) : State := { live with cmd.mailboxes := [(0, { state := q })] }

theorem witness_MailboxesFollowTheirRegisters : (live.advance 0).pcieLives = true ∧ ((live.advance 0).mailbox 3).state = .idle ∧
    (live.advance 0).ready 10 = true ∧ (({ live with cmd.controllerUp := false } : State).advance 0).ready 10 = false ∧
    (((queued .executing).advance 0).mailbox 0).state ≠ .idle ∧ (((queued .done).advance 0).mailbox 0).state = .done ∧
    (1 : Word).getLsbD 0 = true ∧ (2 : Word).getLsbD 0 = false := by decide +kernel

theorem witness_TimeSnapshotIsLatched : (live.advance 0).pcieLives = true ∧ (State.reset.advance 0).pcieLives = false := by decide +kernel

theorem witness_RegistersAndRingsTakeWrites : (0x3FFFFD : Nat) % 4 ≠ 0 ∧ (0x400000 : Nat) % 4 = 0 ∧ (0xFFC : Nat) < 0x1000 ∧
    (live.advance 0).pcieLives = true ∧ ((live.advance 0).ring 63).enable = false ∧ (0xF0000000 : Word).getLsbD 31 = true ∧
    (0xF0000000 : Word).toNat / 2 ^ 28 % 8 = 7 ∧ (0x80000000 : Word).toNat / 2 ^ 28 % 8 = 0 ∧ (0x90000000 : Word).toNat / 2 ^ 28 % 8 = 1 ∧
    (live.advance 0).kindTaken 63 1 = false ∧
    (∀ s, s = (({ live with cmd.rings := [(5, { enable := true, waiting := [[1]], intTimer := 1, firstSince := some 0 })] } : State).advance 0) →
      (s.ring 5).enable = true ∧ (s.ring 5).waiting = [[1]] ∧ (s.ring 5).intThreshold = 0 ∧ (s.ring 5).firstSince = some 0 ∧ (s.ring 5).intTimer ≠ 0 ∧
      0 + (s.ring 5).intTimer.toNat * micro ≤ s.time.mono) ∧
    ((({ live with cmd.rings := [(5, { enable := true })] } : State).advance 0).ring 5).waiting = [] ∧ (0 : Word).getLsbD 31 = false := by
  refine ⟨by decide, by decide, by decide, by decide +kernel, by decide +kernel, by decide, by decide, by decide, by decide, by decide +kernel, ?_,
    by decide +kernel, by decide⟩
  intro s h; subst h; decide +kernel

/-- A datagram that is one whole packet. -/
def datagram : List Byte := (pkt []).bytes 0x0001

theorem witness_TransportEventsAnswer :
    (live.advance 0).mgmtLives = true ∧ (live.advance 0).ready 10 = true ∧ datagram.length = 16 + 4 * fld datagram 6 2 ∧ fld datagram 0 2 = 0x4F4A ∧
    parsePacket (.mgmt 0 0) datagram = .packet 1 { pkt [] with src := .mgmt 0 0 } ∧ ([] : List Byte).length < 16 ∧
    (linked.advance 0).receives 0 = true ∧ (linked.advance 0).ingressStopped = false ∧
    (let d := List.replicate 12 0 ++ [0x88, 0xB5] ++ List.replicate 46 0
     fld (d ++ fcs d) 12 2 = (linked.advance 0).fwd.etCommand ∧ fcs ((d ++ fcs d).take 60) = (d ++ fcs d).drop 60 ∧ fcs d ≠ [0, 0, 0, 0]) ∧
    (∀ o : Outstanding, o = { seq := 9, req := pkt [], opcode := 1, sent := 3599 * second } → ∀ s, s = (({ live with cmd.outstanding := [o] } : State).advance 0) →
      s.cmd.outstanding.find? (fun o => decide (o.seq = 9)) = some o ∧ o.sent + second ≤ s.time.mono) ∧
    (∀ e : Enrolling, e = { port := 0, req := pkt [], seq := 0, first := 2, last := 2, sent := 0 } → ∀ s, s = (({ rooted with hier.enrolling := [e] } : State).advance 0) →
      s.hier.enrolling.find? (fun e => decide (e.port = 0)) = some e ∧ e.sent + 100 * milli ≤ s.time.mono) ∧
    (live.advance 0).cmd.controllerUp = true ∧ ({ live with cmd.controllerUp := false, cmd.controllerReset := true } : State).cmd.controllerReset = true := by
  refine ⟨by decide +kernel, by decide +kernel, by decide +kernel, by decide +kernel, by decide +kernel, by decide, by decide +kernel, by decide +kernel,
    by decide +kernel, ?_, ?_, by decide +kernel, rfl⟩
  · intro o h s h'; subst h h'; decide +kernel
  · intro o h s h'; subst h h'; decide +kernel

/-- A queue left EXECUTING through a reset of the controller, with its reply in the cache. -/
def cut : State :=
  { live with cmd := { holder := 1, controllerReset := true, mailboxes := [(0, { state := .executing, count := 16, buffer := memWrite [] 0 ((pkt []).bytes 1) })]
                       pcieSeq := { last := some 5, cache := [replyTo 1 (pkt []) .ok 0 []] } } }

theorem witness_TransportEventsAnswer_more :
    (live.advance 0).mgmtTakes true (BitVec.ofNat 128 (beNat (linkLocal ((live.advance 0).macOf 0x1FF)))) 47190 = true ∧
    (live.advance 0).mgmtTakes false 0 47190 = false ∧ (cut.advance 0).cmd.controllerUp = false ∧ (cut.advance 0).cmd.controllerReset = true ∧
    ((cut.advance 0).mailbox 0).state = .executing ∧
    parsePacket (.pcie 0) (memBytes ((cut.advance 0).mailbox 0).buffer 0 ((cut.advance 0).mailbox 0).count) = .packet 1 (pkt []) ∧
    (cut.advance 0).cmd.pcieSeq.cache.find? (fun p => decide (p.seq = (pkt []).seq)) = some (replyTo 1 (pkt []) .ok 0 []) ∧
    NoAlarm (live.advance 0) := by
  refine ⟨by decide +kernel, by decide +kernel, rfl, rfl, rfl, by decide +kernel, by decide +kernel, fun n => ?_⟩
  show (0 : Nat) ≠ 3
  decide

theorem witness_RightOfWayIsReleased :
    (∀ s, s = (({ live with cmd.lease := 1, cmd.leaseFrom := 3599 * second } : State).advance 0) →
      s.cmd.holder ≠ 0 ∧ s.cmd.lease ≠ 0 ∧ s.cmd.leaseFrom + s.cmd.lease * second ≤ s.time.mono) ∧
    (∀ s, s = (({ live with cmd.lease := 1, cmd.leaseFrom := 3599 * second + 1 } : State).advance 0) → s.time.mono < s.cmd.leaseFrom + s.cmd.lease * second) ∧
    (live.advance 0).cmd.holder = 1 ∧ ((heldByCode 2).advance 0).cmd.holder = 2 ∧ ((heldByCode 3).advance 0).cmd.holder = 3 ∧
    (∀ s, s = (({ worker with hier.candidates := [0, 255, 255], ref.table := [(0, { kind := 2 })], port.links := [(0, { axEnable := true })] } : State).advance 0) →
      s.hier.role = .enrolled ∧ s.hier.noParentSince = some 0 ∧ (s.parentSilence).isSome = true ∧ 0 + (s.parentSilence).getD 0 ≤ s.time.mono) ∧
    (live.advance 0).hier.noParentSince = none := by
  refine ⟨?_, ?_, by decide +kernel, by decide +kernel, by decide +kernel, ?_, by decide +kernel⟩ <;> intro s h <;> subst h <;> decide +kernel

/-- A device with a parent candidate on P0 that qualifies. -/
def candidate (r : Role) : State :=
  { worker with
    hier := { role := r, node := 3, last := 5, manager := 2, depth := 2, candidates := [0, 255, 255], fabricKey := some (List.replicate 32 1), keyInUse := true }
    ref.table := [(0, { kind := 2 })]
    port.links := [(0, { axEnable := true, peerMgr := true, peerTv := true, peerNode := 2, lastRx := some (3600 * second), lastValid := some (3600 * second), lastTv := some (3600 * second), resolved := true })] }

theorem witness_TreeEventsTakeEffect :
    ((candidate .enrolled).advance 0).firstCand = some 0 ∧ ((candidate .enrolled).advance 0).hier.parent ≠ some 0 ∧ ((candidate .enrolled).advance 0).upPort ≠ ((candidate .enrolled).advance 0).candPort 0 ∧
    ((candidate .orphan).advance 0).firstCand = some 0 ∧ (live.advance 0).firstCand = none ∧
    (tfind (rooted.advance 0).hier.workers 0).map Worker.absent = some false ∧ ((rooted.advance 0).link 0).peerNode ≠ 2 ∧ tfind (rooted.advance 0).hier.workers 1 = none ∧
    7812500 ≤ sdiff (rooted.advance 0).ms (rooted.advance 0).hier.rolledAt ∧ (live.advance 0).hier.mirrorQ = [] ∧
    ({ rooted with hier.mirrorQ := [(1, [])] } : State).hier.eventSink = 0 := by decide +kernel

/-- `live` with compare unit 0 set up. -/
def comparing (c : Compare) : State := { live with time.compares := [(0, c)] }

theorem witness_TimeEventsTakeEffect :
    (∀ s, s = (({ live with time.loadEntry := some 3, time.state := .unset } : State).advance 0) →
      s.time.loadEntry = some 3 ∧ s.time.state = .unset ∧ s.time.running = true) ∧ (live.advance 0).time.loadEntry = none ∧
    (∀ s c, c = { claimed := true, armed := true, function := 1, width := 100, target := 3600 * second } → s = ((comparing c).advance 0) →
      s.unit 0 = c ∧ c.fired = false ∧ c.periodic = false ∧ c.latePending = false ∧ c.notify = false ∧ sdiff (nsOf s.time.count) (nsOf c.target) = 0) ∧
    (∀ s c, c = { claimed := true, armed := true, latePending := true, lateQuiet := true } → s = ((comparing c).advance 0) →
      s.unit 0 = c ∧ c.function ≠ 3 ∧ c.notify = false ∧ s.time.running = true ∧ s.ms ≠ c.lateSince) ∧
    (∀ s c, c = { latePending := true, lateSince := (live.advance 0).ms } → s = ((comparing c).advance 0) → s.unit 0 = c ∧ s.ms = c.lateSince) ∧
    (live.advance 0).rotationLeft = 0 ∧
    (({ live with time.rotating := true, time.rotatePhase := 1, time.rotateFrom := 3600 * second } : State).advance 0).rotationLeft ≠ 0 ∧
    ((live.advance 0).unit 31).claimed = false ∧
    (∀ s c, c = { claimed := true, armed := true, target := 3600 * second + 65536 } → s = ((comparing c).advance 0) →
      s.unit 0 = c ∧ sdiff (nsOf s.time.count) (nsOf c.target) = -1) ∧
    (∀ s, s = ((comparing { pulseEnd := some (3600 * second) }).advance 0) → (s.unit 0).pulseEnd = some (3600 * second) ∧ 3600 * second ≤ s.time.mono) ∧
    (live.advance 0).board.scan = none ∧ (live.advance 0).cal.valid.testBit 8 = true ∧ calHas (live.advance 0).cal.set 8 19 = true ∧
    (State.reset.advance 0).cal.valid.testBit 8 = false ∧
    (∀ s, s = (({ live with ref.selected := some 2, ref.table := [(2, { kind := 1, index := 1 })] } : State).advance 0) →
      s.ref.selected = some 2 ∧ (s.refEntry 2).kind = 1 ∧ (s.refEntry 2).index = 1) ∧ (live.advance 0).ref.selected = none := by
  refine ⟨?_, by decide +kernel, ?_, ?_, ?_, by decide +kernel, by decide +kernel, by decide +kernel, ?_, ?_, by decide +kernel,
    by decide +kernel, by decide +kernel, by decide +kernel, ?_, by decide +kernel⟩
  · intro s h; subst h; decide +kernel
  · intro s c h h'; subst h h'; decide +kernel
  · intro s c h h'; subst h h'; decide +kernel
  · intro s c h h'; subst h h'; decide +kernel
  · intro s c h h'; subst h h'; decide +kernel
  · intro s h; subst h; decide +kernel
  · intro s h; subst h; decide +kernel

/-- `live` with one enabled entry of the reference table in a qualification state. -/
def refs (e : Nat) (q : Qual) : State := { live with ref.table := [(e, { enable := true, priority := 1, kind := 1 })], ref.mons := [(e, { qual := q, signal := true })] }

/-- `live` with a port entry, selected and offering time, and its phase sample. -/
def portRef : State :=
  { linked with
    ref := { table := [(2, { enable := true, kind := 2 })], selected := some 2, dpll := .locked, mons := [(2, { qual := .qualified, signal := true })] }
    port.links := [(0, { axEnable := true, lastTv := some (3600 * second), resolved := true, thetaPh := 12345 })] }

theorem witness_ReferenceEventsTakeEffect_ports :
    (portRef.advance 0).ref.selected = some 2 ∧ (portRef.advance 0).time.state ≠ .guard ∧ (portRef.advance 0).ref.dpll = .locked ∧
    (portRef.advance 0).time.excess = 0 ∧ ((portRef.advance 0).refEntry 2).kind = 2 ∧ (portRef.advance 0).timeCap 2 = true ∧
    ((portRef.advance 0).link ((portRef.advance 0).refEntry 2).index).resolved = true ∧
    (portRef.advance 0).phaseLane ((portRef.advance 0).refEntry 2).index = true ∧
    (({ portRef with time.excess := 1 } : State).advance 0).time.excess = 1 ∧
    (∀ s, s = (({ portRef with port.lports := [] } : State).advance 0) → (s.refEntry 2).enable = true ∧ (s.mon 2).signal = true ∧ s.sourceGone 2 = true) ∧
    (∀ e, e < 16 → ((portRef.advance 0).mon e).signal = true → (portRef.advance 0).sourceGone e = false) := by
  refine ⟨by decide +kernel, by decide +kernel, by decide +kernel, by decide +kernel, by decide +kernel, by decide +kernel, by decide +kernel,
    by decide +kernel, by decide +kernel, ?_, by decide +kernel⟩
  intro s h; subst h; decide +kernel

theorem witness_ReferenceEventsTakeEffect_correction :
    (live.advance 0).ms.toNat % 3906250 = 0 ∧ (({ live with time.count := slotUnits } : State).advance 0).ms.toNat % 3906250 ≠ 0 ∧
    (State.reset.advance 0).cal.valid.testBit 9 = false ∧ (live.advance 0).cal.valid.testBit 9 = true ∧
    (∀ k, k < 4 → calHas (live.advance 0).cal.set 9 k = true ∧ calValue (live.advance 0).cal.set 9 k = 0) := by
  refine ⟨by decide +kernel, by decide +kernel, by decide +kernel, by decide +kernel, by decide +kernel⟩

theorem witness_ReferenceEventsTakeEffect :
    (((refs 15 .qualifying).advance 0).refEntry 15).enable = true ∧ (((refs 15 .qualifying).advance 0).mon 15).qual = .qualifying ∧
    (((refs 0 .qualified).advance 0).mon 0).qual = .qualified ∧ ((refs 0 .qualified).advance 0).ref.selected ≠ some 0 ∧
    ((live.advance 0).refEntry 0).enable = false ∧ (live.advance 0).ref.forced = none ∧ (List.range 16).filter (live.advance 0).ranks = [] ∧
    (List.range 16).filter ((refs 3 .qualified).advance 0).ranks = [3] ∧
    (∀ s, s = (({ refs 3 .qualified with ref.forced := some 3 } : State).advance 0) → s.ref.forced = some 3 ∧ s.ranks 3 = true ∧ s.ref.selected ≠ some 3) ∧
    (live.advance 0).ref.switchTo = none ∧ (({ live with ref.switchTo := some (some 3) } : State).advance 0).time.state ≠ .guard ∧
    (∀ s, s = (({ live with ref.switchTo := some none, ref.selected := some 3, ref.dpll := .locked } : State).advance 0) → s.ref.switchTo = some none ∧ s.ref.dpll = .locked) ∧
    (∀ s, s = (({ live with ref.selected := some 3, ref.dpll := .acquiring } : State).advance 0) → s.ref.selected = some 3 ∧ s.time.state ≠ .guard ∧
      s.ref.dpll = .acquiring ∧ s.time.excess = 0 ∧ (s.refEntry 3).kind ≠ 2 ∧ ((6553 : Int) - s.ref.buildOut).natAbs * 1000 ≤ s.ref.window * 65536) ∧
    (∀ s, s = (({ live with ref.selected := some 3, ref.dpll := .locked } : State).advance 0) → s.ref.dpll = .locked ∧
      s.ref.window * 65536 < ((6554 : Int) - s.ref.buildOut).natAbs * 1000) ∧
    (∀ s, s = (({ live with ref.dpll := .holdover, ref.holdFrom := some 0, ref.validity := 3600 } : State).advance 0) → s.ref.holdFrom = some 0 ∧
      0 + s.ref.validity * second ≤ s.time.mono) ∧
    (∀ s, s = (({ live with ref.dpll := .holdover, ref.holdFrom := some 1, ref.validity := 3600 } : State).advance 0) → s.time.mono < 1 + s.ref.validity * second) ∧
    (∀ e, e < 16 → ((live.advance 0).refEntry e).enable = false ∧ ((live.advance 0).mon e).samples = []) ∧ (live.advance 0).ref.pairs = [] ∧ (live.advance 0).ref.dpll = .freeRun ∧ (live.advance 0).histValid = false ∧
    (∀ s, s = ((refs 0 .disqualified).advance 0) → (∀ e, e < 16 → 0 < e → (s.refEntry e).enable = false ∧ (s.mon e).samples = []) ∧
      (s.refEntry 0).enable = true ∧ s.sourceHeard 0 = true ∧ (s.mon 0).held = false ∧ (s.mon 0).qual = .disqualified ∧ s.histValid = false ∧
      (10000000000000 + (oscCorrection s).1).natAbs ≤ s.ref.capture * 1000000000000) := by
  refine ⟨by decide +kernel, by decide +kernel, by decide +kernel, by decide +kernel, by decide +kernel, by decide +kernel, by decide +kernel,
    by decide +kernel, ?_, by decide +kernel, by decide +kernel, ?_, ?_, ?_, ?_, ?_, by decide +kernel, by decide +kernel, by decide +kernel, by decide +kernel, ?_⟩ <;>
    intro s h <;> subst h <;> decide +kernel

/-- A slot whose header is right: an image of four bytes, version 7, SECURITY_VERSION 1. -/
def image : Slot :=
  { header := [0x4F, 0x4A, 0x46, 0x57, 0, 1, 0, 0, 0, 0, 0, 4, 0, 0, 0, 7, 0, 0, 0, 1] ++ List.replicate 4076 0, keyOk := true, sigOk := true }

theorem witness_StartUpFollowsTheSequence_slots :
    slotReason 1 image = 0 ∧ slotReason 2 image = 8 ∧ slotReason 1 { image with sigOk := false } = 8 ∧ slotReason 1 { image with header := [] } = 7 ∧
    fld image.header 12 4 = 7 := by
  refine ⟨by decide +kernel, by decide +kernel, by decide +kernel, by decide +kernel, by decide +kernel⟩

theorem witness_StartUpFollowsTheSequence :
    (live.advance 0).power.porN = true ∧ (State.reset.advance 0).power.porN = false ∧ (State.reset.advance 0).power.mode = .keep ∧
    (State.reset.advance 0).cmd.mailboxes = [] ∧ (State.reset.advance 0).power.booted = false ∧ (State.reset.advance 0).power.vkeep = true ∧
    (State.reset.advance 0).power.vddCore0 = true ∧ (State.reset.advance 0).power.coarseValid = false ∧
    (∀ s, s = (({ State.reset with power.vddCore0 := false, power.coarseValid := true, power.coarseTick := true } : State).advance 0) →
      s.power.vddCore0 = false ∧ s.power.coarseValid = true ∧ s.power.coarseTick = true) ∧
    (∀ s, s = (({ State.reset with power.vddCore0 := false, power.coarseValid := true, time.mono := second } : State).advance 0) →
      s.power.vddCore0 = false ∧ s.power.coarseValid = true ∧ s.power.coarseFrom + second ≤ s.time.mono) ∧ ({ State.reset with power.vkeep := false } : State).power.vkeep = false := by
  refine ⟨by decide +kernel, by decide +kernel, by decide +kernel, by decide +kernel, by decide +kernel, by decide +kernel, by decide +kernel,
    by decide +kernel, ?_, ?_, rfl⟩
  · intro s h; subst h; decide +kernel
  · intro s h; subst h; decide +kernel

/-- `live` in DORMANT, in a phase of its entry or exit. -/
def sleeping (m : Mode) (p : DormantPhase) : State := { live with power.mode := m, power.dormant := p, power.transition := some .dormant }

/-- The start-up sequence at step 5. -/
def booting : State :=
  { State.reset with
    cmd := { controllerUp := true }
    power := { mode := .bringUp, porN := true, booted := true, bootStep := 5 }
    log := { scanned := true } }

theorem witness_SuppliesAndOscillatorTakeEffect :
    (State.reset.advance 0).power.mode = .keep ∧ (live.advance 0).power.mode ≠ .keep ∧ (live.advance 0).power.mode ≠ .dormant ∧
    ((sleeping .dormant .none).advance 0).power.mode = .dormant ∧ ((sleeping .dormant .none).advance 0).part.cores = 2 ∧
    (State.reset.advance 0).clk.asynLock = false ∧ (live.advance 0).clk.asynLock = true ∧ (live.advance 0).power.vddTime = true ∧
    (∀ s, s = (({ dark with power.vddTime := false, clk.oscOk := false } : State).advance 0) → s.power.vddTime = false ∧ s.clk.oscOk = false ∧ s.power.dormant = .none) ∧
    (∀ s, s = (({ sleeping .dormant .exit with power.vddTime := false } : State).advance 0) → s.power.dormant = .exit ∧ s.power.vddTime = false ∧
      s.power.timeTimeout = false) ∧
    (live.advance 0).clk.oscLost = false ∧ ({ live with clk.oscLost := true } : State).clk.oscLost = true ∧
    (booting.advance 0).power.mode = .bringUp ∧ (booting.advance 0).clk.oscOk = false ∧ (booting.advance 0).power.oscSel < 6 ∧
    (booting.advance 0).power.vddTime = true ∧ (booting.advance 0).power.bootStep = 5 ∧ (live.advance 0).clk.oscOk = true ∧
    (∀ s, s = (({ live with clk.oscOk := false, clk.oscLost := true, clk.oscLostAt := 3600 * second - 10 * milli } : State).advance 0) →
      s.power.mode ≠ .bringUp ∧ s.clk.oscOk = false ∧ s.clk.oscLost = true ∧ s.clk.oscLostAt + 10 * milli ≤ s.time.mono) ∧
    (∀ s, s = (({ live with clk.oscOk := false, clk.oscLost := true, clk.oscLostAt := 3600 * second - 10 * milli + 1 } : State).advance 0) →
      s.time.mono < s.clk.oscLostAt + 10 * milli) := by
  refine ⟨by decide +kernel, by decide +kernel, by decide +kernel, by decide +kernel, by decide +kernel, by decide +kernel, by decide +kernel,
    by decide +kernel, ?_, ?_, by decide +kernel, rfl, by decide +kernel, by decide +kernel, by decide +kernel, by decide +kernel, by decide +kernel,
    by decide +kernel, ?_, ?_⟩ <;> intro s h <;> subst h <;> decide +kernel

/-- `live` with CORE die 1 frozen since an instant. -/
def frozenAt (t : Nat) : State := { live with clk.cores := [(0, live.core 0), (1, { initialised := true, frozen := some t, lostAt := t })] }

theorem witness_ClockEventsTakeEffect :
    (4 * 0 + 1) ∈ (live.advance 0).clk.lanePlls ∧ (4 * 95 + 3) ∉ (live.advance 0).clk.lanePlls ∧ 95 < (live.advance 0).part.ports ∧
    (live.advance 0).clk.asynLock = true ∧ (live.advance 0).asleep = false ∧ (live.advance 0).cal.loaded = true ∧ (live.advance 0).laneCut 95 = false ∧
    (tget ({ live with clk.outs := [(3, { enable := true })] } : State).clk.outs 3 {}).enable = true ∧
    (tget ({ live with clk.outs := [(3, { enable := true, unlocked := true })] } : State).clk.outs 3 {}).unlocked = true ∧
    (tget (live.advance 0).clk.outs 0 {}).enable = false ∧
    ((live.advance 0).core 1).cclkLock = true ∧ ((live.advance 0).core 1).bclkLock = true ∧ (live.advance 0).clk.cclk ≠ 0 ∧
    (∀ t s, t = 3600 * second - 64 * micro → s = ((frozenAt t).advance 0) → (s.core 1).frozen = some t ∧ (s.core 1).lostAt + 64 * micro ≤ s.time.mono ∧ s.cmd.commits = [] ∧ s.clk.cclk ≠ 0) ∧
    (∀ t s, t = 3600 * second - 64 * micro + 1 → s = ((frozenAt t).advance 0) → (s.core 1).frozen = some t ∧ s.time.mono < (s.core 1).lostAt + 64 * micro ∧ s.power.stage ≠ 2 ∧
      (s.core 1).lostAt + (64 * micro - 1) ≤ s.time.mono) ∧
    (∀ t s, t = 3600 * second - 10 * milli → s = ((frozenAt t).advance 0) → t + 10 * milli ≤ s.time.mono) ∧
    (∀ t s, t = 3600 * second - 10 * milli + 1 → s = ((frozenAt t).advance 0) → s.time.mono < t + 10 * milli) ∧
    (∀ s, s = (({ live with clk.cores := [(1, { initialised := true, reset := true })], ctr.interval := 4000000 } : State).advance 0) → 1 < s.part.cores ∧ (s.core 1).reset = true ∧
      s.clk.cclk ≠ 0 ∧ s.asleep = false ∧ s.power.stage = 0 ∧ s.cmd.commits = [] ∧ s.latchDue [] = false ∧ s.fwd.swaps = [] ∧
      s.fwd.removals = [] ∧ s.fwd.flushDue = []) ∧ ((live.advance 0).core 0).reset = false ∧
    (∀ r s, r = { target := 1600, start := 1600, from_ := 0, owner := .host } → s = (({ live with clk.ramp := some r } : State).advance 0) →
      s.clk.ramp = some r ∧ s.rampSettled r = true ∧ r.owner = .host) ∧
    (∀ r s, r = { target := 1600, start := 1600, from_ := 3600 * second - 10 * micro + 1, owner := .host } →
      s = (({ live with clk.ramp := some r } : State).advance 0) → s.rampSettled r = false) ∧ (live.advance 0).clk.ramp = none ∧
    (∀ s, s = (({ live with clk.cores := [(1, { initialised := true, frozen := some 0, cclkLock := true })] } : State).advance 0) → 1 < s.part.cores ∧
      (s.core 1).frozen ≠ none ∧ (s.core 1).cclkLock = true ∧ (s.core 1).bclkLock = false ∧ s.clk.cclk ≠ 0 ∧ s.clk.ramp = none) := by
  refine ⟨by decide +kernel, by decide +kernel, by decide +kernel, by decide +kernel, by decide +kernel, by decide +kernel, by decide +kernel,
    by decide +kernel, by decide +kernel, by decide +kernel, by decide +kernel, by decide +kernel, by decide +kernel, ?_, ?_, ?_, ?_, ?_, by decide +kernel, ?_, ?_,
    by decide +kernel, ?_⟩
  · intro t s h h'; subst h h'; decide +kernel
  · intro t s h h'; subst h h'; decide +kernel
  · intro t s h h'; subst h h'; decide +kernel
  · intro t s h h'; subst h h'; decide +kernel
  · intro s h; subst h; decide +kernel
  · intro r s h h'; subst h h'; decide +kernel
  · intro r s h h'; subst h h'; decide +kernel
  · intro s h; subst h; decide +kernel

/-- `live` with a request running on a rail, written 500 us ago. -/
def asking (r : Nat) (v : Rail) : State := { live with power.rails := [(r, { v with since := 3600 * second - 500 * micro })] }

theorem witness_VoltageEventsTakeEffect :
    ((live.advance 0).rail 0).state ≠ 1 ∧
    (∀ s, s = ((asking 0 { state := 1, attempts := 1 }).advance 0) → (s.rail 0).state = 1 ∧ (s.rail 0).owner = .host ∧ (s.rail 0).attempts < 4 ∧
      (s.rail 0).since + 500 * micro = s.time.mono) ∧ ((live.advance 0).rail 0).since + 500 * micro < (live.advance 0).time.mono ∧
    (State.reset.advance 0).time.mono < ((State.reset.advance 0).rail 0).since + 500 * micro ∧
    (∀ s, s = (({ live with time.count := 4096 * slotUnits } : State).advance 0) → s.ms.toNat % 4096 = 0 ∧ s.time.running = true ∧ s.power.mode ≠ .keep) ∧
    (live.advance 0).ms.toNat % 4096 ≠ 0 ∧
    (∀ s, s = ((asking 0 { state := 1, attempts := 4 }).advance 0) → 4 ≤ (s.rail 0).attempts) ∧
    (∀ s w, s = ((asking 0 { state := 1, owner := .shed }).advance 0) → w = s.setRail 0 { s.rail 0 with acked := 0, state := 2 } → w.coresWaiting = false) ∧
    (∀ s, s = ((asking 7 { state := 1, owner := .bringUp, attempts := 4 }).advance 0) → (s.rail 7).owner = .bringUp ∧
      s.avsRails.find? (fun k => decide (7 < k)) = none) ∧ (live.advance 0).avsRails.find? (fun k => decide (0 < k)) = some 1 ∧
    (live.advance 0).power.mode ≠ .keep ∧ (live.advance 0).time.running = true ∧ (State.reset.advance 0).power.mode = .keep := by
  refine ⟨by decide +kernel, ?_, by decide +kernel, by decide +kernel, ?_, by decide +kernel, ?_, ?_, ?_, by decide +kernel, by decide +kernel,
    by decide +kernel, by decide +kernel⟩
  · intro s h; subst h; decide +kernel
  · intro s h; subst h; decide +kernel
  · intro s h; subst h; decide +kernel
  · intro s w h h'; subst h h'; decide +kernel
  · intro s h; subst h; decide +kernel

/-- `live` with power changed. -/
def powered (f : PowerState → PowerState) : State := { live with power := f live.power }

theorem witness_SheddingFollowsTheTriggers :
    (live.advance 0).power.mode ≠ .keep ∧ (live.advance 0).triggers = 0 ∧ (live.advance 0).power.restoring = false ∧ (live.advance 0).hasRail 9 = true ∧
    (live.advance 0).hasRail 20 = false ∧ (live.advance 0).hasRail 13 = true ∧ (live.advance 0).railReference 13 = 900000 ∧
    (live.advance 0).railReference 19 = 1200000 ∧ 100 * 872999 < 97 * (live.advance 0).railReference 13 ∧
    97 * (live.advance 0).railReference 13 ≤ 100 * 873000 ∧ 100 * 854999 < 95 * (live.advance 0).railReference 13 ∧
    95 * (live.advance 0).railReference 13 ≤ 100 * 855000 ∧ (∀ d, d < 8 → (live.advance 0).part.hasDie d = true → getAt (List.replicate 8 800) d 0 ≤ (800 : Int)) ∧ (live.advance 0).power.stage < 5 ∧ (live.advance 0).part.hasDie 7 = true ∧
    (live.advance 0).power.trigEnable.testBit 1 = true ∧
    (∀ s, s = ((powered fun p => { p with trigThermal := true }).advance 0) → s.triggers = 16 ∧ s.sheds = true ∧ s.power.stage = 0 ∧ s.power.jumpToFive = false ∧
      s.power.mode = .service) ∧
    (∀ s, s = ((powered fun p => { p with trigCrit := true, jumpToFive := true, stage := 4 }).advance 0) → s.sheds = true ∧ s.power.jumpToFive = true ∧ s.power.stage < 5) ∧
    (live.advance 0).sheds = true ∧ (State.reset.advance 0).sheds = false ∧
    (∀ s, s = ((powered fun p => { p with stage := 1, mode := .shed, restoreMode := .service, clearedAt := 3600 * second - 10 * milli }).advance 0) →
      s.sheds = true ∧ s.power.stage = 1 ∧ s.triggers = 0 ∧ s.power.stageDone = true ∧ s.power.restoring = false ∧ s.power.mode = .shed ∧
      max s.power.clearedAt s.power.restoredAt + s.power.dwell * milli ≤ s.time.mono) ∧
    (∀ s, s = ((powered fun p => { p with stage := 1, clearedAt := 3600 * second - 10 * milli + 1 }).advance 0) →
      s.time.mono < max s.power.clearedAt s.power.restoredAt + s.power.dwell * milli) := by
  refine ⟨by decide +kernel, by decide +kernel, by decide +kernel, by decide +kernel, by decide +kernel, by decide +kernel, by decide +kernel, by decide +kernel,
    by decide +kernel, by decide +kernel, by decide +kernel, by decide +kernel, by decide +kernel, by decide +kernel, by decide +kernel, by decide +kernel,
    ?_, ?_, by decide +kernel, by decide +kernel, ?_, ?_⟩ <;> intro s h <;> subst h <;> decide +kernel

theorem witness_DormantIsEnteredAndLeft :
    ((sleeping .service (.entry 1)).advance 0).power.dormant = .entry 1 ∧ ((sleeping .service (.entry 4)).advance 0).aborting = false ∧
    (∀ s, s = (({ sleeping .service (.entry 6) with power.entryCompat := true, power.wake := some none } : State).advance 0) →
      s.power.dormant = .entry 6 ∧ s.aborting = true) ∧
    (∀ s, s = (({ sleeping .service (.entry 2) with power.entryCompat := true, power.wake := some none } : State).advance 0) →
      s.power.dormant = .entry 2 ∧ s.aborting = true) ∧
    (∀ s, s = ((sleeping .service (.entry 8)).advance 0) → s.aborting = false ∧ s.coresWaiting = false ∧ s.power.wake = none ∧ s.power.wakeEn.testBit 0 = true ∧
      s.power.mode ≠ .keep) ∧
    (∀ s, s = (({ sleeping .service (.entry 8) with power.wake := some (some .service) } : State).advance 0) → s.aborting = false ∧ s.coresWaiting = false ∧
      s.power.wake = some (some .service)) ∧
    (live.advance 0).power.dormant = .none ∧
    (∀ s, s = ((sleeping .dormant .none).advance 0) → s.power.wakeEn.testBit 0 = true ∧ s.power.mode = .dormant ∧ s.power.dormant = .none) ∧
    (∀ s, s = (({ sleeping .dormant .exit with power.rails := [(0, { state := 2, owner := .dormantExit }), (1, { state := 2, owner := .dormantExit })] } : State).advance 0) →
      s.power.dormant = .exit ∧ s.coresAcked = true ∧ (∀ d ∈ s.coreDies, (s.rail d).owner = .dormantExit) ∧ s.power.vddTime = true ∧ s.clk.asynLock = true ∧
      s.cmd.commits = []) ∧
    (live.advance 0).power.transition = none ∧ ({ live with power.transition := some .safe } : State).power.transition = some .safe ∧
    ({ live with power.transition := some .keep } : State).power.transition = some .keep := by
  refine ⟨by decide +kernel, by decide +kernel, ?_, ?_, ?_, ?_, by decide +kernel, ?_, ?_, by decide +kernel, rfl, rfl⟩ <;> intro s h <;> subst h <;> decide +kernel

theorem witness_SelfTestsAndTheCausewayReport :
    (tget (live.advance 0).power.bists 0 {}).state ≠ 1 ∧ (tget ({ live with power.bists := [(7, { state := 1, test := 2 })] } : State).power.bists 7 {}).state = 1 ∧
    6 ∈ (live.advance 0).power.trained ∧ tfind (live.advance 0).power.retraining 6 = none ∧ 280 < (-281 : Int).natAbs ∧
    ({ live with power.coreSkew := some 151 } : State).power.coreSkew.isSome = true ∧ 7 ∉ (live.advance 0).power.trained ∧ (live.advance 0).part.cores = 2 ∧
    (live.advance 0).power.mode ≠ .keep ∧ (State.reset.advance 0).power.mode = .keep ∧ tfind (live.advance 0).power.retrained 6 = none ∧
    tfind ({ live with power.retrained := [(6, (-201, 0))] } : State).power.retrained 6 = some (-201, 0) ∧ 80 ≤ (-281 - -201 : Int).natAbs ∧
    (-280 - -201 : Int).natAbs < 80 ∧ 50 ≤ (50 - 0 : Int).natAbs ∧ (49 - 0 : Int).natAbs < 50 ∧ tfind ({ live with power.retraining := [(6, 2)] } : State).power.retraining 6 = some 2 ∧
    tfind ({ live with power.retraining := [(6, 3)] } : State).power.retraining 6 = some 3 ∧
    ({ live with power.retraining := [(6, 3)] } : State).fwd.crossings = [] := by decide +kernel

/-- `linked` with logical port 0 changed. -/
def lported (f : Lport → Lport) : State := { linked with port.lports := [(0, f (linked.lp 0))] }

theorem witness_LaneEventsTakeEffect :
    (linked.advance 0).cal.loaded = true ∧ (linked.advance 0).asleep = false ∧ (State.reset.advance 0).cal.loaded = false ∧
    ((linked.advance 0).lane 0 0).adapted = false ∧ ({ linked.lane 0 0 with adapted := true } : Lane).adapted = true ∧
    (linked.advance 0).ms.toNat % 4096 ≠ 0 ∧
    (∀ s, s = (({ lported (fun p => { p with degradeDown := true, uncorr := 17 }) with time.count := 4096 * slotUnits } : State).advance 0) →
      s.ms.toNat % 4096 = 0 ∧ (s.lp 0).comparedAt ≠ some s.ms ∧ (s.lp 0).degradeThr < (s.lp 0).uncorr ∧ (s.lp 0).degradeDown = true ∧ (s.lp 0).up = true) ∧
    (linked.advance 0).laneWatched 0 1 = true ∧ (linked.advance 0).laneWatched 0 2 = false ∧ (linked.advance 0).provided 380 = true ∧
    (linked.advance 0).provided 383 = false ∧ ((lported fun p => { p with up := false }).advance 0).canAlign 0 = true ∧ (linked.advance 0).canAlign 0 = false ∧
    (∀ s, s = ((lported fun p => { p with medium := 1, train := .training, trainFrom := 597 * second, trainLimit := 3003000 }).advance 0) →
      s.trains 0 = true ∧ s.trains (s.lportOfLane 0 0) = true ∧ s.laneUsed 0 0 = true ∧ (s.lane 0 0).eqLock = false ∧
      tapsLegal (TapAsk.taps .inc 3 [0, 0, 0, 62, 0]) = true ∧ tapsLegal (TapAsk.taps .inc 3 (s.lane 0 0).taps) = false ∧
      (s.lp 0).trainFrom + (s.lp 0).trainLimit * milli ≤ s.time.mono) ∧ (linked.advance 0).trains 0 = false ∧
    (linked.advance 0).provided 0 = true ∧ ((linked.advance 0).lp 0).enabled = true ∧ (linked.advance 0).ctr.running = true ∧ ((linked.advance 0).lp 1).enabled = false ∧
    (∀ s, s = ((lported fun p => { p with moving := some 2 }).advance 0) → (s.lp 0).moving = some 2 ∧ (s.lp 0).power ≠ 2) ∧
    (∀ s, s = ((lported fun p => { p with moving := some 0, power := 2 }).advance 0) → (s.lp 0).moving = some 0 ∧ (s.lp 0).power = 2) ∧
    ((linked.advance 0).lp 0).moving = none ∧
    (∀ s, s = ((lported fun p => { p with power := 1, wakeDue := true, autoWake := true }).advance 0) → (s.lp 0).wakeDue = true ∧ (s.lp 0).autoWake = true ∧
      (s.lp 0).power ≠ 0 ∧ tfind s.power.shedPorts 0 = none) ∧
    (∀ s, s = (({ lported (fun p => { p with power := 2 }) with port.links := [(0, { axEnable := true })] } : State).advance 0) → s.critical 0 = true ∧
      (s.lp 0).enabled = true ∧ (s.lp 0).power = 2 ∧ (s.lp 0).moving = none) ∧ (linked.advance 0).critical 0 = false := by
  refine ⟨by decide +kernel, by decide +kernel, by decide +kernel, by decide +kernel, rfl, by decide +kernel, ?_, by decide +kernel, by decide +kernel,
    by decide +kernel, by decide +kernel, by decide +kernel, by decide +kernel, ?_, by decide +kernel, by decide +kernel,
    by decide +kernel, by decide +kernel, by decide +kernel, ?_, ?_, by decide +kernel, ?_, ?_, by decide +kernel⟩ <;> intro s h <;> subst h <;> decide +kernel

theorem witness_WakeLimitTakesTheLinkDown :
    (∀ s, s = ((lported fun p => { p with moving := some 0, power := 2, wakeFrom := 3600 * second - 10 * milli }).advance 0) → (s.lp 0).moving = some 0 ∧
      (s.lp 0).power = 2 ∧ (s.lp 0).wakeFrom + (s.lp 0).wakeLimit * milli ≤ s.time.mono) ∧
    (∀ s, s = ((lported fun p => { p with moving := some 0, power := 2, wakeFrom := 3600 * second - 10 * milli + 1 }).advance 0) →
      s.time.mono < (s.lp 0).wakeFrom + (s.lp 0).wakeLimit * milli) ∧
    Op.check .lanePower (pkt [0, 0, 0, 0, 0, 2, 0, 0]) linked linked = none ∧ Op.check .lanePower (pkt [0, 0, 0, 0, 3, 232, 0, 0]) linked linked = none ∧
    Op.check .lanePower (pkt [0, 0, 0, 0, 0, 1, 0, 0]) linked linked ≠ none := by
  refine ⟨?_, ?_, by decide +kernel, by decide +kernel, by decide +kernel⟩ <;> intro s h <;> subst h <;> decide +kernel

/-- `linked` with a link record on P0 and lanes 0 and 1. -/
def timed (k : Link) (a b : Lane) : State := { linked with port := { linked.port with lports := [(0, { type := 4, enabled := true, up := true })], links := [(0, k)], lanes := [(0, a), (1, b)] } }

def good : Lane := { los := false, lol := false, lockedAt := some 0 }

theorem witness_TimingLanesFollowTheRules :
    (∀ s, s = (({ linked with time.count := 4096 * slotUnits } : State).advance 0) → s.ms.toNat % 4096 = 0) ∧ (linked.advance 0).ms.toNat % 4096 ≠ 0 ∧
    ((linked.advance 0).link 5).estimate = false ∧ ({ linked with time.rotating := true } : State).time.rotating = true ∧ (linked.advance 0).phaseLane 5 = false ∧
    (linked.advance 0).time.rotating = false ∧ (linked.advance 0).phaseLane 0 = true ∧ ((linked.advance 0).link 0).resolved = false ∧
    (((timed { resolved := true } good good).advance 0).link 0).resolved = true ∧
    (∀ s, s = (({ timed { resolved := true } good good with port.lports := [(0, { type := 7, enabled := true, up := true })] } : State).advance 0) →
      s.nextSkewLane 0 = none ∧ s.phaseLane 0 = true) ∧ (((timed {} good {}).advance 0).lane 0 1).locked = false ∧ ((timed {} good {}).advance 0).nextSkewLane 0 = some 1 ∧
    (∀ s, s = ((timed {} good { good with skewCount := 511 }).advance 0) → s.phaseLane 0 = true ∧ s.nextSkewLane 0 = some 1 ∧
      (s.lane 0 1).locked = true ∧ (s.lane 0 1).skewCount + 1 = 512) ∧
    (((timed {} good { good with skewCount := 510 }).advance 0).lane 0 1).skewCount + 1 < 512 ∧
    (∀ s, s = ((timed {} {} {}).advance 0) → 0 < s.part.ports ∧ s.timingLane 0 0 = true ∧ (s.lane 0 0).locked = false ∧ s.fallbackLane 0 = none ∧ (s.link 0).laneLost = false) ∧
    (∀ s, s = ((timed {} {} { good with skew := some 7 }).advance 0) → s.fallbackLane 0 = some 1 ∧ (s.lane 0 1).skew = some 7) ∧
    (∀ s, s = ((timed {} {} good).advance 0) → s.fallbackLane 0 = some 1 ∧ (s.lane 0 1).skew = none ∧ s.followsPort 0 = false) ∧
    (∀ s, s = ((timed { activeLane := 1 } { good with skew := some 7, lockedAt := some (3600 * second - 4096 * slotUnits) } good).advance 0) → (s.link 0).revert = true ∧
      (s.link 0).activeLane ≠ (s.link 0).confLane ∧ (s.lane 0 0).locked = true ∧ (s.lane 0 0).skew = some 7 ∧
      3600 * second - 4096 * slotUnits + 4096 * slotUnits ≤ s.time.mono) ∧
    ((linked.advance 0).link 0).activeLane = ((linked.advance 0).link 0).confLane := by
  refine ⟨?_, by decide +kernel, by decide +kernel, rfl, by decide +kernel, by decide +kernel, by decide +kernel, by decide +kernel, by decide +kernel, ?_, by decide +kernel, by decide +kernel, ?_, by decide +kernel,
    ?_, ?_, ?_, ?_, by decide +kernel⟩ <;> intro s h <;> subst h <;> decide +kernel

/-- An AX message: version 1, SEQ 1, an echo of SEQ `e`, all stamps 0. -/
def axFrame (flags e : Byte) : List Byte :=
  let d := [0x01, 0x80, 0xC2, 0, 0, 0x0E, 2, 0, 0, 0, 0, 1, 0x88, 0xB6, 0x10, flags, 0, 1, 0, e] ++ List.replicate 40 0
  d ++ fcs d

theorem witness_AlmanacMessagesAreExchanged :
    (∀ s, s = ((timed { axEnable := true, axSeq := 5, axSent := 5 } good good).advance 0) → (s.link 0).axEnable = true ∧ s.axLink 0 = true ∧
      (s.egress (s.timingLport 0)).freeAt ≤ s.time.mono ∧ s.axBarred (s.timingLport 0) = false ∧ s.loopsBack (s.timingLport 0) = false ∧ s.axInstant 0 = true ∧
      s.receives (s.timingLport 0) = true ∧ 0 < s.part.ports ∧ (axFrame 0x40 4).length = 64 ∧ (axFrame 0x40 4).drop 60 = fcs ((axFrame 0x40 4).take 60) ∧
      fld (axFrame 0x40 4) 14 1 / 16 = 1 ∧ bit (fld (axFrame 0x40 4) 15 1) 6 = true ∧ sdiff (s.link 0).axSeq (BitVec.ofNat 16 (fld (axFrame 0x40 4) 18 2)) = 1 ∧
      1 ≤ (s.link 0).axSent ∧ bit (fld (axFrame 0 4) 15 1) 6 = false ∧ (s.link 0).silent = false ∧
      max (s.link 0).axFrom (max ((s.link 0).lastValid.getD 0) ((s.link 0).ptp.lastDone.getD 0)) + (s.link 0).silence * second ≤ s.time.mono) ∧
    ((linked.advance 0).link 0).axEnable = false ∧ ([] : List Byte).length ≠ 64 ∧ (live.advance 0).receives ((live.advance 0).timingLport 0) = false ∧
    ((timed { axEnable := true } good good).advance 1).axInstant 0 = false ∧
    (∀ s, s = (({ timed { axEnable := true } good good with fwd.egress := [(0, { freeAt := 3600 * second + 1 })] } : State).advance 0) →
      s.time.mono < (s.egress (s.timingLport 0)).freeAt ∧ s.axInstant 0 = true) ∧
    (((timed { axEnable := true, silent := true } good good).advance 0).link 0).silent = true := by
  refine ⟨?_, by decide +kernel, by decide, by decide +kernel, by decide +kernel, ?_, by decide +kernel⟩ <;> intro s h <;> subst h <;> decide +kernel

/-- A PTP port in a state of IEEE 1588. -/
def ptpAt (n : Nat) : State := timed { ptp := { enable := true, state := n, sync := some (0, 0), delayReq := some (7, 0) } } good good

def msg (kind : Nat) : PtpMsg :=
  { kind := kind, domain := 0, twoStep := false, sequence := 7, seconds := 100, nanos := 0, correction := 0, identity := 99, quality := [128], steps := 0, utcOffset := 37, leap := 0 }

theorem witness_PtpPortsFollowTheirStates :
    (linked.advance 0).ptpRuns 0 = false ∧ (msg 11).domain = ((ptpAt 9).advance 0).port.ptpClock.domain ∧ ((ptpAt 9).advance 0).ptpRuns 0 = true ∧ ((ptpAt 9).advance 0).loopsBack (((ptpAt 9).advance 0).timingLport 0) = false ∧
    (msg 11).identity ≠ ((ptpAt 9).advance 0).ptpIdentity ∧ ((ptpAt 9).advance 0).ptpDecide 0 = 6 ∧ (∀ s, s = (({ ptpAt 9 with port.ptpClock.external := true } : State).advance 0) → s.ptpDecide 0 = 7) ∧
    (∀ s, s = (({ timed { ptp := { enable := true, config := 9 } } good good with port.ptpClock.external := true } : State).advance 0) → s.ptpDecide 0 = 9) ∧
    (((ptpAt 9).advance 0).link 0).ptp.state = 9 ∧ (ofPtp (msg 0)).isSome = true ∧ ofPtp { msg 0 with nanos := 1000000000 } = none ∧
    (((ptpAt 6).advance 0).link 0).ptp.state = 6 ∧ ((ptpAt 6).advance 0).timeValid = true ∧ (((ptpAt 9).advance 0).link 0).ptp.delayReq = some ((msg 9).sequence, 0) ∧
    (((ptpAt 9).advance 0).link 0).ptp.sync = some (0, 0) ∧ (ofPtp (msg 9)).isSome = true := by
  refine ⟨by decide +kernel, by decide +kernel, by decide +kernel, by decide +kernel, by decide +kernel, by decide +kernel, ?_, ?_, by decide +kernel, by decide +kernel,
    by decide +kernel, by decide +kernel, by decide +kernel, by decide +kernel, by decide +kernel, by decide +kernel⟩ <;> intro s h <;> subst h <;> decide +kernel

/-- A 64-byte frame to an EtherType, and one with its FCS wrong. -/
def frame64 (et : List Byte) : List Byte := let d := [2, 0, 0, 0, 0, 9] ++ List.replicate 6 3 ++ et ++ List.replicate 46 0; d ++ fcs d
def rxd (et : List Byte) (ok : Bool) : RxFrame :=
  { lport := 0, data := (frame64 et).take 60, arrival := 0, arrivalValid := true, arrivalMono := 0, endMono := 0, fcsOk := ok }

/-- `linked` with a frame in the FIFO of P0. -/
def holding (x : RxFrame) : State := { linked with fwd.fifos := [(0, [x])] }

/-- `linked` with a branch of a stored frame towards logical port 0, and the frame's copy. -/
def branched (b : Branch) : State :=
  { linked with fwd.branches := [b], fwd.copies := [{ id := 1, die := 0, pool := 0, cells := 1, priority := none
                                                      frame := { data := List.replicate 60 0, input := some 8, pipeline := some 0, cls := b.cls } }] }

theorem witness_FramesPassThrough :
    (live.advance 0).receives 0 = false ∧ fld ((frame64 [0x88, 0xB6]).take 60) 12 2 = (live.advance 0).fwd.etAx ∧ (linked.advance 0).receives 0 = true ∧
    fld (frame64 [8, 0]) 12 2 ≠ 0x8808 ∧ ((linked.advance 0).fwdCfg 0).mtuAt ((linked.advance 0).time.mono - 1000) = 9216 ∧ (linked.advance 0).loopsBack 0 = false ∧ (List.replicate 63 (0 : Byte)).length < 64 ∧
    64 ≤ (frame64 [8, 0]).length ∧ (frame64 [8, 0]).length ≤ ((linked.advance 0).fwdCfg 0).mtuAt ((linked.advance 0).time.mono - 1000) ∧
    (∀ s, s = (({ linked with fwd.lportFwd := [(0, { mtu := 63 })] } : State).advance 0) → (s.fwdCfg 0).mtuAt (s.time.mono - 1000) < (frame64 [8, 0]).length) ∧
    ({ linked with power.transition := some .keep } : State).ingressStopped = true ∧ (linked.advance 0).ingressStopped = false ∧
    (linked.advance 0).noRoomAt (portOf 0) [] 1000 64 = none ∧ (linked.advance 0).noRoomAt (portOf 0) [(1000, 65536)] 1000 64 ≠ none ∧
    (∀ s, s = (({ linked with port.lports := [(0, { type := 4, enabled := true, up := true, loop := 1 })] } : State).advance 0) → s.loopsBack 0 = true ∧
      s.receives 0 = true ∧ tget s.fwd.loopback 0 [] = []) ∧
    ((dark.advance 0).core 1).running = true ∧ (live.advance 0).part.pipelines ≤ 48 ∧ (∀ i, i < 3 → (linked.advance 0).inputReady 0 i = false) ∧
    ((takeFrame 0 ((holding (rxd [8, 0] false)).advance 0)).1.map (fun x => x.1.fcsOk)) = some false ∧
    ((takeFrame 0 ((holding (rxd [0x88, 0xB5] true)).advance 0)).1.map (fun x => fld x.1.data 12 2)) = some (linked.advance 0).fwd.etCommand ∧
    (∀ s x, x = rxd [8, 0] true → s = ((holding x).advance 0) → (takeFrame 0 s).1 = some (x, false) ∧ fld x.data 12 2 ≠ s.fwd.etCommand ∧ s.ptpTaken 0 x.data = false ∧
      s.forwards = true ∧ s.power.stage = 0 ∧ s.ctr.tagK = 0 ∧ (s.fwdCfg 0).tagIn = 0 ∧ (parse s.fwd.etWaymark x.data).waymark = false ∧ s.fwd.acl = [] ∧
      (∀ n, n < 8 → (s.session n).destKind = 2) ∧ (s.fwdCfg 0).l2Miss = 0 ∧
      s.fwd.l2.find? (fun e => decide (e.vid = vidOf (s.fwdCfg 0) (parse s.fwd.etWaymark x.data) ∧ e.mac.toNat = daOf x.data)) = none) ∧
    (∀ s x e, x = rxd [8, 0] true → e = { vid := 1, mac := 0x020000000009, kind := 0, target := 4 } →
      s = (({ holding x with fwd.l2 := [e], port.lports := [(0, linked.lp 0), (4, linked.lp 0)] } : State).advance 0) →
      s.fwd.l2.find? (fun e => decide (e.vid = vidOf (s.fwdCfg 0) (parse s.fwd.etWaymark x.data) ∧ e.mac.toNat = daOf x.data)) = some e ∧ e.target ≠ 0 ∧
      classify s 0 (parse s.fwd.etWaymark x.data) x.data none < 7 ∧ x.data.length + 4 ≤ (s.fwdCfg 4).mtu ∧ (s.fwdCfg 4).tagOut = 0 ∧ s.portDown 4 = false ∧
      s.line 0 4 0 = [] ∧ s.power.retraining = [] ∧ s.poolFits 0 (s.poolOf 0 0) (cellsOf 64) = true ∧ s.queueFits 0 4 0 (cellsOf 64) = true) := by
  refine ⟨by decide +kernel, by decide +kernel, by decide +kernel, by decide +kernel, by decide +kernel, by decide +kernel, by decide, by decide +kernel, by decide +kernel, ?_,
    by decide +kernel, by decide +kernel, by decide +kernel, by decide +kernel, ?_, by decide +kernel, by decide +kernel, by decide +kernel, by decide +kernel, by decide +kernel, ?_, ?_⟩
  · intro s h; subst h; decide +kernel
  · intro s h; subst h; decide +kernel
  · intro s x h h'; subst h h'; decide +kernel
  · intro s x e h h' h''; subst h h' h''; decide +kernel

/-- A record for injection of 60 bytes to logical port 0 in class 3, and a ring that holds it. -/
def injectRecord (n : Nat) : List Byte := [0, 0x0C] ++ toBe 2 n ++ List.replicate 12 0 ++ List.replicate 64 0
def injecting : State := { linked with cmd.rings := [(2, { enable := true, active := true, kind := 2, prod := 128 })] }

theorem witness_FramesPassThrough_rings : (linked.advance 0).ringOf .inject = none ∧ (injecting.advance 0).ringOf .inject = some 2 ∧
    (injecting.advance 0).fwd.injectHead = none ∧ fld (injectRecord 60) 2 2 = 60 ∧ 16 + 60 + (16 - (16 + 60) % 16) % 16 ≤ (((injecting.advance 0).ring 2).prod - ((injecting.advance 0).ring 2).cons).toNat ∧
    16 + 60 ≤ (injectRecord 60).length ∧ fld (injectRecord 60) 0 2 / 16384 = 0 ∧ (injecting.advance 0).provided (fld (injectRecord 60) 0 2 / 32 % 512) = true ∧
    fld (injectRecord 59) 2 2 < 60 ∧ (live.advance 0).canStart 0 = false ∧ NoAxWaits 0 (live.advance 0) ∧
    (∀ s, s = ((timed { axEnable := true, axDue := true } good good).advance 0) → s.timingLport 0 = 0 ∧ (s.link 0).axDue = true ∧ (s.link 0).axEnable = true ∧
      s.axLink 0 = true ∧ (s.egress 0).freeAt ≤ s.time.mono ∧ s.axBarred 0 = false ∧ 0 < s.gbps 0) ∧
    (∀ s b, b = { copy := 1, lport := 0, cls := 3, fifo := none } → s = (({ branched b with fwd.sched := [(0, { strict := 8 })] } : State).advance 0) →
      s.canStart 0 = true ∧ NoAxWaits 0 s ∧ s.loopsBack 0 = false ∧ (∀ x ∈ s.fwd.branches, x.lport = 0 → x.cls < 4) ∧ (s.queue 0 3).head? = some b ∧ bit (s.schedCfg 0).strict 3 = true ∧ s.eligible b = true ∧
      (s.copyOf 1).map (fun c => c.frame.routed) = some false ∧ b.marked = false ∧ (s.fwdCfg 0).tagOut = 0 ∧ (s.queueCfg 0 3).ecn = 0) := by
  refine ⟨by decide +kernel, by decide +kernel, by decide +kernel, by decide +kernel, by decide +kernel, by decide +kernel, by decide +kernel, by decide +kernel,
    by decide +kernel, by decide +kernel, by unfold NoAxWaits; decide +kernel, ?_, ?_⟩
  · intro s h; subst h; decide +kernel
  · intro s b h h'; subst h h'; unfold NoAxWaits; decide +kernel

/-- `linked` with the PFC state of logical port 0, priority 7. -/
def paused (p : PfcPort) : State := { linked with fwd.pfcPort := [(7, p)] }

theorem witness_PausesTakeEffect :
    (∀ s, s = ((paused { due := true, xoffSent := true, quanta := 2 }).advance 0) → ((s.pfcPort 0 7).due = true ∨ (s.pfcPort 0 7).freeze = true) ∧ (s.pfcPort 0 7).xoffSent = true ∧ (s.lp 0).up = true ∧
      s.quantaTime 0 (s.pfcPort 0 7).quanta ≤ 2 * (s.time.mono - (s.pfcPort 0 7).lastXoff)) ∧ ((linked.advance 0).pfcPort 0 7).due = false ∧ ((linked.advance 0).pfcPort 0 7).freeze = false ∧ (linked.advance 0).loopsBack 0 = false ∧
    (frame64 [0x88, 0x08]).length = 64 ∧ 64 ≤ ((linked.advance 0).fwdCfg 0).mtuAt (linked.advance 0).time.mono ∧
    (live.advance 0).receives 0 = false ∧ (linked.advance 0).receives 0 = true ∧ fld (frame64 [0x88, 0x08]) 12 2 = 0x8808 ∧
    fcs ((frame64 [0x88, 0x08]).take 60) = (frame64 [0x88, 0x08]).drop 60 ∧ fld (frame64 [0x88, 0x08, 0, 1]) 14 2 = 1 ∧ fld (frame64 [0x88, 0x08, 1, 1]) 14 2 = 0x0101 ∧
    fld (frame64 [0x88, 0x08, 0, 2]) 14 2 ≠ 0x0001 ∧ (7 : Nat) < 8 ∧ ((linked.advance 0).pfcPort 0 7).incoming = [] ∧
    (∀ s, s = ((paused { incoming := [(3600 * second, 0)], pausedUntil := some (3600 * second) }).advance 0) → (s.pfcPort 0 7).incoming = [(3600 * second, 0)] ∧
      3600 * second ≤ s.time.mono ∧ (s.pfcPort 0 7).pausedUntil = some (3600 * second)) ∧
    (∀ s, s = ((paused { incoming := [(3600 * second + 1, 0)], pausedUntil := some (3600 * second + 1) }).advance 0) → s.time.mono < 3600 * second + 1) := by
  refine ⟨?_, by decide +kernel, by decide +kernel, by decide +kernel, by decide +kernel, by decide +kernel, by decide +kernel, by decide +kernel, by decide +kernel,
    by decide +kernel, by decide +kernel, by decide +kernel, by decide +kernel, by decide, by decide +kernel, ?_, ?_⟩ <;> intro s h <;> subst h <;> decide +kernel

/-- `branched` with a calendar of two slots active on logical port 0, class 7 in one of them. -/
def scheduled (b : Branch) (slot : Nat) : State := { branched b with fwd.active := [(0, { n := 2, e := 2, entries := [(slot, 0x8000)] })] }

theorem witness_QueuesFollowTime_calendars :
    (∀ s b, b = { copy := 1, lport := 0, cls := 7, fifo := none } → s = ((scheduled b 0).advance 0) → ∃ c, s.calendar 0 = some c ∧
      s.releaseSlot 0 = some s.ms ∧ (s.governs 0 s.ms).1 = some 0 ∧ bit (s.governs 0 s.ms).2 15 = true ∧ NoAxWaits 0 s ∧ s.loopsBack 0 = false ∧
      s.queue 0 7 = [b] ∧ (s.copyOf 1).isSome = true ∧
      s.branchWire b ≤ (c.windows.map c.duration).foldl max 0 ∧ s.canStart 0 = true ∧ (s.scheduledPick 0 s.ms).map Prod.fst = some b) ∧
    (∀ s, s = (({ scheduled { copy := 1, lport := 0, cls := 7, fifo := none } 0 with fwd.egress := [(0, { freeAt := 3600 * second + 1 })] } : State).advance 0) →
      (s.core (s.coreOfLport 0)).running = true ∧ s.time.mono < (s.egress 0).freeAt ∧ (s.egress 0).cls ≠ 7) ∧
    (∀ s b, b = { copy := 1, lport := 0, cls := 7, fifo := none, windows := 1 } → s = ((scheduled b 1).advance 0) → ∃ c, s.calendar 0 = some c ∧
      NoAxWaits 0 s ∧ (s.core (s.coreOfLport 0)).running = true ∧ 0 < s.ms.toNat ∧ 0 < s.closesOf 0 c (s.ms.toNat - 1) s.ms.toNat ∧ s.fwd.branches = [b] ∧ (s.copyOf 1).isSome = true ∧
      s.branchWire b ≤ (c.windows.map c.duration).foldl max 0 ∧ c.windowLimit ≤ b.windows + 1 ∧ 0 + 1 < c.windowLimit) ∧
    (∀ s b, b = { copy := 1, lport := 0, cls := 7, fifo := none } → s = ((scheduled b 0).advance 0) → ∃ c, s.calendar 0 = some c ∧
      NoAxWaits 0 s ∧ s.closesOf 0 c (s.ms.toNat - 1) s.ms.toNat = 0) ∧
    (∀ s, s = (({ linked with fwd.swaps := [(0, { at_ := (live.advance 0).ms, idleFrom := 0 })] } : State).advance 0) →
      tfind s.fwd.swaps 0 = some { at_ := s.ms, idleFrom := 0 } ∧ later s.ms s.ms = false ∧ s.frozenDie (s.coreOfLport 0) = false) ∧
    (∀ s, s = (({ linked with fwd.swaps := [(0, { at_ := (live.advance 0).nextMs, idleFrom := 0 })] } : State).advance 0) →
      tfind s.fwd.swaps 0 = some { at_ := s.nextMs, idleFrom := 0 } ∧ later s.nextMs s.ms = true) ∧
    (∀ s b, b = { copy := 1, lport := 0, cls := 7, fifo := none } → s = (({ scheduled b 0 with fwd.removals := [(0, (live.advance 0).ms)] } : State).advance 0) →
      tfind s.fwd.removals 0 = some s.ms ∧ later s.ms (BitVec.ofNat 56 (s.ms.toNat / 2 * 2)) = false ∧ s.frozenDie (s.coreOfLport 0) = false) ∧
    later (live.advance 0).nextMs (BitVec.ofNat 56 ((live.advance 0).ms.toNat / 2 * 2)) = true := by
  refine ⟨?_, ?_, ?_, ?_, ?_, ?_, ?_, by decide +kernel⟩
  · intro s b h h'; subst h h'; exact ⟨_, rfl, by unfold NoAxWaits; decide +kernel⟩
  · intro s h; subst h; decide +kernel
  · intro s b h h'; subst h h'; exact ⟨_, rfl, by unfold NoAxWaits; decide +kernel⟩
  · intro s b h h'; subst h h'; exact ⟨_, rfl, by unfold NoAxWaits; decide +kernel⟩
  · intro s h; subst h; decide +kernel
  · intro s h; subst h; decide +kernel
  · intro s b h h'; subst h h'; decide +kernel

theorem witness_QueuesFollowTime :
    (∀ b ∈ (linked.advance 0).fwd.branches, b.residue = none) ∧ (live.advance 0).part.pipelines ≠ 0 ∧
    (∀ s b, b = { copy := 1, lport := 0, cls := 3, fifo := some 0, residue := some 1 } → s = ((branched b).advance 0) → s.fwd.branches = [b] ∧ (s.copyOf 1).isSome = true ∧
      (s.core (s.coreOfLport 0)).running = true ∧ s.portDown 0 = false ∧ s.queueFits 0 0 3 1 = true) ∧
    (∀ s b, b = { copy := 1, lport := 0, cls := 3, fifo := some 0, residue := some 2 } → s = (({ branched b with fwd.pools := [(0, { sizes := [0, 0, 0, 0, 0, 0] })] } : State).advance 0) →
      s.fwd.branches = [b] ∧ s.queueFits 0 0 3 1 = false) ∧
    (∀ s b, b = { copy := 1, lport := 0, cls := 4, fifo := none } → s = ((branched b).advance 0) → s.fwd.branches = [b] ∧ s.expired b = true ∧ (s.core (s.coreOfLport 0)).running = true) ∧
    (∀ s b, b = { copy := 1, lport := 0, cls := 3, fifo := none } → s = ((branched b).advance 0) → s.expired b = false ∧ deadlineClass b.cls = false) ∧
    (∀ s, s = (({ live with fwd.held := [(0, 3600 * second - 2000 * micro)] } : State).advance 0) → tfind s.fwd.held 0 = some (3600 * second - 2000 * micro) ∧
      s.linkIsDown 0 = true ∧ s.time.running = true ∧ s.frozenDie (s.coreOfLport 0) = false ∧ 3600 * second - 2000 * micro + tget s.fwd.holds 0 2000 * micro ≤ s.time.mono) ∧
    tfind (live.advance 0).fwd.held 0 = none ∧ (live.advance 0).calendar 0 = none ∧ (linked.advance 0).queue 0 7 = [] ∧
    tfind (live.advance 0).fwd.swaps 0 = none ∧ tfind (live.advance 0).fwd.removals 0 = none := by
  refine ⟨by decide +kernel, by decide +kernel, ?_, ?_, ?_, ?_, ?_, by decide +kernel, by decide +kernel, by decide +kernel, by decide +kernel, by decide +kernel⟩
  · intro s b h h'; subst h h'; decide +kernel
  · intro s b h h'; subst h h'; decide +kernel
  · intro s b h h'; subst h h'; decide +kernel
  · intro s b h h'; subst h h'; decide +kernel
  · intro s h; subst h; decide +kernel

/-- `live` with TDC channel 15 set up. -/
def measuring (c : Channel) : State := { live with meas.channels := [(15, c)] }

theorem witness_GatesAndEdgesAreMeasured :
    (live.advance 0).time.mono < (3600 * second - 655359) + 655360 ∧
    ((live.advance 0).chan 15).gate = none ∧ ((live.advance 0).chan 15).enabled = false ∧ ((live.advance 0).chan 15).cfg.edgeSel = 0 ∧
    (((measuring { cfg := { edgeSel := 1 } }).advance 0).chan 15).cfg.edgeSel = 1 ∧
    (∀ s g, g = { opened := 0, openedMono := 3600 * second - 655360 } →
      s = ((measuring { cfg := { edgeSel := 2, arm := 1, gatePin := 3 }, enabled := true, gate := some g, lastEdge := some (3600 * second - 262144) }).advance 0) →
      (s.chan 15).gate = some g ∧ (s.chan 15).enabled = true ∧ (s.chan 15).cfg.edgeSel = 2 ∧ 3600 * second - 262144 + 262144 ≤ s.time.mono ∧
      g.edges % (s.chan 15).cfg.decimation = 0 ∧ (s.chan 15).queue.length < 4096 ∧ g.openedMono + 655360 ≤ s.time.mono ∧ false = (s.chan 15).cfg.activeLow) ∧
    (∀ s, s = ((measuring { cfg := { edgeSel := 2 }, enabled := true, gate := some { opened := 0, openedMono := 0 }, lastEdge := some (3600 * second - 262143) }).advance 0) →
      (s.chan 15).lastEdge = some (3600 * second - 262143) ∧ s.time.mono < 3600 * second - 262143 + 262144) ∧
    (∀ s, s = ((measuring { cfg := { edgeSel := 2, decimation := 2 }, enabled := true, gate := some { opened := 0, openedMono := 0, edges := 1 } }).advance 0) →
      (1 : Nat) % (s.chan 15).cfg.decimation ≠ 0 ∧ (s.chan 15).lastEdge = none) ∧ (List.replicate 4096 ([] : List Byte)).length = 4096 ∧
    (∀ s, s = ((measuring { cfg := { arm := 1, gatePin := 3 }, enabled := true }).advance 0) → (s.chan 15).enabled = true ∧ (s.chan 15).cfg.arm = 1 ∧
      (s.chan 15).cfg.gatePin = 3 ∧ true = !(s.chan 15).cfg.activeLow ∧ (s.chan 15).gate = none) ∧
    (∀ s, s = ((measuring { cfg := { arm := 2, start := 3600 * second, stop := 3601 * second }, enabled := true }).advance 0) → (s.chan 15).done = false ∧
      reached s.time.count ((s.chan 15).cfg.window 0).1 = true ∧ reached s.time.count ((s.chan 15).cfg.window 0).2 = false) ∧
    (∀ s g, g = { opened := 0, openedMono := 0 } → s = ((measuring { cfg := { edgeSel := 2, arm := 2, stop := 3600 * second }, enabled := true, gate := some g }).advance 0) →
      (s.chan 15).gate = some g ∧ (s.chan 15).enabled = true ∧ (s.chan 15).cfg.edgeSel = 2 ∧ (s.chan 15).cfg.period = 0 ∧ (s.chan 15).cfg.arm = 2 ∧ reached s.time.count ((s.chan 15).cfg.window 0).2 = true ∧ (s.chan 15).closing = []) := by
  refine ⟨by decide +kernel, by decide +kernel, by decide +kernel, by decide +kernel, by decide +kernel, ?_, ?_, ?_, List.length_replicate, ?_, ?_, ?_⟩
  · intro s g h h'; subst h h'; decide +kernel
  · intro s h; subst h; decide +kernel
  · intro s h; subst h; decide +kernel
  · intro s h; subst h; decide +kernel
  · intro s h; subst h; decide +kernel
  · intro s g h h'; subst h h'; decide +kernel

/-- An event record. -/
def rec_ : Record :=
  { severity := .warn, tv := true, vv := true, code := 0x2105, seq := 0, opSeconds := 0, powerCycles := 1, time := 0, stepCount := 0, suppressed := 0, die := 0
    params := [] }

theorem witness_SnapshotsAndRecordsAreKept :
    (live.advance 0).time.running = true ∧ (live.advance 0).periodic = true ∧ (live.advance 0).latchedNow = false ∧ (live.advance 0).ready 9 = true ∧
    (∀ e ∈ (live.advance 0).fwd.egress, (tget (live.advance 0).fwd.egress e.1 {}).flight = none) ∧ ((storing []).advance 0).periodic = false ∧
    ({ live with ctr.latching := some {} } : State).ctr.latching = some {} ∧ (live.advance 0).ctr.latching = none ∧ (live.advance 0).log.queue = [] ∧
    (∀ s, s = (({ live with log.queue := [rec_] } : State).advance 0) → s.log.queue = [rec_] ∧ s.ready 8 = true ∧ slotFor rec_ s.log.slots = some 0) ∧
    (∀ s, s = (({ live with log.frozen := some (3540 * second) } : State).advance 0) → s.log.frozen = some (3540 * second) ∧ 3540 * second + 60 * second ≤ s.time.mono) ∧
    (∀ s, s = (({ live with log.frozen := some (3540 * second + 1) } : State).advance 0) → s.time.mono < 3540 * second + 1 + 60 * second) ∧
    (live.advance 0).log.frozen = none ∧ ({ live with log.window := 3599 } : State).log.window ≠ (live.advance 0).time.mono / second ∧
    (live.advance 0).log.window = (live.advance 0).time.mono / second := by
  refine ⟨by decide +kernel, by decide +kernel, by decide +kernel, by decide +kernel, by decide +kernel, by decide +kernel, rfl, by decide +kernel, by decide +kernel,
    ?_, ?_, ?_, by decide +kernel, by decide +kernel, by decide +kernel⟩ <;> intro s h <;> subst h <;> decide +kernel

theorem witness_BoardEventsTakeEffect :
    (live.advance 0).pinsFree = true ∧ (live.advance 0).time.running = true ∧ (State.reset.advance 0).pinsFree = false ∧
    (List.range (live.advance 0).part.ports).filter (live.advance 0).lpMode ≠ (live.advance 0).board.modctl ∧
    (∀ s, s = (({ live with board.modctl := List.range 96 } : State).advance 0) → (List.range s.part.ports).filter s.lpMode = s.board.modctl) ∧
    (live.advance 0).busWrite 0 = none ∧
    (∀ s w, w = { port := 95, mask := 1, bits := 1, losses := 7 } → s = (({ live with board.modWrites := [w] } : State).advance 0) → s.busWrite 11 = some w ∧ 7 ≤ w.losses) ∧
    (∀ s w, w = { port := 95, mask := 1, bits := 1, losses := 6 } → s = (({ live with board.modWrites := [w] } : State).advance 0) → s.busWrite 11 = some w ∧ w.losses < 7) ∧
    (∀ s, s = (({ live with time.count := 65536 * slotUnits } : State).advance 0) → s.ms.toNat % 65536 = 0 ∧ s.pinsFree = true) ∧
    (live.advance 0).ms.toNat % 65536 ≠ 0 ∧ (({ live with clk.outs := [(3, { enable := true, start := some 0 })] } : State).advance 0).outOn 3 = true ∧
    (live.advance 0).power.vddCore0 = true ∧ TapInstr.holdsPins .highz = true ∧ TapInstr.holdsPins .bypass = false ∧
    ({ State.reset with power.vddCore0 := false } : State).power.vddCore0 = false := by
  refine ⟨by decide +kernel, by decide +kernel, by decide +kernel, by decide +kernel, ?_, by decide +kernel, ?_, ?_, ?_, by decide +kernel,
    by decide +kernel, by decide +kernel, rfl, rfl, rfl⟩
  · intro s h; subst h; decide +kernel
  · intro s w h h'; subst h h'; decide +kernel
  · intro s w h h'; subst h h'; decide +kernel
  · intro s h; subst h; decide +kernel

/-! ### Worked examples of the spec -/

/-- The worked conversion of chapter 2: AT 0x1848_0000_0000_0000_4000. -/
theorem test_worked_conversion : withStamp (msg 0) 0x18480000000000004000 =
    { msg 0 with seconds := 0x68498447, nanos := 0x0DE9FA00, correction := 16384 } := by decide +kernel

theorem test_milestone_of_count : ({ live with time.count := 0x18480000000000004000 } : State).ms = 0x18480000000000 := by decide +kernel

/-- The example of Table 2.5: TIME_STEP of 1,000 ns at M+1 makes the count read S + 1,256 ns. -/
theorem test_step_of_table_2_5 :
    (Op.apply .timeStep (pkt [0, 0, 0, 0, 3, 0xE8, 0, 0]) 0 { live with time.count := 256 * 65536 }).time.count = 1256 * 65536 := by decide +kernel

/-- The frame of chapter 1: P10 on LANE0, pipeline 5, CORE0; P60 on CORE1 and LANE3; 1,500 bytes are 7 cells. -/
theorem test_places_of_chapter_1 : laneDieOf 10 = 2 ∧ pipelineOf 10 = 5 ∧ coreOf 10 = 0 ∧ coreOf 60 = 1 ∧ laneDieOf 60 = 5 ∧ cellsOf 1500 = 7 := by decide

/-- The frame of chapter 3: ORIGIN 0xFFFF_F000, DEADLINE 0x06D0 and the stamp 0x2710. -/
theorem test_origin_of_chapter_3 : originOf (0x18480000000000000000 - 256 * 65536) = 0xFFFFF000 ∧
    deadlineOf (0x18480000000000000000 + 1744 * 65536) = 0x6D0 ∧ originOf (0x18480000000000000000 + 625 * 65536) = 0x2710 := by decide

/-- Chapter 5: a 9,216-byte frame at 400 Gb/s takes the port for 184.72 ns, and a 4,160-byte frame at 1.6 Tb/s ends after 20.84 ns. -/
theorem test_frame_times_of_chapter_5 : frameTime 400 9216 = ceilDiv (18472 * 65536) 100 ∧ wireTime 1600 4160 = ceilDiv (2084 * 65536) 100 ∧
    wireTime 1600 16312 = ceilDiv (816 * 65536) 10 ∧ cellsOf 4160 = 17 := by decide +kernel

/-- Chapter 5: bin 8 counts from 1,468 ns to 2,153 ns, bin 25 from 1,000,000 ns; the unit of `owdBin` is 62.5 ps. -/
theorem test_bins_of_chapter_5 : owdBin (1468 * 16) = 8 ∧ owdBin (2153 * 16) = 8 ∧ owdBin (2154 * 16) = 9 ∧ owdBin (1467 * 16) = 7 ∧
    owdBin (1000000 * 16) = 25 ∧ owdBin (1467999 * 16) = 25 ∧ owdBin (1468000 * 16) = 26 := by decide +kernel

/-- The calendar of chapter 5: entries 1 to 8 gated, E 250. -/
def collective : Calendar := { n := 9, e := 250, entries := (0, 0x7F80) :: (List.range 8).map (fun i => (i + 1, 0x8000)), minFrame := 4160 }

theorem test_window_of_chapter_5 : collective.windows = [(1, 8)] ∧ collective.duration (1, 8) = 2048 * 65536 := by decide +kernel

theorem test_swap_of_chapter_5 : swapMilestone { live with fwd.shadow := [(0, collective)] } 0 6834564278255616 = 6834564278255750 := by decide +kernel

/-- One exchange over the 12 km link of Table 7.6: 2d = 117,538.000 ns. -/
theorem test_exchange_of_table_7_6 :
    sdiff (7871267220 * 65536 / 1000 : AT80) 0 - (sdiff (7812500000 * 65536 / 1000 : AT80) (58770780 * 65536 / 1000)) - 117538 * 65536 ≤ 1 := by decide +kernel

/-- The ramp of Table 9.6: 1,800 MHz after 1 ms, 2,000 MHz after 3 ms, 2,100 MHz after 5 ms. -/
theorem test_ramp_of_table_9_6 :
    (∀ p, p = [(1600, 200), (1800, 100), (2000, 50)] → rampPos p 10 1600 2100 milli = 1800 * milli ∧ rampPos p 10 1600 2100 (3 * milli) = 2000 * milli ∧
      rampPos p 10 1600 2100 (5 * milli) = 2100 * milli) := by
  intro p h; subst h; decide +kernel

/-- RAMP_START upward before the voltage is acknowledged: VOLTAGE_NOT_READY, detail 0 (Table 9.6). -/
theorem test_ramp_needs_voltage :
    Op.check .rampStart (pkt [8, 0x34, 0, 0]) live { live with power.rails := [(0, { requested := 830, acked := 720, state := 1 }), (1, { requested := 830, acked := 720, state := 1 })] } =
      some (refused .voltageNotReady 0) := by decide +kernel

/-- The TIME_STEP packet of Table 13.16. -/
def step13 : Req := { pkt [0, 0, 0, 0, 3, 0xE8, 0, 0] with seq := 47, ms := some 0x18480000000001 }

theorem test_packet_of_table_13_16 : step13.bytes 0x0603 =
    [0x4F, 0x4A, 0x10, 0x04, 0x06, 0x03, 0x00, 0x04, 0, 0, 0, 0x2F, 0x00, 0x03, 0xFF, 0xFF, 0x00, 0x18, 0x48, 0, 0, 0, 0, 0x01, 0, 0, 0, 0, 0x03, 0xE8, 0, 0] := by
  decide +kernel

theorem test_reply_of_chapter_13 : (replyTo 0x0603 step13 .deferred 0x18480000000001 []).body 0 false =
    [0x4F, 0x4A, 0x11, 0x00, 0x06, 0x03, 0x00, 0x03, 0, 0, 0, 0x2F, 0, 0, 0, 0, 0x01, 0x00, 0x00, 0x00, 0x00, 0x18, 0x48, 0, 0, 0, 0, 0x01] := by decide +kernel

theorem test_step_too_large : Op.check .timeStep (pkt [0, 0, 0, 0, 7, 0xD0, 0, 0]) live live = some (refused .stepTooLarge 0) ∧ Reason.stepTooLarge.code = 0x0E := by
  decide +kernel

theorem test_second_step_is_busy : busyStep step13 live
    { live with cmd.commits := [{ ms := 0x18480000000001, op := .timeStep, req := step13, choice := 0 }] } = some (busy .refConflict 1) ∧ Reason.refConflict.code = 8 := by
  decide +kernel

/-- Check values of CRC-32, CRC-32C and SHA-256 that their standards give. -/
theorem test_crc_and_sha : crc32 [0x31, 0x32, 0x33, 0x34, 0x35, 0x36, 0x37, 0x38, 0x39] = 0xCBF43926 ∧
    crc32c [0x31, 0x32, 0x33, 0x34, 0x35, 0x36, 0x37, 0x38, 0x39] = 0xE3069283 ∧ (sha256 [0x61, 0x62, 0x63]).take 4 = [0xBA, 0x78, 0x16, 0xBF] := by decide +kernel

/-! ### Ill-formed commands, one for each check -/

theorem test_packet_fields_are_checked : ({ pkt [] with version := 16 } : Req).wf = false ∧ ({ pkt [] with kind := 16 } : Req).wf = false ∧
    ({ pkt [] with rsvFlags := 16 } : Req).wf = false ∧ ({ pkt [] with rsvTarget := 16384 } : Req).wf = false ∧ (pkt [0]).wf = false ∧
    (pkt (List.replicate 4096 0)).wf = false ∧ ({ pkt (List.replicate 4088 0) with ms := some 0 } : Req).wf = false ∧
    ({ pkt [] with tag := some [] } : Req).wf = false ∧ Instr.wf (.timeGet 0 (pkt [0])) = false ∧ Instr.wf (.timeGet 0 (pkt [])) = true := by decide +kernel

theorem test_row_fields_are_checked :
    Instr.wf (.registerWrite 0 0x400000 0) = false ∧ Instr.wf (.mgmtDatagram 0 ⟨false, 0, 0⟩ ⟨0, 0⟩ false (List.replicate 9217 0)) = false ∧
    Instr.wf (.inbandFrame 0 384 (frame64 [8, 0])) = false ∧ Instr.wf (.macControlRx 0 384 ⟨0, frame64 [8, 0]⟩) = false ∧ Instr.wf (.rxFrame 0 384 ⟨0, []⟩ (frame64 [8, 0])) = false ∧
    Instr.wf (.rxFrame 0 0 ⟨0, []⟩ (List.replicate 16322 0)) = false ∧ Instr.wf (.rxFrame 0 0 ⟨0, List.replicate 4 (0, 0)⟩ (frame64 [8, 0])) = false ∧
    Instr.wf (.rxFrame 0 0 ⟨0, []⟩ (frame64 [8, 0])) = true ∧ Instr.wf (.axSend 0 96) = false ∧ Instr.wf (.compareFire 0 32) = false ∧
    Instr.wf (.lanePllUnlock 0 0 4) = false ∧ Instr.wf (.lanePllRelock 0 96 0) = false ∧ Instr.wf (.clkOutUnlock 0 4) = false ∧ Instr.wf (.coreThaw 0 ⟨2, 0⟩) = false ∧
    Instr.wf (.avsAck 0 8 false) = false ∧ Instr.wf (.railWarning 0 ⟨20, 0⟩) = false ∧ Instr.wf (.thermal 0 8 0) = false ∧ Instr.wf (.triggerClear 0 ⟨5, [], []⟩) = false ∧
    Instr.wf (.triggerClear 0 ⟨4, [], List.replicate 9 0⟩) = false ∧
    Instr.wf (.causewayRetrainDone 0 7 true) = false ∧ Instr.wf (.timingPhaseSample 0 96 0 0 0) = false ∧ Instr.wf (.pipelineFrame 0 48) = false ∧
    Instr.wf (.dequeue 0 384 true) = false ∧ Instr.wf (.xoffRepeat 0 0 8) = false ∧ Instr.wf (.los 0 0 8) = false ∧ Instr.wf (.losClear 0 96 1) = false ∧ Instr.wf (.losClear 0 96 0) = true := by
  decide +kernel

theorem test_more_row_fields_are_checked :
    Instr.wf (.trainingRequest 0 0 0 5 .inc) = false ∧ Instr.wf (.trainingRequest 0 96 0 0 .inc) = false ∧ Instr.wf (.axReceive 0 96 []) = false ∧
    Instr.wf (.axReceive 0 0 (List.replicate 16322 0)) = false ∧ Instr.wf (.ppsInPulse 0 2) = false ∧ Instr.wf (.ptpSendInterval 0 96 0) = false ∧
    Instr.wf (.ptpMessage 0 96 (msg 0)) = false ∧ Instr.wf (.refSignalLoss 0 16) = false ∧ Instr.wf (.tdcEdge 0 16 false) = false ∧
    Instr.wf (.tdcGateEdge 0 4 true) = false ∧ Instr.wf (.ringWrite 0 64) = false ∧ Instr.wf (.modBusWrite 0 12 .nack) = false ∧ Instr.wf (.wakeTimeout 0 384) = false := by
  decide +kernel

set_option maxRecDepth 40000 in
/-- The wrapping of 256 bits under 256 bits in RFC 3394 (4.6), both ways, and an integrity check that fails. -/
theorem test_key_wrap : keyWrap ((List.range 32).map (BitVec.ofNat 8)) (toBe 16 0x00112233445566778899AABBCCDDEEFF ++
      (List.range 16).map (BitVec.ofNat 8)) =
    toBe 40 0x28C9F404C4B810F4CBCCB35CFB87F8263F5786E2D80ED326CBC7F0E71A99F43BFB988B9B7A02DD21 ∧
    keyUnwrap ((List.range 32).map (BitVec.ofNat 8)) (toBe 40 0x28C9F404C4B810F4CBCCB35CFB87F8263F5786E2D80ED326CBC7F0E71A99F43BFB988B9B7A02DD21) =
      some (toBe 16 0x00112233445566778899AABBCCDDEEFF ++ (List.range 16).map (BitVec.ofNat 8)) ∧
    keyUnwrap ((List.range 32).map (BitVec.ofNat 8)) (toBe 40 0x28C9F404C4B810F4CBCCB35CFB87F8263F5786E2D80ED326CBC7F0E71A99F43BFB988B9B7A02DD22) =
      none := by decide +kernel

/-- A fabric key, and ENROLL_REQ that carries it wrapped under the device key of `linked`. -/
def newKey : List Byte := List.replicate 32 9
def keyed : List Byte := enrolReq.take 16 ++ keyWrap (List.replicate 32 0) newKey

/-- That ENROLL_REQ as it comes in-band, tagged under the key it carries. -/
def enrolling : Req :=
  let r : Req := { pkt keyed with src := .inband 0 2 (live.advance 0).ms 0, target := 0, tag := some [] }
  { r with tag := some (tagOf newKey (inbandFields 2 (live.advance 0).ms ++ r.body 0x0D10)) }

set_option maxRecDepth 40000 in
theorem witness_EnrolmentTakesThePlaceNamed_keys :
    keyUnwrap (List.replicate 32 0) ((enrolReq.drop 16).take 40) = none ∧
    (∀ r, r = enrolling → keyUnwrap (List.replicate 32 0) ((r.params.drop 16).take 40) = some newKey ∧ r.params.length = 56 ∧
      fld r.params 0 4 = 1 ∧ fld r.params 4 4 = 0x3FFFE ∧ fld r.params 8 4 = 0x3FFFE ∧ fld r.params 12 1 = 8 ∧ fld r.params 13 3 = 0) ∧
    enrolling.target = 0 ∧ enrolling.kind = 0 ∧
    enrolling.tag = some (tagOf newKey (inbandFields 2 (live.advance 0).ms ++ enrolling.body 0x0D10)) := by
  refine ⟨by decide +kernel, fun r h => ?_, rfl, rfl, rfl⟩
  subst h; decide +kernel

/-- ANNOUNCE_KEY for the milestone after next, with a key wrapped under the key in use. -/
def keySoon : List Byte := soon.take 8 ++ keyWrap (List.replicate 32 1) newKey

set_option maxRecDepth 40000 in
theorem witness_AnnouncementsWaitForTheirMilestone_key : ∀ w, w = fresh (worker.advance 0) →
    ComesInband .announceKey (inband .announceKey keySoon) 0 2 (worker.advance 0) w ∧ w.hier.role = .enrolled ∧ w.hier.manager = 2 ∧
    w.upPort = some 0 ∧ readinessRej .announceKey (inband .announceKey keySoon) w = none ∧ sizeCheck .announceKey keySoon = none ∧
    Op.check .announceKey (inband .announceKey keySoon) w w = none ∧ w.keyNow = some (List.replicate 32 1) ∧
    keyUnwrap (List.replicate 32 1) ((keySoon.drop 8).take 40) = some newKey := by
  intro w h; subst h
  exact ⟨comes _ _ _ (by decide) (by decide +kernel) (by decide +kernel), by decide +kernel⟩

/-! ### A whole calibration set

A staged set of 256 KiB that the integrity check of R375 passes. Each item begins with four bytes of 0xFF, which bring the CRC register to
0, where bytes of 0 leave it. -/

/-- The bytes of the set that are not 0. -/
def wholeSet : List Host.Cell :=
  [(0, 0x4F), (1, 0x4A), (2, 0x43), (3, 0x4C), (5, 0x01), (23, 0x01), (31, 0x02), (39, 0x03), (47, 0x04), (55, 0x05), (63, 0x06), (71, 0x07)] ++
  [(79, 0x08), (86, 0x03), (87, 0xFE), (260, 0xFF), (261, 0xFF), (262, 0xFF), (263, 0xFF), (264, 0xFF), (265, 0xFF), (266, 0xFF), (267, 0xFF), (268, 0xFF)] ++
  [(269, 0xFF), (270, 0xFF), (271, 0xFF), (272, 0xFF), (273, 0xFF), (274, 0xFF), (275, 0xFF), (276, 0xFF), (277, 0xFF), (278, 0xFF), (279, 0xFF), (280, 0xFF)] ++
  [(281, 0xFF), (282, 0xFF), (283, 0xFF), (284, 0xFF), (285, 0xFF), (286, 0xFF), (287, 0xFF), (288, 0xFF), (289, 0xFF), (290, 0xFF), (291, 0xFF), (292, 0xFF)] ++
  [(293, 0xFF), (294, 0xFF), (295, 0xFF), (4092, 0x2B), (4093, 0x18), (4094, 0x14), (4095, 0xC7), (4096, 0xFF), (4097, 0xFF), (4098, 0xFF), (4099, 0xFF), (8192, 0xFF)] ++
  [(8193, 0xFF), (8194, 0xFF), (8195, 0xFF), (12288, 0xFF), (12289, 0xFF), (12290, 0xFF), (12291, 0xFF), (24576, 0xFF), (24577, 0xFF), (24578, 0xFF), (24579, 0xFF), (28672, 0xFF)] ++
  [(28673, 0xFF), (28674, 0xFF), (28675, 0xFF), (32768, 0xFF), (32769, 0xFF), (32770, 0xFF), (32771, 0xFF), (65536, 0xFF), (65537, 0xFF), (65538, 0xFF), (65539, 0xFF), (69632, 0xFF)] ++
  [(69633, 0xFF), (69634, 0xFF), (69635, 0xFF), (73728, 0xFF), (73729, 0xFF), (73730, 0xFF), (73731, 0xFF)]

/-- `n` bytes of 0 through the CRC. -/
def zeros : Nat → BitVec 32 → BitVec 32
  | 0, c => c
  | n + 1, c => zeros n (crcByte 0x82F63B78 c 0)

theorem zeros_add (a b : Nat) (c : BitVec 32) : zeros (a + b) c = zeros b (zeros a c) := by
  induction a generalizing c with
  | zero => simp [zeros]
  | succ a ih => rw [Nat.succ_add]; exact ih _

theorem zeros_zero (n : Nat) : zeros n 0 = 0 := by
  induction n with
  | zero => rfl
  | succ n ih => exact ih

theorem tget_unlisted (m : List Host.Cell) (k : Nat) (h : ∀ x ∈ m, x.1 ≠ k) : tget m k 0 = (0 : Byte) := by
  induction m with
  | nil => rfl
  | cons x r ih => simp only [tget]; rw [if_neg (h x (by simp))]; exact ih (fun y hy => h y (by simp [hy]))

/-- Where no byte is listed, a range goes through the CRC as bytes of 0. -/
theorem foldl_unlisted (m : List Host.Cell) (o n : Nat) (c : BitVec 32) (h : ∀ x ∈ m, x.1 < o ∨ o + n ≤ x.1) :
    (memBytes m o n).foldl (crcByte 0x82F63B78) c = zeros n c := by
  induction n generalizing c o with
  | zero => rfl
  | succ n ih =>
    simp only [memBytes, List.range_succ_eq_map, List.map_cons, List.map_map, List.foldl_cons, zeros, memByte]
    rw [tget_unlisted m (o + 0) (fun x hx => by have := h x hx; omega)]
    have := ih (o + 1) (crcByte 0x82F63B78 c 0) (fun x hx => by have := h x hx; omega)
    simp only [memBytes, memByte] at this
    rw [← this]
    congr 1
    apply List.map_congr_left
    intro i _
    simp only [Function.comp]
    congr 1
    omega

theorem memBytes_add (m : List Host.Cell) (o a b : Nat) : memBytes m o (a + b) = memBytes m o a ++ memBytes m (o + a) b := by
  simp only [memBytes, List.range_add, List.map_append, List.map_map]
  congr 1
  apply List.map_congr_left
  intro i _
  simp only [Function.comp]
  congr 1
  omega

theorem item_sound (i n : Nat) (hn : calSize i = 4 + n) (h : wholeSet.all (fun x => decide (x.1 < calBase i + 4 ∨ calBase i + 4 + n ≤ x.1)) = true)
    (f : memBytes wholeSet (calBase i) 4 = [0xFF, 0xFF, 0xFF, 0xFF]) (g : calField wholeSet (256 + 4 * i) 4 = 0xFFFFFFFF) :
    itemCrcOk wholeSet i = true := by
  have z : (memBytes wholeSet (calBase i + 4) n).foldl (crcByte 0x82F63B78) 0 = 0 := by
    rw [foldl_unlisted _ _ _ _ (fun x hx => by simpa using List.all_eq_true.mp h x hx), zeros_zero]
  have s : [0xFF, 0xFF, 0xFF, 0xFF].foldl (crcByte 0x82F63B78) (0xFFFFFFFF : BitVec 32) = 0 := by decide +kernel
  simp only [itemCrcOk, crc32c, hn, memBytes_add, f, List.foldl_append, s, z, g]
  decide

theorem header_sound : headerCrcOk wholeSet = true := by
  have e : (4092 : Nat) = 296 + 3796 := rfl
  have a : (memBytes wholeSet 0 296).foldl (crcByte 0x82F63B78) (0xFFFFFFFF : BitVec 32) = 0x452F66B9 := by decide +kernel
  have b : (memBytes wholeSet (0 + 296) 3796).foldl (crcByte 0x82F63B78) 0x452F66B9 = 0xD4E7EB38 := by
    rw [foldl_unlisted _ _ _ _ (by
      intro x hx
      have h : wholeSet.all (fun x => decide (x.1 < 296 ∨ 4092 ≤ x.1)) = true := by decide +kernel
      simpa using List.all_eq_true.mp h x hx)]
    have z1 : zeros 500 0x452F66B9 = 0x1682A0C3 := by decide +kernel
    have z2 : zeros 500 0x1682A0C3 = 0xCA74AEDB := by decide +kernel
    have z3 : zeros 500 0xCA74AEDB = 0x0D838864 := by decide +kernel
    have z4 : zeros 500 0x0D838864 = 0x54028505 := by decide +kernel
    have z5 : zeros 500 0x54028505 = 0x283FDAE8 := by decide +kernel
    have z6 : zeros 500 0x283FDAE8 = 0x308CADF8 := by decide +kernel
    have z7 : zeros 500 0x308CADF8 = 0x4DF052F9 := by decide +kernel
    have z8 : zeros 296 0x4DF052F9 = 0xD4E7EB38 := by decide +kernel
    have n : (3796 : Nat) = 500 + (500 + (500 + (500 + (500 + (500 + (500 + 296)))))) := rfl
    rw [n, zeros_add, z1, zeros_add, z2, zeros_add, z3, zeros_add, z4, zeros_add, z5, zeros_add, z6, zeros_add, z7, z8]
  have g : calField wholeSet 4092 4 = 0x2B1814C7 := by decide +kernel
  simp only [headerCrcOk, crc32c, g]
  rw [e, memBytes_add, List.foldl_append, a, b]
  decide

theorem wholeSet_sound : stagedSound wholeSet = true := by
  have i1 := item_sound 1 4092 rfl (by decide +kernel) (by decide +kernel) (by decide +kernel)
  have i2 := item_sound 2 4092 rfl (by decide +kernel) (by decide +kernel) (by decide +kernel)
  have i3 := item_sound 3 12284 rfl (by decide +kernel) (by decide +kernel) (by decide +kernel)
  have i4 := item_sound 4 4092 rfl (by decide +kernel) (by decide +kernel) (by decide +kernel)
  have i5 := item_sound 5 4092 rfl (by decide +kernel) (by decide +kernel) (by decide +kernel)
  have i6 := item_sound 6 32764 rfl (by decide +kernel) (by decide +kernel) (by decide +kernel)
  have i7 := item_sound 7 4092 rfl (by decide +kernel) (by decide +kernel) (by decide +kernel)
  have i8 := item_sound 8 4092 rfl (by decide +kernel) (by decide +kernel) (by decide +kernel)
  have i9 := item_sound 9 4092 rfl (by decide +kernel) (by decide +kernel) (by decide +kernel)
  have f : decide (calField wholeSet 0 4 = 0x4F4A434C ∧ calField wholeSet 4 2 = 1) = true := by decide +kernel
  have a : wholeSet.all (fun c => calAllowed c.1) = true := by decide +kernel
  have l : calItems = [1, 2, 3, 4, 5, 6, 7, 8, 9] := by decide
  simp only [stagedSound, f, a, header_sound, l, List.all_cons, List.all_nil, i1, i2, i3, i4, i5, i6, i7, i8, i9, Bool.and_self]

theorem import_accepted (r : Req) (p s : State) (a : s.cal.staging = wholeSet) (u : s.unstaged = none)
    (b : (List.range 8).find? (fun d => decide (calField wholeSet (16 + 8 * d) 8 ≠ if s.part.hasDie d then (getAt s.serials d 0).toNat else 0)) = none)
    (c : wholeSet.findSome? (importHolds p s) = none) : checkCalImport r p s = none := by
  simp only [checkCalImport, a, u, b, c, wholeSet_sound, need, firstRej]
  rfl

/-- CAL_IMPORT of that set is accepted, and waits for its milestone. -/
theorem witness_WritesThatActAtAcceptanceWaitToo_import : ∀ s : State,
    s = ({ live with cal.staging := wholeSet, cal.staged := [(0, 0x40000)] } : State).advance 0 → Accepts .calImport (pkt []) s := by
  intro s h; subst h
  refine accepts _ _ _ (by decide) (by decide +kernel) ?_
  generalize hv : opened .calImport (pkt []) (({ live with cal.staging := wholeSet, cal.staged := [(0, 0x40000)] } : State).advance 0) = v
  have c : Op.check .calImport (pkt []) v.projected v = none :=
    import_accepted (pkt []) v.projected v (by subst hv; decide +kernel) (by subst hv; decide +kernel) (by subst hv; decide +kernel) (by subst hv; decide +kernel)
  have h1 : transportRej .calImport (pkt []) v = none := by subst hv; decide +kernel
  have h2 : readinessRej .calImport (pkt []) v = none := by subst hv; decide +kernel
  have h3 : rightRej .calImport (pkt []) v = none := by subst hv; decide +kernel
  have h4 : milestoneRej .calImport (pkt []) v = none := by subst hv; decide +kernel
  have h5 : busyRej .calImport (pkt []) v.projected v = none := by subst hv; decide +kernel
  have h6 : sizeCheck .calImport (pkt []).params = none := by decide
  have h7 : need (!(Op.fromRoot .calImport && decide (v.hier.role = .enrolled ∨ v.hier.role = .orphan))) (refused .refConflict 0) = none := by
    subst hv; decide +kernel
  simp only [judge, ownRej, h1, h2, h3, h4, h5, h6, h7, c, firstRej]
  rfl

end Sys2Proof.Tests
end

section
/-! SUPPORT. The thresholds of the Almanac (R35) and the snapshot of its time in BAR0 (R44). -/

namespace Sys2Proof.Machine

/-! ### Checks that refuse nothing -/

@[simp] theorem need_eq_none_iff (ok : Bool) (r : Rej) : need ok r = none ↔ ok = true := by
  cases ok <;> simp [need]

@[simp] theorem within_eq_none_iff (p : List Byte) (off n lo hi : Nat) :
    within p off n lo hi = none ↔ lo ≤ fld p off n ∧ fld p off n ≤ hi := by
  rw [within, need_eq_none_iff, decide_eq_true_iff]

@[simp] theorem firstRej_nil : firstRej [] = none := rfl

@[simp] theorem firstRej_cons_eq_none_iff (x : Option Rej) (l : List (Option Rej)) :
    firstRej (x :: l) = none ↔ x = none ∧ firstRej l = none := by
  simp only [firstRej, List.findSome?_eq_none_iff, List.forall_mem_cons, id_eq]

/-! ### A single commit at its milestone -/

theorem sortCommits_singleton (c : Commit) : sortCommits [c] = [c] := rfl

theorem commitNow_of_running (s : State) (h : s.time.running = true) : commitNow s = applyDue s := if_pos h

/-- A commit that waits alone, is due, latches no snapshot and does not move the count is applied and leaves the pending
store (R20, R300). -/
theorem applyDue_single (s : State) (c : Commit) (hone : s.cmd.commits = [c]) (hdue : s.due c = true)
    (hlatch : s.latchDue [c] = false) (hstay : Op.moves c.op = false) :
    applyDue s = c.op.apply c.req c.choice { s with cmd.commits := [] } := by
  have hcs : (sortCommits s.cmd.commits).filter s.due = [c] := by
    rw [hone, sortCommits_singleton, List.filter_singleton, hdue]; rfl
  have hrest : s.cmd.commits.filter (fun d => !s.due d) = [] := by
    rw [hone, List.filter_singleton, hdue]; rfl
  simp only [applyDue, hcs, hlatch, hrest, hstay, applyCommit, List.filter_singleton, List.any_cons, List.any_nil,
    List.foldl_cons, List.foldl_nil, Bool.not_false, Bool.or_false, Bool.false_eq_true, if_false, cond_true]

theorem leads_configurationCommit {dt : Nat} {s t : State} (h : commitNow (s.advance dt) = t) :
    Leads (.configurationCommit dt) s t := by
  subst h; rfl

/-! ### TIME_THRESHOLDS -/

theorem check_timeThresholds_eq_none_iff (r : Req) (p s : State) : Op.check .timeThresholds r p s = none ↔
    (1 ≤ fld r.params 0 4 ∧ fld r.params 0 4 ≤ 1000000000) ∧ (1 ≤ fld r.params 4 4 ∧ fld r.params 4 4 ≤ 1000000000) := by
  change checkTimeThresholds r p s = none ↔ _
  simp only [checkTimeThresholds, firstRej_cons_eq_none_iff, firstRej_nil, within_eq_none_iff, and_true]

theorem apply_timeThresholds (r : Req) (n : Nat) (s : State) : Op.apply .timeThresholds r n s =
    { s with time.jumpThr := fld r.params 0 4, time.stepThr := fld r.params 4 4 } := rfl

/-- Settles O25: the check is the range of both fields, and a commit that waits alone is the only one applied. -/
theorem thresholdsAreSetAtTheMilestone : Obligations.ThresholdsAreSetAtTheMilestone := by
  refine ⟨rfl, rfl, check_timeThresholds_eq_none_iff, ?_⟩
  intro dt s c u hop hrun hone hdue hlatch
  have hstay : Op.moves c.op = false := by rw [hop]; decide
  apply leads_configurationCommit
  rw [commitNow_of_running _ hrun, applyDue_single _ c hone hdue hlatch hstay, hop, apply_timeThresholds]

/-! ### The time snapshot in BAR0 -/

theorem tsSeq_of_pcieLives (s : State) (h : s.pcieLives = true) : tsSeq s =
    { s with time.tsSeq := s.time.tsSeq + 1, time.tsNs := s.ns, time.tsFrac := s.time.count.setWidth 16
             time.tsState := BitVec.ofNat 32 s.tsWord }.emit (.value (s.time.tsSeq + 1)) := by
  simp [tsSeq, h]

theorem tsSeq_of_not_pcieLives (s : State) (h : s.pcieLives = false) : tsSeq s = s := by
  simp [tsSeq, h]

/-- The time as a write to TS_STATE leaves it: JUMP_REFUSED is bit 6 and COMPARE_LATE bit 5 (Table 2.7). -/
def TimeModule.clearFlags (t : TimeModule) (v : Word) : TimeModule :=
  { t with jumpRefused := t.jumpRefused && !v.getLsbD 6, compareLate := t.compareLate && !v.getLsbD 5
           tsState := t.tsState &&& ~~~(v &&& 0x60) }

theorem tsState_of_pcieLives (v : Word) (s : State) (h : s.pcieLives = true) :
    tsState v s = { s with time := s.time.clearFlags v } := by
  simp [tsState, h, TimeModule.clearFlags]

theorem tsState_of_not_pcieLives (v : Word) (s : State) (h : s.pcieLives = false) : tsState v s = s := by
  simp [tsState, h]

/-- The mask of the W1C bits is bits 5 and 6. -/
theorem getLsbD_flagMask (i : Nat) : (0x60 : Word).getLsbD i = decide (i = 5 ∨ i = 6) := by
  by_cases hi : i < 32
  · exact (by decide : ∀ k : Fin 32, (0x60 : Word).getLsbD k = decide (k.val = 5 ∨ k.val = 6)) ⟨i, hi⟩
  · rw [BitVec.getLsbD_of_ge _ _ (by omega), eq_comm, decide_eq_false_iff_not]; omega

theorem clearFlags_tsState_getLsbD (t : TimeModule) (v : Word) (i : Nat) : (t.clearFlags v).tsState.getLsbD i =
    (t.tsState.getLsbD i && !(v.getLsbD i && decide (i = 5 ∨ i = 6))) := by
  rw [← getLsbD_flagMask]
  by_cases hi : i < 32
  · simp [TimeModule.clearFlags, hi]
  · simp [BitVec.getLsbD_of_ge _ i (by omega : 32 ≤ i)]

theorem leads_tsSeq {dt : Nat} {s t : State} (h : tsSeq (s.advance dt) = t) : Leads (.tsSeq dt) s t := by
  subst h; rfl

theorem leads_tsState {dt : Nat} {v : Word} {s t : State} (h : tsState v (s.advance dt) = t) :
    Leads (.tsState dt v) s t := by
  subst h; rfl

/-- Settles O35: by whether PCIe lives, the read latches and the write clears as the two operations say. -/
theorem timeSnapshotIsLatched : Obligations.TimeSnapshotIsLatched := by
  intro dt v s u
  refine ⟨rfl, fun hlive => ?_, fun hlive => ?_, fun hdead => ⟨?_, ?_⟩⟩
  · exact leads_tsSeq (tsSeq_of_pcieLives u hlive)
  · exact ⟨u.time.clearFlags v, leads_tsState (tsState_of_pcieLives v u hlive), rfl, rfl, rfl,
      clearFlags_tsState_getLsbD u.time v⟩
  · exact leads_tsSeq (tsSeq_of_not_pcieLives u hdead)
  · exact leads_tsState (tsState_of_not_pcieLives v u hdead)

end Sys2Proof.Machine
end

section
/-! SUPPORT. The wake limit of an exit from L-DEEP (R158). -/

namespace Sys2Proof.Machine

/-! ### LANE_POWER and the wake limit -/

@[simp] theorem State.lp_setLp_same (s : State) (l : Nat) (p : Lport) : (s.setLp l p).lp l = p :=
  tget_tput_same s.port.lports l p {}

/-- What falls due on the module bus leaves every logical port as it is. -/
@[simp] theorem modWrite_lp (l : Nat) (deinit : Bool) (s : State) (j : Nat) :
    (modWrite l deinit s).lp j = s.lp j := by
  unfold modWrite
  split
  · rfl
  · dsimp only
    split <;> rfl

theorem movePower_wakeLimit (l target : Nat) (s : State) :
    ((movePower l target s).lp l).wakeLimit = (s.lp l).wakeLimit := by
  unfold movePower
  dsimp only
  split
  · rfl
  · rw [State.lp_setLp_same]

theorem apply_lanePower_wakeLimit (r : Req) (c : Nat) (s : State) :
    ((Op.apply .lanePower r c s).lp (fld r.params 0 2)).wakeLimit = fld r.params 4 2 := by
  change ((applyLanePower r c s).lp (fld r.params 0 2)).wakeLimit = fld r.params 4 2
  unfold applyLanePower
  dsimp only
  split
  · rw [movePower_wakeLimit, State.lp_setLp_same]
  · simp only [State.lp_setLp_same]

theorem wakeLimit_range_of_check_lanePower (r : Req) (p s : State) (h : Op.check .lanePower r p s = none) :
    2 ≤ fld r.params 4 2 ∧ fld r.params 4 2 ≤ 1000 := by
  change checkLanePower r p s = none at h
  simp only [checkLanePower, firstRej_cons_eq_none_iff, within_eq_none_iff] at h
  obtain ⟨_, _, _, hlimit, _⟩ := h
  exact hlimit

/-! ### WAKE_TIMEOUT -/

/-- The wake limit has passed: the move ends at its target with the link down, the hold of R106 begins, and events 0x3102 and
0x3105 follow in this order (log entry 39), with the DIE byte of log entry 31. -/
theorem wakeLate_of_late (l t : Nat) (s : State) (hmove : (s.lp l).moving = some t) (hdeep : (s.lp l).power = 2)
    (ht : t ≠ 2) (hlate : (s.lp l).wakeFrom + (s.lp l).wakeLimit * milli ≤ s.time.mono) :
    wakeLate l s =
      let w := s.setLp l { s.lp l with power := t, moving := none, up := false, downAt := s.stamp }
      raiseAt (laneDieOf (portOf l)) .warn 0x3105 (toBe 2 l) (raiseAt (laneDieOf (portOf l)) .warn 0x3102 (toBe 2 l)
        (pfcLinkDown l { w with fwd.held := tput w.fwd.held l w.time.mono })) := by
  simp only [wakeLate, hmove, if_pos (And.intro hdeep (And.intro ht hlate)), evLport]

theorem wakeLate_of_early (l t : Nat) (s : State) (hmove : (s.lp l).moving = some t)
    (hearly : s.time.mono < (s.lp l).wakeFrom + (s.lp l).wakeLimit * milli) : wakeLate l s = s := by
  have hnot : ¬ ((s.lp l).power = 2 ∧ t ≠ 2 ∧ (s.lp l).wakeFrom + (s.lp l).wakeLimit * milli ≤ s.time.mono) :=
    fun ⟨_, _, hlate⟩ => absurd hlate (Nat.not_le.mpr hearly)
  simp only [wakeLate, hmove, if_neg hnot]

theorem leads_wakeTimeout {dt l : Nat} {s t : State} (h : wakeLate l (s.advance dt) = t) :
    Leads (.wakeTimeout dt l) s t := by
  subst h; rfl

/-- Settles O51: WAKE_TIMEOUT acts by whether the limit has passed; LANE_POWER checks the range of the limit and writes it. -/
theorem wakeLimitTakesTheLinkDown : Obligations.WakeLimitTakesTheLinkDown := by
  refine ⟨?_, wakeLimit_range_of_check_lanePower, apply_lanePower_wakeLimit, fun _ => rfl⟩
  intro dt l t s u p hmove hdeep ht
  exact ⟨fun hlate => leads_wakeTimeout (wakeLate_of_late l t u hmove hdeep ht hlate),
    fun hearly => leads_wakeTimeout (wakeLate_of_early l t u hmove hearly)⟩

end Sys2Proof.Machine
end

section
/-! SUPPORT. The loss of lock in ASYN, handled as loss of the oscillator (R219, R222). -/

namespace Sys2Proof.Machine

theorem exec_oscLost (dt : Nat) (s : State) : exec (.oscLost dt) s = occur dt s oscGone := rfl

theorem exec_asynUnlock (dt : Nat) (s : State) : exec (.asynUnlock dt) s = occur dt s oscGone := rfl

/-- Settles O44: both commands are the one operation `oscGone`, after the same time has passed. -/
theorem asynUnlockIsLossOfTheOscillator : Obligations.AsynUnlockIsLossOfTheOscillator := by
  intro dt s
  rw [exec_asynUnlock, exec_oscLost]

end Sys2Proof.Machine
end

section
/-! SUPPORT. A command packet reads back from its own bytes, and the codes of the opcodes (Table 12.1, R283, R284). -/

namespace Sys2Proof.Machine

/-! ### Opcodes -/

@[simp] theorem ofCode_code (o : Op) : Op.ofCode o.code = some o := by
  cases o <;> rfl

theorem code_lt (o : Op) : o.code < 65536 := by
  cases o <;> decide

/-! ### The bytes of a packet -/

/-- The sixteen header bytes of a packet (Table 12.1). -/
def packetHeader (r : Req) (code : Nat) : List Byte :=
  [0x4F, 0x4A, BitVec.ofNat 8 (r.version * 16 + r.kind),
    BitVec.ofNat 8 (r.rsvFlags * 16 + flag r.broadcast * 8 + flag r.ms.isSome * 4 + flag r.force * 2 + flag r.tag.isSome)] ++
  toBe 2 code ++ toBe 2 ((r.params.length + (if r.ms.isSome then 8 else 0)) / 4) ++ toBe 4 r.seq.toNat ++
  toBe 4 (r.rsvTarget * 2 ^ 18 + r.target.toNat)

/-- What LENGTH counts: the commit milestone when there is one, and the parameters (R284). -/
def packetPayload (r : Req) : List Byte :=
  (match r.ms with | some m => toBe 8 m.toNat | none => []) ++ r.params

theorem bytes_eq (r : Req) (code : Nat) : r.bytes code = packetHeader r code ++ (packetPayload r ++ r.tag.getD []) := by
  cases h : r.ms <;> simp only [Req.bytes, Req.body, packetHeader, packetPayload, h, List.append_assoc]

@[simp] theorem packetHeader_length (r : Req) (code : Nat) : (packetHeader r code).length = 16 := by
  simp [packetHeader]

theorem packetPayload_length (r : Req) : (packetPayload r).length = r.params.length + (if r.ms.isSome then 8 else 0) := by
  cases h : r.ms <;> simp [packetPayload, h, Nat.add_comm]

/-- A field of the header is read from the header alone. -/
theorem fld_bytes (r : Req) (code o n : Nat) (h : o + n ≤ 16) : fld (r.bytes code) o n = fld (packetHeader r code) o n := by
  rw [bytes_eq, fld_append_left _ _ _ _ (by rwa [packetHeader_length])]

theorem fld_header_magic (r : Req) (code : Nat) : fld (packetHeader r code) 0 2 = 0x4F4A := by
  rfl

theorem fld_header_kind (r : Req) (code : Nat) (hv : r.version < 16) (hk : r.kind < 16) :
    fld (packetHeader r code) 2 1 = r.version * 16 + r.kind := by
  change beNat [BitVec.ofNat 8 (r.version * 16 + r.kind)] = _
  simp only [beNat, List.foldl_cons, List.foldl_nil, BitVec.toNat_ofNat]
  omega

theorem flag_le (b : Bool) : flag b ≤ 1 := by
  cases b <;> decide

theorem fld_header_flags (r : Req) (code : Nat) (hf : r.rsvFlags < 16) : fld (packetHeader r code) 3 1 =
    r.rsvFlags * 16 + flag r.broadcast * 8 + flag r.ms.isSome * 4 + flag r.force * 2 + flag r.tag.isSome := by
  change beNat [BitVec.ofNat 8 _] = _
  simp only [beNat, List.foldl_cons, List.foldl_nil, BitVec.toNat_ofNat]
  have := flag_le r.broadcast
  have := flag_le r.ms.isSome
  have := flag_le r.force
  have := flag_le r.tag.isSome
  omega

theorem fld_header_code (r : Req) (code : Nat) (h : code < 65536) : fld (packetHeader r code) 4 2 = code :=
  beNat_toBe_lt 2 code h

theorem fld_header_words (r : Req) (code : Nat) (h : (packetPayload r).length < 65536 * 4) :
    fld (packetHeader r code) 6 2 = (packetPayload r).length / 4 := by
  rw [packetPayload_length] at h ⊢
  exact beNat_toBe_lt 2 _ (Nat.div_lt_of_lt_mul (by rwa [Nat.mul_comm] at h))

theorem fld_header_seq (r : Req) (code : Nat) : fld (packetHeader r code) 8 4 = r.seq.toNat :=
  beNat_toBe_lt 4 _ r.seq.isLt

theorem fld_header_target (r : Req) (code : Nat) (h : r.rsvTarget < 16384) :
    fld (packetHeader r code) 12 4 = r.rsvTarget * 2 ^ 18 + r.target.toNat :=
  beNat_toBe_lt 4 _ (by have := r.target.isLt; omega)

/-! ### Reading a packet back -/

theorem decide_eq_one_of_eq_flag {n : Nat} {b : Bool} (h : n = flag b) : decide (n = 1) = b := by
  subst h; cases b <;> rfl

/-- The bits of the flag byte are the flags (Table 12.1). -/
theorem bit_flags (rsv : Nat) (b m f t : Bool) :
    let v := rsv * 16 + flag b * 8 + flag m * 4 + flag f * 2 + flag t
    v / 16 = rsv ∧ bit v 3 = b ∧ bit v 2 = m ∧ bit v 1 = f ∧ bit v 0 = t := by
  have hb := flag_le b
  have hm := flag_le m
  have hf := flag_le f
  have ht := flag_le t
  simp only [bit, Nat.testBit_eq_decide_div_mod_eq]
  exact ⟨by omega, decide_eq_one_of_eq_flag (by omega), decide_eq_one_of_eq_flag (by omega),
    decide_eq_one_of_eq_flag (by omega), decide_eq_one_of_eq_flag (by omega)⟩

theorem req_wf_iff (r : Req) : r.wf = true ↔ r.version < 16 ∧ r.kind < 16 ∧ r.rsvFlags < 16 ∧ r.rsvTarget < 16384 ∧
    r.params.length % 4 = 0 ∧ r.params.length + (if r.ms.isSome then 8 else 0) ≤ 4092 ∧ ∀ t, r.tag = some t → t.length = 16 := by
  cases h : r.tag <;> simp [Req.wf, h, and_assoc]

/-- The head of a well-formed packet's bytes is its header. -/
theorem headOf_bytes (r : Req) (code : Nat) (h : r.wf = true) :
    headOf r.src (r.bytes code) = { r with ms := none, tag := none, params := [] } := by
  obtain ⟨hversion, hkind, hflags, htarget, -⟩ := (req_wf_iff r).mp h
  obtain ⟨hrsv, hbroadcast, -, hforce, -⟩ := bit_flags r.rsvFlags r.broadcast r.ms.isSome r.force r.tag.isSome
  have hv : (r.version * 16 + r.kind) / 16 = r.version := by omega
  have hk : (r.version * 16 + r.kind) % 16 = r.kind := by omega
  have ht := r.target.isLt
  have hr : (r.rsvTarget * 2 ^ 18 + r.target.toNat) / 2 ^ 18 = r.rsvTarget := by omega
  have hnode : BitVec.ofNat 18 (r.rsvTarget * 2 ^ 18 + r.target.toNat) = r.target := by
    apply BitVec.eq_of_toNat_eq
    rw [BitVec.toNat_ofNat]; omega
  simp only [headOf, fld_bytes _ _ _ _ (by decide : 2 + 1 ≤ 16), fld_bytes _ _ _ _ (by decide : 3 + 1 ≤ 16),
    fld_bytes _ _ _ _ (by decide : 8 + 4 ≤ 16), fld_bytes _ _ _ _ (by decide : 12 + 4 ≤ 16),
    fld_header_kind r code hversion hkind, fld_header_flags r code hflags, fld_header_seq, fld_header_target r code htarget,
    hrsv, hbroadcast, hforce, hv, hk, hr, hnode, BitVec.ofNat_toNat, BitVec.setWidth_eq]

/-- The payload splits again into the commit milestone and the parameters. -/
theorem payload_split (r : Req) :
    (if r.ms.isSome then some (BitVec.ofNat 64 (fld (packetPayload r) 0 8)) else none) = r.ms ∧
    (if r.ms.isSome then (packetPayload r).drop 8 else packetPayload r) = r.params := by
  cases h : r.ms with
  | none => simp [packetPayload, h]
  | some m =>
    have hm : fld (toBe 8 m.toNat ++ r.params) 0 8 = m.toNat := by
      rw [fld_append_left _ _ _ _ (by simp), fld_toBe 8 _ m.isLt]
    refine ⟨?_, ?_⟩
    · simp [packetPayload, h, hm]
    · simp [packetPayload, h, List.drop_left']

/-- LENGTH counts whole words, and not more than the header field can hold (R283). -/
theorem packetPayload_length_of_wf (r : Req) (h : r.wf = true) :
    (packetPayload r).length % 4 = 0 ∧ (packetPayload r).length ≤ 4092 ∧ (r.ms.isSome = true → 8 ≤ (packetPayload r).length) := by
  obtain ⟨-, -, -, -, hwords, hsize, -⟩ := (req_wf_iff r).mp h
  rw [packetPayload_length]
  cases hms : r.ms.isSome with
  | false => rw [hms] at hsize; exact ⟨hwords, hsize, nofun⟩
  | true => rw [hms] at hsize; simp only [if_true] at hsize ⊢; omega

theorem bytes_length (r : Req) (code : Nat) (h : r.wf = true) :
    (r.bytes code).length = 16 + (packetPayload r).length + (if r.tag.isSome then 16 else 0) := by
  obtain ⟨-, -, -, -, -, -, htag⟩ := (req_wf_iff r).mp h
  rw [bytes_eq, List.length_append, List.length_append, packetHeader_length]
  cases ht : r.tag with
  | none => simp
  | some t => simp [htag t ht, Nat.add_assoc]

theorem drop_bytes (r : Req) (code n : Nat) : (r.bytes code).drop (16 + n) = (packetPayload r ++ r.tag.getD []).drop n := by
  rw [bytes_eq, ← packetHeader_length r code, List.drop_length_add_append]

/-- A well-formed packet reads back from its own bytes (R283, R284). -/
theorem parsePacket_bytes (r : Req) (code : Nat) (h : r.wf = true) (hcode : code < 65536) :
    parsePacket r.src (r.bytes code) = .packet code r := by
  obtain ⟨-, -, hflags, -⟩ := (req_wf_iff r).mp h
  obtain ⟨hwords, hsize, hat8⟩ := packetPayload_length_of_wf r h
  obtain ⟨-, -, hat, -, hauth⟩ := bit_flags r.rsvFlags r.broadcast r.ms.isSome r.force r.tag.isSome
  obtain ⟨hms, hparams⟩ := payload_split r
  have hlen := bytes_length r code h
  have hn : 4 * ((packetPayload r).length / 4) = (packetPayload r).length := by omega
  have hbody : ((r.bytes code).drop 16).take (packetPayload r).length = packetPayload r := by
    rw [drop_bytes r code 0, List.drop_zero, List.take_left]
  have hrest : (r.bytes code).drop (16 + (packetPayload r).length) = r.tag.getD [] := by
    rw [drop_bytes, List.drop_left]
  have hmagic : ¬ (fld (r.bytes code) 0 2 ≠ 0x4F4A ∨ (r.bytes code).length < 2) := by
    rw [fld_bytes _ _ _ _ (by decide), fld_header_magic]; omega
  have hfits : ¬ ((r.bytes code).length < 16 ∨ 4092 < (packetPayload r).length ∨
      (r.bytes code).length ≠ 16 + (packetPayload r).length + (if r.tag.isSome then 16 else 0)) := by omega
  have hand : (r.ms.isSome && decide (8 ≤ (packetPayload r).length)) = r.ms.isSome := by
    cases hs : r.ms.isSome <;> simp [hat8, hs]
  have hnot : (r.ms.isSome && decide ((packetPayload r).length < 8)) = false := by
    cases hs : r.ms.isSome <;> simp [hat8, hs]
  have htagged : (if r.tag.isSome then some (r.tag.getD []) else none) = r.tag := by cases r.tag <;> rfl
  simp only [parsePacket, if_neg hmagic, fld_bytes _ _ _ _ (by decide : 3 + 1 ≤ 16), fld_header_flags r code hflags, hauth, hat,
    fld_bytes _ _ _ _ (by decide : 6 + 2 ≤ 16), fld_bytes _ _ _ _ (by decide : 4 + 2 ≤ 16), fld_header_code r code hcode,
    fld_header_words r code (by omega), hn, if_neg hfits, hand, hnot, hbody, hrest, hms, hparams, htagged, headOf_bytes r code h,
    Bool.false_eq_true, if_false]

end Sys2Proof.Machine
end

section
/-! SUPPORT. How a packet reaches its execution: from a local transport (R287 to R292) and in-band (R252 to R255). -/

namespace Sys2Proof.Machine

/-- The command of an opcode's packet arrives after its time has passed. -/
theorem exec_instr (o : Op) (dt : Nat) (r : Req) (s : State) :
    exec (Op.instr o dt r) s = .next (finish (arrive o.code r (s.advance dt))) := by
  cases o <;> rfl

/-! ### Mailboxes -/

/-- Of two puts at one key the later one stays. -/
@[simp] theorem tput_tput_same {β : Type} (t : Tbl β) (k : Nat) (v w : β) : tput (tput t k v) k w = tput t k w := by
  induction t with
  | nil => simp [tput]
  | cons e rest ih =>
    obtain ⟨j, x⟩ := e
    by_cases hlt : j < k
    · simp [tput, hlt, ih]
    · by_cases heq : j = k
      · simp [tput, heq]
      · simp [tput, hlt, heq]

@[simp] theorem State.mailbox_setMailbox_same (s : State) (q : Nat) (m : Mailbox) : (s.setMailbox q m).mailbox q = m :=
  tget_tput_same s.cmd.mailboxes q m {}

@[simp] theorem State.setMailbox_setMailbox_same (s : State) (q : Nat) (m m' : Mailbox) :
    (s.setMailbox q m).setMailbox q m' = s.setMailbox q m' := by
  simp only [State.setMailbox, tput_tput_same]

@[simp] theorem State.setMailbox_ready_cmd (s : State) (q : Nat) (m : Mailbox) : (s.setMailbox q m).ready 10 = s.ready 10 := rfl

/-- A queue whose buffer holds a whole packet hands it to the engine and is EXECUTING (R288). -/
theorem runMailbox_of_packet (q : Fin 4) (s : State) (code : Nat) (r : Req) (hpos : (s.mailbox q.val).count ≠ 0)
    (hmax : (s.mailbox q.val).count ≤ 4096)
    (hparse : parsePacket (.pcie q) (memBytes (s.mailbox q.val).buffer 0 (s.mailbox q.val).count) = .packet code r) :
    runMailbox q s = packetLocal code r (r.body code) (s.setMailbox q.val { s.mailbox q.val with state := .executing }) := by
  have hcount : ¬ ((s.mailbox q.val).count = 0 ∨ 4096 < (s.mailbox q.val).count) := by omega
  simp only [runMailbox, if_neg hcount, hparse]

/-- A doorbell at an IDLE queue, while CMD is ready, starts the packet in its buffer (R288). -/
theorem doorbell_of_idle (q : Fin 4) (n : Nat) (s : State) (hidle : (s.mailbox q.val).state = .idle) (hready : s.ready 10 = true) :
    doorbell q n s =
      runMailbox q (s.setMailbox q.val { s.mailbox q.val with count := n, state := .pending, replyBytes := 0 }) := by
  simp [doorbell, hidle, hready]

/-- A packet in a mailbox of 4096 bytes, written to an IDLE queue and rung, reaches the engine as it was written (R288). -/
theorem mailboxPacket_of_idle (q : Fin 4) (code : Nat) (r : Req) (s : State) (hsrc : r.src = .pcie q) (hwf : r.wf = true)
    (hcode : code < 65536) (hsize : (r.bytes code).length ≤ 4096) (hidle : (s.mailbox q.val).state = .idle)
    (hready : s.ready 10 = true) :
    mailboxPacket q (r.bytes code) s = packetLocal code r (r.body code) (heldBy code r s) := by
  have hpos : (r.bytes code).length ≠ 0 := by rw [bytes_length r code hwf]; omega
  have hparse := parsePacket_bytes r code hwf hcode
  rw [hsrc] at hparse
  unfold mailboxPacket
  rw [if_neg (not_not.mpr hidle), List.take_of_length_le hsize, doorbell_of_idle _ _ _ (by simp [hidle]) (by simp [hready]),
    runMailbox_of_packet q _ code r (by simpa using hpos) (by simpa using hsize) (by simpa [memBytes_memWrite] using hparse)]
  simp only [heldBy, hsrc, State.mailbox_setMailbox_same, State.setMailbox_setMailbox_same]

/-! ### Local transports -/

theorem bytes_length_eq_size (r : Req) (code : Nat) (h : r.wf = true) : (r.bytes code).length = r.size := by
  obtain ⟨-, -, -, -, -, -, htag⟩ := (req_wf_iff r).mp h
  rw [bytes_length r code h, packetPayload_length]
  cases ht : r.tag with
  | none => simp [Req.size, ht, Nat.add_assoc]
  | some t => simp [Req.size, ht, htag t ht, Nat.add_assoc]

/-- A packet that its transport can carry and hand over comes before the engine (R288, R289). -/
theorem arrive_local (code : Nat) (r : Req) (s : State) (hwf : r.wf = true) (hsized : r.sized = true) (hcode : code < 65536)
    (hcan : CanDeliver r s) (hready : s.ready 10 = true) :
    arrive code r s = packetLocal code r (r.body code) (heldBy code r s) := by
  cases hsrc : r.src with
  | pcie q =>
    simp only [CanDeliver, hsrc] at hcan
    obtain ⟨hlives, hidle⟩ := hcan
    have hsize : (r.bytes code).length ≤ 4096 := by
      simp only [Req.sized, hsrc, Source.largest, Bool.and_eq_true, decide_eq_true_eq] at hsized
      rw [bytes_length_eq_size r code hwf]
      exact hsized.1.2
    simp only [arrive, hsrc, hlives, if_true, mailboxPacket_of_idle q code r s hsrc hwf hcode hsize hidle hready]
  | mgmt a u =>
    simp only [CanDeliver, hsrc] at hcan
    have hup : ({ s with power.mgmtUp := true } : State).ready 10 = true := hready
    simp only [arrive, hsrc, hcan, if_true, mgmtPacket, hup, hsized, Bool.not_true, Bool.false_eq_true, if_false, heldBy]
  | inband _ _ _ _ => simp only [CanDeliver, hsrc] at hcan

@[simp] theorem heldBy_hier (code : Nat) (r : Req) (s : State) : (heldBy code r s).hier = s.hier := by
  unfold heldBy; split <;> rfl

@[simp] theorem heldBy_seqOf (code : Nat) (r : Req) (src : Source) (s : State) : (heldBy code r s).seqOf src = s.seqOf src := by
  unfold heldBy; split <;> rfl

@[simp] theorem heldBy_cmd_mgmt (code : Nat) (r : Req) (s : State) : (heldBy code r s).cmd.mgmt = s.cmd.mgmt := by
  unfold heldBy; split <;> rfl

@[simp] theorem heldBy_cmd_firmwareFault (code : Nat) (r : Req) (s : State) :
    (heldBy code r s).cmd.firmwareFault = s.cmd.firmwareFault := by
  unfold heldBy; split <;> rfl

@[simp] theorem setSeq_cmd_firmwareFault (s : State) (src : Source) (q : Sequence) :
    (s.setSeq src q).cmd.firmwareFault = s.cmd.firmwareFault := by
  unfold State.setSeq; split <;> rfl

@[simp] theorem opened_cmd_firmwareFault (o : Op) (r : Req) (s : State) :
    (opened o r s).cmd.firmwareFault = s.cmd.firmwareFault := by
  simp only [opened, setSeq_cmd_firmwareFault, heldBy_cmd_firmwareFault]

@[simp] theorem localTagRej_heldBy (code : Nat) (r : Req) (signed : List Byte) (s : State) :
    localTagRej r signed (heldBy code r s) = localTagRej r signed s := by
  simp only [localTagRej, heldBy_hier, heldBy_cmd_mgmt]

/-- AT_MILESTONE is for kind W (R312). -/
theorem takesMilestone_code (o : Op) : takesMilestone o.code = decide (o.kind = .write) := by
  simp [takesMilestone]

theorem headerRej_eq_none (o : Op) (r : Req) (hversion : r.version = 1) (hkind : r.kind = 0) (hflags : r.rsvFlags = 0)
    (htarget : r.rsvTarget = 0) (hms : r.ms.isSome = true → o.kind = .write) : headerRej o.code r 1 = none := by
  have hmilestone : (decide (r.ms = none) || takesMilestone o.code) = true := by
    rw [takesMilestone_code]
    cases h : r.ms with
    | none => rfl
    | some m => simp [hms (by rw [h]; rfl)]
  simp [headerRej, hversion, hkind, hflags, htarget, hmilestone]

theorem broadcastUp_eq_none (r : Req) (s : State) (h : r.broadcast = false) : s.broadcastUp r = none := by
  unfold State.broadcastUp
  split <;> simp [h]

theorem broadcastLocal_of_single (code : Nat) (r : Req) (s : State) (h : r.broadcast = false) : broadcastLocal code r s = s := by
  simp only [broadcastLocal, broadcastUp_eq_none r s h, h]

/-- A packet whose SEQUENCE is new, or CMD_SYNC, that passes tag and header and is for this device is executed (R291 to R293). -/
theorem packetLocal_of_new (o : Op) (r : Req) (signed : List Byte) (s : State) (htag : localTagRej r signed s = none)
    (hhead : headerRej o.code r 1 = none) (hhere : s.elsewhere r = false) (hnew : NewPacket o r s) :
    packetLocal o.code r signed s = processLocal o.code r s := by
  have hfresh : (((s.seqOf r.src).last.map (fun l => later r.seq l)).getD true || decide (o.code = 0x0104)) = true := by
    rcases hnew with rfl | hlater
    · exact Bool.or_true _
    · cases hlast : (s.seqOf r.src).last with
      | none => rfl
      | some l => simp [hlater l hlast]
  have hpass : firstRej [localTagRej r signed s, headerRej o.code r 1] = none := by simp [htag, hhead]
  simp only [packetLocal, hpass, hhere, Bool.false_eq_true, if_false, hfresh, if_true]

theorem runLocal_of_execute (code : Nat) (r : Req) (s : State) (p : Reply) (t : State) (hsingle : r.broadcast = false)
    (hexec : execute code r s = (some p, t)) : runLocal code r s = sendReply r p (cacheReply r.src p t) := by
  simp only [runLocal, broadcastLocal_of_single code r s hsingle, hexec]

theorem processLocal_heldBy (o : Op) (r : Req) (s : State) :
    processLocal o.code r (heldBy o.code r s) = runLocal o.code r (opened o r s) := by
  rw [processLocal, heldBy_seqOf, opened]

/-- A packet for this device, or for node 0x3FFFF, is not sent on (R290). -/
theorem elsewhere_eq_false (r : Req) (s : State) (h : r.target = 0x3FFFF ∨ r.target = s.hier.node) : s.elsewhere r = false := by
  have hhere : ¬ (r.target ≠ 0x3FFFF ∧ r.target ≠ s.hier.node) := by tauto
  simp only [State.elsewhere, hhere, decide_false, Bool.false_and]

/-- A new packet from a local transport executes with L at its SEQUENCE; its reply is cached and leaves (R288 to R292). -/
theorem exec_of_delivered (o : Op) (dt : Nat) (r : Req) (s : State) (p : Reply) (t : State)
    (hdelivered : Delivered o r (s.advance dt)) (hnew : NewPacket o r (s.advance dt))
    (hexec : execute o.code r (opened o r (s.advance dt)) = (some p, t)) :
    exec (Op.instr o dt r) s = .next (finish (sendReply r p (cacheReply r.src p t))) := by
  obtain ⟨hwf, hsized, hversion, hkind, hflags, htarget, hsingle, hms, hcan, hready, hnode, htag⟩ := hdelivered
  have hhere : (heldBy o.code r (s.advance dt)).elsewhere r = false := elsewhere_eq_false r _ (by rwa [heldBy_hier])
  have hnew' : NewPacket o r (heldBy o.code r (s.advance dt)) := by simpa only [NewPacket, heldBy_seqOf] using hnew
  rw [exec_instr, arrive_local o.code r _ hwf hsized (code_lt o) hcan hready,
    packetLocal_of_new o r _ _ (by rwa [localTagRej_heldBy]) (headerRej_eq_none o r hversion hkind hflags htarget hms) hhere hnew',
    processLocal_heldBy, runLocal_of_execute _ r _ p t hsingle hexec]

/-! ### In-band -/

/-- A command in-band that is neither an enrolment, a release nor an announcement executes where there is a command parent port or
at the root, and its reply is sent to its node (R255, R291). -/
theorem commandInband_of_execute (o : Op) (port : Nat) (node : BitVec 18) (r : Req) (w : State) (p : Reply) (t : State)
    (henrol : o ≠ .enrollReq) (hrelease : o ≠ .release) (hannounce : isAnnouncement o = false)
    (hroute : w.hier.role = .root ∨ w.upPort ≠ none)
    (hexec : execute o.code r { w with cmd.inbandLast := some r.seq } = (some p, t)) :
    commandInband o.code port node r w = sendReply r p t := by
  have hparent : ¬ (w.hier.role ≠ .root ∧ w.upPort = none) := by tauto
  unfold commandInband
  rw [ofCode_code]
  split
  · next h => exact absurd (Option.some.inj h) henrol
  · next h => exact absurd (Option.some.inj h) hrelease
  · simp only [Option.filter_some, hannounce, Bool.false_eq_true, if_false, if_neg hparent, hexec]

/-- A command in-band that acts on this device alone, and is neither an enrolment, a release nor an announcement, executes and its
reply is sent to its node (R252 to R255, R291). -/
theorem exec_of_comesInband (o : Op) (dt : Nat) (r : Req) (port : Nat) (node : BitVec 18) (s w : State) (p : Reply) (t : State)
    (hcomes : ComesInband o r port node (s.advance dt) w) (henrol : o ≠ .enrollReq) (hrelease : o ≠ .release)
    (hannounce : isAnnouncement o = false) (hroute : w.hier.role = .root ∨ w.upPort ≠ none)
    (hexec : execute o.code r { w with cmd.inbandLast := some r.seq } = (some p, t)) :
    exec (Op.instr o dt r) s = .next (finish (sendReply r p t)) := by
  obtain ⟨sendMs, hops, k, hsrc, hsized, hreceives, hingress, hready, htagged, hrole, hkey, htag, hhops, hversion, hkind, hflags,
    htarget, hsingle, hms, hhop, hfresh⟩ := hcomes
  have hnone : r.tag.isNone = false := by simpa using htagged
  have hhandles : (s.advance dt).handles port r = true := by simp [State.handles, hhop]
  have hlimit : ¬ (17 ≤ hops ∨ 3 ≤ 0) := by omega
  have hhead := headerRej_eq_none o r hversion hkind hflags htarget hms
  have hcommand := commandInband_of_execute o port node r w p t henrol hrelease hannounce hroute hexec
  rw [exec_instr]
  simp only [arrive, hsrc, hreceives, hingress, Bool.not_false, Bool.and_true, if_true, inbandPacket, hready, Bool.not_true,
    Bool.false_eq_true, if_false, hnone, hrole, hkey, hsized, Bool.false_and, htag, hlimit, hhandles, handleInband, hkind, hhead,
    hfresh, hsingle, hcommand]

end Sys2Proof.Machine
end

section
/-! SUPPORT. A fault of the firmware's own while it executes a command (R304). -/

namespace Sys2Proof.Machine

theorem execute_of_firmwareFault (o : Op) (r : Req) (s : State) (h : s.cmd.firmwareFault = true) :
    let x := raise .error 0x5106 (toBe 2 o.code) s
    execute o.code r s = (some (rejReply o.code r { status := .internal, reason := .none, detail := 0 }),
      { (drawBit x).2 with cmd.firmwareFault := (drawBit x).1 }) := by
  simp only [execute, ofCode_code, h, if_true]

/-- Settles O19: on either way in, the command comes to `execute`, which abandons it with the event and INTERNAL; the model draws
the fault of the next packet as a free bit (log entry 29) and puts the fault before steps 7 to 12 (log entry 12). -/
theorem firmwareFaultAbandonsTheCommand : Obligations.FirmwareFaultAbandonsTheCommand := by
  refine ⟨?_, ?_⟩
  · intro o dt r s u hdelivered hnew hfault
    exact exec_of_delivered o dt r s _ _ hdelivered hnew
      (execute_of_firmwareFault o r (opened o r u) ((opened_cmd_firmwareFault o r u).trans hfault))
  · intro o dt r port node s w u hcomes henrol hrelease hannounce hroute hfault x
    exact exec_of_comesInband o dt r port node s w _ _ hcomes henrol hrelease hannounce hroute
      (execute_of_firmwareFault o r { w with cmd.inbandLast := some r.seq } hfault)

end Sys2Proof.Machine
end

section
/-! SUPPORT. What every command ends with, and the invariants that it establishes (R360, R236, R244, R265). -/

namespace Sys2Proof.Machine

set_option Elab.async false

/-! ### Every command ends in `finish` -/

/-- Every command ends in `finish`, but a BAR0 write at an offset that is no word of BAR0, which stops (R8, R405). -/
theorem exec_ends (i : Instr) (s : State) : (∃ u, exec i s = .next (finish u)) ∨ ∃ f, exec i s = .fault f := by
  cases i
  case registerWrite dt off v =>
    change (∃ u, execRegisterWrite dt off v s = .next (finish u)) ∨ ∃ f, execRegisterWrite dt off v s = .fault f
    unfold execRegisterWrite
    split
    · exact .inr ⟨_, rfl⟩
    · split
      · exact .inr ⟨_, rfl⟩
      · exact .inl ⟨_, rfl⟩
  all_goals exact .inl ⟨_, rfl⟩

/-- A step leaves the state as it is, or ends in `finish`. -/
theorem step_next (s t : State) (h : step s = .next t) : t = s ∨ ∃ u, t = finish u := by
  unfold step at h
  split at h
  · exact .inl (Host.Outcome.next.inj h).symm
  · next c q _ =>
    rcases exec_ends c (s.rest q) with ⟨u, hu⟩ | ⟨f, hf⟩
    · exact .inr ⟨u, Host.Outcome.next.inj (h.symm.trans hu)⟩
    · exact nomatch h.symm.trans hf

/-- What holds of every state that `finish` leaves is kept by every step. -/
theorem step_keeps {P : State → Prop} (hfinish : ∀ u, P (finish u)) (s t : State) (hs : P s) (h : step s = .next t) : P t := by
  rcases step_next s t h with rfl | ⟨u, rfl⟩
  · exact hs
  · exact hfinish u

/-! ### The READY block -/

/-- No reason byte depends on what the READY block shows, on INT_N or on what has been sent out. -/
theorem reasons_shown (s : State) (a : List Nat) (b : BitVec 32) (i : Option Nat) (o : List Out) :
    ({ s with power.shownReady := a, power.readySeq := b, board.intAt := i, out := o } : State).reasons = s.reasons := rfl

theorem settle_shownReady (s : State) : (settle s).power.shownReady = s.reasons := by
  unfold settle
  dsimp only
  split
  · split
    · next h => exact h
    · split <;> simp
  · rfl

theorem readyShown_settle (s : State) : ReadyShown (settle s) := by
  obtain ⟨a, b, i, o, h, -⟩ := settle_eq s
  exact (settle_shownReady s).trans ((reasons_shown s a b i o).symm.trans (congrArg State.reasons h.symm))

/-- Settles O2: the last thing a command does is to show every reason as it is. -/
theorem everyStepShowsReadiness : Obligations.EveryStepShowsReadiness :=
  step_keeps (fun u => readyShown_settle (squelchAll (trackParent u)))

/-! ### The squelch of the clock outputs -/

/-- An output is squelched exactly while its rule and the DPLL state call for it. -/
def SquelchRight (n : Nat) (s : State) : Prop := (tget s.clk.outs n {}).squelched = (tget s.clk.outs n {}).squelchIn s.ref.dpll

theorem squelchIt_outs (n : Nat) (s : State) : (squelchIt n s).clk.outs = s.clk.outs ∧ SquelchRight n s ∨
    (squelchIt n s).clk.outs =
      tput s.clk.outs n { tget s.clk.outs n {} with squelched := (tget s.clk.outs n {}).squelchIn s.ref.dpll } := by
  unfold squelchIt
  dsimp only
  split
  · next h => exact .inl ⟨rfl, h.symm⟩
  · split <;> exact .inr (by simp)

/-- An output's start or stop changes no output's enable, rule or squelch. -/
theorem followOut_outs (n : Nat) (s : State) : (followOut n s).clk.outs = s.clk.outs ∨ ∃ e a, (followOut n s).clk.outs =
    tput s.clk.outs n { tget s.clk.outs n {} with start := e, endsAt := a } := by
  unfold followOut
  dsimp only
  split
  · exact .inr ⟨_, _, rfl⟩
  · next h =>
    unfold stopOut
    dsimp only
    rw [h]
    exact .inr ⟨_, _, rfl⟩
  · exact .inl rfl

@[simp] theorem squelchIt_ref (n : Nat) (s : State) : (squelchIt n s).ref = s.ref := by
  obtain ⟨_, _, _, _, _, _, h, _⟩ := squelchIt_eq n s
  rw [h]

@[simp] theorem followOut_ref (n : Nat) (s : State) : (followOut n s).ref = s.ref := by
  obtain ⟨_, _, h, _⟩ := followOut_eq n s
  rw [h]

theorem squelchRight_squelchIt (n : Nat) (s : State) : SquelchRight n (squelchIt n s) := by
  unfold SquelchRight
  rcases squelchIt_outs n s with ⟨h, hr⟩ | h
  · rw [h, squelchIt_ref]; exact hr
  · rw [h, squelchIt_ref, tget_tput_same]; rfl

theorem squelchIt_keeps {j n : Nat} {s : State} (h : SquelchRight j s) : SquelchRight j (squelchIt n s) := by
  by_cases hj : j = n
  · exact hj ▸ squelchRight_squelchIt n s
  · unfold SquelchRight
    rcases squelchIt_outs n s with ⟨ho, -⟩ | ho
    · rw [ho, squelchIt_ref]; exact h
    · rw [ho, squelchIt_ref, tget_tput_other _ _ _ _ _ hj]; exact h

theorem followOut_keeps {j n : Nat} {s : State} (h : SquelchRight j s) : SquelchRight j (followOut n s) := by
  unfold SquelchRight at h ⊢
  rcases followOut_outs n s with ho | ⟨e, a, ho⟩
  · rwa [ho, followOut_ref]
  · rw [ho, followOut_ref]
    by_cases hj : j = n
    · subst hj; rw [tget_tput_same]; exact h
    · rwa [tget_tput_other _ _ _ _ _ hj]

theorem squelchRight_squelchOut (n : Nat) (s : State) : SquelchRight n (squelchOut s n) :=
  followOut_keeps (squelchRight_squelchIt n s)

theorem squelchOut_keeps {j n : Nat} {s : State} (h : SquelchRight j s) : SquelchRight j (squelchOut s n) :=
  followOut_keeps (squelchIt_keeps h)

theorem squelchRight_foldl (ks : List Nat) (j : Nat) (s : State) (h : j ∈ ks ∨ SquelchRight j s) :
    SquelchRight j (ks.foldl squelchOut s) := by
  induction ks generalizing s with
  | nil => simpa using h
  | cons k ks ih =>
    apply ih
    rcases h with h | h
    · rcases List.mem_cons.mp h with rfl | h
      · exact .inr (squelchRight_squelchOut j s)
      · exact .inl h
    · exact .inr (squelchOut_keeps h)

/-- An output that was never configured is not enabled, so it is not squelched. -/
theorem squelchRight_of_unlisted {n : Nat} {s : State} (h : n ∉ s.clk.outs.map (·.1)) : SquelchRight n s := by
  unfold SquelchRight
  rw [tget_of_not_mem _ _ _ h]
  rfl

theorem squelchRight_squelchAll (n : Nat) (s : State) : SquelchRight n (squelchAll s) := by
  apply squelchRight_foldl
  by_cases h : n ∈ s.clk.outs.map (·.1)
  · exact .inl h
  · exact .inr (squelchRight_of_unlisted h)

theorem outputsFollowDpll_finish (s : State) : OutputsFollowDpll (finish s) := by
  intro n
  have h := squelchRight_squelchAll n (trackParent s)
  unfold SquelchRight at h
  rwa [finish, settle_clk, settle_ref]

/-- Settles O3: every output is brought to its squelch after what a command does. -/
theorem everyStepSquelchesOutputs : Obligations.EveryStepSquelchesOutputs :=
  step_keeps outputsFollowDpll_finish

/-! ### The watch on the parent candidates -/

/-- Which candidate qualifies does not depend on what follows a command. -/
theorem firstCand_finish (s : State) : (finish s).firstCand = s.firstCand := by
  obtain ⟨np, c, l, g, m, a, b, i, o, h, -⟩ := finish_eq s
  exact (congrArg State.firstCand h).trans rfl

theorem finish_hier_noParentSince (s : State) : (finish s).hier.noParentSince = (trackParent s).hier.noParentSince := by
  rw [finish, settle_hier, squelchAll_hier_noParentSince]

theorem parentsWatched_finish (s : State) : ParentsWatched (finish s) := by
  intro hrole
  rw [finish_hier_role] at hrole
  rw [finish_hier_noParentSince, firstCand_finish]
  unfold trackParent
  rw [if_neg (not_not.mpr hrole)]
  split
  · next h => simp [h]
  · next h _ => simp [h]
  · next h hn => simp [h, hn]

/-- Settles O4: the watch is brought up to date after what a command does, and nothing later touches it. -/
theorem everyStepWatchesParents : Obligations.EveryStepWatchesParents :=
  step_keeps parentsWatched_finish

/-! ### The queue -/

/-- Settles O1: both cases are the two arms of `step`. -/
theorem stepRunsTheFrontCommand : Obligations.StepRunsTheFrontCommand := by
  refine ⟨fun s c q h => ?_, fun s h => ?_⟩
  · unfold step
    rw [h]
    rfl
  · unfold step
    rw [h]

/-- Settles O5: `parsePacket_bytes` and the two facts about the codes. -/
theorem packetsReadBack : Obligations.PacketsReadBack :=
  ⟨fun o r h => parsePacket_bytes r o.code h (code_lt o), fun o => ⟨ofCode_code o, code_lt o⟩⟩

end Sys2Proof.Machine
end

section
/-! SUPPORT. The command engine: a packet that executes is refused by its first failed check or accepted (R291 to R304). -/

namespace Sys2Proof.Machine

set_option Elab.async false

/-! ### What a list of checks refuses -/

theorem firstRej_cons_none (l : List (Option Rej)) : firstRej (none :: l) = firstRej l := rfl

theorem firstRej_cons_some (x : Rej) (l : List (Option Rej)) : firstRej (some x :: l) = some x := rfl

/-! ### Execution -/

/-- The draw of the next packet's fault, which ends every execution (R304, log entry 29). -/
def closed (s : State) : State := { (drawBit s).2 with cmd.firmwareFault := (drawBit s).1 }

theorem execute_of_rejected (o : Op) (r : Req) (s : State) (x : Rej) (hsound : s.cmd.firmwareFault = false)
    (hjudge : judge o r s = some x) : execute o.code r s = (some (rejReply o.code r x), closed s) := by
  simp only [execute, ofCode_code, hsound, hjudge, closed, Bool.false_eq_true, if_false]

theorem execute_of_accepted (o : Op) (r : Req) (s : State) (a : Option Reply) (t : State) (hsound : s.cmd.firmwareFault = false)
    (hjudge : judge o r s = none) (haccepted : accepted o r s = (a, t)) :
    execute o.code r s = (a, closed (restartLease r t)) := by
  simp only [execute, ofCode_code, hsound, hjudge, haccepted, closed, Bool.false_eq_true, if_false]

theorem executes_sound {o : Op} {r : Req} {s : State} (h : Executes o r s) : (opened o r s).cmd.firmwareFault = false :=
  (opened_cmd_firmwareFault o r s).trans h.2.2

/-- A packet from a local transport that fails a check of steps 7 to 12. -/
theorem exec_of_rejected (o : Op) (dt : Nat) (r : Req) (s : State) (x : Rej) (h : Executes o r (s.advance dt))
    (hjudge : judge o r (opened o r (s.advance dt)) = some x) :
    exec (Op.instr o dt r) s = .next (finish (answered r (rejReply o.code r x) (opened o r (s.advance dt)))) :=
  exec_of_delivered o dt r s _ _ h.1 h.2.1 (execute_of_rejected o r _ x (executes_sound h) hjudge)

/-- A packet from a local transport that passes every check and is answered at once. -/
theorem exec_of_accepted (o : Op) (dt : Nat) (r : Req) (s : State) (p : Reply) (t : State) (h : Accepts o r (s.advance dt))
    (haccepted : accepted o r (opened o r (s.advance dt)) = (some p, t)) :
    exec (Op.instr o dt r) s = .next (finish (answered r p (restartLease r t))) :=
  exec_of_delivered o dt r s _ _ h.1.1 h.1.2.1 (execute_of_accepted o r _ _ t (executes_sound h.1) h.2 haccepted)

/-- Settles O15: a failed check is the whole of what `execute` does. -/
theorem refusedPacketsChangeNothing : Obligations.RefusedPacketsChangeNothing :=
  fun o dt r s x h hjudge => exec_of_rejected o dt r s x h hjudge

/-- Settles O20: in-band, `execute` is what it is from a local transport, and the reply goes to the node that asked. -/
theorem inbandCommandsExecute : Obligations.InbandCommandsExecute := by
  intro o dt r port node s w u hcomes henrol hrelease hannounce hroute v
  have run := fun p t => exec_of_comesInband o dt r port node s w p t hcomes henrol hrelease hannounce hroute
  exact ⟨fun x hsound hjudge => run _ _ (execute_of_rejected o r v x hsound hjudge),
    fun p t hsound hjudge haccepted => run _ _ (execute_of_accepted o r v (some p) t hsound hjudge haccepted)⟩

/-! ### The right of way and the modes (R247, R294, R344) -/

theorem judge_of_transportRej (o : Op) (r : Req) (s : State) (x : Rej) (h : transportRej o r s = some x) : judge o r s = some x := by
  rw [judge, h, firstRej_cons_some]

theorem rightRej_of_other (o : Op) (r : Req) (s : State) (hwrites : o.kind.writes = true) (hother : s.cmd.holder ≠ r.src.code) :
    rightRej o r s = some (refused .noRightOfWay s.cmd.holder) := by
  simp [rightRej, need, hwrites, hother]

theorem judge_of_rightRej (o : Op) (r : Req) (s : State) (x : Rej) (htransport : transportRej o r s = none)
    (hready : readinessRej o r s = none) (h : rightRej o r s = some x) : judge o r s = some x := by
  rw [judge, htransport, hready, h, firstRej_cons_none, firstRej_cons_none, firstRej_cons_some]

/-- A packet that a local transport delivers is not in-band. -/
theorem code_ne_inband {o : Op} {r : Req} {s : State} (h : Delivered o r s) : r.src.code ≠ 3 := by
  obtain ⟨-, -, -, -, -, -, -, -, hcan, -⟩ := h
  cases hsrc : r.src with
  | pcie q => exact (by decide : (1 : Nat) ≠ 3)
  | mgmt a u => exact (by decide : (2 : Nat) ≠ 3)
  | inband _ _ _ _ => simp only [CanDeliver, hsrc] at hcan

theorem transportRej_of_inbandOnly (o : Op) (r : Req) (s : State) (hkind : o.kind = .inbandOnly) (hlocal : r.src.code ≠ 3) :
    transportRej o r s = some (refused .mode 0) := by
  simp [transportRej, firstRej, need, hkind, hlocal]

/-- The commands of Table 13.1 that DORMANT accepts are those that do not write, and three that do (R344). -/
theorem inDormant_eq_false {o : Op} (hwrites : o.kind.writes = true) (hmode : o ≠ .modeSet) (hconfig : o ≠ .dormantConfig)
    (hscratch : o ≠ .vigilScratch) : o.inDormant = false := by
  simp [Op.inDormant, hwrites, hmode, hconfig, hscratch]

theorem transportRej_of_dormant (o : Op) (r : Req) (s : State) (hkind : o.kind ≠ .inbandOnly) (hprovision : o ≠ .keyProvision)
    (hset : o ≠ .fabricKeySet) (hmode : s.power.mode = .dormant) (hnot : o.inDormant = false) :
    transportRej o r s = some (refused .mode 1) := by
  simp [transportRej, firstRej, need, hkind, hprovision, hset, hmode, hnot]

theorem writes_iff (k : OpKind) : k.writes = true ↔ k = .write ∨ k = .pend ∨ k = .action := by
  cases k <;> simp [OpKind.writes]

/-- Settles O16: each refusal is the first that fails in the order of R291. -/
theorem rightOfWayAndModeAreChecked : Obligations.RightOfWayAndModeAreChecked := by
  intro o dt r s u v h
  refine ⟨fun hkind hother htransport hready => ?_, fun hkind => ?_, fun hmode hkind hset hconfig hscratch hprovision hfabric => ?_⟩
  · exact exec_of_rejected o dt r s _ h (judge_of_rightRej o r v _ htransport hready
      (rightRej_of_other o r v ((writes_iff _).mpr hkind) hother))
  · exact exec_of_rejected o dt r s _ h (judge_of_transportRej o r v _
      (transportRej_of_inbandOnly o r v hkind (code_ne_inband h.1)))
  · have hlocal : o.kind ≠ .inbandOnly := by rcases hkind with hk | hk | hk <;> rw [hk] <;> decide
    have hnot := inDormant_eq_false ((writes_iff _).mpr hkind) hset hconfig hscratch
    exact exec_of_rejected o dt r s _ h (judge_of_transportRej o r v _
      (transportRej_of_dormant o r v hlocal hprovision hfabric hmode hnot))

/-! ### Writes at acceptance (R297, R298) -/

theorem announceWrite_of_silent (o : Op) (r : Req) (m : Milestone) (a s : State) (h : Op.announces o = false) :
    announceWrite o r m a s = s := by
  unfold announceWrite
  split
  iterate 10 exact absurd h (by decide)
  rfl

theorem announceOwnStep_of_silent (o : Op) (r : Req) (m : Milestone) (s : State) (h : Op.announces o = false) :
    announceOwnStep o r m s = s := by
  unfold announceOwnStep
  split
  · exact absurd h (by decide)
  · exact absurd h (by decide)
  · rfl

/-- A write other than CALENDAR_ENABLE and CAL_IMPORT is staged with its commit milestone: its commit joins the pending store, and the
workers are told where they must follow (R259, R297). -/
theorem stageWrite_of_plain (o : Op) (r : Req) (s : State) (hcalendar : o ≠ .calendarEnable) (himport : o ≠ .calImport) :
    stageWrite o r s = (commitMs r s, announceWrite o r (commitMs r s) (o.apply (o.stage r s) (o.choice r s.projected) s.projected)
      (announceOwnStep o r (commitMs r s) { s with cmd.commits := s.cmd.commits ++ [commitOf o r s] })) := by
  simp only [stageWrite, if_neg hcalendar, if_neg himport, commitOf]

/-- A write that starts nothing new is answered OK; no other write is. -/
theorem accepted_of_write (o : Op) (r : Req) (s : State) (hkind : o.kind = .write) (hbusy : ¬ (o = .rampStart ∧ rampIdle r s = true)) :
    accepted o r s = if s.ready 3 = true then
        (some (replyTo o.code r .deferred (stageWrite o r s).1 (o.replyData r s.projected)), (stageWrite o r s).2)
      else (some (replyTo o.code r .ok 0 (o.replyData r s.projected)), writeNow o r s) := by
  have hidle : (decide (o = .rampStart) && rampIdle r s) = false := by
    rw [Bool.and_eq_false_iff, decide_eq_false_iff_not, ← Bool.not_eq_true]; tauto
  cases hready : s.ready 3 <;> simp [accepted, hkind, hidle, hready]

theorem accepted_of_staged (o : Op) (r : Req) (s : State) (hkind : o.kind = .write) (hbusy : ¬ (o = .rampStart ∧ rampIdle r s = true))
    (hready : s.ready 3 = true) : accepted o r s =
      (some (replyTo o.code r .deferred (stageWrite o r s).1 (o.replyData r s.projected)), (stageWrite o r s).2) := by
  rw [accepted_of_write o r s hkind hbusy, if_pos hready]

theorem accepted_of_untimed (o : Op) (r : Req) (s : State) (hkind : o.kind = .write) (hbusy : ¬ (o = .rampStart ∧ rampIdle r s = true))
    (hready : s.ready 3 = false) : accepted o r s =
      (some (replyTo o.code r .ok 0 (o.replyData r s.projected)), writeNow o r s) := by
  rw [accepted_of_write o r s hkind hbusy, if_neg (by simp [hready])]

/-- Settles O6: a write that tells no worker is staged and nothing more. -/
theorem writeWaitsForItsMilestone : Obligations.WriteWaitsForItsMilestone := by
  intro o dt r s u v hkind hsilent hcalendar himport hbusy haccepts hready
  have hacc := accepted_of_staged o r v hkind hbusy hready
  rw [stageWrite_of_plain o r v hcalendar himport, announceWrite_of_silent o _ _ _ _ hsilent,
    announceOwnStep_of_silent o _ _ _ hsilent] at hacc
  exact exec_of_accepted o dt r s _ _ haccepts hacc

/-- Settles O8: without milestones acceptance is the commit. -/
theorem writeCommitsAtOnceWithoutMilestones : Obligations.WriteCommitsAtOnceWithoutMilestones := by
  intro o dt r s u v hkind hlatch himport hbusy haccepts hready
  have hacc := accepted_of_untimed o r v hkind hbusy hready
  have hnow : writeNow o r v = o.apply (o.stage r v) (o.choice r v.projected) v := by
    simp only [writeNow, if_neg himport, hlatch, Bool.false_eq_true, if_false]
  rw [hnow] at hacc
  exact exec_of_accepted o dt r s _ _ haccepts hacc

/-- Only L2_DELETE, LPM_DELETE and COMPARE_CLAIM answer with data (R321, R46). -/
theorem replyData_of_announces (o : Op) (r : Req) (p : State) (h : Op.announces o = true) : o.replyData r p = [] := by
  unfold Op.replyData
  split
  · exact absurd h (by decide)
  · exact absurd h (by decide)
  · exact absurd h (by decide)
  · rfl

/-- The swap of an accepted CALENDAR_ENABLE is entered under its port at the milestone that COMMIT shows. -/
theorem acceptCalendarEnable_swaps (r : Req) (n : Milestone) (p s : State) :
    ∃ i, (s.calendar (fld r.params 0 2) = none → i = (acceptCalendarEnable r n p s).1) ∧
      (acceptCalendarEnable r n p s).2.fwd.swaps =
        tput s.fwd.swaps (fld r.params 0 2) { at_ := (acceptCalendarEnable r n p s).1, idleFrom := i } := by
  unfold acceptCalendarEnable
  dsimp only
  split
  · refine ⟨_, fun hnone => ?_, rfl⟩
    rw [show (State.setUnit s _ _).calendar (fld r.params 0 2) = none from hnone]
  · refine ⟨_, fun hnone => ?_, rfl⟩
    rw [hnone]

/-- A CALENDAR_ENABLE accepted changes the compare units and the swaps alone, beside the pending store. -/
theorem acceptCalendarEnable_cmd (r : Req) (n : Milestone) (p s : State) : (acceptCalendarEnable r n p s).2.cmd = s.cmd := by
  unfold acceptCalendarEnable
  dsimp only
  split <;> rfl

theorem stageWrite_of_calendarEnable (r : Req) (s : State) : stageWrite .calendarEnable r s =
    ((acceptCalendarEnable r (commitMs r s) s.projected s).1, { (acceptCalendarEnable r (commitMs r s) s.projected s).2 with
      cmd.commits := s.cmd.commits ++ [commitOf .calendarEnable r s] }) := by
  simp only [stageWrite, if_pos, reduceCtorEq, if_false, announceWrite, announceOwnStep, acceptCalendarEnable_cmd, commitOf]

theorem stageWrite_of_calImport (r : Req) (s : State) : stageWrite .calImport r s = (commitMs r s, { s with
    cal.importing := s.cal.importing ++ [s.cal.staging], cal.staged := []
    cmd.commits := s.cmd.commits ++ [commitOf .calImport r s] }) := by
  simp only [stageWrite, if_pos, reduceCtorEq, if_false, announceWrite, announceOwnStep, acceptCalImport, commitOf]

theorem accepted_of_idleRamp (r : Req) (s : State) (h : rampIdle r s = true) :
    accepted .rampStart r s = (some (replyTo Op.rampStart.code r .ok 0 []), s) := by
  have hkind : Op.rampStart.kind = .write := rfl
  simp [accepted, hkind, h, Op.replyData]

/-- Settles O7: a write that tells workers is staged like any other, and the three that take something at acceptance are staged
with it. That announcements leave at acceptance is log entry 15, the early swap log entry 9 and the staging copy log entry 45. -/
theorem writesThatActAtAcceptanceWaitToo : Obligations.WritesThatActAtAcceptanceWaitToo := by
  refine ⟨?_, fun dt r s => ⟨?_, ?_, ?_⟩⟩
  · intro o dt r s u v hkind hannounces haccepts hready
    have hcalendar : o ≠ .calendarEnable := by rintro rfl; exact absurd hannounces (by decide)
    have himport : o ≠ .calImport := by rintro rfl; exact absurd hannounces (by decide)
    have hramp : ¬ (o = .rampStart ∧ rampIdle r v = true) := by rintro ⟨rfl, -⟩; exact absurd hannounces (by decide)
    have hacc := accepted_of_staged o r v hkind hramp hready
    rw [stageWrite_of_plain o r v hcalendar himport, replyData_of_announces o _ _ hannounces] at hacc
    exact exec_of_accepted o dt r s _ _ haccepts hacc
  · intro v hv haccepts hready c w hcw
    have hacc := accepted_of_staged .calendarEnable r v rfl (by simp) hready
    rw [stageWrite_of_calendarEnable, hcw] at hacc
    have hswaps := acceptCalendarEnable_swaps r (commitMs r v) v.projected v
    rw [hcw] at hswaps
    subst hv
    exact ⟨exec_of_accepted .calendarEnable dt r s _ _ haccepts hacc, hswaps⟩
  · rintro v rfl haccepts hready
    have hacc := accepted_of_staged .calImport r _ rfl (by simp) hready
    rw [stageWrite_of_calImport] at hacc
    exact exec_of_accepted .calImport dt r s _ _ haccepts hacc
  · rintro v rfl haccepts hsame
    exact exec_of_accepted .rampStart dt r s _ _ haccepts (accepted_of_idleRamp r _ (decide_eq_true hsame))

end Sys2Proof.Machine
end

section
/-! SUPPORT. Packets that are old, badly headed, or commands of the engine itself (R284, R292, R293), and the actions (R41, R248, R251). -/

namespace Sys2Proof.Machine

set_option Elab.async false

/-! ### Old packets (R292) -/

theorem code_eq_sync_iff (o : Op) : o.code = 0x0104 ↔ o = .cmdSync := by
  refine ⟨fun h => ?_, fun h => h ▸ rfl⟩
  have hcodes : Op.ofCode o.code = Op.ofCode Op.cmdSync.code := congrArg Op.ofCode h
  rw [ofCode_code, ofCode_code] at hcodes
  exact Option.some.inj hcodes

/-- A packet for this device that passes tag and header and is not later than L is answered from the cache, or with REPLAY. -/
theorem packetLocal_of_old (o : Op) (r : Req) (signed : List Byte) (s : State) (l : BitVec 32) (htag : localTagRej r signed s = none)
    (hhead : headerRej o.code r 1 = none) (hhere : s.elsewhere r = false) (hsync : o ≠ .cmdSync)
    (hlast : (s.seqOf r.src).last = some l) (hold : later r.seq l = false) (a : Option Reply)
    (hcached : (s.seqOf r.src).cache.find? (fun p => decide (p.seq = r.seq)) = a) :
    packetLocal o.code r signed s =
      sendReply r (a.getD (rejReply o.code r { status := .replay, reason := .none, detail := 0 })) s := by
  have hcode : ¬ o.code = 0x0104 := fun h => hsync ((code_eq_sync_iff o).mp h)
  have hpass : firstRej [localTagRej r signed s, headerRej o.code r 1] = none := by rw [htag, hhead]; rfl
  simp only [packetLocal, hpass, hhere, hlast, hold, hcode, hcached, Option.map_some, Option.getD_some, decide_false, Bool.or_false,
    Bool.false_eq_true, if_false]
  cases a <;> rfl

/-- A delivered packet comes before the engine with its tag and header checked, for this device. -/
theorem delivered_checks {o : Op} {r : Req} {s : State} (h : Delivered o r s) :
    arrive o.code r s = packetLocal o.code r (r.body o.code) (heldBy o.code r s) ∧
    localTagRej r (r.body o.code) (heldBy o.code r s) = none ∧ headerRej o.code r 1 = none ∧
    (heldBy o.code r s).elsewhere r = false := by
  obtain ⟨hwf, hsized, hversion, hkind, hflags, htarget, -, hms, hcan, hready, hnode, htag⟩ := h
  exact ⟨arrive_local o.code r s hwf hsized (code_lt o) hcan hready, by rwa [localTagRej_heldBy],
    headerRej_eq_none o r hversion hkind hflags htarget hms, elsewhere_eq_false r _ (by rwa [heldBy_hier])⟩

/-! ### Headers that R284 refuses -/

/-- The place of the first header field that R284 refuses in a packet; 0 for none. -/
def badHeaderPlace (o : Op) (r : Req) : Nat :=
  if r.version ≠ 1 ∨ r.kind ≠ 0 then 0x8002 else if r.rsvFlags ≠ 0 then 0x8003
  else if r.ms.isSome = true ∧ o.kind ≠ .write then 0x8003 else if r.rsvTarget ≠ 0 then 0x800C else 0

theorem headerRej_of_bad (o : Op) (r : Req) (h : badHeaderPlace o r ≠ 0) :
    headerRej o.code r 1 = some (refused .range (badHeaderPlace o r)) := by
  unfold badHeaderPlace at h ⊢
  unfold headerRej
  rw [takesMilestone_code]
  by_cases hversion : r.version ≠ 1 ∨ r.kind ≠ 0
  · have hbad : ¬ (r.version = 1 ∧ r.kind < 1) := by omega
    rw [if_pos hversion, need, if_neg (by simpa using hbad), firstRej_cons_some]
  · have hgood : r.version = 1 ∧ r.kind < 1 := by omega
    rw [if_neg hversion] at h ⊢
    rw [need, if_pos (by simpa using hgood), firstRej_cons_none]
    by_cases hflags : r.rsvFlags ≠ 0
    · rw [if_pos hflags, need, if_neg (by simpa using hflags), firstRej_cons_some]
    · rw [if_neg hflags] at h ⊢
      rw [need, if_pos (by simpa using hflags), firstRej_cons_none]
      by_cases hms : r.ms.isSome = true ∧ o.kind ≠ .write
      · have hbad : (decide (r.ms = none) || decide (o.kind = .write)) = false := by
          simp [hms.2, Option.isSome_iff_ne_none.mp hms.1]
        rw [if_pos hms, hbad, need, if_neg Bool.false_ne_true, firstRej_cons_some]
      · have hgood : (decide (r.ms = none) || decide (o.kind = .write)) = true := by
          cases hr : r.ms <;> simp_all
        rw [if_neg hms] at h ⊢
        rw [hgood, need, if_pos rfl, firstRej_cons_none]
        by_cases htarget : r.rsvTarget ≠ 0
        · rw [if_pos htarget, need, if_neg (by simpa using htarget), firstRej_cons_some]
        · rw [if_neg htarget] at h
          exact absurd rfl h

theorem packetLocal_of_badHeader (o : Op) (r : Req) (signed : List Byte) (s : State) (htag : localTagRej r signed s = none)
    (h : badHeaderPlace o r ≠ 0) :
    packetLocal o.code r signed s = sendReply r (rejReply o.code r (refused .range (badHeaderPlace o r))) s := by
  simp only [packetLocal, htag, headerRej_of_bad o r h, firstRej_cons_none, firstRej_cons_some]

/-- Settles O17: the cache or REPLAY answers an old packet, and the header is judged before the SEQUENCE. -/
theorem oldAndBadPacketsAreNotProcessed : Obligations.OldAndBadPacketsAreNotProcessed := by
  intro o dt r s u
  refine ⟨fun l hdelivered hsync hlast hold => ?_, fun d hwf hsized hcan hready htag hd hbad => ?_⟩
  · obtain ⟨harrive, htag, hhead, hhere⟩ := delivered_checks hdelivered
    have hpacket := packetLocal_of_old o r _ _ l htag hhead hhere hsync (by rwa [heldBy_seqOf]) hold
    rw [heldBy_seqOf] at hpacket
    refine ⟨fun p hp => ?_, fun hnone => ?_⟩
    · rw [exec_instr, harrive, hpacket _ hp, Option.getD_some]
    · have hfind : (u.seqOf r.src).cache.find? (fun p => decide (p.seq = r.seq)) = none := by
        rw [List.find?_eq_none]
        exact fun p hp => by simpa using hnone p hp
      rw [exec_instr, harrive, hpacket _ hfind, Option.getD_none]
  · have hplace : d = badHeaderPlace o r := hd
    rw [exec_instr, arrive_local o.code r u hwf hsized (code_lt o) hcan hready,
      packetLocal_of_badHeader o r _ _ (by rwa [localTagRej_heldBy]) (hplace ▸ hbad), hplace]

/-! ### CMD_SYNC (R293) -/

@[simp] theorem seqOf_setSeq (s : State) (src : Source) (q : Sequence) (h : src.code ≠ 3) : (s.setSeq src q).seqOf src = q := by
  cases src with
  | inband _ _ _ _ => exact absurd rfl h
  | _ => rfl

@[simp] theorem setSeq_setSeq (s : State) (src : Source) (q q' : Sequence) : (s.setSeq src q).setSeq src q' = s.setSeq src q' := by
  cases src <;> rfl

theorem judge_cmdSync (r : Req) (s : State) (h : r.params = []) : judge .cmdSync r s = none := by
  have htransition : transitionRej .cmdSync r s = none := by
    unfold transitionRej
    split <;> rfl
  simp only [judge, busyRej, htransition]
  simp [transportRej, readinessRej, rightRej, milestoneRej, ownRej, storeRej, sizeCheck, Op.layout, Op.info, Op.kind, Op.needs,
    Op.check, Op.busy, Op.fromRoot, Op.inDormant, OpKind.writes, ceilDiv, h]

/-- Settles O14: CMD_SYNC passes every check, and is new whatever its SEQUENCE. -/
theorem syncResetsTheSequence : Obligations.SyncResetsTheSequence := by
  intro dt r s u v hdelivered hsound hparams
  have haccepts : Accepts .cmdSync r u := ⟨⟨hdelivered, .inl rfl, hsound⟩, judge_cmdSync r _ hparams⟩
  have hlocal := code_ne_inband hdelivered
  have hacc : accepted .cmdSync r (opened .cmdSync r u) =
      (some (replyTo 0x0104 r .ok 0 []), v.setSeq r.src { last := some r.seq, cache := [] }) := by
    change (some (replyTo 0x0104 r .ok 0 []), (opened .cmdSync r u).setSeq r.src _) = _
    simp only [opened, seqOf_setSeq _ _ _ hlocal, setSeq_setSeq]
    rfl
  exact exec_of_accepted .cmdSync dt r s _ _ haccepts hacc

end Sys2Proof.Machine
end

section
/-! SUPPORT. Frames: the parts of the state that the shared operations, counters, admission and the frames of links may change. -/

namespace Sys2Proof.Machine

set_option Elab.async false

/-! ### Putting frames together -/

/-- Two frames in a row, the second within the parts of the first. -/
theorem frame_step {cs ds : List Mod} {s t u : State} (h1 : OnlyIn cs s t) (h2 : OnlyIn ds t u) (hs : ∀ m ∈ ds, m ∈ cs := by decide) :
    OnlyIn cs s u := frame_trans h1 (frame_mono h2 hs)

/-- A frame of fewer parts is one of more. -/
theorem frame_within {cs ds : List Mod} {s t : State} (h : OnlyIn ds s t) (hs : ∀ m ∈ ds, m ∈ cs := by decide) : OnlyIn cs s t :=
  frame_mono h hs

theorem frame_ite {cs : List Mod} {s a b : State} {c : Prop} [Decidable c] (ha : OnlyIn cs s a) (hb : OnlyIn cs s b) :
    OnlyIn cs s (if c then a else b) := by
  split
  · exact ha
  · exact hb

theorem frame_foldl {α : Type} {cs : List Mod} {f : State → α → State} (hf : ∀ t x, OnlyIn cs t (f t x)) (l : List α) (s : State) :
    OnlyIn cs s (l.foldl f s) := by
  induction l generalizing s with
  | nil => exact frame_refl cs s
  | cons x l ih => exact frame_trans (hf s x) (ih (f s x))

theorem frame_raise (v : Severity) (k : Nat) (p : List Byte) (s : State) : OnlyIn [] s (raise v k p s) :=
  frame_raiseAt 0xFF v k p (frame_refl [] s)

/-! ### One part replaced -/

section
variable (s : State)

theorem frame_out (o : List Out) : OnlyIn [] s { s with out := o } := fun m _ _ => by cases m <;> simp [Mod.same]
theorem frame_freeIx (n : Nat) : OnlyIn [] s { s with freeIx := n } := fun m _ _ => by cases m <;> simp [Mod.same]
theorem frame_log (x : RecorderState) : OnlyIn [] s { s with log := x } := fun m hm _ => by cases m <;> simp_all [Mod.same]
theorem frame_rings (x : Tbl Ring) : OnlyIn [] s { s with cmd.rings := x } := fun m _ _ => by cases m <;> simp [Mod.same]
theorem frame_cmd (x : CommandState) : OnlyIn [.cmd] s { s with cmd := x } := fun m _ h => by cases m <;> simp_all [Mod.same]
theorem frame_time (x : TimeModule) : OnlyIn [.time] s { s with time := x } := fun m _ h => by cases m <;> simp_all [Mod.same]
theorem frame_power (x : PowerState) : OnlyIn [.power] s { s with power := x } := fun m _ h => by cases m <;> simp_all [Mod.same]
theorem frame_fwd (x : ForwardState) : OnlyIn [.fwd] s { s with fwd := x } := fun m _ h => by cases m <;> simp_all [Mod.same]
theorem frame_port (x : PortState) : OnlyIn [.port] s { s with port := x } := fun m _ h => by cases m <;> simp_all [Mod.same]
theorem frame_ref (x : RefState) : OnlyIn [.ref] s { s with ref := x } := fun m _ h => by cases m <;> simp_all [Mod.same]
theorem frame_clk (x : ClockState) : OnlyIn [.clk] s { s with clk := x } := fun m _ h => by cases m <;> simp_all [Mod.same]
theorem frame_outs (x : Tbl ClkOut) : OnlyIn [] s { s with clk.outs := x } := fun m _ _ => by cases m <;> simp [Mod.same]
theorem frame_hier (x : HierState) : OnlyIn [.hier] s { s with hier := x } := fun m _ h => by cases m <;> simp_all [Mod.same]
theorem frame_meas (x : MeasureState) : OnlyIn [.meas] s { s with meas := x } := fun m _ h => by cases m <;> simp_all [Mod.same]
theorem frame_ctr (x : CounterState) : OnlyIn [.ctr] s { s with ctr := x } := fun m _ h => by cases m <;> simp_all [Mod.same]
theorem frame_cal (x : CalState) : OnlyIn [.cal] s { s with cal := x } := fun m _ h => by cases m <;> simp_all [Mod.same]
theorem frame_board (x : BoardState) : OnlyIn [.board] s { s with board := x } := fun m _ h => by cases m <;> simp_all [Mod.same]

/-! ### What a frame says of a part -/

end

theorem fwd_of_frame {cs : List Mod} {s t : State} (h : OnlyIn cs s t) (hc : Mod.fwd ∉ cs := by decide) : t.fwd = s.fwd :=
  h .fwd (by decide) hc
theorem time_of_frame {cs : List Mod} {s t : State} (h : OnlyIn cs s t) (hc : Mod.time ∉ cs := by decide) : t.time = s.time :=
  h .time (by decide) hc
theorem port_of_frame {cs : List Mod} {s t : State} (h : OnlyIn cs s t) (hc : Mod.port ∉ cs := by decide) : t.port = s.port :=
  h .port (by decide) hc
theorem ref_of_frame {cs : List Mod} {s t : State} (h : OnlyIn cs s t) (hc : Mod.ref ∉ cs := by decide) : t.ref = s.ref :=
  h .ref (by decide) hc
theorem cal_of_frame {cs : List Mod} {s t : State} (h : OnlyIn cs s t) (hc : Mod.cal ∉ cs := by decide) : t.cal = s.cal :=
  h .cal (by decide) hc
theorem meas_of_frame {cs : List Mod} {s t : State} (h : OnlyIn cs s t) (hc : Mod.meas ∉ cs := by decide) : t.meas = s.meas :=
  h .meas (by decide) hc
theorem commits_of_frame {cs : List Mod} {s t : State} (h : OnlyIn cs s t) (hc : Mod.cmd ∉ cs := by decide) :
    t.cmd.commits = s.cmd.commits := by
  have hcmd : Mod.same .cmd s t := h .cmd (by decide) hc
  simp only [Mod.same, CommandState.mk.injEq] at hcmd
  exact hcmd.1
theorem part_of_frame {cs : List Mod} {s t : State} (h : OnlyIn cs s t) (hc : Mod.ident ∉ cs := by decide) : t.part = s.part :=
  (h .ident (by decide) hc).1

/-! ### Counters -/

theorem addKey_frame (k n : Nat) (s : State) : OnlyIn [.ctr] s (addKey k n s) := by
  obtain ⟨c, h⟩ := addKey_eq k n s
  rw [h]
  exact frame_ctr s _

theorem countDevice_frame (i : Nat) (s : State) : OnlyIn [.ctr] s (countDevice i s) := addKey_frame _ _ s

theorem countTime_frame (p i : Nat) (s : State) : OnlyIn [.ctr] s (countTime p i s) := addKey_frame _ _ s

theorem addFiltered_frame (k n : Nat) (c : Bool) (s : State) : OnlyIn [.ctr] s (addFiltered k n c s) := by
  unfold addFiltered
  dsimp only
  split
  · exact frame_ite (frame_step (frame_ctr s _) (addKey_frame _ _ _)) (frame_ctr s _)
  · exact addKey_frame _ _ s

theorem feedFilters_frame (c : CountCtx) (g i k n : Nat) (s : State) : OnlyIn [.ctr] s (feedFilters c g i k n s) :=
  frame_ite (frame_refl _ s) (frame_foldl (fun t _ => frame_ite (addFiltered_frame _ _ _ t) (frame_refl _ t)) _ s)

theorem countBy_frame (c : CountCtx) (g i k n : Nat) (s : State) : OnlyIn [.ctr] s (countBy c g i k n s) :=
  frame_step (addKey_frame _ _ s) (feedFilters_frame _ _ _ _ _ _)

theorem countClass_frame (c : CountCtx) (g p i k x n : Nat) (s : State) : OnlyIn [.ctr] s (countClass c g p i k x n s) :=
  frame_step (addKey_frame _ _ s) (feedFilters_frame _ _ _ _ _ _)

/-! ### PFC -/

theorem sendFrame_frame (l : Nat) (o : Out) (b : List Byte) (s : State) : OnlyIn [.fwd] s (sendFrame l o b s) :=
  frame_ite (frame_fwd s _) (frame_within (frame_out s _))

theorem sendPfc_frame (l p q : Nat) (s : State) : OnlyIn [.fwd, .ctr] s (sendPfc l p q s) :=
  frame_trans (frame_within (sendFrame_frame _ _ _ s)) (frame_within (countBy_frame _ _ _ _ _ _))

theorem setPfcPort_frame (l p : Nat) (v : PfcPort) (s : State) : OnlyIn [.fwd] s (s.setPfcPort l p v) := frame_fwd s _

theorem repeatNow_frame (l p : Nat) (s : State) : OnlyIn [.fwd, .ctr] s (repeatNow l p s) :=
  frame_trans (frame_within (setPfcPort_frame _ _ _ s)) (sendPfc_frame _ _ _ _)

theorem sendXoff_frame (l p : Nat) (s : State) : OnlyIn [.fwd, .ctr] s (sendXoff l p s) :=
  frame_trans (frame_within (setPfcPort_frame _ _ _ s)) (repeatNow_frame _ _ _)

theorem pfcCheck_frame (l p : Nat) (s : State) : OnlyIn [.fwd, .ctr] s (pfcCheck l p s) := by
  have hset := fun v => frame_within (cs := [.fwd, .ctr]) (setPfcPort_frame l p v s)
  unfold pfcCheck
  dsimp only
  split
  · exact hset _
  · split
    · exact frame_ite (frame_trans (hset _) (sendPfc_frame _ _ _ _)) (hset _)
    · exact frame_ite (frame_ite (sendXoff_frame l p s) (hset _)) (frame_refl _ s)

theorem freezeXoff_frame (l : Nat) (s : State) : OnlyIn [.fwd, .ctr] s (freezeXoff l s) :=
  frame_foldl (fun t p => frame_ite
    (frame_ite (frame_trans (frame_within (setPfcPort_frame l p _ t)) (repeatNow_frame l p _)) (frame_within (setPfcPort_frame l p _ t)))
    (frame_refl _ t)) _ s

theorem thawXoff_frame (l : Nat) (s : State) : OnlyIn [.fwd, .ctr] s (thawXoff l s) :=
  frame_foldl (fun t p => frame_ite (frame_trans (frame_within (setPfcPort_frame l p _ t)) (pfcCheck_frame l p _)) (frame_refl _ t)) _ s

theorem pfcCheckCopy_frame (c : Copy) (s : State) : OnlyIn [.fwd, .ctr] s (pfcCheckCopy c s) := by
  unfold pfcCheckCopy
  split
  · exact pfcCheck_frame _ _ s
  · exact frame_refl _ s

theorem pfcLinkUp_frame (l : Nat) (s : State) : OnlyIn [.fwd, .ctr] s (pfcLinkUp l s) :=
  frame_foldl (fun t p => frame_ite (repeatNow_frame l p t) (frame_refl _ t)) _ s

theorem pfcLinkDown_frame (l : Nat) (s : State) : OnlyIn [.fwd] s (pfcLinkDown l s) :=
  frame_foldl (fun t p => frame_ite (setPfcPort_frame l p _ t) (frame_refl _ t)) _ s

/-! ### Storing and releasing -/

theorem pushTag_frame (f : Frame) (x : Fate) (s : State) : OnlyIn [.ctr] s (pushTag f x s) := by
  unfold pushTag
  split
  · exact frame_refl _ s
  · exact frame_ite (frame_ctr s _) (countDevice_frame _ s)

theorem refuse_frame (l c g : Nat) (m : Bool) (f : Frame) (s : State) : OnlyIn [.ctr] s (refuse l c g m f s) := by
  unfold refuse
  dsimp only
  split
  · split
    · exact frame_step (pushTag_frame _ _ s) (countBy_frame _ _ _ _ _ _)
    · exact pushTag_frame _ _ s
  · exact frame_step (pushTag_frame _ _ s) (countClass_frame _ _ _ _ _ _ _ _)

theorem store_frame (d p n : Nat) (f : Frame) (s : State) : OnlyIn [.fwd, .ctr] s (store d p n f s).2 :=
  frame_trans (frame_within (frame_fwd s _)) (pfcCheckCopy_frame _ _)

theorem freeCopy_frame (i : Nat) (s : State) : OnlyIn [.fwd, .ctr] s (freeCopy i s) := by
  unfold freeCopy
  split
  · exact frame_refl _ s
  · split
    · exact frame_refl _ s
    · exact frame_trans (frame_within (frame_fwd s _)) (pfcCheckCopy_frame _ _)

theorem resetDeficit_frame (l k : Nat) (s : State) : OnlyIn [.fwd] s (resetDeficit l k s) := frame_ite (frame_fwd s _) (frame_refl _ s)

theorem unlink_frame (b : Branch) (s : State) : OnlyIn [.fwd, .ctr] s (unlink b s) :=
  frame_step (frame_trans (frame_within (frame_fwd s _)) (freeCopy_frame _ _)) (resetDeficit_frame _ _ _)

theorem discard_frame (c g : Nat) (n : Bool) (b : Branch) (s : State) : OnlyIn [.fwd, .ctr] s (discard c g n b s) := by
  unfold discard
  split
  · exact unlink_frame b s
  · dsimp only
    have h := fun f x => frame_step (unlink_frame b s) (pushTag_frame f x (unlink b s))
    exact frame_ite (frame_step (h _ _) (countClass_frame _ _ _ _ _ _ _ _)) (h _ _)

theorem flush_frame (l : Nat) (n : Bool) (s : State) : OnlyIn [.fwd, .ctr] s (flush l n s) :=
  frame_foldl (fun t b => discard_frame _ _ n b t) _ s

theorem flushPort_frame (l : Nat) (s : State) : OnlyIn [.fwd, .ctr] s (flushPort l s) :=
  frame_ite (frame_within (frame_fwd s _)) (flush_frame l false s)

theorem drawBit_frame (s : State) : OnlyIn [] s (drawBit s).2 := frame_freeIx s _

theorem draw_frame (n : Nat) (s : State) : OnlyIn [] s (draw n s).2 := frame_freeIx s _

theorem ecnMark_frame (q : QueueCfg) (x : Nat) (s : State) : OnlyIn [] s (ecnMark q x s).2 := by
  unfold ecnMark
  split
  · exact frame_refl _ s
  · split
    · exact frame_refl _ s
    · split
      · exact frame_refl _ s
      · exact drawBit_frame s

theorem enqueue_frame (b : Branch) (f : Frame) (s : State) : OnlyIn [.fwd, .ctr, .port] s (enqueue b f s) := by
  unfold enqueue
  dsimp only
  generalize hx : (if decide ((s.queueCfg b.lport b.cls).ecn = 1) && ectCapable (parse f.wm f.data) then ecnMark _ _ s
    else (false, s)) = x
  have hmark : OnlyIn [.fwd, .ctr, .port] s x.2 := by
    rw [← hx]
    split
    · exact frame_within (ecnMark_frame _ _ s)
    · exact frame_refl _ s
  obtain ⟨m, t⟩ := x
  dsimp only at hmark ⊢
  generalize hw : (if m = true then countClass _ _ _ _ _ _ _ t else t) = w
  have hcount : OnlyIn [.fwd, .ctr, .port] s w := by
    rw [← hw]
    exact frame_ite (frame_step hmark (countClass_frame _ _ _ _ _ _ _ t)) hmark
  have hput := fun x => frame_step hcount (frame_fwd w x)
  split
  · exact frame_step (hput _) (frame_port _ _)
  · exact hput _

theorem enterLine_frame (b : Branch) (s : State) : OnlyIn [.fwd] s (enterLine b s) := frame_fwd s _

theorem admitTo_frame (l : Nat) (m : Bool) (f : Frame) (s : State) : OnlyIn [.fwd, .ctr, .port] s (admitTo l m f s) := by
  have hrefuse := fun c => frame_within (cs := [.fwd, .ctr, .port]) (refuse_frame l c 2 m f s)
  unfold admitTo
  dsimp only
  split
  · exact frame_within (frame_fwd s _)
  · refine frame_ite (hrefuse _) (frame_ite (frame_ite (hrefuse _) ?_) (hrefuse _))
    have hstore := fun p => frame_within (cs := [.fwd, .ctr, .port]) (store_frame (s.coreOfLport l) p (cellsOf f.size) f s)
    exact frame_ite (frame_step (hstore _) (enterLine_frame _ _)) (frame_trans (hstore _) (enqueue_frame _ _ _))

/-! ### In-band frames and announcements -/

theorem sendOn_frame (q h : Nat) (x y : List Byte) (s : State) : OnlyIn [.fwd, .ctr, .port] s (sendOn q h x y s) :=
  frame_ite (frame_within (countDevice_frame _ s)) (admitTo_frame _ _ _ s)

theorem sendTagged_frame (k : List Byte) (q : Nat) (b : List Byte) (s : State) : OnlyIn [.fwd, .ctr, .port] s (sendTagged k q b s) :=
  sendOn_frame _ _ _ _ s

theorem originateOn_frame (q k f o : Nat) (n : BitVec 32) (d : BitVec 18) (p : List Byte) (s : State) :
    OnlyIn [.fwd, .ctr, .port] s (originateOn q k f o n d p s) := by
  unfold originateOn
  split
  · exact frame_refl _ s
  · exact sendTagged_frame _ _ _ s

theorem announce_frame (o : Nat) (p : List Byte) (s : State) : OnlyIn [.cmd, .fwd, .ctr, .port] s (announce o p s) :=
  frame_foldl (fun t _ => frame_step (frame_within (frame_cmd t _)) (originateOn_frame _ _ _ _ _ _ _ _)) _ s

/-- An announcement takes in-band sequences; the pending store is as it was. -/
@[simp] theorem announce_commits (o : Nat) (p : List Byte) (s : State) : (announce o p s).cmd.commits = s.cmd.commits := by
  unfold announce
  generalize s.hier.workers = ws
  induction ws generalizing s with
  | nil => rfl
  | cons w ws ih =>
    have hsent := commits_of_frame (originateOn_frame w.1 0 0 o (takeSeq s).1 0 p (takeSeq s).2)
    exact (ih _).trans hsent

@[simp] theorem announceStep_commits (m : Milestone) (d : Nat) (v : BitVec 80) (s : State) :
    (announceStep m d v s).cmd.commits = s.cmd.commits := announce_commits _ _ s

@[simp] theorem announceOwnStep_commits (o : Op) (r : Req) (m : Milestone) (s : State) :
    (announceOwnStep o r m s).cmd.commits = s.cmd.commits := by
  unfold announceOwnStep
  dsimp only
  split
  · split <;> simp
  · simp
  · rfl

@[simp] theorem announceWrite_commits (o : Op) (r : Req) (m : Milestone) (a s : State) :
    (announceWrite o r m a s).cmd.commits = s.cmd.commits := by
  unfold announceWrite
  dsimp only
  split
  iterate 4 exact announce_commits _ _ s
  · split
    · rfl
    · exact announce_commits _ _ s
  iterate 5 exact announce_commits _ _ s
  rfl

end Sys2Proof.Machine
end

section
/-! SUPPORT. The actions (R41, R248, R251), enrolment (R249) and announcements (R42, R259). -/

namespace Sys2Proof.Machine

set_option Elab.async false

/-! ### What an accepted packet has passed -/

theorem firstRej_eq_none {l : List (Option Rej)} (h : firstRej l = none) : ∀ x ∈ l, x = none := by
  simpa [firstRej] using h

theorem check_of_judge {o : Op} {r : Req} {s : State} (h : judge o r s = none) : o.check r s.projected s = none := by
  have hown : ownRej o r s.projected s = none := firstRej_eq_none h _ (by simp)
  exact firstRej_eq_none hown _ (by simp)

/-! ### Actions -/

theorem accepted_of_action (o : Op) (r : Req) (s : State) (h : o.kind ≠ .write ∧ o.kind ≠ .pend) : accepted o r s =
    (if o = .enroll then none else some (replyTo o.code r .ok 0 (o.act r (replyRoom r) s).1), (o.act r (replyRoom r) s).2) := by
  unfold accepted
  split
  · next hk => exact absurd hk h.1
  · next hk => exact absurd hk h.2
  · rfl

theorem runLocal_of_silent (code : Nat) (r : Req) (s t : State) (hsingle : r.broadcast = false)
    (hexec : execute code r s = (none, t)) : runLocal code r s = t := by
  simp only [runLocal, broadcastLocal_of_single code r s hsingle, hexec]

/-- A new packet from a local transport that executes without a reply of its own, for now. -/
theorem exec_of_accepted_silent (o : Op) (dt : Nat) (r : Req) (s t : State) (h : Accepts o r (s.advance dt))
    (haccepted : accepted o r (opened o r (s.advance dt)) = (none, t)) :
    exec (Op.instr o dt r) s = .next (finish (closed (restartLease r t))) := by
  obtain ⟨⟨hdelivered, hnew, hsound⟩, hjudge⟩ := h
  obtain ⟨harrive, htag, hhead, hhere⟩ := delivered_checks hdelivered
  obtain ⟨-, -, -, -, -, -, hsingle, -⟩ := hdelivered
  have hnew' : NewPacket o r (heldBy o.code r (s.advance dt)) := by simpa only [NewPacket, heldBy_seqOf] using hnew
  have hexec := execute_of_accepted o r _ _ t ((opened_cmd_firmwareFault o r _).trans hsound) hjudge haccepted
  rw [exec_instr, harrive, packetLocal_of_new o r _ _ htag hhead hhere hnew', processLocal_heldBy,
    runLocal_of_silent _ r _ _ hsingle hexec]

theorem pendingStep_of_judge {r : Req} {s : State} (h : judge .timeStepCancel r s = none) : ∃ c, s.pendingStep = some c := by
  have h : checkTimeStepCancel r s.projected s = none := check_of_judge h
  cases hp : s.pendingStep with
  | none => simp [checkTimeStepCancel, hp, need] at h
  | some c => exact ⟨c, rfl⟩

theorem worker_of_judge {r : Req} {s : State} (h : judge .releaseWorker r s = none) :
    ∃ w, tfind s.hier.workers (fld r.params 0 1) = some w := by
  have h : checkReleaseWorker r s.projected s = none := check_of_judge h
  have hfound := firstRej_eq_none h (need (tfind s.hier.workers (fld r.params 0 1)).isSome (refused .mode 0)) (by simp)
  exact Option.isSome_iff_exists.mp ((need_eq_none_iff _ _).mp hfound)

/-- Settles O18: each action is what the engine does at once with a packet that passes its checks. -/
theorem actionsTakeEffectAtOnce : Obligations.ActionsTakeEffectAtOnce := by
  refine fun dt r s => ⟨?_, ?_, ?_⟩
  · rintro v rfl haccepts
    obtain ⟨c, hc⟩ := pendingStep_of_judge haccepts.2
    have hacc := accepted_of_action .timeStepCancel r (opened .timeStepCancel r (s.advance dt)) (by decide)
    simp only [reduceCtorEq, if_false, Op.act, actTimeStepCancel, cancelStep, hc, Option.map_some, Option.getD_some] at hacc
    exact ⟨c, hc, exec_of_accepted .timeStepCancel dt r s _ _ haccepts hacc⟩
  · rintro v rfl haccepts
    exact exec_of_accepted_silent .enroll dt r s _ haccepts (accepted_of_action .enroll r _ (by decide))
  · rintro v rfl haccepts
    obtain ⟨w, hw⟩ := worker_of_judge haccepts.2
    have hacc := accepted_of_action .releaseWorker r (opened .releaseWorker r (s.advance dt)) (by decide)
    simp only [reduceCtorEq, if_false, Op.act, actReleaseWorker, hw] at hacc
    exact ⟨w, hw, exec_of_accepted .releaseWorker dt r s _ _ haccepts hacc⟩

end Sys2Proof.Machine
end

section
/-! SUPPORT. Commands in the usual case (R297, R298, R300, R301): what a usual packet passes, the writes, and the one read that
does more than read. -/

namespace Sys2Proof.Machine

set_option Elab.async false

/-! ### The usual case -/

theorem projected_of_none_waiting {s : State} (h : s.cmd.commits = []) : s.projected = s := by
  simp only [State.projected, h]; rfl

theorem milestoneRej_of_none (o : Op) (r : Req) (s : State) (h : r.ms = none) : milestoneRej o r s = none := by
  unfold milestoneRej
  rw [h]
  split
  · contradiction
  · rfl

theorem transitionRej_eq_none (o : Op) (r : Req) (s : State) (h : o.kind.writes = true → s.power.transition = none) :
    transitionRej o r s = none := by
  unfold transitionRej
  cases hw : o.kind.writes with
  | true => rw [h hw]
  | false => cases s.power.transition <;> simp [need]

theorem storeRej_of_none_waiting (o : Op) (r : Req) (p s : State) (h : s.cmd.commits = []) : storeRej o r p s = none := by
  simp [storeRej, h, sortCommits, need, firstRej]

/-- A usual packet that passes its opcode's own checks and BUSY rules passes every check of R291. -/
theorem accepts_of_usual {o : Op} {r : Req} {s : State} (h : Usual o r s) (hkind : o.kind ≠ .inbandOnly)
    (hcheck : o.check r (opened o r s) (opened o r s) = none) (hbusy : o.busy r (opened o r s) (opened o r s) = none) :
    Accepts o r s := by
  obtain ⟨hexecutes, hms, hsize, hmode, hready, hcommits, hwrites, hkeys, hroot⟩ := h
  refine ⟨hexecutes, ?_⟩
  have htransport : transportRej o r (opened o r s) = none := by
    simp only [transportRej, firstRej_cons_eq_none_iff, need_eq_none_iff, decide_eq_true_eq, Bool.or_eq_true, firstRej_nil, and_true]
    exact ⟨.inl hkind, by tauto, hmode⟩
  have hright : rightRej o r (opened o r s) = none := by
    rw [rightRej, need_eq_none_iff]
    cases hw : o.kind.writes <;> simp [hw, hwrites]
  have hown : ownRej o r (opened o r s) (opened o r s) = none := by
    simp only [ownRej, firstRej_cons_eq_none_iff, need_eq_none_iff, firstRej_nil, and_true]
    refine ⟨hsize, hcheck, ?_⟩
    cases hf : o.fromRoot with
    | false => rfl
    | true => rcases hroot hf with h | h <;> simp [h]
  have hpending : busyRej o r (opened o r s) (opened o r s) = none := by
    simp only [busyRej, firstRej_cons_eq_none_iff, firstRej_nil, and_true]
    exact ⟨transitionRej_eq_none o r _ fun hw => (hwrites hw).2, storeRej_of_none_waiting o r _ _ hcommits, hbusy⟩
  simp only [judge, firstRej_cons_eq_none_iff, firstRej_nil, and_true, projected_of_none_waiting hcommits]
  exact ⟨htransport, hready, hright, milestoneRej_of_none o r _ hms, hown, hpending⟩

/-! ### Writes -/

/-- A write staged on an empty pending store leaves its commit there alone. -/
theorem stageWrite_commits (o : Op) (r : Req) (s : State) (h : s.cmd.commits = []) : (stageWrite o r s).2.cmd.commits = [commitOf o r s] := by
  by_cases hcalendar : o = .calendarEnable
  · subst hcalendar; rw [stageWrite_of_calendarEnable, h]; rfl
  · by_cases himport : o = .calImport
    · subst himport; rw [stageWrite_of_calImport, h]; rfl
    · rw [stageWrite_of_plain o r s hcalendar himport]
      simp [h]

theorem stageWrite_shown (o : Op) (r : Req) (s : State) (h : o ≠ .calendarEnable) : (stageWrite o r s).1 = commitMs r s := by
  simp only [stageWrite, if_neg h]

/-- A usual write is answered DEFERRED while milestones exist, and else OK. -/
theorem write_completes (o : Op) (dt : Nat) (r : Req) (s : State) (hkind : o.kind = .write) (h : Usual o r (s.advance dt))
    (hcheck : o.check r (opened o r (s.advance dt)) (opened o r (s.advance dt)) = none)
    (hbusy : o.busy r (opened o r (s.advance dt)) (opened o r (s.advance dt)) = none)
    (hramp : ¬ (o = .rampStart ∧ rampIdle r (opened o r (s.advance dt)) = true)) : let v := opened o r (s.advance dt)
    (v.ready 3 = true → ∃ c t, exec (Op.instr o dt r) s = .next (finish (answered r (replyTo o.code r .deferred c (o.replyData r v))
        (restartLease r t))) ∧ t.cmd.commits = [commitOf o r v] ∧ (o ≠ .calendarEnable → c = commitMs r v)) ∧
    (v.ready 3 = false → exec (Op.instr o dt r) s = .next (finish (answered r (replyTo o.code r .ok 0 (o.replyData r v))
      (restartLease r (writeNow o r v))))) := by
  intro v
  have haccepts := accepts_of_usual h (by rw [hkind]; decide) hcheck hbusy
  obtain ⟨-, -, -, -, -, hcommits, -⟩ := h
  have hprojected : v.projected = v := projected_of_none_waiting hcommits
  refine ⟨fun hready => ⟨(stageWrite o r v).1, (stageWrite o r v).2, ?_, stageWrite_commits o r v hcommits, stageWrite_shown o r v⟩,
    fun hready => ?_⟩
  · have hacc := accepted_of_staged o r v hkind hramp hready
    rw [hprojected] at hacc
    exact exec_of_accepted o dt r s _ _ haccepts hacc
  · have hacc := accepted_of_untimed o r v hkind hramp hready
    rw [hprojected] at hacc
    exact exec_of_accepted o dt r s _ _ haccepts hacc

/-- The opcodes of kind W, in the order of the tables. -/
def writeOps : List Op := Op.all.filter (fun o => decide (o.kind = .write))

/-- Settles O12: the list is that of the opcodes of kind W, each with the command that carries it. -/
theorem writesComplete : Obligations.WritesComplete := by
  intro dt r s u x hx o v husual hcheck hbusy hramp
  have hrow : x ∈ writeOps.map (fun o => (o, Op.instr o dt r)) := hx
  obtain ⟨o', ho', rfl⟩ := List.mem_map.mp hrow
  exact write_completes o' dt r s (of_decide_eq_true (List.mem_filter.mp ho').2) husual hcheck hbusy hramp

/-! ### Reads -/

theorem mailboxDone_frame (q : Nat) (bytes : List Byte) (s : State) : OnlyIn [.cmd] s (mailboxDone q bytes s) := by
  unfold mailboxDone
  exact frame_ite (frame_refl _ s) (frame_ite (frame_step (frame_cmd s _) (frame_out _ _)) (frame_cmd s _))

theorem sendReply_port_of_pcie (r : Req) (p : Reply) (s : State) (q : Fin 4) (h : r.src = .pcie q) : (sendReply r p s).port = s.port := by
  simp only [sendReply, h, sendLocal]
  exact port_of_frame (mailboxDone_frame _ _ _)

theorem finish_answered_port (r : Req) (p : Reply) (s : State) (q : Fin 4) (h : r.src = .pcie q) :
    (finish (answered r p (restartLease r s))).port = s.port := by
  have hlease : (restartLease r s).port = s.port := by unfold restartLease; split <;> rfl
  rw [port_of_frame (frame_finish (frame_refl [] _)), answered, sendReply_port_of_pcie _ _ _ q h, ← hlease]
  simp only [cacheReply, h, State.setSeq]
  rfl

/-- Refutes O11: PTP_STATUS first takes the state decision of every PTP port. P0, a slave that hears no master any more, is a master
after the read, while a state that differs in the lanes and the free index alone would leave it a slave. -/
theorem not_readsAndPendingSetsComplete : ¬ Obligations.ReadsAndPendingSetsComplete := by
  intro h
  obtain ⟨-, hports, -⟩ := h 0 (Tests.pkt [0, 0, 0, 0]) (Tests.ptpAt 9)
  have husual : Usual .ptpStatus (Tests.pkt [0, 0, 0, 0]) ((Tests.ptpAt 9).advance 0) :=
    Tests.usual _ _ _ (by decide) (by decide +kernel) (by decide +kernel)
  have haccepts : Accepts .ptpStatus (Tests.pkt [0, 0, 0, 0]) ((Tests.ptpAt 9).advance 0) :=
    Tests.accepts _ _ _ (by decide) (by decide +kernel) (by decide +kernel)
  obtain ⟨n, lanes, hclaimed⟩ := hports (.ptpStatus, .ptpStatus 0 (Tests.pkt [0, 0, 0, 0])) (by simp) husual (by decide +kernel)
  have hact := exec_of_accepted .ptpStatus 0 _ (Tests.ptpAt 9) _ _ haccepts (accepted_of_action .ptpStatus _ _ (by decide))
  have hsame := hclaimed.symm.trans hact
  have hlinks : (opened .ptpStatus (Tests.pkt [0, 0, 0, 0]) ((Tests.ptpAt 9).advance 0)).port.links =
      (ptpRun (opened .ptpStatus (Tests.pkt [0, 0, 0, 0]) ((Tests.ptpAt 9).advance 0))).port.links := by
    have hport := congrArg State.port (Host.Outcome.next.inj hsame)
    rw [finish_answered_port (Tests.pkt _) _ _ 0 rfl, finish_answered_port (Tests.pkt _) _ _ 0 rfl] at hport
    have hlinks := congrArg PortState.links hport
    exact hlinks
  revert hlinks
  decide +kernel


end Sys2Proof.Machine
end

section
/-! SUPPORT. What comes in-band: enrolment (R249, R252), which marks the entries of the reference table that close a loop (R245), and
the announcements of a manager (R42, R259). -/

namespace Sys2Proof.Machine

set_option Elab.async false

/-! ### Entries of the reference table that lose their signal -/

/-- A last step that is taken in some cases only. -/
theorem frame_when {cs ds : List Mod} {s t u : State} {c : Prop} [Decidable c] (h : OnlyIn cs s t) (hu : OnlyIn ds t u)
    (hs : ∀ m ∈ ds, m ∈ cs := by decide) : OnlyIn cs s (if c then u else t) := frame_ite (frame_step h hu hs) h

theorem frame_unless {cs ds : List Mod} {s t u : State} {c : Prop} [Decidable c] (h : OnlyIn cs s t) (hu : OnlyIn ds t u)
    (hs : ∀ m ∈ ds, m ∈ cs := by decide) : OnlyIn cs s (if c then t else u) := frame_ite h (frame_step h hu hs)

theorem setMon_frame (e : Nat) (m : RefMon) (s : State) : OnlyIn [.ref] s (s.setMon e m) := frame_ref s _

theorem histFault_frame (s : State) : OnlyIn [.ref] s (histFault s) := frame_ref s _

theorem disqualify_frame (e n : Nat) (s : State) : OnlyIn [.ref] s (disqualify e n s) := by
  unfold disqualify
  extract_lets m ranked a b
  have hb : OnlyIn [.ref] s b := frame_when (setMon_frame e _ s) (frame_raise _ _ _ a)
  exact frame_when hb (histFault_frame b)

theorem signalLoss_frame (e : Nat) (s : State) : OnlyIn [.ref] s (signalLoss e s) := by
  unfold signalLoss
  extract_lets m a
  exact frame_ite (frame_refl _ s) (frame_unless (setMon_frame e _ s) (disqualify_frame e 2 a))

theorem loopCheck_frame (q : Nat) (s : State) : OnlyIn [.ref] s (loopCheck q s) := by
  unfold loopCheck
  extract_lets closes
  refine frame_foldl (fun t e => ?_) _ s
  extract_lets r m a
  have ha : OnlyIn [.ref] t a := setMon_frame e _ t
  exact frame_ite (frame_refl _ t) (frame_when ha (frame_step (cs := [.ref]) (frame_within (frame_raise _ _ _ a)) (signalLoss_frame e _)))

theorem loopChecks_frame (s : State) : OnlyIn [.ref] s (loopChecks s) := frame_foldl (fun t q => loopCheck_frame q t) _ s

/-! ### Enrolment -/

theorem place_of_frame {cs : List Mod} {s t : State} (h : OnlyIn cs s t) (hc : Mod.hier ∉ cs := by decide) :
    t.hier.node = s.hier.node ∧ t.hier.manager = s.hier.manager ∧ t.hier.depth = s.hier.depth := by
  have hhier : Mod.same .hier s t := h .hier (by decide) hc
  simp only [Mod.same, HierState.mk.injEq] at hhier
  simp only [hhier, and_self]

theorem placeEvent_takePlace (port : Nat) (q : List Byte) (s : State) : placeEvent (takePlace port q s) =
    node4 (BitVec.ofNat 18 (fld q 0 4)) ++ node4 (BitVec.ofNat 18 (fld q 8 4)) ++ [BitVec.ofNat 8 (fld q 12 1)] := by
  obtain ⟨hnode, hmanager, hdepth⟩ := place_of_frame (loopChecks_frame { s with
    hier.node := BitVec.ofNat 18 (fld q 0 4), hier.last := BitVec.ofNat 18 (fld q 4 4)
    hier.manager := BitVec.ofNat 18 (fld q 8 4), hier.depth := fld q 12 1
    hier.parent := s.candOf port, hier.parentPort := if (s.candOf port).isSome then none else some port })
  simp only [placeEvent, takePlace, hnode, hmanager, hdepth]

/-- An ENROLL_REQ that an UNENROLLED device receives with a tag goes through R249. -/
theorem exec_enrollReq (dt : Nat) (r : Req) (port : Nat) (node : BitVec 18) (sendMs : Milestone) (hops : Nat) (s : State)
    (hsrc : r.src = .inband port node sendMs hops) (hreceives : (s.advance dt).receives ((s.advance dt).timingLport port) = true)
    (hingress : (s.advance dt).ingressStopped = false) (hready : (s.advance dt).ready 10 = true) (htag : r.tag.isSome = true)
    (hrole : (s.advance dt).hier.role = .unenrolled) : exec (.enrollReq dt r) s =
      .next (finish (enrolFresh 0x0D10 port hops node r (inbandFields node sendMs) (r.body 0x0D10) (s.advance dt))) := by
  have hnone : r.tag.isNone = false := by simpa using htag
  rw [show Instr.enrollReq dt r = Op.instr .enrollReq dt r from rfl, exec_instr, show Op.enrollReq.code = 0x0D10 from rfl]
  simp only [arrive, hsrc, hreceives, hingress, Bool.not_false, Bool.and_true, if_true, inbandPacket, hready, Bool.not_true,
    Bool.false_eq_true, if_false, hnone, hrole]

section
variable (port hops : Nat) (node : BitVec 18) (r : Req) (fields signed : List Byte) (s : State) (hopen : r.target = 0 ∧ r.kind = 0)
include hopen

theorem enrolFresh_of_no_device_key (hdev : s.hier.deviceKey = none) : enrolFresh 0x0D10 port hops node r fields signed s = countDevice 2 s := by
  simp only [enrolFresh, hopen, hdev, ne_eq, not_true, or_self, if_false]

theorem enrolFresh_of_unwrap_fails {dev : List Byte} (hdev : s.hier.deviceKey = some dev)
    (hwrap : keyUnwrap dev ((r.params.drop 16).take 40) = none) : enrolFresh 0x0D10 port hops node r fields signed s = authFail port s := by
  simp only [enrolFresh, hopen, hdev, hwrap, ne_eq, not_true, or_self, if_false]

theorem enrolFresh_of_bad_tag {dev k : List Byte} (hdev : s.hier.deviceKey = some dev)
    (hwrap : keyUnwrap dev ((r.params.drop 16).take 40) = some k) (htag : r.tag ≠ some (tagOf k (fields ++ signed))) :
    enrolFresh 0x0D10 port hops node r fields signed s = authFail port s := by
  simp only [enrolFresh, hopen, hdev, hwrap, htag, ne_eq, not_true, not_false_eq_true, or_self, if_false, if_true]

theorem enrolFresh_of_taken {dev k : List Byte} (hdev : s.hier.deviceKey = some dev)
    (hwrap : keyUnwrap dev ((r.params.drop 16).take 40) = some k) (htag : r.tag = some (tagOf k (fields ++ signed))) (hhops : hops ≤ 16)
    (hhead : headerRej 0x0D10 r 1 = none) (hready : s.ready 3 = true) (hfields : enrolFields r.params = none) {t : State}
    (ht : t = takePlace port r.params { s with
      hier.role := .enrolled, hier.fabricKey := some k, hier.keyInUse := true, hier.oldKey := none, hier.noParentSince := none }) :
    enrolFresh 0x0D10 port hops node r fields signed s =
      sendTagged k port ((replyTo 0x0D10 r .ok 0 []).body node true) (raise .note 0x7101 (placeEvent t) t) := by
  have hlimit : ¬ 17 ≤ hops := by omega
  have hnone : firstRej [headerRej 0x0D10 r 1, need (s.ready 3) (refused .notReady 3), enrolFields r.params] = none := by
    simp only [firstRej_cons_eq_none_iff, need_eq_none_iff, firstRej_nil, and_true]
    exact ⟨hhead, hready, hfields⟩
  simp only [enrolFresh, hopen, hdev, hwrap, htag, hlimit, hnone, ne_eq, not_true, or_self, if_false, ht]

end

/-- Settles O21: the four outcomes of R249, in the order in which they are judged. That ENROLL_REQ is taken without the freshness
check, and that a key that does not unwrap counts and is recorded as AUTH_FAIL, is log entry 14. -/
theorem enrolmentTakesThePlaceNamed : Obligations.EnrolmentTakesThePlaceNamed := by
  intro dt r port node sendMs hops s u hsrc hreceives hingress hready htag hrole htarget hkind q full
  have hopen : r.target = 0 ∧ r.kind = 0 := ⟨htarget, hkind⟩
  rw [exec_enrollReq dt r port node sendMs hops s hsrc hreceives hingress hready htag hrole]
  refine ⟨fun hdev => ?_, fun dev hdev hwrap => ?_, fun dev k hdev hwrap hbad => ?_, ?_⟩
  · rw [enrolFresh_of_no_device_key port hops node r _ _ _ hopen hdev]
  · rw [enrolFresh_of_unwrap_fails port hops node r _ _ _ hopen hdev hwrap, authFail]
  · rw [enrolFresh_of_bad_tag port hops node r _ _ _ hopen hdev hwrap hbad, authFail]
  · intro dev k hdev hwrap hgood hhops hversion hflags hrsv hms hmilestones hlen hn1 hn2 hn3 hm1 hm2 hd1 hd2 hzero v
    have hhead : headerRej 0x0D10 r 1 = none := headerRej_eq_none .enrollReq r hversion hkind hflags hrsv (by simp [hms])
    have hfields : enrolFields r.params = none := by
      simp only [enrolFields, firstRej_cons_eq_none_iff, need_eq_none_iff, within_eq_none_iff, rsvOk, firstRej_nil, and_true,
        decide_eq_true_eq]
      exact ⟨hlen, ⟨hn1, hn2.trans hn3⟩, ⟨hn2, hn3⟩, ⟨hm1, hm2⟩, ⟨hd1, hd2⟩, hzero⟩
    rw [enrolFresh_of_taken port hops node r _ _ _ hopen hdev hwrap hgood hhops hhead hmilestones hfields rfl, placeEvent_takePlace]
    rfl

/-! ### Announcements -/

/-- A command in-band for this device alone is dispatched in the state after its freshness check (R252 to R255). -/
theorem exec_of_inband_command {o : Op} {r : Req} {port : Nat} {node : BitVec 18} {dt : Nat} {s w : State}
    (hcomes : ComesInband o r port node (s.advance dt) w) :
    exec (Op.instr o dt r) s = .next (finish (commandInband o.code port node r w)) := by
  obtain ⟨sendMs, hops, k, hsrc, hsized, hreceives, hingress, hready, htagged, hrole, hkey, htag, hhops, hversion, hkind, hflags,
    htarget, hsingle, hms, hhop, hfresh⟩ := hcomes
  have hnone : r.tag.isNone = false := by simpa using htagged
  have hhandles : (s.advance dt).handles port r = true := by simp [State.handles, hhop]
  have hlimit : ¬ (17 ≤ hops ∨ 3 ≤ 0) := by omega
  have hhead := headerRej_eq_none o r hversion hkind hflags htarget hms
  rw [exec_instr]
  simp only [arrive, hsrc, hreceives, hingress, Bool.not_false, Bool.and_true, if_true, inbandPacket, hready, Bool.not_true,
    Bool.false_eq_true, if_false, hnone, hrole, hkey, hsized, Bool.false_and, htag, hlimit, hhandles, handleInband, hkind, hhead,
    hfresh, hsingle]

theorem commandInband_of_announcement (o : Op) (port : Nat) (node : BitVec 18) (r : Req) (w : State) (h : isAnnouncement o = true) :
    commandInband o.code port node r w = announcement o port node r w := by
  unfold commandInband
  rw [ofCode_code]
  split
  · next heq => rw [Option.some.inj heq] at h; exact absurd h (by decide)
  · next heq => rw [Option.some.inj heq] at h; exact absurd h (by decide)
  · simp only [Option.filter_some, h, if_true]

section
variable (o : Op) (port : Nat) (node : BitVec 18) (r : Req) (w : State)

theorem announcement_from_elsewhere (h : ¬ (w.hier.role = .enrolled ∧ node = w.hier.manager ∧ w.upPort = some port)) :
    announcement o port node r w = raise .error 0x7108 (toBe 2 o.code ++ [BitVec.ofNat 8 Reason.mode.code]) w := by
  have hneed : need (decide (w.hier.role = .enrolled ∧ node = w.hier.manager ∧ w.upPort = some port)) (refused .mode 0) =
      some (refused .mode 0) := by rw [need, decide_eq_false h]; rfl
  simp only [announcement, hneed, firstRej_cons_some]
  rfl

variable (hpasses : firstRej [need (decide (w.hier.role = .enrolled ∧ node = w.hier.manager ∧ w.upPort = some port)) (refused .mode 0),
  readinessRej o r w, sizeCheck o r.params, o.check r w w, need (decide (w.cmd.commits.length < 256)) (refused .tableFull 0)] = none)
include hpasses

theorem announcement_of_late_step (hlate : later (BitVec.ofNat 56 (fld r.params 0 8)) w.ms = false) (hstep : o = .announceStep) :
    announcement o port node r w = restartLease r w := by
  subst hstep
  simp only [announcement, hpasses, hlate, Bool.not_false, decide_true, Bool.and_self, if_true]

theorem announcement_of_staged {q : Req} (hstaged : stageAnnouncement o r w = some q) {x : State}
    (hx : x = if later (BitVec.ofNat 56 (fld r.params 0 8)) w.ms = true then w else raise .warn 0x7107 (toBe 2 o.code) w)
    (htimely : o ≠ .announceStep ∨ later (BitVec.ofNat 56 (fld r.params 0 8)) w.ms = true) :
    announcement o port node r w = restartLease r (announceWrite o r (BitVec.ofNat 56 (fld r.params 0 8)) x { x with
      cmd.commits := x.cmd.commits ++
        [{ ms := if later (BitVec.ofNat 56 (fld r.params 0 8)) w.ms = true then BitVec.ofNat 56 (fld r.params 0 8) else w.nextMs
           op := o, req := q, choice := 0 }] }) := by
  cases hlater : later (BitVec.ofNat 56 (fld r.params 0 8)) w.ms with
  | true =>
    subst hx
    simp only [announcement, hpasses, hlater, hstaged, Bool.not_true, Bool.false_and, Bool.false_eq_true, if_false, if_true]
  | false =>
    have hstep : decide (o = .announceStep) = false := decide_eq_false (htimely.resolve_right (by simp [hlater]))
    rw [hlater, if_neg (by simp)] at hx
    subst hx
    have hnext : (raise .warn 0x7107 (toBe 2 o.code) w).nextMs = w.nextMs := by simp [State.nextMs, State.ms]
    simp only [announcement, hpasses, hlater, hstaged, hstep, hnext, Bool.not_false, Bool.and_false, Bool.false_eq_true, if_false, if_true]

end

theorem stageAnnouncement_of_plain (o : Op) (r : Req) (w : State) (h : o ≠ .announceKey) : stageAnnouncement o r w = some r := by
  simp only [stageAnnouncement, if_neg h]

theorem stageAnnouncement_of_key (r : Req) (w : State) {k key : List Byte} (hk : w.keyNow = some k)
    (hwrap : keyUnwrap k ((r.params.drop 8).take 40) = some key) :
    stageAnnouncement .announceKey r w = some { r with params := key } := by
  simp only [stageAnnouncement, if_true, hk, hwrap, Option.map_some]

theorem announcement_passes {o : Op} {port : Nat} {node : BitVec 18} {r : Req} {w : State} (hrole : w.hier.role = .enrolled)
    (hnode : node = w.hier.manager) (hup : w.upPort = some port) (hready : readinessRej o r w = none) (hsize : sizeCheck o r.params = none)
    (hcheck : o.check r w w = none) (hroom : w.cmd.commits.length < 256) :
    firstRej [need (decide (w.hier.role = .enrolled ∧ node = w.hier.manager ∧ w.upPort = some port)) (refused .mode 0),
      readinessRej o r w, sizeCheck o r.params, o.check r w w,
      need (decide (w.cmd.commits.length < 256)) (refused .tableFull 0)] = none := by
  simp only [firstRej_cons_eq_none_iff, need_eq_none_iff, decide_eq_true_eq, firstRej_nil, and_true]
  exact ⟨⟨hrole, hnode, hup⟩, hready, hsize, hcheck, hroom⟩

@[simp] theorem restartLease_commits (r : Req) (s : State) : (restartLease r s).cmd.commits = s.cmd.commits := by
  unfold restartLease; split <;> rfl

@[simp] theorem finish_commits (s : State) : (finish s).cmd.commits = s.cmd.commits := commits_of_frame (frame_finish (frame_refl [] s))

/-- Settles O23: refused from elsewhere, and otherwise staged for its milestone or the next and passed on. That a late announcement is
passed on with the milestone it names is log entry 15. -/
theorem announcementsWaitForTheirMilestone : Obligations.AnnouncementsWaitForTheirMilestone := by
  refine ⟨?_, ?_⟩
  · intro dt r port node s w u x hx m hcomes hrole hnode hup hready hsize hcheck hroom hlater hkey
    have hrow : x.2 = Op.instr x.1 dt r ∧ isAnnouncement x.1 = true := by
      simp only [List.mem_cons, List.not_mem_nil, or_false] at hx
      rcases hx with rfl | rfl | rfl | rfl | rfl <;> exact ⟨rfl, rfl⟩
    have hpasses := announcement_passes hrole hnode hup hready hsize hcheck hroom
    have hstaged : ∃ q, stageAnnouncement x.1 r w = some q := by
      by_cases hk : x.1 = .announceKey
      · obtain ⟨k, key, hin, hwrap⟩ := hkey hk
        exact ⟨_, hk ▸ stageAnnouncement_of_key r w hin hwrap⟩
      · exact ⟨r, stageAnnouncement_of_plain _ r w hk⟩
    obtain ⟨q, hq⟩ := hstaged
    rw [hrow.1, Runs, exec_of_inband_command hcomes, commandInband_of_announcement _ port node r w hrow.2,
      announcement_of_staged x.1 port node r w hpasses hq rfl (.inr hlater)]
    refine ⟨_, rfl, { ms := m, op := x.1, req := q, choice := 0 }, ?_, rfl, rfl⟩
    simp only [finish_commits, restartLease_commits, announceWrite_commits]
    have hin : later (BitVec.ofNat 56 (fld r.params 0 8)) w.ms = true := hlater
    rw [if_pos hin, if_pos hin]
  · intro o dt r port node s w u m hcomes ho
    have hexec := exec_of_inband_command hcomes
    rw [commandInband_of_announcement o port node r w ho] at hexec
    refine ⟨fun h => by rw [hexec, announcement_from_elsewhere o port node r w h], ?_⟩
    intro hrole hnode hup hready hsize hcheck hroom
    have hpasses := announcement_passes hrole hnode hup hready hsize hcheck hroom
    refine ⟨fun hlate hstep => by rw [hexec, announcement_of_late_step o port node r w hpasses hlate hstep],
      fun x hx htimely => ⟨fun hplain => ?_, ?_⟩⟩
    · rw [hexec, announcement_of_staged o port node r w hpasses (stageAnnouncement_of_plain o r w hplain) hx htimely]
    · rintro rfl k key hk hwrap
      rw [hexec, announcement_of_staged _ port node r w hpasses (stageAnnouncement_of_key r w hk hwrap) hx htimely]

end Sys2Proof.Machine
end

section
/-! SUPPORT. What a milestone does to the pending store (R20, R43, R300). -/

namespace Sys2Proof.Machine

set_option Elab.async false

theorem alarmsReached_of_noAlarm (s : State) (h : NoAlarm s) : alarmsReached s = s := by
  have hfold : ∀ l : List Nat, l.foldl (fun s u =>
      if decide ((s.unit u).function = 3) && !(s.unit u).latePending then compareFire u s else s) s = s := by
    intro l
    induction l with
    | nil => rfl
    | cons u l ih => rw [List.foldl_cons, decide_eq_false (h u), Bool.false_and, if_neg (by decide), ih]
  exact hfold _

/-- The commits of a milestone that keep the count apply first, and those that move it last (R43, R300), where the milestone latches
no snapshot and no wake alarm is set. -/
theorem applyDue_of_quiet (s : State) (cs : List Commit) (hdue : (sortCommits s.cmd.commits).filter s.due = cs) (hlatch : s.latchDue cs = false)
    (hquiet : (cs.any fun c => Op.moves c.op) = true →
      NoAlarm ((cs.filter fun c => !Op.moves c.op).foldl applyCommit { s with cmd.commits := s.cmd.commits.filter fun c => !s.due c })) :
    applyDue s = (cs.filter fun c => Op.moves c.op).foldl applyCommit
      ((cs.filter fun c => !Op.moves c.op).foldl applyCommit { s with cmd.commits := s.cmd.commits.filter fun c => !s.due c }) := by
  simp only [applyDue, hdue, hlatch, Bool.false_eq_true, if_false]
  split
  · next hmoves => rw [alarmsReached_of_noAlarm _ (hquiet hmoves)]
  · next hmoves =>
    have hnone : (cs.filter fun c => Op.moves c.op) = [] := by simpa using hmoves
    rw [hnone, List.foldl_nil]

theorem sortCommits_pair (a b : Commit) : sortCommits [a, b] = if later a.ms b.ms = true then [b, a] else [a, b] := rfl

section
variable (s : State) (a b : Commit)

/-- What falls due of a pair in milestone order. -/
theorem due_of_pair (hpair : s.cmd.commits = [a, b]) (horder : later a.ms b.ms = false) (ha : s.due a = true) (hb : s.due b = true) :
    (sortCommits s.cmd.commits).filter s.due = [a, b] ∧ (s.cmd.commits.filter fun c => !s.due c) = [] := by
  rw [hpair, sortCommits_pair, horder]
  simp [ha, hb]

theorem due_of_pair_second (hpair : s.cmd.commits = [a, b]) (ha : s.due a = false) (hb : s.due b = true) :
    (sortCommits s.cmd.commits).filter s.due = [b] ∧ (s.cmd.commits.filter fun c => !s.due c) = [a] := by
  rw [hpair, sortCommits_pair]
  split <;> simp [ha, hb]

end

theorem placeCommit_mem (c x : Commit) (l : List Commit) : x ∈ placeCommit c l ↔ x = c ∨ x ∈ l := by
  induction l with
  | nil => simp [placeCommit]
  | cons y l ih =>
    simp only [placeCommit]
    split
    · simp
    · simp only [List.mem_cons, ih]; tauto

theorem sortCommits_mem (x : Commit) (l : List Commit) : x ∈ sortCommits l ↔ x ∈ l := by
  have hfold : ∀ (l k : List Commit), x ∈ l.foldl (fun l c => placeCommit c l) k ↔ x ∈ l ∨ x ∈ k := by
    intro l
    induction l with
    | nil => simp
    | cons c l ih => intro k; rw [List.foldl_cons, ih, placeCommit_mem, List.mem_cons]; tauto
  rw [sortCommits, hfold]
  simp

/-- A milestone at which nothing falls due changes nothing. -/
theorem applyDue_of_none_due (s : State) (hwait : ∀ c ∈ s.cmd.commits, s.due c = false) (hlatch : s.latchDue [] = false) :
    applyDue s = s := by
  have hdue : (sortCommits s.cmd.commits).filter s.due = [] := by
    simp only [List.filter_eq_nil_iff, sortCommits_mem]
    intro c hc
    simp [hwait c hc]
  have hrest : (s.cmd.commits.filter fun c => !s.due c) = s.cmd.commits := by
    simp only [List.filter_eq_self]
    intro c hc
    simp [hwait c hc]
  rw [applyDue_of_quiet s [] hdue hlatch (by simp), hrest]
  rfl

theorem noAlarm_commits (s : State) (cs : List Commit) (h : NoAlarm s) : NoAlarm { s with cmd.commits := cs } := h

/-- Settles O24: the due commits in order, those that move the count last, which is log entry 7. -/
theorem milestonesApplyDueCommits : Obligations.MilestonesApplyDueCommits := by
  intro dt s u
  have leads : ∀ t, u.time.running = true → applyDue u = t → Leads (.configurationCommit dt) s t := fun t hrun h =>
    leads_configurationCommit ((commitNow_of_running u hrun).trans h)
  refine ⟨fun c hrun hone hdue hlatch hquiet => leads _ hrun ?_, fun a b hrun hpair ha hb horder hlatch hafter hquiet => leads _ hrun ?_,
    fun a b hrun hpair ha hb horder hlatch hmoves hstays hquiet => leads _ hrun ?_,
    fun a b hrun hpair ha hb hlatch hquiet => leads _ hrun ?_, fun hrun hwait hlatch => leads _ hrun ?_, fun hrun => ?_⟩
  · have hcs : (sortCommits u.cmd.commits).filter u.due = [c] := by simp [hone, sortCommits_singleton, hdue]
    have hrest : (u.cmd.commits.filter fun c => !u.due c) = [] := by simp [hone, hdue]
    rw [applyDue_of_quiet u [c] hcs hlatch, hrest]
    · cases hmove : Op.moves c.op <;> simp [hmove, applyCommit]
    · cases hmove : Op.moves c.op <;> simp [hmove, noAlarm_commits, hquiet]
  · obtain ⟨hcs, hrest⟩ := due_of_pair u a b hpair horder ha hb
    rw [applyDue_of_quiet u [a, b] hcs hlatch, hrest]
    · cases hmoveA : Op.moves a.op <;> cases hmoveB : Op.moves b.op <;> simp_all [applyCommit]
    · cases hmoveA : Op.moves a.op <;> cases hmoveB : Op.moves b.op <;> simp_all [applyCommit, noAlarm_commits]
  · obtain ⟨hcs, hrest⟩ := due_of_pair u a b hpair horder ha hb
    rw [applyDue_of_quiet u [a, b] hcs hlatch, hrest]
    · simp [hmoves, hstays, applyCommit]
    · rw [hrest]; simpa [hmoves, hstays, applyCommit] using hquiet
  · obtain ⟨hcs, hrest⟩ := due_of_pair_second u a b hpair ha hb
    rw [applyDue_of_quiet u [b] hcs hlatch, hrest]
    · cases hmove : Op.moves b.op <;> simp [hmove, applyCommit]
    · cases hmove : Op.moves b.op <;> simp [hmove, noAlarm_commits, hquiet]
  · refine applyDue_of_none_due u (fun c hc => ?_) hlatch
    rcases hwait c hc with h | h <;> simp [State.due, h]
  · exact leads_configurationCommit (if_neg (by rw [hrun]; decide))

end Sys2Proof.Machine
end

section
/-! SUPPORT. What the settings and table writes leave (R311, Tables 13.2 to 13.13): the tables of routes, addresses and lanes, and
the statements of O26 to O28. -/

namespace Sys2Proof.Machine

set_option Elab.async false

/-- Settles O26: each setting is the field at its offset, by the definition of what its write applies. -/
theorem settingsTakeTheirValues : Obligations.SettingsTakeTheirValues := by
  intro r c s q
  refine ⟨rfl, rfl, rfl, rfl, rfl, rfl, rfl, rfl, rfl, rfl, rfl, rfl, ?_⟩
  refine ⟨_, rfl, rfl, fun i hi => ?_, fun i hi => ?_⟩ <;> simp [getAt, List.getElem?_range hi, q]

/-! ### Tables of entries with a key -/

section
variable {α κ : Type} [DecidableEq κ]

/-- A list with the entry of a key added or replaced. -/
def putBy (key : α → κ) (t : List α) (e : α) : List α :=
  if t.any (fun x => decide (key x = key e)) then t.map (fun x => if key x = key e then e else x) else t ++ [e]

theorem mem_putBy (key : α → κ) (t : List α) (e : α) : e ∈ putBy key t e := by
  unfold putBy
  split
  · next h =>
    obtain ⟨x, hx, hkey⟩ := List.any_eq_true.mp h
    exact List.mem_map.mpr ⟨x, hx, if_pos (of_decide_eq_true hkey)⟩
  · simp

theorem mem_putBy_other (key : α → κ) (t : List α) (e x : α) (hkey : key x ≠ key e) : x ∈ putBy key t e ↔ x ∈ t := by
  have hne : x ≠ e := fun h => hkey (h ▸ rfl)
  unfold putBy
  split
  · rw [List.mem_map]
    refine ⟨?_, fun hx => ⟨x, hx, if_neg hkey⟩⟩
    rintro ⟨y, hy, heq⟩
    split at heq
    · exact absurd heq.symm hne
    · exact heq ▸ hy
  · simp [hne]

theorem eq_of_mem_putBy (key : α → κ) (t : List α) (e x : α) (hx : x ∈ putBy key t e) (hkey : key x = key e) : x = e := by
  unfold putBy at hx
  split at hx
  · obtain ⟨y, -, heq⟩ := List.mem_map.mp hx
    split at heq
    · exact heq.symm
    · next hy => exact absurd (heq ▸ hkey) hy
  · next hnone =>
    rcases List.mem_append.mp hx with hx | hx
    · exact absurd (List.any_eq_true.mpr ⟨x, hx, decide_eq_true hkey⟩) hnone
    · exact List.mem_singleton.mp hx

end

theorem putL2_eq (t : List L2Entry) (e : L2Entry) : putL2 t e = putBy (fun x => (x.vid, x.mac)) t e := by
  simp only [putL2, putBy, Prod.mk.injEq]

theorem putRoute_eq (t : List Route) (e : Route) : putRoute t e = putBy (fun x => (x.plen, x.addr)) t e := by
  simp only [putRoute, putBy, Prod.mk.injEq]

theorem tfind_tput_other {β : Type} (t : Tbl β) (k j : Nat) (v : β) (h : j ≠ k) : tfind (tput t k v) j = tfind t j := by
  induction t with
  | nil => simp [tput, tfind, Ne.symm h]
  | cons e t ih =>
    obtain ⟨i, w⟩ := e
    simp only [tput]
    split
    · simp only [tfind, ih]
    · split
      · next hi => simp [tfind, hi, Ne.symm h]
      · simp [tfind, Ne.symm h]

theorem tfind_tput {β : Type} (t : Tbl β) (k j : Nat) (v : β) : tfind (tput t k v) j = if j = k then some v else tfind t j := by
  split
  · next h => rw [h, tfind_tput_same]
  · next h => exact tfind_tput_other t k j v h

theorem tget_tput {β : Type} (t : Tbl β) (k j : Nat) (v d : β) : tget (tput t k v) j d = if j = k then v else tget t j d := by
  split
  · next h => rw [h, tget_tput_same]
  · next h => exact tget_tput_other t k j v d h

theorem tfind_eq_none_of_not_mem {β : Type} (t : Tbl β) (k : Nat) (h : ∀ e ∈ t, e.1 ≠ k) : tfind t k = none := by
  induction t with
  | nil => rfl
  | cons e t ih =>
    rw [List.forall_mem_cons] at h
    rw [tfind, if_neg h.1, ih h.2]

@[simp] theorem routes_setRoutes_same (s : State) (t : Nat) (rs : List Route) (ht : t < 3) : (s.setRoutes t rs).routes t = rs := by
  interval_cases t <;> rfl

theorem ecmpWrite_group (r : Req) (s : State) (g : Nat) :
    tget (if (ecmpMembers r).isEmpty then tdel s.fwd.ecmp (fld r.params 0 2) else tput s.fwd.ecmp (fld r.params 0 2) (ecmpMembers r)) g [] =
      if g = fld r.params 0 2 then ecmpMembers r else tget s.fwd.ecmp g [] := by
  split
  · next hempty =>
    rw [List.isEmpty_iff.mp hempty]
    split
    · next h => rw [h, tget_tdel_same]
    · next h => exact tget_tdel_other _ _ _ _ h
  · exact tget_tput _ _ _ _ _

theorem lpmDelete_routes (r : Req) (c : Nat) (s : State) (t : Nat) (ht : t < 3) : (Op.apply .lpmDelete r c s).routes t =
    (s.routes t).filter (fun e => !(lpmKeys r).contains (t, e.plen, e.addr)) := by
  interval_cases t <;> rfl

/-- Settles O27: the tables of addresses and routes keep one entry a key, the others are tables by number. -/
theorem tableWritesSetTheirEntries : Obligations.TableWritesSetTheirEntries := by
  intro r c s x q
  refine ⟨fun hone => ⟨_, rfl, ?_⟩, ⟨_, rfl, fun e => ?_⟩, fun hone => ?_, fun t ht e => ?_, fun hone => ⟨_, rfl, fun i => ?_⟩,
    ⟨_, rfl, fun g => ecmpWrite_group r s g⟩, fun hone => ⟨_, rfl, fun g => ?_⟩, fun hone => ⟨_, rfl, ?_⟩,
    ⟨_, rfl, fun i hlo hhi => ?_⟩⟩
  · have hl2 : ((entries r.params 12).map l2Entry).foldl putL2 s.fwd.l2 = putBy (fun x => (x.vid, x.mac)) s.fwd.l2 (l2Entry x) := by
      rw [show entries r.params 12 = [x] from hone]; exact putL2_eq _ _
    rw [hl2]
    exact ⟨mem_putBy _ _ _, fun e hkey => mem_putBy_other _ _ _ e hkey, fun e he hkey => eq_of_mem_putBy _ _ _ e he hkey⟩
  · simp [List.mem_filter]
  · refine ⟨putRoute (s.routes (lpmEntry x).1) (lpmEntry x).2, ?_, ?_⟩
    · simp only [Op.apply, applyLpmWrite]
      rw [show entries r.params 24 = [x] from hone]
      rfl
    · rw [putRoute_eq]
      exact ⟨mem_putBy _ _ _, fun e hkey => mem_putBy_other _ _ _ e hkey, fun e he hkey => eq_of_mem_putBy _ _ _ e he hkey⟩
  · rw [lpmDelete_routes r c s t ht]
    simp [List.mem_filter]
  · rw [show entries r.params 16 = [x] from hone]
    exact tfind_tput _ _ _ _
  · rw [show entries r.params 52 = [x] from hone]
    exact tget_tput _ _ _ _ _
  · rw [show entries r.params 140 = [x] from hone]
    exact tfind_tput_same _ _ _
  · refine tfind_eq_none_of_not_mem _ i fun e he heq => ?_
    have hkept := (List.mem_filter.mp he).2
    rw [heq, decide_eq_true (show fld r.params 0 2 ≤ i ∧ i < fld r.params 0 2 + fld r.params 2 2 from ⟨hlo, hhi⟩)] at hkept
    exact absurd hkept (by simp)

/-! ### Settings of lanes, logical ports and queues -/

/-- What a write to some lanes of a port leaves in the table of lanes. -/
def lanesAfter (port : Nat) (f : Nat → Lane → Lane) (ks : List Nat) (t : Tbl Lane) : Tbl Lane :=
  ks.foldl (fun t k => tput t (8 * port + k) (f k (tget t (8 * port + k) {}))) t

theorem onLanes_eq (port m : Nat) (f : Nat → Lane → Lane) (s : State) :
    onLanes port m f s = { s with port.lanes := lanesAfter port f (maskLanes m) s.port.lanes } := by
  have hfold : ∀ (ks : List Nat) (s : State), ks.foldl (fun s k => s.setLane port k (f k (s.lane port k))) s =
      { s with port.lanes := lanesAfter port f ks s.port.lanes } := by
    intro ks
    induction ks with
    | nil => intro s; rfl
    | cons k ks ih => intro s; rw [List.foldl_cons, ih]; rfl
  exact hfold _ s

theorem tget_lanesAfter (port : Nat) (f : Nat → Lane → Lane) (ks : List Nat) (hks : ks.Nodup) (hsmall : ∀ k ∈ ks, k < 8) (t : Tbl Lane)
    (i k : Nat) (hk : k < 8) : tget (lanesAfter port f ks t) (8 * i + k) {} =
      if i = port ∧ k ∈ ks then f k (tget t (8 * i + k) {}) else tget t (8 * i + k) {} := by
  induction ks generalizing t with
  | nil => simp [lanesAfter]
  | cons j ks ih =>
    rw [List.nodup_cons] at hks
    rw [List.forall_mem_cons] at hsmall
    rw [lanesAfter, List.foldl_cons, ← lanesAfter, ih hks.2 hsmall.2, tget_tput]
    have hsame : 8 * i + k = 8 * port + j ↔ i = port ∧ k = j := by omega
    by_cases hhere : i = port ∧ k = j
    · obtain ⟨rfl, rfl⟩ := hhere
      simp [hks.1]
    · simp only [hsame, hhere, if_false, List.mem_cons]
      have hmem : (i = port ∧ (k = j ∨ k ∈ ks)) ↔ (i = port ∧ k ∈ ks) := by tauto
      simp only [hmem]

theorem mem_maskLanes (m k : Nat) (hk : k < 8) : k ∈ maskLanes m ↔ m.testBit k = true := by
  simp [maskLanes, bit, hk]

/-- A write to the lanes of a mask reaches them and no others. -/
theorem onLanes_takes (port m : Nat) (f : Nat → Lane → Lane) (s : State) : ∃ v, onLanes port m f s = { s with port.lanes := v } ∧
    ∀ i k, k < 8 → tget v (8 * i + k) {} = if i = port ∧ m.testBit k = true then f k (s.lane i k) else s.lane i k := by
  refine ⟨_, onLanes_eq port m f s, fun i k hk => ?_⟩
  rw [tget_lanesAfter port f (maskLanes m) (List.nodup_range.filter _) (by simp [maskLanes]; omega) _ i k hk]
  simp only [mem_maskLanes m k hk]
  rfl

/-- Settles O28: lanes by their mask, the others by their number. -/
theorem portAndQueueSettingsTakeTheirValues : Obligations.PortAndQueueSettingsTakeTheirValues := by
  intro r c s q p l
  refine ⟨?_, ?_, ?_, rfl, rfl, rfl, rfl, rfl, rfl, rfl, rfl⟩
  · simp only [Op.apply, applyLaneRxConfig]; exact onLanes_takes p (fld q 1 1) _ s
  · simp only [Op.apply, applyPrbsConfig]; exact onLanes_takes p (fld q 1 1) _ s
  · simp only [Op.apply, applyLaneTxEq]; exact onLanes_takes p (fld q 1 1) _ s

end Sys2Proof.Machine
end

section
/-! SUPPORT. Claims, keys and the place of a device (R46, R206, R242, R247, R261, R262). -/

namespace Sys2Proof.Machine

set_option Elab.async false

theorem role_of_frame {cs : List Mod} {s t : State} (h : OnlyIn cs s t) (hc : Mod.hier ∉ cs := by decide) :
    t.hier.role = s.hier.role ∧ t.hier.last = s.hier.last ∧ t.hier.cls = s.hier.cls ∧ t.hier.keyInUse = s.hier.keyInUse ∧
      t.hier.fabricKey = s.hier.fabricKey ∧ t.hier.epochs = s.hier.epochs := by
  have hhier : Mod.same .hier s t := h .hier (by decide) hc
  simp only [Mod.same, HierState.mk.injEq] at hhier
  simp only [hhier, and_self]

/-- HIER_CONFIG with ROOT at an UNENROLLED device. -/
theorem applyHierConfig_root (r : Req) (c : Nat) (s : State) (hrole : s.hier.role = .unenrolled) (hroot : (fld r.params 0 1).testBit 0 = true) :
    let t := applyHierConfig r c s
    t.hier.role = .root ∧ t.hier.node = BitVec.ofNat 18 (fld r.params 8 4) ∧ t.hier.last = BitVec.ofNat 18 (fld r.params 12 4) ∧
      t.hier.cls = fld r.params 1 1 ∧ t.hier.keyInUse = true ∧ t.hier.fabricKey = s.hier.fabricKey := by
  have hbit : bit (fld r.params 0 1) 0 = true := hroot
  simp only [applyHierConfig, hbit, hrole, decide_true, Bool.and_self, if_true]
  obtain ⟨hrole', hlast, hcls, hkey, hfabric, -⟩ := role_of_frame (loopChecks_frame _)
  obtain ⟨hnode, -, -⟩ := place_of_frame (loopChecks_frame _)
  exact ⟨hrole', hnode, hlast, hcls, hkey, hfabric⟩

theorem applyHierConfig_other (r : Req) (c : Nat) (s : State) (hrole : s.hier.role ≠ .unenrolled) :
    let t := applyHierConfig r c s
    t.hier.role = s.hier.role ∧ t.hier.node = s.hier.node ∧ t.hier.last = s.hier.last ∧ t.hier.cls = fld r.params 1 1 ∧
      t.hier.candidates = [fld r.params 2 1, fld r.params 3 1, fld r.params 4 1] := by
  simp only [applyHierConfig, decide_eq_false hrole, Bool.and_false, Bool.false_eq_true, if_false]
  exact ⟨trivial, trivial, trivial, trivial, rfl⟩

@[simp] theorem epochCheck_epochs (l : Nat) (s : State) : (epochCheck l s).hier.epochs = s.hier.epochs := by
  unfold epochCheck
  split
  · rfl
  · split
    · rw [raise_hier_epochs]
    · rfl

theorem setEpochs_epochs (q : List Byte) (s : State) : (setEpochs q s).hier.epochs = (List.range 8).map (fun i => fld q (4 * i) 4) := by
  have hfold : ∀ (ls : List Nat) (t : State), (ls.foldl (fun s l => epochCheck l s) t).hier.epochs = t.hier.epochs := by
    intro ls
    induction ls with
    | nil => intro t; rfl
    | cons l ls ih => intro t; rw [List.foldl_cons, ih, epochCheck_epochs]
  rw [setEpochs, hfold]

theorem applyKeyProvision_again (r : Req) (c : Nat) (s : State) {k : List Byte} (h : s.hier.deviceKey = some k) :
    applyKeyProvision r c s = s := by
  simp only [applyKeyProvision, h, Option.getD_some]
  rw [← h]

/-- Settles O30: each effect in the cases of its command. That COMPARE_DISARM and COMPARE_RELEASE end a pulse in progress is log
entries 43 and 57. -/
theorem claimsAndKeysTakeEffect : Obligations.ClaimsAndKeysTakeEffect := by
  intro r c s q u
  refine ⟨rfl, fun h => ?_, fun h => if_neg h, fun h => ⟨if_pos h, if_pos h⟩, rfl, ⟨_, rfl, tfind_tdel_same _ _⟩, fun hheld hoff => ?_,
    fun hheld hon => ?_, fun hheld => ?_, fun h => ?_, fun k h => applyKeyProvision_again r c s h, fun h => if_pos h, fun h => ?_,
    fun hrole hroot t ht => ht ▸ applyHierConfig_root r c s hrole hroot, fun hrole t ht => ht ▸ applyHierConfig_other r c s hrole,
    fun h => if_pos h, fun i hi => ?_⟩
  · have hfree : Op.apply .compareRelease r c s = { s with time.compares := tdel s.time.compares u } := if_neg h
    rw [hfree]
    exact ⟨tget_tdel_same _ _ _, fun k hk => tget_tdel_other _ _ _ _ hk⟩
  · simp only [Op.apply, applyRefClear, show (s.mon (fld r.params 0 1)).held = true from hheld,
      show (s.refEntry (fld r.params 0 1)).enable = false from hoff, Bool.not_true, Bool.false_eq_true, if_false, u, q]
  · simp only [Op.apply, applyRefClear, show (s.mon (fld r.params 0 1)).held = true from hheld,
      show (s.refEntry (fld r.params 0 1)).enable = true from hon, Bool.not_true, Bool.false_eq_true, if_false, if_true, u, q]
  · simp only [Op.apply, applyRefClear, show (s.mon (fld r.params 0 1)).held = false from hheld, Bool.not_false, if_true]
  · simp only [Op.apply, applyKeyProvision, h, Option.getD_none, q]
  · have hother : ¬ (s.hier.role = .unenrolled ∨ s.hier.role = .root) := by rcases h with h | h <;> simp [h]
    exact if_neg hother
  · simp only [Op.apply, applyHierEpochs, setEpochs_epochs, getAt, q]
    simp [List.getElem?_range hi]

end Sys2Proof.Machine
end

section
/-! SUPPORT. Reset (Table 14.2), and the registers, rings and transports of the command interface (R288 to R307, R356). -/

namespace Sys2Proof.Machine

set_option Elab.async false

/-! ### Reset -/

/-- No calibration set is loaded at reset, so no port's lanes are ready. -/
theorem lanes_not_ready_at_reset (p : Nat) : reasonLanes State.reset p ≠ 0 := by
  have hloaded : (!State.reset.cal.loaded) = true := rfl
  unfold reasonLanes
  rw [hloaded]
  cases decide (State.reset.part.ports ≤ p) <;> cases State.reset.laneCut p <;> simp [firstReason]

theorem ready_at_reset (d : Nat) (h : State.reset.ready d = true) : d = 0 := by
  unfold State.ready at h
  split at h
  · interval_cases d
    · rfl
    all_goals exact absurd h (by decide +kernel)
  · rw [Bool.and_eq_true] at h
    exact absurd (of_decide_eq_true h.2) (lanes_not_ready_at_reset _)

/-- Settles O33: reset is a concrete state. That KEEP with POR_N low is what power leaves is log entry 4, and the READY block it shows
log entry 23. -/
theorem resetLeavesTheSpecsValues : Obligations.ResetLeavesTheSpecsValues := by
  refine ⟨rfl, rfl, rfl, rfl, rfl, rfl, rfl, rfl, rfl, rfl, rfl, rfl, rfl, rfl, rfl, rfl, rfl, rfl, rfl, rfl, rfl, rfl, rfl, rfl, rfl, rfl, rfl,
    rfl, rfl, rfl, rfl, rfl, rfl, rfl, fun _ => rfl, fun _ => ⟨rfl, rfl, rfl⟩, ready_at_reset,
    Tests.witness_EveryStepShowsReadiness.1, fun _ => rfl, fun h => absurd h (by decide)⟩

/-! ### Mailboxes -/

/-- A command that takes its effect in the state after its time leads to what that effect leaves. -/
theorem leads_of {i : Instr} {dt : Nat} {s t : State} {f : State → State} (hi : exec i s = occur dt s f) (h : f (s.advance dt) = t) :
    Leads i s t := by
  subst h; exact hi

/-- Settles O34: the two registers in the states of their queue. -/
theorem mailboxesFollowTheirRegisters : Obligations.MailboxesFollowTheirRegisters := by
  intro dt q v s u m hlives p
  have hbell : ∀ t, doorbell q (v.toNat % 8192) u = t → Leads (.cqDoorbell dt q v) s t := by
    rintro t rfl
    exact congrArg (fun x => Host.Outcome.next (finish x)) (if_pos hlives)
  have hack : ∀ t, cqAck q v u = t → Leads (.cqAck dt q v) s t := by rintro t rfl; rfl
  refine ⟨fun hidle hready => hbell _ ?_, fun hidle hready => hbell _ (doorbell_of_idle q _ u hidle hready), fun hbusy => hbell _ (if_pos hbusy),
    fun hdone hbit => hack _ ?_, fun hno => hack _ ?_⟩
  · simp [doorbell, show (u.mailbox q.val).state = .idle from hidle, hready, p, m]
  · simp [cqAck, hlives, hbit, show (u.mailbox q.val).state = .done from hdone, m]
  · have hoff : ¬ (v.getLsbD 0 = true ∧ (u.mailbox q.val).state = .done) := by
      rintro ⟨hbit, hdone⟩
      rcases hno with h | h
      · exact h hdone
      · exact absurd (hbit.symm.trans h) (by decide)
    simp only [cqAck, hlives, Bool.true_and, Bool.and_eq_true, decide_eq_true_eq, if_neg hoff]

/-! ### Registers and rings -/

theorem barWrite_readOnly (off : Nat) (v : Word) (s : State) (h : off < 0x1000) : barWrite off v s = s := by
  have h1 : off ≠ 0x1014 := by omega
  have h2 : off ≠ 0x2010 := by omega
  have h3 : ¬ 0x10000 ≤ off := by omega
  have h4 : ¬ 0x14000 ≤ off := by omega
  have h5 : ¬ 0x20000 ≤ off := by omega
  simp only [barWrite, h1, h2, h3, h4, h5, false_and, if_false]
  split <;> rfl

@[simp] theorem ring_setRing_same (s : State) (d : Nat) (r : Ring) : (s.setRing d r).ring d = r := tget_tput_same s.cmd.rings d r {}

@[simp] theorem setRing_setRing_same (s : State) (d : Nat) (r r' : Ring) : (s.setRing d r).setRing d r' = s.setRing d r' := by
  simp only [State.setRing, tput_tput_same]

/-- What RING_CTRL makes of a descriptor out of service, before it goes in service. -/
def Ring.configured (r : Ring) (v : Word) : Ring :=
  { r with vector := v.setWidth 11, kind := BitVec.ofNat 3 (v.toNat / 2 ^ 28 % 8), sizeLog2 := BitVec.ofNat 4 (v.toNat / 2 ^ 24)
           served := r.served && decide (r.kind = BitVec.ofNat 3 (v.toNat / 2 ^ 28 % 8)) }

section
variable (d : Nat) (v : Word) (s : State) (hlives : s.pcieLives = true)
include hlives

theorem ringCtrl_of_bad_kind (hoff : (s.ring d).enable = false) (hon : v.getLsbD 31 = true)
    (hkind : v.toNat / 2 ^ 28 % 8 = 0 ∨ v.toNat / 2 ^ 28 % 8 = 7) :
    ringCtrl d v s = s.setRing d { (s.ring d).configured v with configErr := true } := by
  simp only [ringCtrl, Ring.configured, hlives, hoff, hon, hkind, decide_true, Bool.not_true, Bool.true_or, Bool.false_eq_true, if_false,
    if_true]

theorem ringCtrl_of_free_kind (hoff : (s.ring d).enable = false) (hon : v.getLsbD 31 = true)
    (hkind : ¬ (v.toNat / 2 ^ 28 % 8 = 0 ∨ v.toNat / 2 ^ 28 % 8 = 7)) (hfree : s.kindTaken d (v.toNat / 2 ^ 28 % 8) = false) :
    ringCtrl d v s = s.setRing d { (s.ring d).configured v with enable := true, active := true, served := true } := by
  simp only [ringCtrl, hlives, hoff, hon, hkind, hfree, decide_false, Bool.not_true, Bool.or_self, Bool.false_eq_true, if_false]
  rfl

theorem ringCtrl_of_disable (hon : (s.ring d).enable = true) (hoff : v.getLsbD 31 = false) (hidle : (s.ring d).waiting = []) :
    ringCtrl d v s = s.setRing d { s.ring d with vector := v.setWidth 11, enable := false, active := false } := by
  have hlost : (s.ring d).lost + BitVec.ofNat 32 (0 - 1) = (s.ring d).lost := by simp
  simp only [ringCtrl, hlives, hon, hoff, hidle, Bool.not_true, Bool.false_eq_true, if_false, if_true, List.isEmpty_nil, List.take_nil,
    List.drop_nil, List.length_nil, puntsLost, List.foldl_nil, ite_self, hlost]

end

/-- A record of a ring without an interrupt threshold is written and the producer index moves past it. -/
theorem ringWrite_of_waiting (d : Nat) (s : State) {x : List Byte} {rest : List (List Byte)} (hwaiting : (s.ring d).waiting = x :: rest)
    (hon : (s.ring d).enable = true) (hthreshold : (s.ring d).intThreshold = 0) :
    ringWrite d s = (s.setRing d { s.ring d with
      waiting := rest, prod := (s.ring d).prod + BitVec.ofNat 32 x.length, sinceInt := (s.ring d).sinceInt + 1
      firstSince := some ((s.ring d).firstSince.getD s.time.mono) }).emit (.ring d ((s.ring d).prod.toNat % (s.ring d).size) x) := by
  simp only [ringWrite, hwaiting, hon, if_true, writeRecord, ring_setRing_same, hthreshold, setRing_setRing_same, ne_eq, not_true, false_and,
    decide_false, Bool.false_eq_true, if_false]
  rfl

/-- Settles O36: what the registers and descriptors make of a write. That a misaligned or unmapped access stops the model is log
entry 5. -/
theorem registersAndRingsTakeWrites : Obligations.RegistersAndRingsTakeWrites := by
  intro dt off v d s u r
  refine ⟨fun h => if_pos h, fun halign hout => ?_, fun hlow halign => ?_, fun hlives => leads_of rfl ?_,
    fun hlives hoff hon => ⟨fun hkind => leads_of rfl (ringCtrl_of_bad_kind d.val v u hlives hoff hon hkind),
      fun h0 h7 hfree => leads_of rfl (ringCtrl_of_free_kind d.val v u hlives hoff hon (by tauto) hfree)⟩,
    fun hlives hon hoff hidle => leads_of rfl (ringCtrl_of_disable d.val v u hlives hon hoff hidle),
    fun x rest hwaiting hon hthreshold => leads_of rfl (ringWrite_of_waiting d.val u hwaiting hon hthreshold),
    fun t hfirst htimer hdue => leads_of rfl ?_, fun hnone => leads_of rfl ?_⟩
  · exact (if_neg (not_not.mpr halign)).trans (if_pos hout)
  · have hin : ¬ 0x400000 ≤ off := by omega
    exact leads_of ((if_neg (not_not.mpr halign)).trans (if_neg hin)) (barWrite_readOnly off v u hlow)
  · simp [barWrite, hlives, u]
  · simp only [ringTimer, show (u.ring d.val).firstSince = some t from hfirst, ne_eq, htimer, not_false_eq_true, hdue, and_self, decide_true,
      if_true, ringInterrupt, r, u]
  · simp only [ringTimer, show (u.ring d.val).firstSince = none from hnone, u]

/-! ### The right of way -/

theorem rowRelease_of_holder (h cause : Nat) (s : State) (hholder : s.cmd.holder = h) (hpos : h ≠ 0) : rowRelease h cause s =
    raise .note 0x5103 [BitVec.ofNat 8 h, BitVec.ofNat 8 cause] { s with cmd.holder := 0, cmd.lease := 0 } :=
  if_pos ⟨hholder, hpos⟩

theorem rowRelease_of_other (h cause : Nat) (s : State) (hother : s.cmd.holder ≠ h) : rowRelease h cause s = s :=
  if_neg fun hboth => hother hboth.1

theorem managerLost_of_silence (s : State) (t n : Nat) (hrole : s.hier.role = .enrolled) (hsince : s.hier.noParentSince = some t)
    (hlimit : s.parentSilence = some n) (hover : t + n ≤ s.time.mono) : managerLost s = becomeOrphan s := by
  simp only [managerLost, hsince, hlimit, hrole, hover, and_self, if_true]

/-- Settles O38: every cause goes through the release of one holder. That PERST_N keeps the reply cache and drops the records that wait
is log entry 13, the silence limit of the primary candidate log entry 16. -/
theorem rightOfWayIsReleased : Obligations.RightOfWayIsReleased := by
  intro dt s u h free idle
  refine ⟨fun hheld hlease hover => leads_of rfl ?_, fun hnot => leads_of rfl ?_, fun hheld => ⟨leads_of rfl ?_, leads_of rfl ?_⟩,
    fun hother => ⟨leads_of rfl (rowRelease_of_other 1 2 u hother), leads_of rfl (rowRelease_of_other 1 2 idle hother)⟩,
    fun hheld => leads_of rfl ?_, fun hother => leads_of rfl (rowRelease_of_other 2 3 { u with power.mgmtUp := false } hother),
    fun t n hrole hsince hlimit hover => ⟨fun hheld => leads_of rfl ?_, fun hother => leads_of rfl ?_⟩, fun hnone => leads_of rfl ?_⟩
  · exact (if_pos (decide_eq_true ⟨hlease, hover⟩)).trans (rowRelease_of_holder h 1 u rfl hheld)
  · refine if_neg fun hdue => ?_
    obtain ⟨hlease, hover⟩ := of_decide_eq_true hdue
    rcases hnot with hnone | hearly
    · exact hlease hnone
    · exact absurd hover (Nat.not_le.mpr hearly)
  · exact (rowRelease_of_holder 1 2 u hheld (by decide)).trans (by simp only [free, hheld])
  · exact (rowRelease_of_holder 1 2 idle hheld (by decide)).trans (by simp only [free, hheld])
  · exact (rowRelease_of_holder 2 3 { u with power.mgmtUp := false } hheld (by decide)).trans (by simp only [free, hheld])
  · rw [managerLost_of_silence _ t n hrole hsince hlimit hover, becomeOrphan, rowRelease_of_holder 3 4 _ (by simpa using hheld) (by decide)]
    simp only [free, hheld]
    rfl
  · rw [managerLost_of_silence _ t n hrole hsince hlimit hover, becomeOrphan, rowRelease_of_other 3 4 _ (by simpa using hother)]
    rfl
  · rw [managerLost, show (s.advance dt).hier.noParentSince = none from hnone]

/-! ### Events of the transports -/

theorem parsePacket_src {src : Source} {bs : List Byte} {code : Nat} {r : Req} (h : parsePacket src bs = .packet code r) : r.src = src := by
  simp only [parsePacket] at h
  split_ifs at h <;> (cases h; rfl)

section
variable (addr : BitVec 128) (udp : BitVec 16) (payload : List Byte) (s : State) (hlives : s.mgmtLives = true) (hready : s.ready 10 = true)
include hlives hready

theorem mgmtDatagram_of_fragment : mgmtDatagram addr udp true payload s = countDevice 9 { s with power.mgmtUp := true } := by
  have hcmd : ({ s with power.mgmtUp := true } : State).ready 10 = true := hready
  simp only [mgmtDatagram, hlives, hcmd, Bool.not_true, Bool.false_eq_true, if_false, if_true]

theorem mgmtDatagram_of_misfit (hbad : payload.length < 16 ∨ fld payload 0 2 ≠ 0x4F4A ∨
      payload.length ≠ 16 + 4 * fld payload 6 2 + 16 * flag ((fld payload 3 1).testBit 0)) :
    mgmtDatagram addr udp false payload s = countDevice 10 { s with power.mgmtUp := true } := by
  have hcmd : ({ s with power.mgmtUp := true } : State).ready 10 = true := hready
  simp only [mgmtDatagram, hlives, hcmd, bit, hbad, Bool.not_true, Bool.false_eq_true, if_false, if_true]

theorem mgmtDatagram_of_packet {code : Nat} {r : Req} (hlong : 16 ≤ payload.length) (hmagic : fld payload 0 2 = 0x4F4A)
    (hlen : payload.length = 16 + 4 * fld payload 6 2 + 16 * flag ((fld payload 3 1).testBit 0)) (hmax : 4 * fld payload 6 2 ≤ 4092)
    (hparse : parsePacket (.mgmt addr udp) payload = .packet code r) : mgmtDatagram addr udp false payload s =
      mgmtPacket code r (payload.take (16 + 4 * fld payload 6 2)) { s with power.mgmtUp := true } := by
  have hcmd : ({ s with power.mgmtUp := true } : State).ready 10 = true := hready
  have hfits : ¬ (payload.length < 16 ∨ fld payload 0 2 ≠ 0x4F4A ∨
      payload.length ≠ 16 + 4 * fld payload 6 2 + 16 * flag ((fld payload 3 1).testBit 0)) := by
    rintro (h | h | h)
    · omega
    · exact h hmagic
    · exact h hlen
  simp only [mgmtDatagram, hlives, hcmd, bit, hfits, Nat.not_lt.mpr hmax, hparse, Bool.not_true, Bool.false_eq_true, if_false]

end

/-- While the controller was stopped and no packet of a mailbox was EXECUTING, its return runs the packets that wait. -/
theorem resumeMailbox_of_idle (s : State) (q : Fin 4) (h : (s.mailbox q.val).state ≠ .executing) : resumeMailbox s q = s := if_pos h

theorem foldl_resumeMailbox_of_idle (l : List (Fin 4)) (s : State) (h : ∀ q ∈ l, (s.mailbox q.val).state ≠ .executing) :
    l.foldl resumeMailbox s = s := by
  induction l with
  | nil => rfl
  | cons q l ih =>
    rw [List.forall_mem_cons] at h
    rw [List.foldl_cons, resumeMailbox_of_idle s q h.1, ih h.2]

theorem resumeMailbox_of_cached (s : State) (q : Fin 4) {code : Nat} {r : Req} {p : Reply} (hexec : (s.mailbox q.val).state = .executing)
    (hparse : parsePacket (.pcie q) (memBytes (s.mailbox q.val).buffer 0 (s.mailbox q.val).count) = .packet code r)
    (hcached : s.cmd.pcieSeq.cache.find? (fun p => decide (p.seq = r.seq)) = some p) : resumeMailbox s q = sendReply r p s := by
  simp only [resumeMailbox, hexec, ne_eq, not_true, if_false, hparse, hcached]

theorem mailboxDone_state (q k : Nat) (bytes : List Byte) (s : State) (hexec : (s.mailbox q).state = .executing) :
    ((mailboxDone q bytes s).mailbox k).state = if k = q then .done else (s.mailbox k).state := by
  have hset : ∀ m : Mailbox, m.state = .done → ((s.setMailbox q m).mailbox k).state = if k = q then .done else (s.mailbox k).state := by
    intro m hm
    rw [State.mailbox, State.setMailbox, tget_tput]
    split
    · exact hm
    · rfl
  unfold mailboxDone
  simp only [hexec, ne_eq, not_true, if_false]
  split <;> exact hset _ rfl

/-- A reply to a mailbox leaves its queue DONE, and the others as they were. -/
theorem sendReply_mailbox (r : Req) (p : Reply) (s : State) (q k : Fin 4) (hsrc : r.src = .pcie q)
    (hexec : (s.mailbox q.val).state = .executing) :
    ((sendReply r p s).mailbox k.val).state = if k = q then .done else (s.mailbox k.val).state := by
  simp only [sendReply, hsrc, sendLocal]
  rw [mailboxDone_state q.val k.val _ (s.emit _) hexec]
  simp only [Fin.ext_iff]
  rfl

theorem nextPending_eq_none (s : State) (h : ∀ q : Fin 4, (s.mailbox q.val).state ≠ .pending) : s.nextPending = none := by
  simp [State.nextPending, h]

theorem runPending_of_none (n : Nat) (s : State) (h : s.nextPending = none) : runPending n s = s := by
  cases n <;> simp only [runPending, h]

theorem controllerUp_of_reset (s : State) (hdown : s.cmd.controllerUp = false) (hreset : s.cmd.controllerReset = true) :
    controllerUp s = runPending 4 (([0, 1, 2, 3] : List (Fin 4)).foldl resumeMailbox
      (raise .note 0x5105 [] { s with cmd.controllerUp := true, cmd.controllerReset := false })) := by
  simp only [controllerUp, hdown, hreset, Bool.not_true, Bool.or_self, Bool.false_eq_true, if_false]

/-- One queue is resumed from the cache, and none of the others had a packet. -/
theorem runPending_of_one_cached (s : State) (q : Fin 4) {code : Nat} {r : Req} {p : Reply} (hexec : (s.mailbox q.val).state = .executing)
    (hidle : ∀ k : Fin 4, k ≠ q → (s.mailbox k.val).state = .idle)
    (hparse : parsePacket (.pcie q) (memBytes (s.mailbox q.val).buffer 0 (s.mailbox q.val).count) = .packet code r)
    (hcached : s.cmd.pcieSeq.cache.find? (fun p => decide (p.seq = r.seq)) = some p) :
    runPending 4 (([0, 1, 2, 3] : List (Fin 4)).foldl resumeMailbox s) = sendReply r p s := by
  have hstate := fun k => sendReply_mailbox r p s q k (parsePacket_src hparse) hexec
  have hdone : ∀ k : Fin 4, ((sendReply r p s).mailbox k.val).state = .done ∨ ((sendReply r p s).mailbox k.val).state = .idle := by
    intro k
    rw [hstate k]
    by_cases hk : k = q
    · exact .inl (if_pos hk)
    · exact .inr ((if_neg hk).trans (hidle k hk))
  have hfinished : ∀ k : Fin 4, ((sendReply r p s).mailbox k.val).state ≠ .executing := by
    intro k; rcases hdone k with h | h <;> simp [h]
  have hfold : ∀ l : List (Fin 4), l.foldl resumeMailbox s = if q ∈ l then sendReply r p s else s := by
    intro l
    induction l with
    | nil => rfl
    | cons k l ih =>
      rw [List.foldl_cons]
      by_cases hk : k = q
      · rw [hk, resumeMailbox_of_cached s q hexec hparse hcached, foldl_resumeMailbox_of_idle l _ fun k _ => hfinished k]
        simp
      · rw [resumeMailbox_of_idle s k (by simp [hidle k hk]), ih]
        simp [Ne.symm hk]
  have hmem : ∀ k : Fin 4, k ∈ ([0, 1, 2, 3] : List (Fin 4)) := by decide
  rw [hfold, if_pos (hmem q)]
  exact runPending_of_none 4 _ (nextPending_eq_none _ fun k => by rcases hdone k with h | h <;> simp [h])

/-- Settles O37: what each event finds decides what it does. That a datagram for another address or port counts nothing, and what a reset
of the controller leaves in the mailboxes, is log entry 13. -/
theorem transportEventsAnswer : Obligations.TransportEventsAnswer := by
  intro dt s u
  refine ⟨fun v6 dst dport addr udp frag payload hother => leads_of rfl ?_,
    fun v6 dst dport addr udp frag payload htakes hlives hready => ?_, fun l frame hreceives hingress hether => ?_,
    fun seq o hfound hover => leads_of rfl ?_, fun port e hfound hover => leads_of rfl ?_, fun hup => leads_of rfl ?_,
    fun hdown hreset => ?_⟩
  · exact if_neg (by simp only [show (s.advance dt).mgmtTakes v6 dst dport = false from hother]; decide)
  · have hleads : ∀ t, mgmtDatagram addr udp frag payload u = t →
        Leads (.mgmtDatagram dt ⟨v6, dst, dport⟩ ⟨addr, udp⟩ frag payload) s t := fun t h => leads_of rfl ((if_pos htakes).trans h)
    refine ⟨?_, ?_, ?_⟩
    · rintro rfl
      exact hleads _ (mgmtDatagram_of_fragment addr udp payload u hlives hready)
    · rintro rfl hbad
      exact hleads _ (mgmtDatagram_of_misfit addr udp payload u hlives hready hbad)
    · rintro code r rfl hlong hmagic hlen hmax hparse
      exact hleads _ (mgmtDatagram_of_packet addr udp payload u hlives hready hlong hmagic hlen hmax hparse)
  · have hopen : (!u.receives l || u.ingressStopped || decide (fld frame 12 2 ≠ u.fwd.etCommand)) = false := by
      simp [hreceives, hingress, hether]
    have hleads : ∀ t, inbandFrame l frame u = t → Leads (.inbandFrame dt l frame) s t := fun t h => leads_of rfl h
    refine ⟨fun hbad => hleads _ ?_, fun hgood => hleads _ ?_⟩
    · simp only [inbandFrame, hopen, Bool.false_eq_true, if_false, if_pos hbad]
    · simp only [inbandFrame, hopen, Bool.false_eq_true, if_false, hgood, ne_eq, not_true]
  · simp only [remoteTimeout, show (s.advance dt).cmd.outstanding.find? (fun o => decide (o.seq = seq)) = some o from hfound]
    exact if_neg (Nat.not_lt.mpr hover)
  · simp only [enrollTimeout, show (s.advance dt).hier.enrolling.find? (fun e => decide (e.port = port)) = some e from hfound]
    exact if_neg (Nat.not_lt.mpr hover)
  · simp only [controllerDown, show (s.advance dt).cmd.controllerUp = true from hup, Bool.not_true, Bool.false_eq_true, if_false]
    rfl
  · intro back
    have hback : ∀ t, runPending 4 (([0, 1, 2, 3] : List (Fin 4)).foldl resumeMailbox back) = t → Leads (.cmdUp dt) s t :=
      fun t h => leads_of rfl ((controllerUp_of_reset u hdown hreset).trans h)
    have hboxes : ∀ q : Fin 4, back.mailbox q.val = u.mailbox q.val := fun q => by simp [back, State.mailbox]
    refine ⟨fun hidle => hback _ ?_, fun q code r p hexec hidle hparse hcached => hback _ ?_⟩
    · rw [foldl_resumeMailbox_of_idle _ _ fun q _ => (hboxes q).symm ▸ hidle q]
    · exact runPending_of_one_cached back q ((hboxes q).symm ▸ hexec) (fun k hk => (hboxes k).symm ▸ hidle k hk)
        ((hboxes q).symm ▸ hparse) (by simpa [back] using hcached)

end Sys2Proof.Machine
end

section
/-! SUPPORT. What the shared operations leave unchanged: links, calendars, the compare units and the moves of the count. -/

namespace Sys2Proof.Machine

set_option Elab.async false

/-- Two steps, each within the parts allowed. -/
theorem frame_then {as bs cs : List Mod} {s t u : State} (h1 : OnlyIn as s t) (h2 : OnlyIn bs t u) (ha : ∀ m ∈ as, m ∈ cs := by decide)
    (hb : ∀ m ∈ bs, m ∈ cs := by decide) : OnlyIn cs s u := frame_trans (frame_mono h1 ha) (frame_mono h2 hb)

theorem frame_if {as bs cs : List Mod} {s t u : State} {c : Prop} [Decidable c] (h1 : OnlyIn as s t) (h2 : OnlyIn bs s u)
    (ha : ∀ m ∈ as, m ∈ cs := by decide) (hb : ∀ m ∈ bs, m ∈ cs := by decide) : OnlyIn cs s (if c then t else u) :=
  frame_ite (frame_mono h1 ha) (frame_mono h2 hb)

/-- A step in some cases only, from where the others stay. -/
theorem frame_opt {cs : List Mod} {s t : State} {c : Prop} [Decidable c] (h : OnlyIn cs s t) : OnlyIn cs s (if c then t else s) :=
  frame_ite h (frame_refl cs s)

theorem frame_skip {cs : List Mod} {s t : State} {c : Prop} [Decidable c] (h : OnlyIn cs s t) : OnlyIn cs s (if c then s else t) :=
  frame_ite (frame_refl cs s) h

theorem frame_power_fwd (s : State) (x : PowerState) (y : ForwardState) : OnlyIn [.power, .fwd] s { s with power := x, fwd := y } :=
  fun m _ h => by cases m <;> simp_all [Mod.same]

/-! ### Links -/

theorem setLp_frame (l : Nat) (p : Lport) (s : State) : OnlyIn [.port] s (s.setLp l p) := frame_port s _
theorem setLane_frame (p k : Nat) (v : Lane) (s : State) : OnlyIn [.port] s (s.setLane p k v) := frame_port s _
theorem setLink_frame (p : Nat) (v : Link) (s : State) : OnlyIn [.port] s (s.setLink p v) := frame_port s _
theorem setEgress_frame (l : Nat) (e : Egress) (s : State) : OnlyIn [.fwd] s (s.setEgress l e) := frame_fwd s _
theorem setUnit_frame (u : Nat) (c : Compare) (s : State) : OnlyIn [.time] s (s.setUnit u c) := frame_time s _
theorem setCore_frame (d : Nat) (c : CoreDie) (s : State) : OnlyIn [.clk] s (s.setCore d c) := frame_clk s _
theorem setChan_frame (n : Nat) (c : Channel) (s : State) : OnlyIn [.meas] s (s.setChan n c) := frame_meas s _
theorem setRail_frame (n : Nat) (r : Rail) (s : State) : OnlyIn [.power] s (s.setRail n r) := frame_power s _
theorem emit_frame (o : Out) (s : State) : OnlyIn [] s (s.emit o) := frame_out s _

theorem land_frame (l : Nat) (s : State) : OnlyIn [.fwd, .ctr] s (land l s) := by
  unfold land
  dsimp only
  split
  · exact frame_refl _ s
  · exact frame_skip (frame_step (frame_step (frame_step (frame_step (frame_step (frame_step (frame_within (setEgress_frame l _ s))
      (countBy_frame _ _ _ _ _ _)) (countBy_frame _ _ _ _ _ _)) (countBy_frame _ _ _ _ _ _)) (countClass_frame _ _ _ _ _ _ _ _))
      (countClass_frame _ _ _ _ _ _ _ _)) (frame_refl [] _))

theorem landAll_frame (s : State) : OnlyIn [.fwd, .ctr] s (landAll s) := frame_foldl (fun t l => land_frame l t) _ s

theorem abortFrame_frame (l : Nat) (s : State) : OnlyIn [.fwd, .ctr] s (abortFrame l s) := by
  unfold abortFrame
  dsimp only
  split
  · exact land_frame l s
  · exact frame_step (frame_step (frame_step (land_frame l s) (setEgress_frame l _ _)) (emit_frame _ _)) (countClass_frame _ _ _ _ _ _ _ _)

theorem modWrite_frame (l : Nat) (d : Bool) (s : State) : OnlyIn [.board] s (modWrite l d s) := by
  unfold modWrite
  extract_lets p m v
  refine frame_skip ?_
  split <;> exact frame_board s _

theorem linkDown_frame (l : Nat) (s : State) : OnlyIn [.fwd, .port, .ctr] s (linkDown l s) :=
  frame_opt (frame_raiseAt _ _ _ _ (frame_step (frame_step (frame_step (frame_step (frame_within (abortFrame_frame l s)) (setLp_frame l _ _))
    (frame_fwd _ _)) (frame_fwd _ _)) (pfcLinkDown_frame l _)))

theorem linksDown_frame (ls : List Nat) (s : State) : OnlyIn [.fwd, .port, .ctr] s (linksDown ls s) :=
  frame_foldl (fun t l => linkDown_frame l t) ls s

theorem forgetSkew_frame (p k : Nat) (s : State) : OnlyIn [.port] s (forgetSkew p k s) := setLane_frame _ _ _ s

theorem startLink_frame (l : Nat) (s : State) : OnlyIn [.port] s (startLink l s) :=
  frame_step (frame_skip (frame_foldl (fun t k => frame_step (forgetSkew_frame _ k t) (setLane_frame _ _ _ _)) _ s)) (setLp_frame l _ _)

theorem linkUpNow_frame (l : Nat) (s : State) : OnlyIn [.fwd, .port, .ctr] s (linkUpNow l s) := by
  unfold linkUpNow
  refine frame_step ?_ (pfcLinkUp_frame l _)
  refine frame_raiseAt _ _ _ _ ?_
  refine frame_step ?_ (frame_opt (setLink_frame _ _ _))
  exact frame_step (frame_within (setLp_frame l _ s)) (frame_fwd _ _)

theorem disablePort_frame (l : Nat) (s : State) : OnlyIn [.power, .fwd, .port, .ctr] s (disablePort l s) := by
  unfold disablePort
  refine frame_step ?_ (flushPort_frame l _)
  refine frame_step ?_ (pfcLinkDown_frame l _)
  refine frame_step ?_ (frame_power_fwd _ _ _)
  exact frame_step (frame_within (abortFrame_frame l s)) (setLp_frame l _ _)

theorem enablePort_frame (l : Nat) (s : State) : OnlyIn [.port] s (enablePort l s) :=
  frame_then (setLp_frame l _ s) (startLink_frame l _)

theorem movePower_frame (l n : Nat) (s : State) : OnlyIn [.port, .board] s (movePower l n s) := by
  unfold movePower
  extract_lets p a
  have ha : OnlyIn [.board] s a := frame_ite (modWrite_frame l true s) (frame_opt (modWrite_frame l false s))
  exact frame_skip (frame_then ha (setLp_frame l _ a))

/-! ### Calendars -/

theorem releaseEpochs_frame (s : State) : OnlyIn [.time] s (releaseEpochs s) := frame_time s _

theorem dropNoFit_frame (l n : Nat) (s : State) : OnlyIn [.fwd, .ctr] s (dropNoFit l n s) := by
  induction n generalizing s with
  | zero => exact frame_refl _ s
  | succ n ih =>
    unfold dropNoFit
    split
    · exact frame_opt (frame_then (discard_frame _ _ _ _ s) (ih _))
    · exact frame_refl _ s

theorem meetCloses_frame (l k : Nat) (s : State) : OnlyIn [.fwd, .ctr] s (meetCloses l k s) := by
  unfold meetCloses
  split
  · exact frame_refl _ s
  · exact frame_skip (frame_step (frame_step (frame_within (frame_fwd s _)) (frame_foldl (fun t x => discard_frame _ _ _ x t) _ _))
      (dropNoFit_frame l _ _))

theorem dropScheduled_frame (l : Nat) (s : State) : OnlyIn [.fwd, .ctr] s (dropScheduled l s) :=
  frame_foldl (fun t b => discard_frame _ _ _ b t) _ s

theorem removeCalendar_frame (l : Nat) (s : State) : OnlyIn [.time, .fwd, .ctr] s (removeCalendar l s) :=
  frame_then (frame_then (cs := [.time, .fwd]) (frame_fwd s _) (releaseEpochs_frame _)) (dropScheduled_frame l _)

theorem epochCheck_frame (l : Nat) (s : State) : OnlyIn [.hier] s (epochCheck l s) := by
  unfold epochCheck
  split
  · exact frame_refl _ s
  · exact frame_opt (frame_then (frame_hier s _) (frame_raise _ _ _ _))

theorem swapCalendar_frame (l : Nat) (s : State) : OnlyIn [.time, .fwd, .hier, .ctr] s (swapCalendar l s) := by
  unfold swapCalendar
  split
  · exact frame_refl _ s
  · exact frame_skip (frame_step (frame_raiseAt _ _ _ _ (frame_step (frame_step (frame_step (frame_within (frame_fwd s _)) (frame_fwd _ _))
      (releaseEpochs_frame _)) (dropNoFit_frame l _ _))) (epochCheck_frame l _))

theorem removalNow_frame (l : Nat) (s : State) : OnlyIn [.time, .fwd, .ctr] s (removalNow l s) := by
  unfold removalNow
  split
  · exact frame_opt (removeCalendar_frame l s)
  · exact frame_refl _ s

theorem stepCalendars_frame (m : Milestone) (d : Int) (s : State) : OnlyIn [.fwd, .ctr] s (stepCalendars m d s) := by
  have hcount : ∀ (t : State) (e : Nat × Egress), OnlyIn [.ctr] t (match e.2.close with
      | some c =>
        if decide (t.time.mono < e.2.endAt ∧ e.2.cls = 7 ∧ c < t.time.count.toNat + (e.2.endAt - t.time.mono)) then
          countBy { cls := some 7 } 2 e.1 8 1 t else t
      | none => t) := by
    intro t e
    split
    · exact frame_opt (countBy_frame _ _ _ _ _ t)
    · exact frame_refl _ t
  exact frame_step (frame_within (frame_foldl hcount _ s)) (frame_opt (frame_foldl (fun t c => frame_opt (meetCloses_frame _ _ t)) _ _))

end Sys2Proof.Machine
end

section
/-! SUPPORT. Snapshots and the recorder (R381 to R397), the board interfaces and boundary scan (R411 to R426). -/

namespace Sys2Proof.Machine

set_option Elab.async false

/-- A command that takes its effect in the state after its time runs to what that effect leaves, finished. -/
theorem runs_of {i : Instr} {dt : Nat} {s : State} {f : State → State} {P : State → Prop} (hi : exec i s = occur dt s f)
    (h : P (finish (f (s.advance dt)))) : Runs i s P := ⟨_, hi, h⟩

/-! ### Snapshots -/

theorem land_of_no_flight (l : Nat) (s : State) (h : (s.egress l).flight = none) : land l s = s := by
  unfold land; simp only [h]

theorem landAll_of_no_flight (s : State) (h : ∀ e ∈ s.fwd.egress, (tget s.fwd.egress e.1 {}).flight = none) : landAll s = s := by
  have hfold : ∀ ks : List Nat, (∀ k ∈ ks, (s.egress k).flight = none) → ks.foldl (fun s l => land l s) s = s := by
    intro ks hks
    induction ks with
    | nil => rfl
    | cons k ks ih =>
      rw [List.foldl_cons, land_of_no_flight k s (hks k List.mem_cons_self)]
      exact ih fun j hj => hks j (List.mem_cons_of_mem _ hj)
  exact hfold _ (List.forall_mem_map.2 h)

theorem changeOver_live (s : State) : (changeOver s).ctr.live = s.ctr.live := by unfold changeOver; split <;> rfl

theorem changeOver_window (s : State) : (changeOver s).ctr.window = s.ctr.latching.getD s.ctr.window := by
  unfold changeOver; split <;> simp [*]

theorem changeOver_time (s : State) : (changeOver s).time = s.time := by unfold changeOver; split <;> rfl

/-- Settles O59: each of the five events in each of its cases. -/
theorem snapshotsAndRecordsAreKept : Obligations.SnapshotsAndRecordsAreKept := by
  intro dt s u
  refine ⟨fun hrun hper hnew hready hflight => runs_of rfl ?_, fun hno => leads_of rfl ?_, fun v hv => leads_of rfl ?_,
    fun hv => leads_of rfl ?_, fun hno => leads_of rfl ?_, fun r rest k hq hready hslot => leads_of rfl ?_,
    fun r rest hq hready hslot => leads_of rfl ?_, fun t ht => ⟨fun h => leads_of rfl ?_, fun h => leads_of rfl ?_⟩,
    fun h => leads_of rfl ?_, fun h => leads_of rfl (if_neg (Ne.symm h)), fun h => leads_of rfl (if_pos h.symm)⟩
  · have hdue : snapshotDue u = takeSnapshot false u := if_pos (by simp [hrun, hper, hnew])
    have htake : takeSnapshot false u = { changeOver u with
        ctr.latching := some { ms := u.ms, untimed := false, counters := u.ctr.live }
        ctr.latched := some (u.ms, u.time.mono), ctr.skipped := none } := by
      simp [takeSnapshot, hready, landAll_of_no_flight u hflight, State.ms, changeOver_time, changeOver_live]
    rw [hdue, htake]
    simp [changeOver_window]
  · have hoff : (u.time.running && u.periodic && !u.latchedNow) = false ∨ u.ready 9 = false := by
      rcases hno with h | h | h | h <;> simp [h]
    change snapshotDue u = u
    unfold snapshotDue takeSnapshot
    rcases hoff with h | h <;> simp [h]
  · simp only [changeOver, hv, u]
  · simp only [changeOver, hv, u]
  · rcases hno with h | h
    · simp only [storeRecord, h, u]
    · unfold storeRecord
      split
      · rfl
      · simp only [h, u, Bool.not_false, if_true]
  · change storeRecord u = _
    simp [storeRecord, hq, hready, hslot]
  · change storeRecord u = _
    simp [storeRecord, hq, hready, hslot]
  · simp only [unfreeze, ht, if_pos h, u]
  · simp only [unfreeze, ht, if_neg (Nat.not_le.2 h), u]
  · simp only [unfreeze, h, u]

/-! ### Counting leaves the clocks -/

theorem addKey_ctr (k n : Nat) (s : State) : ∃ c, addKey k n s = { s with ctr := c } := by
  obtain ⟨c, h⟩ := addKey_eq k n s
  exact ⟨_, h⟩

theorem addFiltered_ctr (k n : Nat) (b : Bool) (s : State) : ∃ c, addFiltered k n b s = { s with ctr := c } := by
  unfold addFiltered
  dsimp only
  split
  · split
    · obtain ⟨c, h⟩ := addKey_ctr (ctrKey 10 0 (k + 1)) 1
        { s with ctr.live := tmod s.ctr.live (ctrKey 10 0 k) (0, false) (fun c => ((c.1 + n) % 2 ^ 48, c.2)) }
      exact ⟨c, h⟩
    · exact ⟨_, rfl⟩
  · exact addKey_ctr _ _ s

theorem feedFilters_ctr (c : CountCtx) (g i k n : Nat) (s : State) : ∃ x, feedFilters c g i k n s = { s with ctr := x } := by
  have hfold : ∀ (fs : Tbl Filter) (t : State), ∃ x,
      fs.foldl (fun s e => if e.2.hits c g i k then addFiltered e.1 n e.2.chain s else s) t = { t with ctr := x } := by
    intro fs
    induction fs with
    | nil => exact fun t => ⟨t.ctr, rfl⟩
    | cons e fs ih =>
      intro t
      rw [List.foldl_cons]
      split
      · obtain ⟨y, hy⟩ := addFiltered_ctr e.1 n e.2.chain t
        obtain ⟨z, hz⟩ := ih { t with ctr := y }
        exact ⟨z, by rw [hy, hz]⟩
      · exact ih t
  unfold feedFilters
  split
  · exact ⟨s.ctr, rfl⟩
  · exact hfold _ s

/-- A count changes the counters alone. -/
theorem countBy_ctr (c : CountCtx) (g i k n : Nat) (s : State) : ∃ x, countBy c g i k n s = { s with ctr := x } := by
  obtain ⟨y, hy⟩ := addKey_ctr (ctrKey g i k) n s
  obtain ⟨z, hz⟩ := feedFilters_ctr c g i k n { s with ctr := y }
  exact ⟨z, by rw [countBy, hy, hz]⟩

theorem countClass_ctr (c : CountCtx) (g p i k x n : Nat) (s : State) : ∃ y, countClass c g p i k x n s = { s with ctr := y } := by
  obtain ⟨y, hy⟩ := addKey_ctr (ctrKey g i (p * k + x)) n s
  obtain ⟨z, hz⟩ := feedFilters_ctr { c with cls := some k } g i x n { s with ctr := y }
  unfold countClass
  exact ⟨z, by rw [hy, hz]⟩

@[simp] theorem countBy_clk (c : CountCtx) (g i k n : Nat) (s : State) : (countBy c g i k n s).clk = s.clk := by
  obtain ⟨x, h⟩ := countBy_ctr c g i k n s; rw [h]

@[simp] theorem countClass_clk (c : CountCtx) (g p i k x n : Nat) (s : State) : (countClass c g p i k x n s).clk = s.clk := by
  obtain ⟨y, h⟩ := countClass_ctr c g p i k x n s; rw [h]

@[simp] theorem land_clk (l : Nat) (s : State) : (land l s).clk = s.clk := by
  unfold land; dsimp only; split
  · rfl
  · split <;> simp

@[simp] theorem abortFrame_clk (l : Nat) (s : State) : (abortFrame l s).clk = s.clk := by unfold abortFrame; dsimp only; split <;> simp

@[simp] theorem pfcLinkDown_clk (l : Nat) (s : State) : (pfcLinkDown l s).clk = s.clk := by
  unfold pfcLinkDown
  generalize List.range 8 = ks
  induction ks generalizing s with
  | nil => rfl
  | cons k ks ih => rw [List.foldl_cons, ih]; dsimp only; split <;> rfl

@[simp] theorem linkDown_clk (l : Nat) (s : State) : (linkDown l s).clk = s.clk := by unfold linkDown; split <;> simp

@[simp] theorem linksDown_clk (ls : List Nat) (s : State) : (linksDown ls s).clk = s.clk := by
  unfold linksDown
  induction ls generalizing s with
  | nil => rfl
  | cons l ls ih => rw [List.foldl_cons, ih, linkDown_clk]

@[simp] theorem linksDown_scan (ls : List Nat) (s : State) : (linksDown ls s).board.scan = s.board.scan := by
  have hboard : ({ (linksDown ls s).board with intAt := none } : BoardState) = { s.board with intAt := none } :=
    linksDown_frame ls s .board (by decide) (by decide)
  have hscan := congrArg BoardState.scan hboard
  exact hscan

/-! ### Links that go down, outputs that are cut off -/

@[simp] theorem finish_lp (s : State) (l : Nat) : (finish s).lp l = s.lp l := by simp [State.lp]

theorem linkDown_lp_up (l j : Nat) (s : State) : ((linkDown l s).lp j).up = (decide (j ≠ l) && (s.lp j).up) := by
  unfold linkDown
  split
  case isTrue hup =>
    have habort := port_of_frame (abortFrame_frame l s)
    have hpfc := fun t => port_of_frame (pfcLinkDown_frame l t)
    simp only [State.lp, raiseAt_port, hpfc, State.setLp, habort, tget_tput]
    split <;> simp [*]
  case isFalse hdown =>
    by_cases h : j = l
    · simp [h, hdown]
    · simp [h]

theorem linksDown_lp_up (ls : List Nat) (s : State) (j : Nat) :
    ((linksDown ls s).lp j).up = (decide (j ∉ ls) && (s.lp j).up) := by
  unfold linksDown
  induction ls generalizing s with
  | nil => simp
  | cons l ls ih => rw [List.foldl_cons, ih, linkDown_lp_up]; by_cases h : j = l <;> simp [h]

/-- No output runs, and none may start while boundary scan holds the pins (R426). -/
def OutsHeld (s : State) : Prop := s.board.scan.isSome = true ∧ ∀ n, (tget s.clk.outs n {}).start = none

theorem outOn_of_held {s : State} (h : OutsHeld s) (n : Nat) : s.outOn n = false := by simp only [State.outOn, h.2]

theorem held_of_same {s t : State} (h : OutsHeld s) (hscan : t.board.scan = s.board.scan) (houts : t.clk.outs = s.clk.outs) : OutsHeld t := by
  unfold OutsHeld; rw [hscan, houts]; exact h

theorem held_squelchOut (s : State) (n : Nat) (h : OutsHeld s) : OutsHeld (squelchOut s n) := by
  have hsquelch : OutsHeld (squelchIt n s) := by
    have hput : ∀ q, OutsHeld { s with clk.outs := tput s.clk.outs n { tget s.clk.outs n {} with squelched := q } } := by
      refine fun q => ⟨h.1, fun m => ?_⟩
      rw [tget_tput]
      split
      · exact h.2 n
      · exact h.2 m
    unfold squelchIt
    dsimp only
    split
    · exact h
    · split
      · exact held_of_same (hput ((tget s.clk.outs n {}).squelchIn s.ref.dpll)) (by simp) (by simp)
      · exact hput _
  unfold squelchOut followOut
  have hno : (squelchIt n s).outMayRun (tget (squelchIt n s).clk.outs n {}) = false := by
    simp [State.outMayRun, Option.isNone_eq_false_iff.2 hsquelch.1]
  simp only [hno, hsquelch.2 n]
  exact hsquelch

theorem held_finish (s : State) (h : OutsHeld s) : OutsHeld (finish s) := by
  have hfold : ∀ (ks : List Nat) (t : State), OutsHeld t → OutsHeld (ks.foldl squelchOut t) := by
    intro ks
    induction ks with
    | nil => exact fun t ht => ht
    | cons k ks ih => exact fun t ht => ih _ (held_squelchOut t k ht)
  have htrack : OutsHeld (trackParent s) := held_of_same h (by simp) (by simp)
  have hsquelch : OutsHeld (squelchAll (trackParent s)) := hfold _ _ htrack
  exact held_of_same hsquelch (by simp [finish]) (by simp [finish])

theorem cutOut_scan (n : Nat) (s : State) : (cutOut n s).board.scan = s.board.scan := by unfold cutOut; dsimp only; split <;> rfl

theorem cutOut_start (n m : Nat) (s : State) :
    (tget (cutOut n s).clk.outs m {}).start = if m = n then none else (tget s.clk.outs m {}).start := by
  unfold cutOut
  dsimp only
  split
  case h_1 h => split <;> simp_all
  case h_2 h => rw [tget_tput]; split <;> rfl

theorem cutOuts_scan (ks : List Nat) (s : State) : (ks.foldl (fun s n => cutOut n s) s).board.scan = s.board.scan := by
  induction ks generalizing s with
  | nil => rfl
  | cons k ks ih => rw [List.foldl_cons, ih, cutOut_scan]

theorem cutOuts_start (ks : List Nat) (s : State) (m : Nat) :
    (tget (ks.foldl (fun s n => cutOut n s) s).clk.outs m {}).start = if m ∈ ks then none else (tget s.clk.outs m {}).start := by
  induction ks generalizing s with
  | nil => simp
  | cons k ks ih =>
    rw [List.foldl_cons, ih, cutOut_start]
    by_cases h : m = k <;> simp [h]

/-- Every output that the table lists is cut off, and one that it does not list has none. -/
theorem held_of_cutOuts (s : State) (hscan : s.board.scan.isSome = true) :
    OutsHeld ((s.clk.outs.map (·.1)).foldl (fun s n => cutOut n s) s) := by
  refine ⟨by rw [cutOuts_scan, hscan], fun m => ?_⟩
  rw [cutOuts_start]
  split
  · rfl
  · rename_i h
    rw [tget_of_not_mem _ _ _ h]

/-! ### The board -/

theorem finish_keeps_out {s : State} {o : Out} (h : o ∈ s.out) : o ∈ (finish s).out := by
  obtain ⟨np, c, l, g, m, a, b, i, out, heq, hout⟩ := finish_eq s
  rw [heq]; exact hout o h

theorem ledBits_length (s : State) : s.ledBits.length = 2 * (4 * s.part.ports) := by
  have hpair : ∀ i, (if s.provided (4 * s.part.ports - 1 - i) then
      [(s.lp (4 * s.part.ports - 1 - i)).up, s.board.active.contains (4 * s.part.ports - 1 - i)] else [false, false]).length = 2 :=
    fun i => by split <;> rfl
  simp only [State.ledBits, List.length_flatMap, hpair]
  simp [Nat.mul_comm]

/-- Two bits a number: those of the i-th number stand at 2 i and 2 i + 1. -/
theorem flatMap_pair_getElem? {α β : Type} (f g : α → β) (ls : List α) (i : Nat) (a : α) (h : ls[i]? = some a) :
    (ls.flatMap (fun x => [f x, g x]))[2 * i]? = some (f a) ∧ (ls.flatMap (fun x => [f x, g x]))[2 * i + 1]? = some (g a) := by
  induction ls generalizing i with
  | nil => simp at h
  | cons x xs ih =>
    cases i with
    | zero => simp_all
    | succ i => simpa [Nat.mul_succ] using ih i (by simpa using h)

theorem ledBits_eq (s : State) : s.ledBits = (List.range (4 * s.part.ports)).flatMap (fun i =>
    [s.provided (4 * s.part.ports - 1 - i) && (s.lp (4 * s.part.ports - 1 - i)).up,
      s.provided (4 * s.part.ports - 1 - i) && s.board.active.contains (4 * s.part.ports - 1 - i)]) := by
  unfold State.ledBits
  dsimp only
  congr 1
  funext i
  split <;> simp [*]

theorem ledBits_at (s : State) (l : Nat) (h : l < 4 * s.part.ports) :
    s.ledBits[2 * (4 * s.part.ports - 1 - l)]? = some (s.provided l && (s.lp l).up) ∧
    s.ledBits[2 * (4 * s.part.ports - 1 - l) + 1]? = some (s.provided l && s.board.active.contains l) := by
  have hback : 4 * s.part.ports - 1 - (4 * s.part.ports - 1 - l) = l := by omega
  have hat := flatMap_pair_getElem? (fun i => s.provided (4 * s.part.ports - 1 - i) && (s.lp (4 * s.part.ports - 1 - i)).up)
    (fun i => s.provided (4 * s.part.ports - 1 - i) && s.board.active.contains (4 * s.part.ports - 1 - i))
    (List.range (4 * s.part.ports)) (4 * s.part.ports - 1 - l) (4 * s.part.ports - 1 - l)
    (List.getElem?_range (by omega))
  rw [ledBits_eq]
  simpa only [hback] using hat

/-- The bits of a frame of the module-control chain, the highest port number first (R417). -/
def State.modctlBits (s : State) : List Bool := (List.range s.part.ports).reverse.map ((List.range s.part.ports).filter s.lpMode).contains

theorem State.modctlBits_at (s : State) (p : Nat) (h : p < s.part.ports) : s.modctlBits[s.part.ports - 1 - p]? = some (s.lpMode p) := by
  have hback : s.part.ports - 1 - (s.part.ports - 1 - p) = p := by omega
  rw [modctlBits, List.getElem?_map, List.getElem?_reverse (by simp; omega)]
  simp [hback, h]

theorem freePins_eq (s : State) : freePins s = { s with
    board.scan := none
    time.compares := if s.board.scan = none then s.time.compares else s.time.compares.map (fun e => (e.1, { e.2 with pulseEnd := none })) } := by
  unfold freePins
  by_cases h : s.board.scan = none
  · calc _ = s := by simp only [h, Option.isNone_none, if_true]
      _ = { s with board.scan := s.board.scan } := rfl
      _ = _ := by simp only [h, if_true]
  · rw [if_neg (by simpa using h)]; simp [h]

theorem busWrite_of_done (dt bus : Nat) (s : State) (w : ModWrite) (mux bank page data : Byte) (hfree : (s.advance dt).pinsFree = true)
    (hw : (s.advance dt).busWrite bus = some w) : Runs (.modBusWrite dt bus (.done mux bank page data)) s (fun t =>
      t.board.modWrites = (s.advance dt).board.modWrites.erase w ∧ ∃ writes, Out.modBus bus writes ∈ t.out ∧
        (0x70, BitVec.ofNat 8 (2 ^ (w.port % 8))) ∈ writes) := by
  refine runs_of rfl ?_
  unfold modTenure
  simp only [hfree, hw, Bool.not_true, Bool.false_eq_true, if_false]
  exact ⟨by simp, _, finish_keeps_out List.mem_cons_self, List.mem_cons_self⟩

theorem pcieLoss_holder (s : State) : (pcieLoss s).cmd.holder ≠ 1 := by
  unfold pcieLoss
  by_cases h : s.cmd.holder = 1
  · rw [rowRelease_of_holder 1 2 s h (by decide)]; simp
  · rw [rowRelease_of_other 1 2 s h]; exact h

theorem rowRelease_parts (h cause : Nat) (s : State) : (rowRelease h cause s).port = s.port ∧ (rowRelease h cause s).clk = s.clk ∧
    (rowRelease h cause s).board.scan = s.board.scan := by
  unfold rowRelease; split <;> simp

theorem cutOuts_port (ks : List Nat) (s : State) : (ks.foldl (fun s n => cutOut n s) s).port = s.port := by
  induction ks generalizing s with
  | nil => rfl
  | cons k ks ih => rw [List.foldl_cons, ih]; unfold cutOut; dsimp only; split <;> rfl

/-- The pins follow the boundary register: every output is cut off, every link goes down, and PCIe loses its right of way. -/
theorem tapLoad_of_holding (i : TapInstr) (s : State) (hpower : s.power.vddCore0 = true) (hi : TapInstr.holdsPins i = true) :
    (tapLoad i s).board.scan = some i ∧ (∀ l ∈ s.enabledPorts, ((tapLoad i s).lp l).up = false) ∧ (tapLoad i s).cmd.holder ≠ 1 ∧
      OutsHeld (tapLoad i s) := by
  let a : State := (s.clk.outs.map (·.1)).foldl (fun s n => cutOut n s) { s with board.scan := some i }
  let b := linksDown (s.enabledPorts.filter (fun l => (s.lp l).up)) a
  have hload : tapLoad i s = pcieLoss b := by simp [tapLoad, hpower, hi, a, b]
  obtain ⟨hport, hclk, hscan⟩ := rowRelease_parts 1 2 b
  have hheld : OutsHeld a := held_of_cutOuts { s with board.scan := some i } rfl
  have ha : a.board.scan = some i := cutOuts_scan _ _
  rw [hload]
  refine ⟨?_, fun l hl => ?_, pcieLoss_holder b, ?_⟩
  · rw [pcieLoss, hscan, linksDown_scan, ha]
  · have hup : ((pcieLoss b).lp l).up = (b.lp l).up := by simp only [State.lp, pcieLoss, hport]
    have hlp : (a.lp l).up = (s.lp l).up := by simp only [State.lp, a, cutOuts_port]
    rw [hup, linksDown_lp_up, hlp]
    cases h : (s.lp l).up <;> simp [hl, h]
  · exact held_of_same hheld (by rw [pcieLoss, hscan, linksDown_scan]) (by rw [pcieLoss, hclk, linksDown_clk])

/-- Settles O60: each board event in each of its cases. When the chains run and the right of way that PCIe loses with its pins are log
entry 49, the cut of the pulses log entry 43. -/
theorem boardEventsTakeEffect : Obligations.BoardEventsTakeEffect := by
  intro dt s u count
  refine ⟨fun hfree hrun hms => ⟨u.ledBits, leads_of rfl ?_, ledBits_length u, ledBits_at u⟩,
    fun hno => ⟨leads_of rfl (if_neg ?_), leads_of rfl (if_neg ?_)⟩, fun hms => leads_of rfl (if_neg (by simp [hms, u])), ?_, ?_, ?_,
    rfl, ?_, ?_, ?_, ?_⟩
  · exact if_pos (by change (u.pinsFree && u.time.running && decide (u.ms.toNat % 65536 = 0)) = true; simp [hfree, hrun, hms])
  · change ¬ (u.pinsFree && u.time.running && decide (u.ms.toNat % 65536 = 0)) = true
    rcases hno with h | h <;> simp [h]
  · change ¬ (u.pinsFree && u.time.running && decide ((List.range u.part.ports).filter u.lpMode ≠ u.board.modctl)) = true
    rcases hno with h | h <;> simp [h]
  · rintro _ rfl
    refine ⟨fun hfree hrun hnew => ⟨u.modctlBits, leads_of rfl ?_, by simp [State.modctlBits], u.modctlBits_at⟩, fun hsame => leads_of rfl ?_⟩
    · exact if_pos (by
        change (u.pinsFree && u.time.running && decide ((List.range u.part.ports).filter u.lpMode ≠ u.board.modctl)) = true
        simp [hfree, hrun, hnew])
    · refine if_neg ?_
      change ¬ (u.pinsFree && u.time.running && decide ((List.range u.part.ports).filter u.lpMode ≠ u.board.modctl)) = true
      simp [hsame]
  · intro bus result hno
    refine leads_of rfl ?_
    change modTenure bus result u = u
    unfold modTenure
    rcases hno with h | h <;> simp [h]
  · intro bus w hfree hw gone
    have htenure : ∀ result t, modTenure bus result u = t → Leads (.modBusWrite dt bus result) s t := fun _ _ h => leads_of rfl h
    refine ⟨fun mux bank page data => busWrite_of_done dt bus s w mux bank page data hfree hw, htenure _ _ ?_, htenure _ _ ?_,
      fun hmany => htenure _ _ ?_, fun hfew => htenure _ _ ?_⟩
    · simp [modTenure, hfree, hw, gone]
    · simp [modTenure, hfree, hw, gone]
    · simp [modTenure, hfree, hw, gone, hmany]
    · simp [modTenure, hfree, hw, Nat.not_le.2 hfew]
  · intro i hpower hi
    obtain ⟨hscan, hdown, hholder, hheld⟩ := tapLoad_of_holding i u hpower hi
    refine runs_of rfl ⟨by simpa using hscan, fun l hl => by simpa using hdown l hl, by simpa using hholder,
      fun n _ => outOn_of_held (held_finish _ hheld) n⟩
  · intro i hpower hi
    refine leads_of rfl ?_
    change tapLoad i u = _
    simp only [tapLoad, hpower, hi, Bool.not_true, Bool.false_eq_true, if_false]
    exact freePins_eq u
  · intro i hpower
    refine leads_of rfl ?_
    change tapLoad i u = u
    simp [tapLoad, hpower]
  · exact leads_of rfl (freePins_eq u)

end Sys2Proof.Machine
end

section
/-! SUPPORT. Voltage requests and triggers (R334 to R342), PFC (R98 to R102). -/

namespace Sys2Proof.Machine

set_option Elab.async false

/-! ### What a change of triggers leaves -/

/-- The rails are as they were, and whatever was sent stays sent. -/
def RailsKept (s t : State) : Prop := t.power.rails = s.power.rails ∧ ∀ o ∈ s.out, o ∈ t.out

theorem railsKept_trans {s t u : State} (h1 : RailsKept s t) (h2 : RailsKept t u) : RailsKept s u :=
  ⟨h2.1.trans h1.1, fun o h => h2.2 o (h1.2 o h)⟩

theorem railsKept_refl (s : State) : RailsKept s s := ⟨rfl, fun _ h => h⟩

theorem railsKept_raise (v : Severity) (c : Nat) (p : List Byte) (s : State) : RailsKept s (raise v c p s) :=
  ⟨by simp, fun o h => raise_out v c p s o h⟩

theorem cclkMhz_kept (s : State) : RailsKept s (cclkMhz s).2 := by
  unfold cclkMhz
  dsimp only
  split <;> exact ⟨rfl, fun _ h => h⟩

theorem abandonRamp_kept (c : Nat) (s : State) : RailsKept s (abandonRamp c s) := by
  unfold abandonRamp
  split
  · exact railsKept_refl s
  · rename_i r _
    refine railsKept_trans (cclkMhz_kept s) ?_
    dsimp only
    split <;> exact railsKept_trans ⟨rfl, fun _ h => h⟩ (railsKept_raise _ _ _ _)

theorem setCores_kept (f : State → Nat → CoreDie) (ds : List Nat) (s : State) :
    RailsKept s (ds.foldl (fun s d => s.setCore d (f s d)) s) := by
  induction ds generalizing s with
  | nil => exact railsKept_refl s
  | cons d ds ih => exact railsKept_trans ⟨rfl, fun _ h => h⟩ (ih (s.setCore d (f s d)))

theorem stopRestore_kept (s : State) : RailsKept s (stopRestore s) := by
  unfold stopRestore
  split
  · extract_lets a k b
    have ha : RailsKept s a := by
      dsimp only [a]
      split
      · split
        · exact abandonRamp_kept 0 s
        · exact railsKept_refl s
      · exact railsKept_refl s
    have hb : RailsKept a b := by
      dsimp only [b]
      split
      · exact setCores_kept _ _ { a with clk.cclk := 0 }
      · exact railsKept_refl a
    exact railsKept_trans ha hb
  · exact railsKept_refl s

/-- What a change of triggers starts leaves the rails, and whatever was sent stays sent. -/
theorem trigger_kept (f : State → State) (s : State) : RailsKept (f s) (trigger f s) := by
  unfold trigger clearing asserted
  dsimp only
  split
  · split <;> exact ⟨rfl, fun _ h => h⟩
  · split
    · split <;> exact stopRestore_kept (f s)
    · split <;> exact ⟨rfl, fun _ h => h⟩

@[simp] theorem rail_setRail_same (s : State) (r : Nat) (v : Rail) : (s.setRail r v).rail r = v := tget_tput_same _ _ _ _

theorem rail_setRail_other (s : State) (r k : Nat) (v : Rail) (h : k ≠ r) : (s.setRail r v).rail k = s.rail k := tget_tput_other _ _ _ _ _ h

theorem takeAlert_rail (r : Nat) (a : Bool) (s : State) : (takeAlert r a s).rail r = { s.rail r with alert := a } := by
  unfold takeAlert
  split
  · rename_i h; rw [← h]
  · rw [State.rail, (trigger_kept _ s).1]
    exact rail_setRail_same s r _

theorem takeAlert_same (r : Nat) (s : State) : takeAlert r (s.rail r).alert s = s := if_pos rfl

@[simp] theorem finish_rail (s : State) (r : Nat) : (finish s).rail r = s.rail r := by simp [State.rail]

/-- Every AVS rail takes its bit of the status (R336). -/
def setAlerts (alerts : BitVec 8) (s : State) : State :=
  s.avsRails.foldl (fun s r => s.setRail r { s.rail r with alert := alerts.getLsbD r }) s

theorem setAlerts_rail (alerts : BitVec 8) (ks : List Nat) (s : State) (k : Nat) :
    ((ks.foldl (fun s r => s.setRail r { s.rail r with alert := alerts.getLsbD r }) s).rail k).alert =
      if k ∈ ks then alerts.getLsbD k else (s.rail k).alert := by
  induction ks generalizing s with
  | nil => rfl
  | cons r ks ih =>
    rw [List.foldl_cons, ih]
    by_cases h : k = r
    · simp [h]
    · simp [h, rail_setRail_other]

theorem setAlerts_out (alerts : BitVec 8) (ks : List Nat) (s : State) :
    (ks.foldl (fun s r => s.setRail r { s.rail r with alert := alerts.getLsbD r }) s).out = s.out := by
  induction ks generalizing s with
  | nil => rfl
  | cons r ks ih => rw [List.foldl_cons, ih]; rfl

theorem toKeep_power (s : State) : (toKeep s).power.mode = .keep ∧ (toKeep s).power.failure = s.power.failure := by
  have hlose : ∀ t : State, (loseWrite t).power = t.power := by
    intro t
    unfold loseWrite
    split
    · rfl
    · dsimp only; split <;> rfl
  have hmode : ∀ m, (setMode m s).power.failure = s.power.failure := by intro m; unfold setMode; split <;> simp
  refine ⟨rfl, ?_⟩
  change (loseWrite (setMode .keep s)).power.failure = _
  rw [hlose, hmode]

theorem avsAcked_of_idle (r : Nat) (a : Bool) (s : State) (h : (s.rail r).state ≠ 1) : avsAcked r a s = s := if_pos (.inl h)
theorem avsAcked_of_late (r : Nat) (a : Bool) (s : State) (h : (s.rail r).since + 500 * micro < s.time.mono) : avsAcked r a s = s :=
  if_pos (.inr h)
theorem avsAcked_in_time (r : Nat) (a : Bool) (s : State) (h : (s.rail r).state = 1) (ht : s.time.mono ≤ (s.rail r).since + 500 * micro) :
    avsAcked r a s = avsAck r (takeAlert r a s) := if_neg (by rintro (hs | hl) <;> omega)
theorem avsFailed_of_idle (r : Nat) (a : Option Bool) (s : State) (h : (s.rail r).state ≠ 1) : avsFailed r a s = s := if_pos (.inl h)
theorem avsFailed_of_early (r : Nat) (a : Option Bool) (s : State) (h : s.time.mono < (s.rail r).since + 500 * micro) : avsFailed r a s = s :=
  if_pos (.inr h)
theorem avsFailed_due (r : Nat) (s : State) (h : (s.rail r).state = 1) (ht : (s.rail r).since + 500 * micro ≤ s.time.mono) :
    avsFailed r none s = avsTimeout r s := if_neg (by rintro (hs | hl) <;> omega)

/-- What an acknowledgement leaves of its rail. -/
def RailTook (r : Nat) (alert : Bool) (mv : Nat) (t : State) : Prop :=
  (t.rail r).alert = alert ∧ (t.rail r).acked = mv ∧ (t.rail r).state = 2

theorem avsAck_host (r : Nat) (al : Bool) (s : State) (hs : (s.rail r).state = 1) (ho : (s.rail r).owner = .host) :
    RailTook r al (s.rail r).requested (finish (avsAck r (takeAlert r al s))) := by
  have hv := takeAlert_rail r al s
  simp [RailTook, avsAck, hv, hs, ho]

/-- A rail with its request acknowledged. -/
def State.ackRail (s : State) (r : Nat) : State := s.setRail r { s.rail r with acked := (s.rail r).requested, state := 2 }

/-- What waited for an acknowledgement goes on, by its owner (R334). -/
def ackGoesOn (r : Nat) (o : AvsOwner) (s : State) : State :=
  match o with
  | .bringUp =>
    match s.avsRails.find? (fun k => decide (r < k)) with
    | some k => requestVolt .bringUp k (s.bootVolt k) s
    | none => { s with power.bootStep := 5 }
  | .shed => if s.coresWaiting then s else { s with power.stageDone := true }
  | .restore =>
    if s.power.restoring && s.coresAcked then
      if s.power.cclkBefore ≤ s.clk.cclk then finishRestore s else startRamp .restore s.power.cclkBefore s
    else s
  | _ => s

theorem avsAck_eq (r : Nat) (s : State) (hs : (s.rail r).state = 1) : avsAck r s = ackGoesOn r (s.rail r).owner (s.ackRail r) := by
  unfold avsAck
  dsimp only
  rw [if_neg (not_not.2 hs)]
  rfl

theorem ackGoesOn_shed (r : Nat) (s : State) (hw : s.coresWaiting = false) : ackGoesOn r .shed s = { s with power.stageDone := true } := by
  simp [ackGoesOn, hw]

theorem ackGoesOn_last (r : Nat) (s : State) (hlast : s.avsRails.find? (fun k => decide (r < k)) = none) :
    ackGoesOn r .bringUp s = { s with power.bootStep := 5 } := by
  simp only [ackGoesOn, hlast]

theorem ackGoesOn_next (r k : Nat) (s : State) (hnext : s.avsRails.find? (fun k => decide (r < k)) = some k) :
    ackGoesOn r .bringUp s = requestVolt .bringUp k (s.bootVolt k) s := by
  simp only [ackGoesOn, hnext]

/-- What an acknowledgement of start-up leaves of its rail and of the next (Table 15.4). -/
def BootVoltNext (r k acked mv : Nat) (t : State) : Prop :=
  (t.rail r).acked = acked ∧ (t.rail k).state = 1 ∧ (t.rail k).requested = mv

/-- The device is in KEEP with the failure record of a start-up request (Table 14.10). -/
def BootFailed (r : Nat) (t : State) : Prop := t.power.mode = .keep ∧ t.power.failure.pending = true ∧ t.power.failure.rail = r ∧
  t.power.failure.attempts = 4 ∧ t.power.failure.phase = 0

theorem bootFailed_of_failRecord (r : Nat) (s : State) : BootFailed r (finish (toKeep (failRecord r 4 0 s))) := by
  obtain ⟨hmode, hfailure⟩ := toKeep_power (failRecord r 4 0 s)
  unfold BootFailed
  rw [finish_power_mode, finish_power_failure, hmode, hfailure]
  exact ⟨rfl, rfl, rfl, rfl, rfl⟩

/-- A request of start-up that fails four times takes the device to KEEP with the failure record (R335). -/
theorem avsTimeout_bringUp (r : Nat) (s : State) (hs : (s.rail r).state = 1) (hmany : 4 ≤ (s.rail r).attempts)
    (ho : (s.rail r).owner = .bringUp) : avsTimeout r s = toKeep (failRecord r 4 0 (s.setRail r { s.rail r with state := 3 })) := by
  simp [avsTimeout, hs, Nat.not_lt.2 hmany, ho]

/-- Settles O46: each of the three AVSBus events in each of its cases. -/
theorem voltageEventsTakeEffect : Obligations.VoltageEventsTakeEffect := by
  intro dt r s u v w
  refine ⟨fun hidle => ⟨fun al => leads_of rfl (avsAcked_of_idle r al u hidle), fun st => leads_of rfl (avsFailed_of_idle r st u hidle)⟩,
    fun hlate al => leads_of rfl (avsAcked_of_late r al u hlate), fun hearly st => leads_of rfl (avsFailed_of_early r st u hearly),
    fun htime => ⟨fun hs ho => leads_of rfl ?_, fun al hs ho => runs_of rfl ?_, fun hs ho hw => leads_of rfl ?_,
      fun hs ho hlast => leads_of rfl ?_, fun k hs ho hnext => runs_of rfl ?_⟩,
    fun hdue => ⟨fun hs hfew => leads_of rfl ?_, fun hs hmany ho => leads_of rfl ?_, fun hs hmany ho => runs_of rfl ?_⟩,
    fun alerts hmode hrun hms => runs_of rfl ?_, fun alerts hno => leads_of rfl (if_pos hno)⟩
  · change avsAcked r v.alert u = w
    rw [avsAcked_in_time r v.alert u hs htime, takeAlert_same]
    simp [avsAck, hs, ho, w, v]
  · change RailTook r al v.requested (finish (avsAcked r al u))
    rw [avsAcked_in_time r al u hs htime]
    exact avsAck_host r al u hs ho
  · change avsAcked r v.alert u = _
    rw [avsAcked_in_time r v.alert u hs htime, takeAlert_same]
    rw [avsAck_eq r u hs, show (u.rail r).owner = .shed from ho]
    exact ackGoesOn_shed r _ hw
  · change avsAcked r v.alert u = _
    rw [avsAcked_in_time r v.alert u hs htime, takeAlert_same]
    rw [avsAck_eq r u hs, show (u.rail r).owner = .bringUp from ho]
    exact ackGoesOn_last r _ hlast
  · change BootVoltNext r k (u.rail r).requested (u.bootVolt k) (finish (avsAcked r v.alert u))
    have hk : r < k := by simpa using List.find?_some hnext
    rw [avsAcked_in_time r v.alert u hs htime, takeAlert_same, avsAck_eq r u hs, show (u.rail r).owner = .bringUp from ho,
      ackGoesOn_next r k (u.ackRail r) hnext]
    refine ⟨?_, ?_, ?_⟩
    · rw [finish_rail]
      exact (congrArg Rail.acked (rail_setRail_other _ k r _ hk.ne)).trans (congrArg Rail.acked (rail_setRail_same u r _))
    · rw [finish_rail]
      exact congrArg Rail.state (rail_setRail_same _ k _)
    · rw [finish_rail]
      exact congrArg Rail.requested (rail_setRail_same _ k _)
  · change avsFailed r none u = _
    rw [avsFailed_due r u hs hdue]
    simp [avsTimeout, hs, hfew, v]
  · change avsFailed r none u = _
    rw [avsFailed_due r u hs hdue]
    simp [avsTimeout, hs, Nat.not_lt.2 hmany, ho, v]
  · change BootFailed r (finish (avsFailed r none u))
    rw [avsFailed_due r u hs hdue, avsTimeout_bringUp r u hs hmany ho]
    exact bootFailed_of_failRecord r _
  · change Out.avsPoll ∈ (finish (pollAvs alerts u)).out ∧ ∀ k ∈ u.avsRails, ((finish (pollAvs alerts u)).rail k).alert = _
    have hpoll : pollAvs alerts u = trigger (setAlerts alerts) (u.emit .avsPoll) := if_neg (by simp [hmode, hrun, hms])
    obtain ⟨hrails, hout⟩ := trigger_kept (setAlerts alerts) (u.emit .avsPoll)
    rw [hpoll]
    refine ⟨finish_keeps_out (hout _ ?_), fun k hk => ?_⟩
    · rw [setAlerts, setAlerts_out]; exact List.mem_cons_self
    · rw [finish_rail, State.rail, hrails]
      exact (setAlerts_rail alerts _ _ k).trans (if_pos hk)

end Sys2Proof.Machine
end

section
/-! SUPPORT. Pauses and MAC control frames (R98 to R102). -/

namespace Sys2Proof.Machine

set_option Elab.async false

/-- A priority that a PFC frame enables takes its pause 400 ns later (R102). -/
def takeQuanta (l : Nat) (d : List Byte) (s : State) (p : Nat) : State :=
  if bit (fld d 16 2) p then
    s.setPfcPort l p { s.pfcPort l p with incoming := (s.pfcPort l p).incoming ++ [(s.time.mono + 400 * 65536, fld d (18 + 2 * p) 2)] }
  else s

theorem takeQuanta_time (l : Nat) (d : List Byte) (s : State) (p : Nat) : (takeQuanta l d s p).time = s.time := by
  unfold takeQuanta; split <;> rfl

theorem takeQuanta_pfcPort (l : Nat) (d : List Byte) (s : State) (p q : Nat) : (takeQuanta l d s p).pfcPort l q =
    if q = p ∧ bit (fld d 16 2) p = true then
      { s.pfcPort l q with incoming := (s.pfcPort l q).incoming ++ [(s.time.mono + 400 * 65536, fld d (18 + 2 * q) 2)] }
    else s.pfcPort l q := by
  unfold takeQuanta
  by_cases h : bit (fld d 16 2) p = true
  · rw [if_pos h, State.setPfcPort, State.pfcPort]
    dsimp only
    rw [tget_tput]
    by_cases hq : q = p
    · subst hq; simp [h]
    · simp [hq, State.pfcPort]
  · simp [h]

theorem takeQuantas_pfcPort (l : Nat) (d : List Byte) (ps : List Nat) (hps : ps.Nodup) (s : State) (q : Nat) :
    (ps.foldl (takeQuanta l d) s).pfcPort l q =
      if q ∈ ps ∧ bit (fld d 16 2) q = true then
        { s.pfcPort l q with incoming := (s.pfcPort l q).incoming ++ [(s.time.mono + 400 * 65536, fld d (18 + 2 * q) 2)] }
      else s.pfcPort l q := by
  induction ps generalizing s with
  | nil => simp
  | cons p ps ih =>
    obtain ⟨hp, hrest⟩ := List.nodup_cons.1 hps
    rw [List.foldl_cons, ih hrest, takeQuanta_pfcPort, takeQuanta_time]
    by_cases hq : q = p
    · subst hq; simp [hp]
    · simp [hq]

section
variable (l : Nat) (f : List Byte) (s : State)

/-- The counters of a MAC control frame (R98). -/
def controlCtx : CountCtx := ctxOf (parse s.fwd.etWaymark (f.take (f.length - 4))) none false none

theorem actOnControl_bad_fcs (h : fcs (f.take (f.length - 4)) ≠ f.drop (f.length - 4)) :
    actOnControl l f s = countBy (controlCtx f s) 3 l 1 1 s := if_pos h

variable (h : fcs (f.take (f.length - 4)) = f.drop (f.length - 4))
include h

theorem actOnControl_pause (ho : fld (f.take (f.length - 4)) 14 2 = 0x0001) : actOnControl l f s = countBy (controlCtx f s) 1 l 6 1 s := by
  simp only [actOnControl, h, ho, controlCtx, ne_eq, not_true, if_false]

theorem actOnControl_unknown (h1 : fld (f.take (f.length - 4)) 14 2 ≠ 0x0001) (h2 : fld (f.take (f.length - 4)) 14 2 ≠ 0x0101) :
    actOnControl l f s = countBy (controlCtx f s) 1 l 7 1 s := by
  simp only [actOnControl, h, controlCtx, ne_eq, not_true, if_false]

theorem actOnControl_pfc (ho : fld (f.take (f.length - 4)) 14 2 = 0x0101) :
    actOnControl l f s = (List.range 8).foldl (takeQuanta l (f.take (f.length - 4))) (countBy (controlCtx f s) 1 l 5 1 s) := by
  simp only [actOnControl, h, ho, controlCtx, ne_eq, not_true, if_false]
  rfl
end

section
variable (l ago : Nat) (f : List Byte) (s : State) (hrx : s.receives l = true) (hloop : s.loopsBack l = false) (htype : fld f 12 2 = 0x8808)
include hrx hloop htype

theorem macControl_short (h : f.length < 64) : macControl l ago f s = dropIn l 2 none false (f.take (f.length - 4)) s := by
  simp [macControl, hrx, inLoop, hloop, isMacControl, htype, sizeDrop, h]

theorem macControl_long (hmin : 64 ≤ f.length) (hmax : (s.fwdCfg l).mtuAt (s.time.mono - ago) < f.length) :
    macControl l ago f s = dropIn l 3 none false (f.take (f.length - 4)) s := by
  simp [macControl, hrx, inLoop, hloop, isMacControl, htype, sizeDrop, Nat.not_lt.2 hmin, hmax]

theorem macControl_sized (hmin : 64 ≤ f.length) (hmax : f.length ≤ (s.fwdCfg l).mtuAt (s.time.mono - ago)) :
    macControl l ago f s = actOnControl l f s := by
  simp [macControl, hrx, inLoop, hloop, isMacControl, htype, sizeDrop, Nat.not_lt.2 hmin, Nat.not_lt.2 hmax]
end

theorem macControl_unheard (l ago : Nat) (f : List Byte) (s : State) (h : s.receives l = false) : macControl l ago f s = s := by
  simp [macControl, h]

theorem macControl_other (l ago : Nat) (f : List Byte) (s : State) (hloop : s.loopsBack l = false) (htype : fld f 12 2 ≠ 0x8808) :
    macControl l ago f s = s := by
  simp [macControl, inLoop, hloop, isMacControl, htype]

@[simp] theorem finish_pfcPort (s : State) (l p : Nat) : (finish s).pfcPort l p = s.pfcPort l p := by simp [State.pfcPort]

/-- Settles O56: each of the four events in each of its cases. -/
theorem pausesTakeEffect : Obligations.PausesTakeEffect := by
  intro dt l p s u st
  refine ⟨fun hdue hsent hup hhalf => leads_of rfl (if_pos ?_), fun hno => leads_of rfl (if_neg ?_),
    fun ago f hrx => leads_of rfl (macControl_unheard l ago f u hrx),
    fun ago f hloop htype => leads_of rfl (macControl_other l ago f u hloop htype), fun ago f hrx hloop htype => ?_,
    fun h => leads_of rfl ?_, fun t q r h => ⟨fun ht => leads_of rfl ?_, fun ht => leads_of rfl ?_⟩,
    fun t h => ⟨fun ht => leads_of rfl ?_, fun ht => leads_of rfl ?_⟩, fun h => leads_of rfl ?_⟩
  · change (st.due || st.freeze) && st.xoffSent && (u.lp l).up && decide (u.quantaTime l st.quanta ≤ 2 * (u.time.mono - st.lastXoff))
    rcases hdue with h | h <;> simp [h, hsent, hup, hhalf]
  · change ¬ ((st.due || st.freeze) && st.xoffSent && (u.lp l).up && decide (u.quantaTime l st.quanta ≤ 2 * (u.time.mono - st.lastXoff)))
    rcases hno with ⟨h1, h2⟩ | h | h | h
    · simp [h1, h2]
    · simp [h]
    · simp [h]
    · simp [Nat.not_le.2 h]
  · intro d mtu c
    refine ⟨fun hshort => leads_of rfl (macControl_short l ago f u hrx hloop htype hshort),
      fun hmin hmax => leads_of rfl (macControl_long l ago f u hrx hloop htype hmin hmax), fun hmin hmax => ?_⟩
    have hact := macControl_sized l ago f u hrx hloop htype hmin hmax
    refine ⟨fun hbad => leads_of rfl (hact.trans (actOnControl_bad_fcs l f u hbad)),
      fun hgood ho => leads_of rfl (hact.trans (actOnControl_pause l f u hgood ho)),
      fun hgood h1 h2 => leads_of rfl (hact.trans (actOnControl_unknown l f u hgood h1 h2)), fun hgood ho hp => runs_of rfl ?_⟩
    change (finish (macControl l ago f u)).pfcPort l p = _
    have hcount : (countBy (controlCtx f u) 1 l 5 1 u).fwd = u.fwd ∧ (countBy (controlCtx f u) 1 l 5 1 u).time = u.time :=
      ⟨fwd_of_frame (countBy_frame _ _ _ _ _ _), time_of_frame (countBy_frame _ _ _ _ _ _)⟩
    rw [hact, finish_pfcPort, actOnControl_pfc l f u hgood ho, takeQuantas_pfcPort l d _ List.nodup_range]
    simp [State.pfcPort, hcount, hp, st]
  · change pauseStart l p u = u
    simp only [pauseStart, show (u.pfcPort l p).incoming = [] from h]
  · change pauseStart l p u = _
    simp only [pauseStart, show (u.pfcPort l p).incoming = (t, q) :: r from h, if_neg (Nat.not_lt.2 ht), st]
  · change pauseStart l p u = u
    simp only [pauseStart, show (u.pfcPort l p).incoming = (t, q) :: r from h, if_pos ht]
  · change pauseEnd l p u = _
    simp only [pauseEnd, show (u.pfcPort l p).pausedUntil = some t from h, if_pos ht, st]
  · change pauseEnd l p u = u
    simp only [pauseEnd, show (u.pfcPort l p).pausedUntil = some t from h, if_neg (Nat.not_le.2 ht)]
  · change pauseEnd l p u = u
    simp only [pauseEnd, show (u.pfcPort l p).pausedUntil = none from h]

end Sys2Proof.Machine
end

section
/-! SUPPORT. What the shared operations leave unchanged: gates, the compare units, moves of the count, the DPLL and estimates. -/

namespace Sys2Proof.Machine

set_option Elab.async false

/-! ### Gates -/

theorem openGate_frame (n : Nat) (a : AT80) (m : Nat) (s : State) : OnlyIn [.meas] s (openGate n a m s) :=
  frame_skip (setChan_frame n _ s)

theorem closeGate_frame (n : Nat) (a : AT80) (m : Nat) (c : Bool) (s : State) : OnlyIn [.meas] s (closeGate n a m c s) := by
  unfold closeGate
  dsimp only
  split
  · exact frame_refl _ s
  · exact setChan_frame n _ s

theorem windowOver_frame (n : Nat) (s : State) : OnlyIn [.meas] s (windowOver n s) :=
  frame_ite (setChan_frame n _ s) (setChan_frame n _ s)

theorem disableChannel_frame (n : Nat) (s : State) : OnlyIn [.meas] s (disableChannel n s) :=
  frame_step (closeGate_frame _ _ _ _ s) (setChan_frame n _ _)

theorem disableChannels_frame (s : State) : OnlyIn [.meas] s (disableChannels s) :=
  frame_foldl (fun t n => frame_opt (disableChannel_frame n t)) _ s

theorem enableChannel_frame (n : Nat) (x : Source) (s : State) : OnlyIn [.meas] s (enableChannel n x s) :=
  frame_ite (frame_step (setChan_frame n _ s) (openGate_frame _ _ _ _)) (setChan_frame n _ s)

theorem stepGates_frame (old : AT80) (s : State) : OnlyIn [.meas] s (stepGates old s) := by
  unfold stepGates
  refine frame_foldl (fun t n => ?_) _ s
  extract_lets c a past b d e f g
  have hset : ∀ (r : State) (x : Option Gate) (y : Gate → Channel), OnlyIn [.meas] r (match x with
      | some g => r.setChan n (y g)
      | none => r) := fun r x y => by
    cases x
    · exact frame_refl _ r
    · exact setChan_frame n _ r
  have ha : OnlyIn [.meas] t a := hset t c.gate _
  have hb : OnlyIn [.meas] t b := frame_step ha (openGate_frame n _ _ a)
  have he : OnlyIn [.meas] t e := frame_step hb (hset b (b.chan n).gate _)
  have hf : OnlyIn [.meas] t f := frame_ite
    (frame_ite (frame_step ha (frame_step (closeGate_frame n _ _ _ a) (windowOver_frame n _))) ha)
    (frame_ite (frame_step he (frame_step (closeGate_frame n _ _ _ e) (windowOver_frame n _))) ha)
  exact frame_ite ha (frame_ite (frame_step hf (setChan_frame n _ f)) hf)

/-! ### Reports and notifications -/

theorem openDiv_frame (a : Int) (b : Nat) (s : State) : OnlyIn [] s (openDiv a b s).2 := by
  unfold openDiv
  split
  · exact frame_refl _ s
  · split
    · exact frame_refl _ s
    · exact drawBit_frame s

theorem frame_snd {α : Type} {cs : List Mod} {s t : State} {p : α × State} {x : α} (h : OnlyIn cs s p.2) (heq : p = (x, t)) :
    OnlyIn cs s t := by subst heq; exact h

theorem frame_pair_ite {α : Type} {cs : List Mod} {s : State} {p q : α × State} {c : Prop} [Decidable c] (hp : OnlyIn cs s p.2)
    (hq : OnlyIn cs s q.2) : OnlyIn cs s (if c then p else q).2 := by
  split
  · exact hp
  · exact hq

theorem fitFigures_frame (k : Nat) (g : Gate) (a : AT80) (m : Nat) (s : State) : OnlyIn [] s (fitFigures k g a m s).2 := by
  fun_cases fitFigures k g a m s
  case case1 => exact frame_refl _ s
  case case2 h1 _ _ h2 _ _ h3 _ _ _ _ h4 _ _ _ h5 _ _ h6 =>
    have f1 := frame_snd (openDiv_frame _ _ _) h1
    have f2 := frame_snd (openDiv_frame _ _ _) h2
    have f3 := frame_snd (frame_pair_ite (frame_refl [] _) (openDiv_frame _ _ _)) h3
    have f4 := frame_snd (openDiv_frame _ _ _) h4
    have f5 := frame_snd (frame_pair_ite (frame_refl [] _) (drawBit_frame _)) h5
    exact frame_trans (frame_trans (frame_trans (frame_trans (frame_trans f1 f2) f3) f4) f5) (frame_snd (openDiv_frame _ _ _) h6)

theorem gateReport_frame (n q : Nat) (g : Gate) (a : AT80) (m : Nat) (b : Bool) (s : State) : OnlyIn [] s (gateReport n q g a m b s).2 :=
  fitFigures_frame _ _ _ _ s

theorem notifyRing_frame (o : Nat) (n : BitVec 18) (p : List Byte) (s : State) : OnlyIn [.cmd, .ctr] s (notifyRing o n p s).2 := by
  obtain ⟨r, hr⟩ := ringPush_eq .notify (packet 2 0 o s.cmd.notifyPcie n p) { s with cmd.notifyPcie := s.cmd.notifyPcie + 1 }
  unfold notifyRing
  dsimp only
  rw [hr]
  exact frame_ite (frame_step (frame_within (frame_cmd s _)) (countDevice_frame _ _)) (frame_within (frame_cmd s _))

theorem notifyLocal_frame (d : Option Source) (o : Nat) (p : List Byte) (s : State) : OnlyIn [.cmd, .ctr] s (notifyLocal d o p s) := by
  unfold notifyLocal
  split
  · have h := notifyRing_frame o s.hier.node p s
    split
    · exact frame_step (frame_snd h ‹_›) (emit_frame _ _)
    · exact frame_snd h ‹_›
  · extract_lets seq c t
    have ht : OnlyIn [.cmd, .ctr] s t := frame_within (frame_cmd s _)
    exact frame_ite (frame_step ht (emit_frame _ t)) (frame_step ht (countDevice_frame _ t))
  · exact frame_within (countDevice_frame _ s)

theorem notify_frame (d : Option Source) (o : Nat) (p : List Byte) (s : State) : OnlyIn [.cmd, .fwd, .ctr, .port] s (notify d o p s) := by
  unfold notify
  split
  · extract_lets seq c t
    have ht : OnlyIn [.cmd, .fwd, .ctr, .port] s t := frame_within (frame_cmd s _)
    split
    · exact frame_step ht (originateOn_frame _ _ _ _ _ _ _ _)
    · exact frame_step ht (countDevice_frame _ t)
  · exact frame_within (notifyLocal_frame _ _ _ s)

end Sys2Proof.Machine
end

section
/-! SUPPORT. TDC edges, gate pins and windows (R270 to R281). -/

namespace Sys2Proof.Machine

set_option Elab.async false

@[simp] theorem finish_chan (s : State) (n : Nat) : (finish s).chan n = s.chan n := by simp [State.chan]

@[simp] theorem chan_setChan_same (s : State) (n : Nat) (c : Channel) : (s.setChan n c).chan n = c := tget_tput_same _ _ _ _

theorem chan_setChan_other (s : State) (n m : Nat) (c : Channel) (h : n ≠ m) : (s.setChan m c).chan n = s.chan n := tget_tput_other _ _ _ _ _ h

@[simp] theorem setChan_setChan_same (s : State) (n : Nat) (c d : Channel) : (s.setChan n c).setChan n d = s.setChan n d := by
  simp only [State.setChan, tput_tput_same]

/-- A gate opens on a channel. -/
def Channel.opened (c : Channel) (at_ : AT80) (mono : Nat) (tv : Bool) : Channel :=
  { c with gate := some { opened := at_, openedMono := mono, lostBefore := c.lostPending, edgeBefore := c.lastEdge, tv := tv } }

/-- A gate of a channel closes; its report is to be stored. -/
def Channel.closedAt (c : Channel) (g : Gate) (at_ : AT80) (mono : Nat) (tv : Bool) : Channel :=
  { c with gate := none, gateSeq := c.gateSeq + 1, closing := c.closing ++ [({ g with tv := g.tv && tv }, at_, mono, false)] }

theorem openGate_of_closed (n : Nat) (a : AT80) (m : Nat) (s : State) (hen : (s.chan n).enabled = true) (hg : (s.chan n).gate = none) :
    openGate n a m s = s.setChan n ((s.chan n).opened a m s.timeValid) := by
  simp [openGate, hen, hg, Channel.opened]

theorem openGate_of_open (n : Nat) (a : AT80) (m : Nat) (s : State) (hg : (s.chan n).gate.isSome = true) : openGate n a m s = s := by
  simp [openGate, hg]

theorem closeGate_of_open (n : Nat) (a : AT80) (m : Nat) (s : State) {g : Gate} (hg : (s.chan n).gate = some g) :
    closeGate n a m false s = s.setChan n ((s.chan n).closedAt g a m s.timeValid) := by
  simp [closeGate, hg, Channel.closedAt]

/-! ### Gate pins -/

/-- What a transition of a gate pin makes of a channel (R275). -/
def gatePinStep (pin : Nat) (level : Bool) (s : State) (n : Nat) : State :=
  if !(s.chan n).enabled || decide ((s.chan n).cfg.arm ≠ 1 ∨ (s.chan n).cfg.gatePin ≠ pin) then s
  else if level != (s.chan n).cfg.activeLow then openGate n (stampOf (16 + pin) s) (stampMono (16 + pin) s) s
  else match (s.chan n).gate with
    | none => s
    | some g =>
      if stampMono (16 + pin) s < g.openedMono + 655360 then
        s.setChan n { s.chan n with
          gate := none, queue := (s.chan n).queue.take ((s.chan n).queue.length - g.queued), lostPending := g.lostBefore
          lastEdge := g.edgeBefore }
      else closeGate n (stampOf (16 + pin) s) (stampMono (16 + pin) s) false s

theorem gateEdge_eq (pin : Nat) (level : Bool) (s : State) : gateEdge pin level s = (List.range 16).foldl (gatePinStep pin level) s := rfl

/-- A gate pin leaves everything but the channel it acts on. -/
theorem gatePinStep_eq (pin : Nat) (level : Bool) (s : State) (n : Nat) :
    gatePinStep pin level s n = s ∨ ∃ c, gatePinStep pin level s n = s.setChan n c := by
  unfold gatePinStep openGate
  dsimp only
  split
  · exact .inl rfl
  · split
    · split
      · exact .inl rfl
      · exact .inr ⟨_, rfl⟩
    · split
      · exact .inl rfl
      · split
        · exact .inr ⟨_, rfl⟩
        · exact .inr ⟨_, closeGate_of_open _ _ _ _ ‹_›⟩

/-- The instants and the time that a gate pin reads do not come from the channels. -/
theorem gatePinStep_reads (pin : Nat) (level : Bool) (s : State) (m : Nat) :
    stampOf (16 + pin) (gatePinStep pin level s m) = stampOf (16 + pin) s ∧
    stampMono (16 + pin) (gatePinStep pin level s m) = stampMono (16 + pin) s ∧ (gatePinStep pin level s m).timeValid = s.timeValid := by
  obtain h | ⟨c, h⟩ := gatePinStep_eq pin level s m
  · rw [h]; exact ⟨rfl, rfl, rfl⟩
  · rw [h]; exact ⟨rfl, rfl, rfl⟩

theorem gatePinStep_chan_other (pin : Nat) (level : Bool) (s : State) (m n : Nat) (h : n ≠ m) :
    (gatePinStep pin level s m).chan n = s.chan n := by
  obtain hc | ⟨c, hc⟩ := gatePinStep_eq pin level s m
  · rw [hc]
  · rw [hc, chan_setChan_other _ _ _ _ h]

/-- What a channel becomes at a transition of a gate pin with these stamps. -/
def Channel.afterPin (c : Channel) (pin : Nat) (level : Bool) (at_ : AT80) (mono : Nat) (tv : Bool) : Channel :=
  if c.enabled = false ∨ c.cfg.arm ≠ 1 ∨ c.cfg.gatePin ≠ pin then c
  else match decide (level = c.cfg.activeLow), c.gate with
    | false, none => c.opened at_ mono tv
    | true, some g =>
      if mono < g.openedMono + 655360 then
        { c with gate := none, queue := c.queue.take (c.queue.length - g.queued), lostPending := g.lostBefore, lastEdge := g.edgeBefore }
      else c.closedAt g at_ mono tv
    | _, _ => c

theorem gatePinStep_chan_same (pin : Nat) (level : Bool) (s : State) (n : Nat) : (gatePinStep pin level s n).chan n =
    (s.chan n).afterPin pin level (stampOf (16 + pin) s) (stampMono (16 + pin) s) s.timeValid := by
  unfold gatePinStep Channel.afterPin
  by_cases hserves : (s.chan n).enabled = false ∨ (s.chan n).cfg.arm ≠ 1 ∨ (s.chan n).cfg.gatePin ≠ pin
  · rw [if_pos (by simpa using hserves), if_pos hserves]
  · rw [if_neg (by simpa using hserves), if_neg hserves]
    have hen : (s.chan n).enabled = true := by simpa using (not_or.1 hserves).1
    by_cases hl : level = (s.chan n).cfg.activeLow
    · rw [if_neg (by simp [hl])]
      cases hg : (s.chan n).gate with
      | none => simp [hl]
      | some g =>
        dsimp only
        split
        · simp [*]
        · rw [closeGate_of_open _ _ _ _ hg]; simp [*]
    · rw [if_pos (by simp [hl])]
      cases hg : (s.chan n).gate with
      | none => rw [openGate_of_closed _ _ _ _ hen hg]; simp [hl]
      | some g => rw [openGate_of_open _ _ _ _ (by simp [hg])]; simp [hl]

theorem gatePins_chan (pin : Nat) (level : Bool) (n : Nat) (ks : List Nat) (hks : ks.Nodup) (s : State) :
    (ks.foldl (gatePinStep pin level) s).chan n =
      if n ∈ ks then (s.chan n).afterPin pin level (stampOf (16 + pin) s) (stampMono (16 + pin) s) s.timeValid else s.chan n := by
  induction ks generalizing s with
  | nil => simp
  | cons m ks ih =>
    obtain ⟨hm, hrest⟩ := List.nodup_cons.1 hks
    obtain ⟨h1, h2, h3⟩ := gatePinStep_reads pin level s m
    rw [List.foldl_cons, ih hrest, h1, h2, h3]
    by_cases h : n = m
    · subst h; simp [hm, gatePinStep_chan_same]
    · simp [h, gatePinStep_chan_other _ _ _ _ _ h]

theorem gateEdge_chan (pin : Nat) (level : Bool) (n : Nat) (s : State) (hn : n < 16) : (gateEdge pin level s).chan n =
    (s.chan n).afterPin pin level (stampOf (16 + pin) s) (stampMono (16 + pin) s) s.timeValid := by
  rw [gateEdge_eq, gatePins_chan _ _ _ _ List.nodup_range, if_pos (List.mem_range.2 hn)]

/-! ### Windows -/

section
variable (n : Nat) (t : AT80) (s : State)

theorem windowOpen_of_open (h : (s.chan n).gate.isSome = true) : windowOpen n t s = s := by
  unfold windowOpen
  dsimp only
  rw [openGate_of_open _ _ _ _ h, ite_self]

theorem windowOpen_of_closed (hen : (s.chan n).enabled = true) (hd : (s.chan n).done = false) (harm : (s.chan n).cfg.arm = 2)
    (hg : (s.chan n).gate = none) (ha : reached t ((s.chan n).cfg.window (s.chan n).window).1 = true)
    (hb : reached t ((s.chan n).cfg.window (s.chan n).window).2 = false) :
    windowOpen n t s = s.setChan n ((s.chan n).opened ((s.chan n).cfg.window (s.chan n).window).1
      (s.time.mono - (sdiff s.time.count ((s.chan n).cfg.window (s.chan n).window).1).toNat) s.timeValid) := by
  unfold windowOpen
  dsimp only
  rw [if_pos (by simp [hen, hd, harm, ha, hb]), openGate_of_closed _ _ _ _ hen hg]

theorem windowOpen_of_idle
    (h : (s.chan n).enabled = false ∨ (s.chan n).done = true ∨ (s.chan n).cfg.arm ≠ 2 ∨ (s.chan n).gate.isSome = true ∨
    reached t ((s.chan n).cfg.window (s.chan n).window).1 = false ∨ reached t ((s.chan n).cfg.window (s.chan n).window).2 = true) :
    windowOpen n t s = s := by
  rcases h with h | h | h | h | h | h
  case inr.inr.inr.inl => exact windowOpen_of_open n t s h
  all_goals exact if_neg (by simp_all [TdcCfg.window])

theorem windowClose_of_idle (h : (s.chan n).enabled = false ∨ (s.chan n).gate = none ∨ (s.chan n).cfg.arm ≠ 2 ∨
    reached t ((s.chan n).cfg.window (s.chan n).window).2 = false) : windowClose n t s = s := by
  rcases h with h | h | h | h <;> exact if_neg (by simp_all [TdcCfg.window])

/-- A window that has reached its stop closes there. -/
theorem windowClose_of_over {g : Gate} (hen : (s.chan n).enabled = true) (hg : (s.chan n).gate = some g) (harm : (s.chan n).cfg.arm = 2)
    (hb : reached t ((s.chan n).cfg.window (s.chan n).window).2 = true) :
    windowClose n t s = windowOver n (s.setChan n ((s.chan n).closedAt g ((s.chan n).cfg.window (s.chan n).window).2
      (s.time.mono - (sdiff s.time.count ((s.chan n).cfg.window (s.chan n).window).2).toNat) s.timeValid)) := by
  unfold windowClose
  dsimp only
  rw [if_pos (by simp [hen, hg, harm, hb]), closeGate_of_open _ _ _ _ hg]
end

/-! ### Edges -/

/-- What a channel becomes at an edge that its gate takes (R270 to R274). -/
def Channel.afterEdge (c : Channel) (g : Gate) (n : Nat) (falling : Bool) (s : State) : Channel :=
  let sat := decide (4294967295 ≤ g.edges)
  let g1 := { g with edges := g.edges + 1, stamps := if c.cfg.fit && !sat then stampMono n s :: g.stamps else g.stamps
                     saturated := g.saturated || (c.cfg.fit && sat) }
  if g.edges % c.cfg.decimation ≠ 0 then { c with lastEdge := some s.time.mono, gate := some g1 }
  else if 4096 ≤ c.queue.length then
    { c with lastEdge := some s.time.mono, lostPending := satNat 32 (c.lostPending + 1)
             gate := some { g1 with lost := satNat 32 (g1.lost + 1) } }
  else
    { c with lastEdge := some s.time.mono, queue := c.queue ++ [stampRecord s n falling c.lostPending], lostPending := 0
             gate := some { g1 with queued := g1.queued + 1 } }

/-- The windows of a channel move with an edge before the edge counts. -/
def edgeWindows (n : Nat) (s : State) : State :=
  if (s.chan n).cfg.arm = 2 then windowOpen n (stampOf n s) (windowClose n (stampOf n s) s) else s

/-- An edge on the edge that the channel selects. -/
def Channel.takes (c : Channel) (falling : Bool) : Prop :=
  c.enabled = true ∧ ¬ ((c.cfg.edgeSel = 0 ∧ falling = true) ∨ (c.cfg.edgeSel = 1 ∧ falling = false))

section
variable (n : Nat) (falling : Bool) (s : State)

theorem takeEdge_of_unselected (h : ¬ (s.chan n).takes falling) : takeEdge n falling s = s := by
  refine if_pos (by_contra fun hc => h ?_)
  rw [Bool.or_eq_true, decide_eq_true_eq, Bool.not_eq_true', not_or, Bool.not_eq_false] at hc
  exact hc

theorem takeEdge_of_closed (h : (s.chan n).takes falling) (hg : ((edgeWindows n s).chan n).gate = none) :
    takeEdge n falling s = edgeWindows n s := by
  obtain ⟨hen, hsel⟩ := h
  unfold takeEdge
  dsimp only
  rw [if_neg (by simp only [hen, hsel]; decide)]
  change (match ((edgeWindows n s).chan n).gate with | none => _ | some g => _) = _
  rw [hg]
  rfl

theorem takeEdge_of_gate (h : (s.chan n).takes falling) (hw : edgeWindows n s = s) {g : Gate} (hg : (s.chan n).gate = some g) :
    takeEdge n falling s = if ((s.chan n).lastEdge.map (fun t => decide (s.time.mono < t + 262144))).getD false
      then countDevice (15 + n) (s.setChan n { s.chan n with gate := some { g with spacing := true } })
      else s.setChan n ((s.chan n).afterEdge g n falling s) := by
  obtain ⟨hen, hsel⟩ := h
  unfold takeEdge Channel.afterEdge
  dsimp only
  rw [if_neg (by simp only [hen, hsel]; decide)]
  simp only [edgeWindows] at hw
  simp only [hw, hg]
  split
  · rfl
  · split
    · rfl
    · split <;> rfl
end

theorem edgeWindows_of_open (n : Nat) (s : State) {g : Gate} (hg : (s.chan n).gate = some g)
    (hb : (s.chan n).cfg.arm = 2 → reached (stampOf n s) ((s.chan n).cfg.window (s.chan n).window).2 = false) : edgeWindows n s = s := by
  unfold edgeWindows
  split
  · rename_i harm
    rw [windowClose_of_idle _ _ _ (.inr (.inr (.inr (hb harm)))), windowOpen_of_open _ _ _ (by simp [hg])]
  · rfl

/-- An edge at or after the stop of a once window closes it, and belongs to no gate (R275). -/
theorem edgeWindows_of_over (n : Nat) (s : State) {g : Gate} (hen : (s.chan n).enabled = true) (hg : (s.chan n).gate = some g)
    (harm : (s.chan n).cfg.arm = 2) (hper : (s.chan n).cfg.period = 0)
    (hb : reached (stampOf n s) ((s.chan n).cfg.window (s.chan n).window).2 = true) :
    edgeWindows n s = s.setChan n { (s.chan n).closedAt g ((s.chan n).cfg.window (s.chan n).window).2
      (s.time.mono - (sdiff s.time.count ((s.chan n).cfg.window (s.chan n).window).2).toNat) s.timeValid with done := true } := by
  have hclose := windowClose_of_over n (stampOf n s) s hen hg harm hb
  have hover : windowClose n (stampOf n s) s = s.setChan n { (s.chan n).closedAt g ((s.chan n).cfg.window (s.chan n).window).2
      (s.time.mono - (sdiff s.time.count ((s.chan n).cfg.window (s.chan n).window).2).toNat) s.timeValid with done := true } := by
    rw [hclose]
    simp [windowOver, Channel.closedAt, hper]
  unfold edgeWindows
  rw [if_pos harm, hover]
  exact windowOpen_of_idle _ _ _ (.inr (.inl (by simp)))

/-- What an edge that is not too close to the last leaves of its channel. -/
theorem afterEdge_facts (c : Channel) (g : Gate) (n : Nat) (falling : Bool) (s : State) :
    (c.afterEdge g n falling s).lastEdge = some s.time.mono ∧ ((c.afterEdge g n falling s).gate.map Gate.edges) = some (g.edges + 1) ∧
    (g.edges % c.cfg.decimation ≠ 0 → (c.afterEdge g n falling s).queue = c.queue ∧ (c.afterEdge g n falling s).lostPending = c.lostPending) ∧
    (g.edges % c.cfg.decimation = 0 → c.queue.length < 4096 →
      (c.afterEdge g n falling s).queue = c.queue ++ [stampRecord s n falling c.lostPending] ∧ (c.afterEdge g n falling s).lostPending = 0) ∧
    (g.edges % c.cfg.decimation = 0 → 4096 ≤ c.queue.length →
      (c.afterEdge g n falling s).queue = c.queue ∧ (c.afterEdge g n falling s).lostPending = satNat 32 (c.lostPending + 1)) := by
  unfold Channel.afterEdge
  refine ⟨?_, ?_, fun h => ?_, fun h hroom => ?_, fun h hfull => ?_⟩
  · dsimp only; split
    · rfl
    · split <;> rfl
  · dsimp only; split
    · rfl
    · split <;> rfl
  · simp [h]
  · simp [h, Nat.not_le.2 hroom]
  · simp [h, hfull]

/-! ### Reports -/

/-- The one gate of a channel that has closed is reported. -/
theorem storeReports_one (n : Nat) (s : State) {e : Gate × AT80 × Nat × Bool} (h : (s.chan n).closing = [e]) :
    ∃ rep, (storeReports n 1 s).chan n = { s.chan n with closing := [], reports := (rep :: (s.chan n).reports).take 4 } ∧
      rep.head? = some (BitVec.ofNat 8 (n * 16)) := by
  obtain ⟨g, a, m, b⟩ := e
  unfold storeReports storeReports
  simp only [h]
  generalize hrep : gateReport n _ g a m b s = x
  obtain ⟨rep, t⟩ := x
  have hchan : t.chan n = s.chan n := by
    have := meas_of_frame (frame_snd (gateReport_frame _ _ _ _ _ _ s) hrep)
    simp only [State.chan, this]
  refine ⟨rep, ?_, ?_⟩
  · have hnotify : ∀ (c : Prop) [Decidable c] (d : Option Source) (u : State), (if c then notify d 0x0908 rep u else u).chan n = u.chan n := by
      intro c _ d u
      have := meas_of_frame (frame_opt (c := c) (notify_frame d 0x0908 rep u))
      simp only [State.chan, this]
    rw [hnotify, chan_setChan_same, hchan]
  · have hhead := congrArg (fun x => x.1.head?) hrep
    exact hhead.symm

theorem gateDone_of_idle (n : Nat) (s : State) (hc : (s.chan n).closing = []) (h : (s.chan n).enabled = false ∨ (s.chan n).gate = none ∨
    (s.chan n).cfg.arm ≠ 2 ∨ reached s.time.count ((s.chan n).cfg.window (s.chan n).window).2 = false) : gateDone n s = s := by
  unfold gateDone
  dsimp only
  rw [windowClose_of_idle n s.time.count s h, hc]
  rfl

theorem windowOver_chan (n : Nat) (s : State) : ∃ w d k, (windowOver n s).chan n = { s.chan n with window := w, done := d, closed := k } := by
  unfold windowOver
  dsimp only
  split <;> exact ⟨_, _, _, chan_setChan_same s n _⟩

/-- A window at its stop: its gate closes and its report is stored. -/
theorem gateDone_of_over (n : Nat) (s : State) {g : Gate} (hen : (s.chan n).enabled = true) (hg : (s.chan n).gate = some g)
    (harm : (s.chan n).cfg.arm = 2) (hb : reached s.time.count ((s.chan n).cfg.window (s.chan n).window).2 = true)
    (hc : (s.chan n).closing = []) : ((gateDone n s).chan n).gate = none ∧ ((gateDone n s).chan n).gateSeq = (s.chan n).gateSeq + 1 ∧
      ((gateDone n s).chan n).closing = [] ∧ ((gateDone n s).chan n).queue = (s.chan n).queue ∧
      ∃ rep, ((gateDone n s).chan n).reports = (rep :: (s.chan n).reports).take 4 ∧ rep.head? = some (BitVec.ofNat 8 (n * 16)) := by
  have hclose := windowClose_of_over n s.time.count s hen hg harm hb
  obtain ⟨w, d, k, hover⟩ := windowOver_chan n (s.setChan n ((s.chan n).closedAt g ((s.chan n).cfg.window (s.chan n).window).2
    (s.time.mono - (sdiff s.time.count ((s.chan n).cfg.window (s.chan n).window).2).toNat) s.timeValid))
  rw [← hclose, chan_setChan_same] at hover
  have hone : ((windowClose n s.time.count s).chan n).closing.length = 1 := by rw [hover]; simp [Channel.closedAt, hc]
  obtain ⟨e, he⟩ := List.length_eq_one_iff.1 hone
  obtain ⟨rep, hrep, hhead⟩ := storeReports_one n _ he
  have hdone : gateDone n s = storeReports n 1 (windowClose n s.time.count s) := by
    unfold gateDone
    dsimp only
    rw [hone]
  rw [hdone, hrep, hover]
  exact ⟨rfl, rfl, rfl, rfl, rep, rfl, hhead⟩

theorem afterPin_of_closing (c : Channel) (pin : Nat) (level : Bool) (a : AT80) (m : Nat) (tv : Bool) {g : Gate} (hen : c.enabled = true)
    (harm : c.cfg.arm = 1) (hpin : c.cfg.gatePin = pin) (hl : level = c.cfg.activeLow) (hg : c.gate = some g) :
    c.afterPin pin level a m tv = if m < g.openedMono + 655360 then
        { c with gate := none, queue := c.queue.take (c.queue.length - g.queued), lostPending := g.lostBefore, lastEdge := g.edgeBefore }
      else c.closedAt g a m tv := by
  simp [Channel.afterPin, hen, harm, hpin, hl, hg]

/-- Settles O58: each TDC event in each of its cases. That a pulse below 10 ns takes its records back, and that an edge at the stop closes
its window first, are log entry 44. -/
theorem gatesAndEdgesAreMeasured : Obligations.GatesAndEdgesAreMeasured := by
  intro dt n s u c rcd b
  have hidle : ∀ fall t, takeEdge n fall u = t → Leads (.tdcEdge dt n fall) s t := fun _ _ h => leads_of rfl h
  have hboth : ∀ fall, c.enabled = true → c.cfg.edgeSel = 2 → c.takes fall := fun fall hen hsel => ⟨hen, by simp [hsel]⟩
  refine ⟨fun fall h => hidle _ _ ?_, fun g fall hg hen hsel harm hper hb => runs_of rfl ?_, fun h => hidle _ _ ?_, fun h => hidle _ _ ?_,
    fun g fall hg hen hsel hb => ⟨fun t ht hclose => hidle _ _ ?_, fun hfar => runs_of rfl ?_⟩, fun pin level hn => runs_of rfl ?_, ?_⟩
  · by_cases htakes : c.takes fall
    · obtain h | ⟨hg, harm⟩ := h
      · exact absurd htakes.1 (by simp [h])
      · have hwin : edgeWindows n u = u := if_neg harm
        exact (takeEdge_of_closed n fall u htakes (by rw [hwin]; exact hg)).trans hwin
    · exact takeEdge_of_unselected n fall u htakes
  · have hwin := edgeWindows_of_over n u hen hg harm hper hb
    have hedge := takeEdge_of_closed n fall u (hboth fall hen hsel) (by rw [hwin, chan_setChan_same]; rfl)
    change ((finish (takeEdge n fall u)).chan n).gate = none ∧ _
    rw [finish_chan, hedge, hwin, chan_setChan_same]
    exact ⟨rfl, by simp [Channel.closedAt, c], rfl, rfl⟩
  · exact takeEdge_of_unselected n true u (by simp [Channel.takes, show (u.chan n).cfg.edgeSel = 0 from h])
  · exact takeEdge_of_unselected n false u (by simp [Channel.takes, show (u.chan n).cfg.edgeSel = 1 from h])
  · rw [takeEdge_of_gate n fall u (hboth fall hen hsel) (edgeWindows_of_open n u hg hb) hg,
      if_pos (by simp [show (u.chan n).lastEdge = some t from ht, hclose])]
  · have hfit : ((u.chan n).lastEdge.map (fun t => decide (u.time.mono < t + 262144))).getD false = false := by
      cases hlast : (u.chan n).lastEdge with
      | none => rfl
      | some t => simpa using hfar t hlast
    have hedge : takeEdge n fall u = u.setChan n ((u.chan n).afterEdge g n fall u) := by
      rw [takeEdge_of_gate n fall u (hboth fall hen hsel) (edgeWindows_of_open n u hg hb) hg, if_neg (by simp [hfit])]
    change ((finish (takeEdge n fall u)).chan n).lastEdge = _ ∧ _
    rw [finish_chan, hedge, chan_setChan_same]
    exact afterEdge_facts c g n fall u
  · have hpin := gateEdge_chan pin level n u hn
    change (_ → (finish (gateEdge pin level u)).chan n = c) ∧ _
    rw [finish_chan, hpin]
    refine ⟨fun h => if_pos h, fun hen harm hp hl hg => ?_, fun g hen harm hp hl hg => ⟨fun hshort => ?_, fun hlong => ?_⟩⟩
    · simp [Channel.afterPin, show (u.chan n).enabled = true from hen, show (u.chan n).cfg.arm = 1 from harm,
        show (u.chan n).cfg.gatePin = pin from hp, show level = !(u.chan n).cfg.activeLow from hl, show (u.chan n).gate = none from hg,
        Channel.opened, c]
    · rw [afterPin_of_closing _ _ _ _ _ _ hen harm hp hl hg, if_pos hshort]
    · rw [afterPin_of_closing _ _ _ _ _ _ hen harm hp hl hg, if_neg (Nat.not_lt.2 hlong)]
      exact ⟨rfl, rfl, by simp [Channel.closedAt, c]⟩
  · intro a
    have hopen : ∀ t, windowOpen n u.time.count u = t → Leads (.tdcWindowOpen dt n) s t :=
      fun _ h => leads_of (f := fun s => windowOpen n s.time.count s) rfl h
    have hclose : ∀ t, gateDone n u = t → Leads (.tdcGateClose dt n) s t := fun _ h => leads_of rfl h
    refine ⟨fun hen hd harm hg ha hb => hopen _ ?_, fun h => hopen _ (windowOpen_of_idle n u.time.count u h),
      fun g hen hg harm hb hc => runs_of rfl ?_, fun hc h => hclose _ (gateDone_of_idle n u hc h)⟩
    · rw [windowOpen_of_closed n u.time.count u hen hd harm hg ha hb]
      rfl
    have hdone := gateDone_of_over n u hen hg harm hb hc
    simpa only [finish_chan] using hdone

end Sys2Proof.Machine
end

section
/-! SUPPORT. Triggers and shedding (R337 to R342). -/

namespace Sys2Proof.Machine

set_option Elab.async false

/-! ### Triggers -/

/-- A trigger asserts while none is asserted and no restore runs: the effect alone, but that rail critical calls for stage 5. -/
theorem trigger_of_clear (f : State → State) (s : State) (hnone : s.triggers = 0) (hres : (f s).power.restoring = false)
    (hcrit : (f s).power.trigCrit = false) : trigger f s = f s := by
  unfold trigger clearing asserted stopRestore
  simp [hnone, hres, hcrit]

theorem trigger_of_crit (f : State → State) (s : State) (hnone : s.triggers = 0) (hres : (f s).power.restoring = false)
    (hcrit : (f s).power.trigCrit = true) (hstage : (f s).power.stage < 5) : trigger f s = { f s with power.jumpToFive := true } := by
  have hmoved : (f s).triggers ≠ 0 := by simp [State.triggers, hcrit, flag]
  unfold trigger asserted stopRestore
  simp [hnone, hmoved, hres, hcrit, hstage]

/-- Nothing of the triggers moves. -/
theorem trigger_of_same (f : State → State) (s : State) (h : f s = s) : trigger f s = s := by
  unfold trigger clearing
  simp [h]

theorem trigCrit_of_triggers (s : State) (h : s.triggers = 0) : s.power.trigCrit = false := by
  unfold State.triggers flag at h
  cases hc : s.power.trigCrit
  · rfl
  · rw [hc] at h; simp at h

theorem railLow_of_low (r level : Nat) (s : State) (hm : s.power.mode ≠ .keep) (hr : s.hasRail r = true)
    (hl : 100 * level < 97 * s.railReference r) :
    railLow r level s = trigger (fun s => { s with power.trigWarn := true }) (raise .warn 0x1104 [BitVec.ofNat 8 r] s) :=
  if_neg (by simp [hm, State.railBelow, hr, hl])

theorem railCritical_of_low (r level : Nat) (s : State) (hm : s.power.mode ≠ .keep) (hr : s.hasRail r = true)
    (hl : 100 * level < 95 * s.railReference r) :
    railCritical r level s = trigger (fun s => { s with power.trigCrit := true }) (raise .error 0x1105 [BitVec.ofNat 8 r] s) :=
  if_neg (by simp [hm, State.railBelow, hr, hl])

theorem railBelow_of_not (p r level : Nat) (s : State) (h : s.hasRail r = false ∨ p * s.railReference r ≤ 100 * level) :
    s.railBelow p r level = false := by
  rcases h with h | h <;> simp [State.railBelow, h]

@[simp] theorem raise_triggers (v : Severity) (c : Nat) (p : List Byte) (s : State) : (raise v c p s).triggers = s.triggers := by
  simp [State.triggers]

@[simp] theorem raiseAt_triggers (d : Nat) (v : Severity) (c : Nat) (p : List Byte) (s : State) : (raiseAt d v c p s).triggers = s.triggers := by
  simp [State.triggers]

/-- Thermal is the only trigger, and it clears: the dwell starts. -/
theorem trigger_of_cool (s : State) (h : s.triggers = 16) :
    trigger (fun s => { s with power.trigThermal := false }) s = { s with power.trigThermal := false, power.clearedAt := s.time.mono } := by
  have hflag : ∀ b, flag b ≤ 1 := fun b => by cases b <;> decide
  have hcleared : ({ s with power.trigThermal := false } : State).triggers = 0 := by
    unfold State.triggers at h ⊢
    have h4 := hflag s.power.trigThermal
    have h3 := hflag (bit s.power.trigEnable 2 && s.power.rails.any (·.2.alert))
    have h2 := hflag (bit s.power.trigEnable 1 && s.power.trigLimit)
    have h1 := hflag s.power.trigCrit
    have h0 := hflag (bit s.power.trigEnable 0 && s.power.trigWarn)
    have hoff : flag false = 0 := rfl
    dsimp only
    omega
  unfold trigger clearing
  dsimp only
  rw [hcleared, h]
  rfl

/-! ### Stages -/

/-- The stage reached and the call for stage 5 are as they were. -/
def StageKept (s t : State) : Prop := t.power.stage = s.power.stage ∧ t.power.jumpToFive = s.power.jumpToFive

theorem stageKept_trans {s t u : State} (h1 : StageKept s t) (h2 : StageKept t u) : StageKept s u :=
  ⟨h2.1.trans h1.1, h2.2.trans h1.2⟩

theorem stageKept_of_power {s t : State} (h : t.power = s.power) : StageKept s t := by unfold StageKept; rw [h]; exact ⟨rfl, rfl⟩

theorem stageKept_raise (v : Severity) (c : Nat) (p : List Byte) (s : State) : StageKept s (raise v c p s) :=
  stageKept_of_power (raise_power v c p s)

theorem stageKept_foldl {α : Type} {f : State → α → State} (hf : ∀ t x, StageKept t (f t x)) (l : List α) (s : State) :
    StageKept s (l.foldl f s) := by
  induction l generalizing s with
  | nil => exact ⟨rfl, rfl⟩
  | cons x l ih => exact stageKept_trans (hf s x) (ih (f s x))

theorem stageKept_of_frame {cs : List Mod} {s t : State} (h : OnlyIn cs s t) (hc : Mod.power ∉ cs := by decide) : StageKept s t := by
  have hpower : ({ t.power with shownReady := [], readySeq := 0 } : PowerState) = { s.power with shownReady := [], readySeq := 0 } :=
    h .power (by decide) hc
  have hstage := congrArg PowerState.stage hpower
  have hjump := congrArg PowerState.jumpToFive hpower
  exact ⟨hstage, hjump⟩

theorem disablePort_stage (l : Nat) (s : State) : StageKept s (disablePort l s) := by
  unfold disablePort
  refine stageKept_trans ?_ (stageKept_of_frame (flushPort_frame l _))
  refine stageKept_trans ?_ (stageKept_of_frame (pfcLinkDown_frame l _))
  exact stageKept_trans (stageKept_of_frame (abortFrame_frame l s)) ⟨rfl, rfl⟩

theorem cclkMhz_frame (s : State) : OnlyIn [] s (cclkMhz s).2 := by
  unfold cclkMhz
  dsimp only
  split
  · exact frame_refl _ s
  · exact drawBit_frame s

theorem abandonRamp_stage (c : Nat) (s : State) : StageKept s (abandonRamp c s) := by
  unfold abandonRamp
  split
  · exact ⟨rfl, rfl⟩
  · refine stageKept_trans (stageKept_of_frame (cclkMhz_frame s)) ?_
    dsimp only
    split <;> exact stageKept_trans ⟨rfl, rfl⟩ (stageKept_raise _ _ _ _)

theorem requestCores_stage (o : AvsOwner) (mv : Nat → Nat) (s : State) : StageKept s (requestCores o mv s) :=
  stageKept_foldl (f := fun s d => requestVolt o d (mv d) s) (fun _ _ => ⟨rfl, rfl⟩) _ s

theorem startRamp_stage (o : RampOwner) (n : Nat) (w : Bool) (s : State) : StageKept s (delayRamp w (startRamp o n s)) := by
  unfold delayRamp startRamp; split <;> exact ⟨rfl, rfl⟩

/-- Stages 1 to 5 keep the stage reached and the call for stage 5. -/
theorem stageEffect_stage (k : Nat) (s : State) (hk : k < 6) : StageKept s (stageEffect k s) := by
  unfold stageEffect
  split
  · extract_lets held wait p a q b
    have ha : StageKept s a := stageKept_trans
        (t := { s with power := { p with cclkBefore := held, voltBefore := [(s.rail 0).acked, (s.rail 1).acked] } })
      ⟨rfl, rfl⟩ (abandonRamp_stage 0 _)
    have hb : StageKept s b := stageKept_trans ha ⟨rfl, rfl⟩
    split
    · exact stageKept_trans hb (requestCores_stage _ _ b)
    · exact stageKept_trans hb (startRamp_stage _ _ _ b)
  · extract_lets go a
    have ha : StageKept s a := stageKept_foldl (fun t l =>
      stageKept_trans (t := { t with power.shedPorts := tput t.power.shedPorts l ((t.lp l).moving.getD (t.lp l).power) }) ⟨rfl, rfl⟩
        (stageKept_of_frame (movePower_frame l 2 _))) go s
    exact stageKept_trans ha ⟨rfl, rfl⟩
  · extract_lets gone kept a b c
    have ha : StageKept s a := stageKept_foldl (fun t l => disablePort_stage l t) gone s
    have hc : StageKept b c := stageKept_foldl
      (f := fun s d => s.setCore d { s.core d with cclkLock := false, bclkLock := false, running := false, frozen := none, reset := false })
      (fun _ _ => ⟨rfl, rfl⟩) b.coreDies b
    exact stageKept_trans ha (stageKept_trans (t := b) ⟨rfl, rfl⟩ (stageKept_trans hc ⟨rfl, rfl⟩))
  · omega
  · exact ⟨rfl, rfl⟩

theorem setMode_stage (m : Mode) (s : State) : StageKept s (setMode m s) := by
  unfold setMode
  split
  · exact ⟨rfl, rfl⟩
  · exact stageKept_trans ⟨rfl, rfl⟩ (stageKept_raise _ _ _ _)

theorem applyStage_stage (k : Nat) (s : State) (hk : k < 6) : (applyStage k s).power.stage = k ∧
    (applyStage k s).power.jumpToFive = s.power.jumpToFive := by
  unfold applyStage
  extract_lets p a q b
  have ha : a.power.jumpToFive = s.power.jumpToFive := by
    dsimp only [a]
    split
    · exact (setMode_stage .shed { s with power.restoreMode := s.power.mode }).2
    · rfl
  have heffect := stageKept_trans (stageKept_raise .warn 0x1102 [BitVec.ofNat 8 k, BitVec.ofNat 8 b.triggers] b)
    (stageEffect_stage k (raise .warn 0x1102 [BitVec.ofNat 8 k, BitVec.ofNat 8 b.triggers] b) hk)
  exact ⟨heffect.1, heffect.2.trans ha⟩

/-- The stages up to 5 apply together. -/
theorem stagesToFive (lo : Nat) (hlo : lo < 6) (s : State) : ((upto lo 6).foldl (fun s k => applyStage k s) s).power.stage = 5 ∧
    ((upto lo 6).foldl (fun s k => applyStage k s) s).power.jumpToFive = s.power.jumpToFive ∧
    ((upto lo 6).foldl (fun s k => applyStage k s) s).clk.cclk = 0 := by
  have hsplit : upto lo 6 = upto lo 5 ++ [5] := by interval_cases lo <;> rfl
  have hlow : ∀ k ∈ upto lo 5, k < 6 := by
    intro k hk
    obtain ⟨i, hi, rfl⟩ := List.mem_map.1 hk
    have := List.mem_range.1 hi
    omega
  have hjump : ∀ (ks : List Nat) (t : State), (∀ k ∈ ks, k < 6) →
      (ks.foldl (fun s k => applyStage k s) t).power.jumpToFive = t.power.jumpToFive := by
    intro ks
    induction ks with
    | nil => exact fun _ _ => rfl
    | cons k ks ih =>
      exact fun t h => (ih _ fun j hj => h j (List.mem_cons_of_mem _ hj)).trans (applyStage_stage k t (h k List.mem_cons_self)).2
  rw [hsplit, List.foldl_append]
  have hfive := applyStage_stage 5 ((upto lo 5).foldl (fun s k => applyStage k s) s) (by decide)
  exact ⟨hfive.1, hfive.2.trans (hjump _ s hlow), rfl⟩

theorem shedStage_of_jump (s : State) (hs : s.sheds = true) (hj : s.power.jumpToFive = true) (hlow : s.power.stage < 5) :
    shedStage s = (upto (s.power.stage + 1) 6).foldl (fun s k => applyStage k s) { s with power.jumpToFive := false } := by
  unfold shedStage
  rw [if_neg (by simp [hs]), if_pos (by simp [hj, hlow])]

theorem shedStage_at_zero (s : State) (hs : s.sheds = true) (hj : s.power.jumpToFive = false) (h0 : s.power.stage = 0) :
    shedStage s = if s.triggers = 0 then s else applyStage 1 s := by
  unfold shedStage
  rw [if_neg (by simp [hs]), if_neg (by simp [hj]), if_pos h0]

/-- The first stage takes SERVICE to SHED. -/
theorem applyStage_one (s : State) (hm : s.power.mode = .service) : applyStage 1 s =
    { raise .warn 0x1102 [1, BitVec.ofNat 8 s.triggers] { raise .note 0x1101 [4, 5] { s with
      power.restoreMode := .service, power.mode := .shed } with power.stage := 1, power.stageAt := s.ms } with power.stageDone := true } := by
  have hset : setMode .shed { s with power.restoreMode := s.power.mode } =
      raise .note 0x1101 [4, 5] { s with power.restoreMode := .service, power.mode := .shed } := by simp [setMode, hm, Mode.code]
  unfold applyStage
  dsimp only
  rw [if_pos (.inl hm), hset]
  simp only [stageEffect, State.triggers, State.ms, raise_power, raise_time]
  rfl

/-! ### Restoring -/

theorem setMode_power (m : Mode) (s : State) : (setMode m s).power = { s.power with mode := m } := by
  unfold setMode
  split
  · rename_i h; rw [← h]
  · rw [raise_power]

/-- The restore of stage 1 ends SHED in the mode it was entered from. -/
theorem finishRestore_of_one (s : State) (h1 : s.power.stage = 1) (hm : s.power.mode = .shed) :
    (finishRestore s).power.stage = 0 ∧ (finishRestore s).power.mode = s.power.restoreMode ∧
    (finishRestore s).power.restoredAt = s.time.mono := by
  unfold finishRestore
  extract_lets k p a b c
  have hk : k = 1 := h1
  have hstage : c.power.stage = 0 := show k - 1 = 0 by rw [hk]
  rw [if_pos hk, if_pos (show c.power.mode = .shed from hm), setMode_power, raise_power]
  exact ⟨hstage, rfl, rfl⟩

theorem shedRestore_of_not (s : State) (h : s.sheds = false ∨ s.triggers ≠ 0 ∨
    s.time.mono < max s.power.clearedAt s.power.restoredAt + s.power.dwell * milli) : shedRestore s = s := by
  rcases h with h | h | h
  · exact if_neg (by simp [h])
  · exact if_neg (by simp [h])
  · exact if_neg (by simp [Nat.not_le.2 h])

theorem shedRestore_of_one (s : State) (hs : s.sheds = true) (h1 : s.power.stage = 1) (ht : s.triggers = 0) (hd : s.power.stageDone = true)
    (hr : s.power.restoring = false) (hdue : max s.power.clearedAt s.power.restoredAt + s.power.dwell * milli ≤ s.time.mono) :
    shedRestore s = finishRestore s := by
  have hrestore : restoreStage s = finishRestore s := by simp [restoreStage, h1]
  exact (if_pos (by simp [hs, h1, ht, hd, hr, hdue])).trans hrestore

theorem railReference_eq (s : State) (r : Nat) : s.railReference r =
    if r < 8 then (if (s.rail r).state = 1 then 1000 * min (s.rail r).acked (s.rail r).requested else 1000 * (s.rail r).acked)
    else if r < 14 then 900000 else 1200000 := by
  unfold State.railReference
  dsimp only
  by_cases h8 : r < 8
  · rw [if_neg (by omega), if_neg (by omega), if_pos h8, mul_ite]
  · by_cases h14 : r < 14
    · rw [if_neg (by omega), if_pos (by omega), if_neg h8, if_pos h14]
    · rw [if_pos (by omega), if_neg h8, if_neg h14]

theorem coolAll_of_cool (s : State) (temps : List Int) (h : ∀ d, d < 8 → s.part.hasDie d = true → getAt temps d 0 ≤ 800) :
    s.coolAll temps = true := by
  simp only [State.coolAll, List.all_eq_true, List.mem_filter, List.mem_range, decide_eq_true_eq]
  exact fun d hd => h d hd.1 hd.2

theorem coolAll_of_hot (s : State) (temps : List Int) (d : Nat) (hd : d < 8) (hdie : s.part.hasDie d = true) (hot : 800 < getAt temps d 0) :
    s.coolAll temps = false := by
  simp only [State.coolAll, List.all_eq_false, List.mem_filter, List.mem_range, decide_eq_true_eq]
  exact ⟨d, ⟨hd, hdie⟩, by omega⟩

/-- Settles O47: each trigger and the stages. That the rails of absent dies are not judged is log entry 51, that TRIGGER_CLEAR carries the
readings of its moment log entry 38. -/
theorem sheddingFollowsTheTriggers : Obligations.SheddingFollowsTheTriggers := by
  intro dt s u
  refine ⟨fun hm hnone hres => ⟨fun r level hr hl => leads_of rfl ?_, fun r level hr hl hst => leads_of rfl ?_,
      fun d temp hd hhot => leads_of rfl ?_, fun _ => leads_of rfl ?_⟩,
    fun d temp hcool => leads_of rfl (if_pos (.inr (.inr hcool))),
    fun r level h => leads_of rfl (if_pos (.inr (railBelow_of_not 97 r level u h))),
    fun r level h => leads_of rfl (if_pos (.inr (railBelow_of_not 95 r level u h))), ?_, fun levels temps ht hcool => leads_of rfl ?_,
    fun levels temps d hd hdie hot => leads_of rfl ?_, fun hs h0 ht hj hm => leads_of rfl ?_, fun hs hj hlow => runs_of rfl ?_,
    fun hs h0 ht hj => leads_of rfl ?_, fun hs => ⟨leads_of rfl (if_pos (by simp [hs, u])), leads_of rfl (shedRestore_of_not u (.inl hs))⟩,
    fun hs h1 ht hd hr hm hdue => runs_of rfl ?_, fun h => leads_of rfl (shedRestore_of_not u (.inr (.inr h))),
    fun h => leads_of rfl (shedRestore_of_not u (.inr (.inl h)))⟩
  · exact (railLow_of_low r level u hm hr hl).trans
      (trigger_of_clear _ _ (by simp [hnone]) (by simp [hres]) (by simp [trigCrit_of_triggers u hnone]))
  · exact (railCritical_of_low r level u hm hr hl).trans
      (trigger_of_crit _ _ (by simp [hnone]) (by simp [hres]) (by simp) (by simpa using hst))
  · have hot : tooHot d temp u = trigger (fun s => { s with power.trigThermal := true })
        (raiseAt d .warn 0x1110 (BitVec.ofNat 8 d :: toBeInt 2 temp) u) := if_neg (by simp [hm, hd, hhot])
    exact hot.trans (trigger_of_clear _ _ (by simp [hnone]) (by simp [hres]) (by simp [trigCrit_of_triggers u hnone]))
  · exact trigger_of_clear _ u hnone hres (trigCrit_of_triggers u hnone)
  · rintro r _ rfl
    exact railReference_eq u r
  · change clearTrigger 4 levels temps u = _
    have hclear : clearTrigger 4 levels temps u = trigger (fun s => { s with power.trigThermal := false }) u := by
      unfold clearTrigger trigger
      simp [coolAll_of_cool u temps hcool]
    rw [hclear, trigger_of_cool u ht]
  · exact trigger_of_same _ u (by simp [coolAll_of_hot u temps d hd hdie hot])
  · exact ((shedStage_at_zero u hs hj h0).trans (if_neg ht)).trans (applyStage_one u hm)
  · obtain ⟨hstage, hjump, hcclk⟩ := stagesToFive (u.power.stage + 1) (by omega) { u with power.jumpToFive := false }
    change (finish (shedStage u)).power.stage = 5 ∧ (finish (shedStage u)).power.jumpToFive = false ∧ (finish (shedStage u)).clk.cclk = 0
    rw [finish_power_stage, finish_power_jumpToFive, finish_clk_cclk, shedStage_of_jump u hs hj hlow]
    exact ⟨hstage, hjump, hcclk⟩
  · exact (shedStage_at_zero u hs hj h0).trans (if_pos ht)
  · obtain ⟨hstage, hmode, hat⟩ := finishRestore_of_one u h1 hm
    change (finish (shedRestore u)).power.stage = 0 ∧ (finish (shedRestore u)).power.mode = _ ∧ (finish (shedRestore u)).power.restoredAt = _
    rw [finish_power_stage, finish_power_mode, finish_power_restoredAt, shedRestore_of_one u hs h1 ht hd hr hdue]
    exact ⟨hstage, hmode, hat⟩

end Sys2Proof.Machine
end

section
/-! SUPPORT. What forwarding leaves unchanged: punting, multicast admission, mirror copies, crossings, expiry, and dies that resume. -/

namespace Sys2Proof.Machine

set_option Elab.async false

/-! ### Punting -/

theorem dropIn_frame (l c : Nat) (k : Option Nat) (h : Bool) (d : List Byte) (s : State) : OnlyIn [.ctr] s (dropIn l c k h d s) :=
  countBy_frame _ _ _ _ _ s

theorem takeToken_frame (r : Nat) (s : State) : OnlyIn [.fwd] s (takeToken r s).2 := frame_pair_ite (frame_fwd s _) (frame_fwd s _)

theorem ringPush_frame (k : RingKind) (x : List Byte) (s : State) : OnlyIn [] s (ringPush k x s).2 := by
  obtain ⟨r, h⟩ := ringPush_eq k x s
  rw [h]
  exact frame_rings s r

theorem punt_frame (f : Frame) (l r a : Nat) (b c : Bool) (s : State) : OnlyIn [.fwd, .ctr] s (punt f l r a b c s).2 := by
  have hdrop : ∀ (u : State) (k : Nat) (e : Fate), OnlyIn [.ctr] u (pushTag f e (dropIn l k (some f.cls) f.injected f.data u)) :=
    fun u k e => frame_then (dropIn_frame _ _ _ _ _ u) (pushTag_frame f e _)
  have htoken := takeToken_frame r s
  generalize hg : @punt = g
  delta punt at hg
  subst hg
  beta_reduce
  generalize takeToken r s = token at htoken ⊢
  obtain ⟨ok, t⟩ := token
  have hring := ringPush_frame .punt (puntRecord f l r a b c ++ f.data) t
  dsimp only at htoken ⊢
  split
  · exact frame_then htoken (hdrop t _ _)
  · generalize ringPush .punt (puntRecord f l r a b c ++ f.data) t = push at hring ⊢
    obtain ⟨sent, u⟩ := push
    have hu : OnlyIn [.fwd] s u := frame_then htoken hring
    dsimp only
    split
    · exact frame_then hu (hdrop u _ _)
    · exact frame_then (bs := [.ctr]) hu (frame_then (countBy_frame _ _ _ _ _ u) (pushTag_frame f _ _))

/-! ### Admission -/

theorem waitToCross_frame (c : Crossing) (s : State) : OnlyIn [.fwd] s (waitToCross c s) := frame_fwd s _

theorem branchDrop_frame (f : Frame) (l : Nat) (s : State) : OnlyIn [.ctr] s (branchDrop f l s) := refuse_frame _ _ _ _ _ s

theorem admitOneDie_frame (d : Nat) (ts : List Nat) (f : Frame) (s : State) : OnlyIn [.fwd, .ctr, .port] s (admitOneDie d ts f s) := by
  unfold admitOneDie
  extract_lets cells p live pool ok head take a
  have ha : OnlyIn [.fwd, .ctr, .port] s a := frame_within (frame_foldl (fun t l => branchDrop_frame f l t) _ s)
  exact frame_ite ha (frame_step (frame_step ha (store_frame _ _ _ f a)) (frame_foldl (fun t l => enqueue_frame _ f t) _ _))

theorem admitOfTwo_frame (d : Nat) (ts : List Nat) (f : Frame) (s : State) : OnlyIn [.fwd, .ctr, .port] s (admitOfTwo d ts f s) := by
  unfold admitOfTwo
  extract_lets cells p live pool head waits cut able full take a b
  have ha : OnlyIn [.ctr] s a := frame_foldl (fun t l => branchDrop_frame f l t) _ s
  have hb : OnlyIn [.fwd, .ctr, .port] s b := frame_within (frame_trans ha (frame_foldl (fun t l => refuse_frame _ _ _ _ f t) _ a))
  exact frame_ite hb (frame_step (frame_step hb (store_frame _ _ _ f b))
    (frame_foldl (fun t l => frame_ite (frame_within (enterLine_frame _ t)) (enqueue_frame _ f t)) _ _))

theorem admitMulticast_frame (ts : List Nat) (f : Frame) (s : State) : OnlyIn [.fwd, .ctr, .port] s (admitMulticast ts f s) :=
  frame_ite (frame_foldl (fun t d => frame_skip (frame_if (waitToCross_frame _ t) (admitOfTwo_frame d _ f t))) _ s)
    (frame_skip (admitOneDie_frame 0 ts f s))

theorem settleClass7_frame (ts : List Nat) (f : Frame) (s : State) : OnlyIn [.fwd, .ctr] s (settleClass7 ts f s) :=
  frame_opt (frame_foldl (fun t l => dropNoFit_frame l _ t) ts s)

/-! ### Mirror copies -/

theorem mirrorCopy_frame (n : Nat) (f : Frame) (s : State) : OnlyIn [.fwd, .ctr, .port] s (mirrorCopy n f s) := by
  unfold mirrorCopy
  extract_lets m g cut c
  refine frame_if (punt_frame _ _ _ _ _ _ s) (bs := [.fwd, .ctr, .port]) ?_
  split
  · exact frame_within (refuse_frame _ _ _ _ _ s)
  · exact frame_then (admitTo_frame _ _ _ s) (settleClass7_frame _ _ _)

theorem copyBranch_frame (b : Branch) (s : State) : OnlyIn [.fwd, .ctr, .port] s (copyBranch b s) := by
  unfold copyBranch
  split
  · exact frame_refl _ s
  · exact frame_foldl (fun t o => mirrorCopy_frame _ _ t) _ s

theorem makeCopies_frame (s : State) : OnlyIn [.fwd, .ctr, .port] s (makeCopies s) :=
  frame_then (frame_fwd s _) (frame_foldl (fun t b => copyBranch_frame b t) _ _)

theorem crossNow_frame (s : State) : OnlyIn [.fwd, .ctr, .port] s (crossNow s) := by
  unfold crossNow
  extract_lets go rest
  refine frame_then (frame_fwd s _) (frame_foldl (cs := [.fwd, .ctr, .port]) (fun t c => ?_) _ _)
  extract_lets a
  have ha : OnlyIn [.fwd, .ctr, .port] t a :=
    frame_ite (admitMulticast_frame _ _ t) (frame_foldl (fun t l => admitTo_frame l _ _ t) _ t)
  exact frame_step (frame_step ha (makeCopies_frame a)) (settleClass7_frame _ _ _)

/-! ### Expiry, holds and flushes -/

theorem expireHead_frame (p : State → Option Branch) (n : Nat) (s : State) : OnlyIn [.fwd, .ctr] s (expireHead p n s) := by
  induction n generalizing s with
  | zero => exact frame_refl _ s
  | succ n ih =>
    unfold expireHead
    split
    · exact frame_opt (frame_then (discard_frame _ _ _ _ s) (ih _))
    · exact frame_refl _ s

theorem expireHeads_frame (s : State) : OnlyIn [.fwd, .ctr] s (expireHeads s) := frame_foldl (fun t _ => expireHead_frame _ _ t) _ s

theorem holdEnd_frame (l : Nat) (s : State) : OnlyIn [.fwd, .ctr] s (holdEnd l s) := by
  unfold holdEnd
  split
  · exact frame_opt (frame_then (frame_fwd s _) (flush_frame l true _))
  · exact frame_refl _ s

theorem flushDie_frame (d : Nat) (s : State) : OnlyIn [.fwd, .ctr] s (flushDie d s) := by
  unfold flushDie
  extract_lets gone w a
  have ha : OnlyIn [.fwd, .ctr] s a := frame_then (frame_fwd s _) (frame_foldl (fun t b => discard_frame _ _ _ b t) _ _)
  exact frame_step ha (frame_foldl (fun t c => frame_foldl (fun t l => pushTag_frame _ _ t) _ t) gone a)

theorem changeOver_frame (s : State) : OnlyIn [.ctr] s (changeOver s) := by
  unfold changeOver
  split
  · exact frame_refl _ s
  · exact frame_ctr s _

theorem takeSnapshot_frame (b : Bool) (s : State) : OnlyIn [.fwd, .ctr] s (takeSnapshot b s) :=
  frame_skip (frame_step (frame_step (landAll_frame s) (changeOver_frame _)) (frame_ctr _ _))

end Sys2Proof.Machine
end

section
/-! SUPPORT. Clocks: CORE dies and their locks, lane PLLs, the freeze, the thaw and the reset of a forwarding domain. -/

namespace Sys2Proof.Machine

set_option Elab.async false

/-! ### What frames say of clocks, powers and cores -/

/-- A frame without clocks keeps what does not read the squelch of the outputs. -/
theorem clkField_of_frame {α : Type} (g : ClockState → α) {cs : List Mod} {s t : State} (h : OnlyIn cs s t) (hc : Mod.clk ∉ cs := by decide)
    (hg : ∀ c : ClockState, g { c with outs := [] } = g c := by intro c; rfl) : g t.clk = g s.clk := by
  have hclk : ({ t.clk with outs := [] } : ClockState) = { s.clk with outs := [] } := h .clk (by decide) hc
  rw [← hg t.clk, hclk, hg s.clk]

theorem core_of_frame {cs : List Mod} {s t : State} (h : OnlyIn cs s t) (d : Nat) (hc : Mod.clk ∉ cs := by decide) : t.core d = s.core d :=
  clkField_of_frame (fun c => tget c.cores d {}) h hc

/-- A frame without powers keeps what does not read the READY block. -/
theorem powerField_of_frame {α : Type} (g : PowerState → α) {cs : List Mod} {s t : State} (h : OnlyIn cs s t)
    (hc : Mod.power ∉ cs := by decide) (hg : ∀ p : PowerState, g { p with shownReady := [], readySeq := 0 } = g p := by intro p; rfl) :
    g t.power = g s.power := by
  have hpower : ({ t.power with shownReady := [], readySeq := 0 } : PowerState) = { s.power with shownReady := [], readySeq := 0 } :=
    h .power (by decide) hc
  rw [← hg t.power, hpower, hg s.power]

theorem mode_of_frame {cs : List Mod} {s t : State} (h : OnlyIn cs s t) (hc : Mod.power ∉ cs := by decide) :
    t.power.mode = s.power.mode := powerField_of_frame PowerState.mode h hc

theorem stage_of_frame {cs : List Mod} {s t : State} (h : OnlyIn cs s t) (hc : Mod.power ∉ cs := by decide) :
    t.power.stage = s.power.stage := powerField_of_frame PowerState.stage h hc

@[simp] theorem core_setCore_same (s : State) (d : Nat) (c : CoreDie) : (s.setCore d c).core d = c := tget_tput_same _ _ _ _

theorem core_setCore_other (s : State) {d e : Nat} (c : CoreDie) (h : e ≠ d) : (s.setCore d c).core e = s.core e := tget_tput_other _ _ _ _ _ h

@[simp] theorem finish_core (s : State) (d : Nat) : (finish s).core d = s.core d := by simp [State.core]

@[simp] theorem raiseAt_core (k : Nat) (v : Severity) (c : Nat) (p : List Byte) (s : State) (d : Nat) : (raiseAt k v c p s).core d = s.core d := by
  simp [State.core]

/-! ### Frames of ramps and resumption -/

theorem abandonRamp_frame (c : Nat) (s : State) : OnlyIn [.power, .clk] s (abandonRamp c s) := by
  unfold abandonRamp
  split
  · exact frame_refl _ s
  · next r _ =>
    have hpair := cclkMhz_frame s
    generalize cclkMhz s = p at hpair
    obtain ⟨f, t⟩ := p
    dsimp -zeta only
    extract_lets q a
    have ha : OnlyIn [.power] s a := frame_then hpair (frame_opt (frame_power t _))
    exact frame_raiseAt _ _ _ _ (frame_then ha (frame_clk a _))

theorem abandonRamp_core (c : Nat) (s : State) (d : Nat) : (abandonRamp c s).core d = s.core d := by
  unfold abandonRamp
  split
  · rfl
  · next r _ =>
    have hpair := core_of_frame (cclkMhz_frame s) d
    generalize cclkMhz s = p at hpair
    obtain ⟨f, t⟩ := p
    dsimp only at hpair ⊢
    split <;> exact (raiseAt_core _ _ _ _ _ d).trans hpair

theorem resumeShed_core (s : State) (d : Nat) : (resumeShed s).core d = s.core d := by
  unfold resumeShed startRamp
  split <;> rfl

theorem resumeShed_power (s : State) : (resumeShed s).power = s.power := by
  unfold resumeShed startRamp
  split <;> rfl

theorem resumeShed_of_stage (s : State) (h : s.power.stage ≠ 2) : resumeShed s = s := by
  simp [resumeShed, h]

/-- With nothing pending a die that resumes takes up its calendars and flushes alone. -/
theorem resumeDie_frame (d : Nat) (s : State) (h : s.cmd.commits = []) : OnlyIn [.cmd, .time, .fwd, .hier, .ctr] s (resumeDie d s) := by
  have hdue : OnlyIn [.cmd, .time, .fwd, .hier, .ctr] s (applyDue s) := by
    unfold applyDue
    simp only [h, sortCommits, List.foldl_nil, List.filter_nil, List.any_nil, Bool.false_eq_true, if_false]
    exact frame_then (as := [.fwd, .ctr]) (frame_opt (takeSnapshot_frame _ s)) (frame_cmd _ _)
  unfold resumeDie
  extract_lets mine a b c
  have hb : OnlyIn [.cmd, .time, .fwd, .hier, .ctr] s b :=
    frame_step hdue (frame_foldl (cs := [.time, .fwd, .hier, .ctr]) (fun t l => frame_opt (swapCalendar_frame l t)) _ _)
  have hc : OnlyIn [.cmd, .time, .fwd, .hier, .ctr] s c :=
    frame_step hb (frame_foldl (cs := [.time, .fwd, .ctr]) (fun t l => frame_opt (removalNow_frame l t)) _ _)
  exact frame_step (frame_step hc (frame_fwd c _)) (frame_foldl (fun t l => flush_frame l false t) _ _)

/-- A die that resumes with nothing pending, due or waiting is as it was. -/
theorem resumeDie_of_quiet (d : Nat) (s : State) (hcommits : s.cmd.commits = []) (hlatch : s.latchDue [] = false) (hswaps : s.fwd.swaps = [])
    (hremovals : s.fwd.removals = []) (hflush : s.fwd.flushDue = []) : resumeDie d s = s := by
  have hdue : applyDue s = s := applyDue_of_none_due s (by simp [hcommits]) hlatch
  simp only [resumeDie, hdue, hswaps, hremovals, hflush, List.map_nil, List.foldl_nil, List.filter_nil]
  calc _ = { s with fwd := { s.fwd with swaps := [], removals := [], flushDue := [] } } := rfl
    _ = s := by rw [← hswaps, ← hremovals, ← hflush]

/-! ### Lane PLLs -/

theorem startLinks_frame (ls : List Nat) (s : State) : OnlyIn [.port] s (startLinks ls s) := frame_foldl (fun t l => startLink_frame l t) ls s

theorem lanePllLoss_of_locked (p k : Nat) (s : State) (hlocked : (4 * p + k) ∈ s.clk.lanePlls) (hk : k < 4) :
    lanePllLoss p k s = raiseAt (laneDieOf p) .warn 0x2430 [BitVec.ofNat 8 p, BitVec.ofNat 8 k]
      (linksDown (s.pairPorts p k) { s with clk.lanePlls := s.clk.lanePlls.erase (4 * p + k) }) := by
  simp [lanePllLoss, hlocked, hk]

theorem lanePllLoss_of_unlocked (p k : Nat) (s : State) (h : (4 * p + k) ∉ s.clk.lanePlls) : lanePllLoss p k s = s := by
  simp [lanePllLoss, h]

theorem lanePllBack_of_locked (p k : Nat) (s : State) (h : (4 * p + k) ∈ s.clk.lanePlls) : lanePllBack p k s = s := by
  simp [lanePllBack, h]

theorem clkOutLock_of_other (n : Nat) (locked : Bool) (s : State) (hn : n < 4) (he : (tget s.clk.outs n {}).enable = true)
    (hu : (tget s.clk.outs n {}).unlocked = locked) : clkOutLock n locked s =
      { s with clk.outs := tput s.clk.outs n { tget s.clk.outs n {} with unlocked := !locked } } := if_pos ⟨hn, he, hu⟩

theorem clkOutLock_of_disabled (n : Nat) (locked : Bool) (s : State) (he : (tget s.clk.outs n {}).enable = false) :
    clkOutLock n locked s = s := if_neg fun h => by
  obtain ⟨_, hon, _⟩ := h
  exact absurd (he.symm.trans hon) (by decide)

/-! ### The freeze -/

/-- The locks of a die that has lost one now. -/
def CoreDie.unlocked (c : CoreDie) (pll : CorePll) (now : Nat) : CoreDie :=
  match pll with
  | .cclk => { c with cclkLock := false, lostAt := now }
  | .bclk => { c with bclkLock := false, lostAt := now }

/-- A die that has lost a lock now and stops. -/
def CoreDie.stopped (c : CoreDie) (pll : CorePll) (now : Nat) (since : Milestone) : CoreDie :=
  { c.unlocked pll now with running := false, frozen := some now, frozenFrom := since }

theorem freezeDie_of_running (d : Nat) (pll : CorePll) (s : State) (hd : d < s.part.cores) (hc : s.clk.cclk ≠ 0)
    (hcclk : (s.core d).cclkLock = true) (hbclk : (s.core d).bclkLock = true) (hfrozen : (s.core d).frozen = none) :
    (∃ since, (freezeDie d pll s).core d = (s.core d).stopped pll s.time.mono since) ∧
    ∀ e, e ≠ d → (freezeDie d pll s).core e = s.core e := by
  have hgo : ¬(s.part.cores ≤ d ∨ s.clk.cclk = 0 ∨
      (!((s.core d).cclkLock || (s.core d).bclkLock || (s.core d).frozen.isSome || (s.core d).reset)) = true) := by
    simp [hcclk, hc, Nat.not_le.mpr hd]
  unfold freezeDie
  extract_lets c locks a from_ b q x locks' ports y z
  rw [if_neg hgo, if_neg (by simp [c, hcclk, hbclk, hfrozen])]
  have hx : x.time = s.time ∧ ∀ e, x.core e = s.core e := by
    dsimp only [x]
    split
    · exact ⟨(time_of_frame (abandonRamp_frame 1 a)).trans (raiseAt_time _ _ _ _ s),
        fun e => (abandonRamp_core 1 a e).trans (raiseAt_core _ _ _ _ s e)⟩
    · exact ⟨raiseAt_time _ _ _ _ s, fun e => raiseAt_core _ _ _ _ s e⟩
  have hy : OnlyIn [.fwd, .ctr] x y := frame_foldl (fun t l => abortFrame_frame l t) _ x
  have hz := frame_foldl (cs := [.fwd, .ctr]) (f := fun s l => freezeXoff l s) (fun t l => freezeXoff_frame l t) ports z
  obtain ⟨htime, hcores⟩ := hx
  have hlocks : locks' = (s.core d).unlocked pll s.time.mono := by
    dsimp only [locks', locks, c, CoreDie.unlocked]
    rw [htime]
    cases pll <;> rfl
  refine ⟨⟨y.ms, ?_⟩, fun e he => ?_⟩
  · rw [core_of_frame hz, core_setCore_same, hlocks, time_of_frame hy, htime]
    rfl
  · rw [core_of_frame hz, core_setCore_other y _ he, core_of_frame hy, hcores e]

theorem freezeDie_of_frozen (d : Nat) (s : State) (hd : d < s.part.cores) (hc : s.clk.cclk ≠ 0) (hcclk : (s.core d).cclkLock = true)
    (hfrozen : (s.core d).frozen ≠ none) (hramp : s.clk.ramp = none) : freezeDie d .cclk s =
      (raiseAt d .error 0x2410 [BitVec.ofNat 8 d, 0] s).setCore d { s.core d with cclkLock := false, lostAt := s.time.mono } := by
  have hsome : (s.core d).frozen.isSome = true := Option.isSome_iff_ne_none.mpr hfrozen
  simp [freezeDie, hcclk, hc, hd, hramp, hsome]

/-! ### Thaw, reset and restart -/

theorem relock_of_frozen (d k : Nat) (s : State) (h : (s.core d).frozen.isSome = true) (hc : s.clk.cclk ≠ 0)
    (hk : (s.core d).lostAt + k ≤ s.time.mono) : relock d k s = s.setCore d { s.core d with cclkLock := true, bclkLock := true } := by
  simp [relock, h, hc, hk]

theorem thaw_of_early (d k : Nat) (s : State) (h : s.time.mono < (s.core d).lostAt + k) : thaw d k s = s := by
  have hrelock : relock d k s = s := by simp [relock, Nat.not_le.mpr h]
  simp [thaw, hrelock, h]

theorem thaw_of_short (d k : Nat) (s : State) (h : (s.core d).frozen.isSome = true) (hc : s.clk.cclk ≠ 0)
    (hk : (s.core d).lostAt + k ≤ s.time.mono) (hshort : k < 64 * micro) :
    thaw d k s = s.setCore d { s.core d with cclkLock := true, bclkLock := true } := by
  simp [thaw, relock_of_frozen d k s h hc hk, hshort]

theorem thaw_core (d k : Nat) (s : State) (h : (s.core d).frozen.isSome = true) (hc : s.clk.cclk ≠ 0)
    (hk : (s.core d).lostAt + k ≤ s.time.mono) (hlong : 64 * micro ≤ k) (hcommits : s.cmd.commits = []) :
    (thaw d k s).core d = { s.core d with cclkLock := true, bclkLock := true, frozen := none, running := true } := by
  unfold thaw
  rw [relock_of_frozen d k s h hc hk]
  extract_lets c0 t c closes v w r x y z
  have hc' : c = { s.core d with cclkLock := true, bclkLock := true } := core_setCore_same s d _
  rw [if_neg (by simp [hc', t, Option.isSome_iff_ne_none.mp h, Nat.not_lt.mpr hlong, Nat.not_lt.mpr hk])]
  have hv : OnlyIn [.cmd, .time, .fwd, .hier, .ctr] (t.setCore d { c with frozen := none }) v := resumeDie_frame d _ (by simpa [t] using hcommits)
  have hw : OnlyIn [.fwd, .ctr] v w := frame_foldl (fun s k => meetCloses_frame k.1 k.2 s) closes v
  have hx : OnlyIn [.fwd, .ctr] (w.setCore d { w.core d with running := true }) x := expireHeads_frame _
  have hy : OnlyIn [.fwd, .ctr] x y := frame_foldl (fun s l => frame_opt (holdEnd_frame l s)) _ x
  have hz : OnlyIn [.fwd, .ctr] y z := frame_foldl (fun s l => thawXoff_frame l s) _ y
  have hcross := crossNow_frame (raiseAt d .note 0x2411 [BitVec.ofNat 8 d] z)
  have hold : w.core d = { s.core d with cclkLock := true, bclkLock := true, frozen := none } := by
    rw [core_of_frame hw, core_of_frame hv, core_setCore_same, hc']
  rw [core_of_frame hcross, raiseAt_core, core_of_frame hz, core_of_frame hy, core_of_frame hx, core_setCore_same, hold]

theorem restrictPorts_frame (s : State) : OnlyIn [.power, .fwd, .port, .ctr] s (restrictPorts s) :=
  frame_foldl (fun t l => disablePort_frame l t) _ s

theorem setMode_frame (m : Mode) (s : State) : OnlyIn [.power] s (setMode m s) := by
  unfold setMode
  exact frame_skip (frame_raiseAt _ _ _ _ (frame_power s _))

theorem enterSafe_frame (s : State) : OnlyIn [.power, .fwd, .port, .ctr] s (enterSafe s) :=
  frame_opt (frame_step (frame_within (setMode_frame .safe s)) (restrictPorts_frame _))

theorem disablePort_mode (l : Nat) (s : State) : (disablePort l s).power.mode = s.power.mode := by
  unfold disablePort
  extract_lets a p b q r c
  have ha : a.power.mode = s.power.mode := mode_of_frame (abortFrame_frame l s)
  clear_value a
  have hc : OnlyIn [.fwd] _ c := pfcLinkDown_frame l _
  have hmode := mode_of_frame hc
  clear_value c
  exact (mode_of_frame (flushPort_frame l c)).trans (hmode.trans ha)

theorem disablePorts_mode (ls : List Nat) (s : State) : (ls.foldl (fun s l => disablePort l s) s).power.mode = s.power.mode := by
  induction ls generalizing s with
  | nil => rw [List.foldl_nil]
  | cons l ls ih => rw [List.foldl_cons, ih, disablePort_mode]

theorem restrictPorts_mode (s : State) : (restrictPorts s).power.mode = s.power.mode := disablePorts_mode _ s

theorem enterSafe_of_service (s : State) (h : s.power.mode = .service) : (enterSafe s).power.mode = .safe := by
  simp [enterSafe, h, restrictPorts_mode, setMode_power]

/-- The instants of the resets of the last hour, with one of now. -/
def State.resetsNow (s : State) : List Nat := s.time.mono :: s.clk.fwdResets.filter (fun t => decide (s.time.mono < t + 3600 * second))

theorem resetDie_resets (d : Nat) (s : State) : ((resetDie d s).core d = { s.core d with running := false, reset := true, frozen := none }) ∧
    (resetDie d s).clk.fwdResets = s.resetsNow ∧
    (s.resetsNow.length < 3 → (resetDie d s).power.mode = s.power.mode) ∧
    (3 ≤ s.resetsNow.length → s.power.mode = .service → (resetDie d s).power.mode = .safe) := by
  unfold resetDie
  extract_lets cells a k b c recent q e
  have ha : OnlyIn [.fwd, .ctr] s a := flushDie_frame d s
  have hc : OnlyIn [.fwd, .ctr] b c := frame_foldl (fun t l => thawXoff_frame l t) _ b
  have hcore : e.core d = { s.core d with running := false, reset := true, frozen := none } := by
    rw [raiseAt_core]
    exact (core_of_frame hc d).trans ((core_setCore_same a d _).trans (congrArg
      (fun c : CoreDie => { c with running := false, reset := true, frozen := none }) (core_of_frame ha d)))
  have hrecent : recent = s.resetsNow := by
    have htime : c.time = s.time := (time_of_frame hc).trans (time_of_frame (t := a) ha)
    have hresets : c.clk.fwdResets = s.clk.fwdResets :=
      (clkField_of_frame ClockState.fwdResets hc).trans (clkField_of_frame ClockState.fwdResets (t := a) ha)
    simp only [recent, State.resetsNow, htime, hresets]
  have hmode : e.power.mode = s.power.mode := by
    rw [raiseAt_power]
    exact (mode_of_frame hc).trans (mode_of_frame (t := a) ha)
  have he : e.clk.fwdResets = recent := by rw [raiseAt_clk]
  rw [← hrecent]
  split
  · next hthree =>
    have hsafe := enterSafe_frame (raiseAt d .fatal 0x2413 [BitVec.ofNat 8 d] e)
    refine ⟨?_, ?_, fun h => absurd hthree (by omega), fun _ hs => enterSafe_of_service _ (by simpa using hmode.trans hs)⟩
    · rw [core_of_frame hsafe, raiseAt_core, hcore]
    · rw [← he]
      exact (clkField_of_frame ClockState.fwdResets hsafe).trans (congrArg ClockState.fwdResets (raiseAt_clk _ _ _ _ e))
  · next hfew => exact ⟨hcore, he, fun _ => hmode, fun h => absurd h hfew⟩

theorem domainRestart_of_ready (d : Nat) (s : State) (hd : d < s.part.cores) (hreset : (s.core d).reset = true) (hc : s.clk.cclk ≠ 0)
    (hawake : s.asleep = false) (hstage : (resumeDie d s).power.stage ≠ 5) : domainRestart d s =
      resumeShed ((resumeDie d s).setCore d { (resumeDie d s).core d with cclkLock := true, bclkLock := true, running := true, reset := false }) := by
  simp [domainRestart, hd, hreset, hc, hawake, hstage, resumeShed_power]

theorem domainRestart_of_no_reset (d : Nat) (s : State) (h : (s.core d).reset = false) : domainRestart d s = s := by
  simp [domainRestart, h]

/-- Settles O45, clause by clause. That CORE_THAW carries the time since the relock, and that the lock shows at the relock, are the model's
choices (log 38). -/
theorem clockEventsTakeEffect : Obligations.ClockEventsTakeEffect := by
  intro dt s u
  refine ⟨fun p k hp hk => runs_of rfl ?_, fun p k h => leads_of rfl (lanePllLoss_of_unlocked p k u h),
    fun p k hp hk hport hasyn hawake hcal hcut => runs_of rfl ?_, fun p k h => leads_of rfl (lanePllBack_of_locked p k u h), ?_, ?_,
    ?_, ?_, ?_, ?_, ?_, ?_, ?_, ?_, ?_, ?_, ?_, ?_⟩
  · change (finish (lanePllLoss p k u)).clk.lanePlls = _ ∧ ∀ l ∈ _, ((finish (lanePllLoss p k u)).lp l).up = false
    rw [lanePllLoss_of_locked p k u hp hk]
    refine ⟨by simp, fun l hl => ?_⟩
    rw [finish_lp, State.lp, raiseAt_port]
    exact (linksDown_lp_up _ _ l).trans (by simp [hl])
  · change (finish (lanePllBack p k u)).clk.lanePlls = _
    rw [lanePllBack, if_neg (by simp [hp, hasyn, hawake, hcal, hcut]; omega)]
    rw [finish_clk_lanePlls]
    exact clkField_of_frame ClockState.lanePlls (startLinks_frame _ _)
  · rintro n c rfl hn he
    exact ⟨fun hu => leads_of rfl (clkOutLock_of_other n false u hn he hu), fun hu => leads_of rfl (clkOutLock_of_other n true u hn he hu)⟩
  · exact fun n he => ⟨leads_of rfl (clkOutLock_of_disabled n false u he), leads_of rfl (clkOutLock_of_disabled n true u he)⟩
  · rintro d pll c rfl hd hcclk hbclk hfrozen hc
    obtain ⟨⟨since, hcore⟩, hother⟩ := freezeDie_of_running d pll u hd hc hcclk hbclk hfrozen
    refine runs_of rfl ?_
    simp only [finish_core]
    change ((freezeDie d pll u).core d).running = _ ∧ ((freezeDie d pll u).core d).frozen = _ ∧ ((freezeDie d pll u).core d).lostAt = _ ∧
      ((freezeDie d pll u).core d).cclkLock = _ ∧ ((freezeDie d pll u).core d).bclkLock = _ ∧ _
    rw [hcore]
    refine ⟨rfl, rfl, ?_, ?_, ?_, hother⟩
    · cases pll <;> rfl
    · cases pll <;> simp [CoreDie.stopped, CoreDie.unlocked, hcclk]
    · cases pll <;> simp [CoreDie.stopped, CoreDie.unlocked, hbclk]
  · rintro d c rfl hd hfrozen hcclk - hc hramp
    exact leads_of rfl (freezeDie_of_frozen d u hd hc hcclk hfrozen hramp)
  · intro d k hk hstage
    refine leads_of (f := fun s => resumeShed (thaw d k s)) rfl ?_
    change resumeShed (thaw d k u) = u
    rw [thaw_of_early d k u hk, resumeShed_of_stage u hstage]
  · rintro d k c rfl hfrozen hc hk
    refine ⟨fun hshort hstage => leads_of (f := fun s => resumeShed (thaw d k s)) rfl ?_,
      fun hlong hcommits => runs_of (f := fun s => resumeShed (thaw d k s)) rfl ?_⟩
    · change resumeShed (thaw d k u) = _
      rw [thaw_of_short d k u hfrozen hc hk hshort]
      exact resumeShed_of_stage _ hstage
    · have hcore := thaw_core d k u hfrozen hc hk hlong hcommits
      simp only [finish_core, resumeShed_core]
      change ((thaw d k u).core d).frozen = _ ∧ ((thaw d k u).core d).running = _ ∧ ((thaw d k u).core d).cclkLock = _ ∧
        ((thaw d k u).core d).bclkLock = _
      rw [hcore]
      exact ⟨rfl, rfl, rfl, rfl⟩
  · intro d t hfrozen ht
    have hover : freezeOver d u = resetDie d u := by simp [freezeOver, hfrozen, ht]
    obtain ⟨hcore, hresets, hfew, hmany⟩ := resetDie_resets d u
    refine runs_of rfl ?_
    simp only [finish_core, finish_clk_fwdResets, finish_power_mode]
    change ((freezeOver d u).core d).frozen = _ ∧ ((freezeOver d u).core d).running = _ ∧ ((freezeOver d u).core d).reset = _ ∧
      (freezeOver d u).clk.fwdResets = _ ∧ ((freezeOver d u).clk.fwdResets.length < 3 → (freezeOver d u).power.mode = _) ∧
      (3 ≤ (freezeOver d u).clk.fwdResets.length → u.power.mode = .service → (freezeOver d u).power.mode = .safe)
    rw [hover, hcore, hresets]
    exact ⟨rfl, rfl, rfl, rfl, hfew, hmany⟩
  · intro d t hfrozen ht
    refine leads_of rfl ?_
    change freezeOver d u = u
    simp [freezeOver, hfrozen, Nat.not_le.mpr ht]
  · intro d hd hreset hc hawake hstage hcommits hlatch hswaps hremovals hflush
    have hquiet := resumeDie_of_quiet d u hcommits hlatch hswaps hremovals hflush
    refine leads_of rfl ?_
    change domainRestart d u = _
    rw [domainRestart_of_ready d u hd hreset hc hawake (by rw [hquiet, hstage]; decide), hquiet, resumeShed_of_stage _ (by simp [hstage])]
  · intro d hd hreset hc hawake hcommits hstage
    have hresume := resumeDie_frame d u hcommits
    refine runs_of rfl ?_
    simp only [finish_core]
    change ((domainRestart d u).core d).running = _ ∧ ((domainRestart d u).core d).reset = _ ∧ ((domainRestart d u).core d).cclkLock = _ ∧
      ((domainRestart d u).core d).bclkLock = _
    rw [domainRestart_of_ready d u hd hreset hc hawake (by rwa [stage_of_frame hresume]), resumeShed_core, core_setCore_same]
    exact ⟨rfl, rfl, rfl, rfl⟩
  · exact fun d h => leads_of rfl (domainRestart_of_no_reset d u h)
  · intro r hr hs
    refine leads_of rfl ?_
    change rampDone u = u
    simp [rampDone, hr, hs]
  · intro r hr hs ho
    refine leads_of rfl ?_
    change rampDone u = _
    simp [rampDone, hr, hs, ho]
  · intro hr
    refine leads_of rfl ?_
    change rampDone u = u
    simp [rampDone, hr]

end Sys2Proof.Machine
end

section
/-! SUPPORT. What commits leave unchanged: moves of the count, the DPLL, the modes, the retention banks, and the commit of each opcode. -/

namespace Sys2Proof.Machine

set_option Elab.async false

/-! ### Compare units and moves of the count -/

theorem stopOut_frame (n : Nat) (d : AT80) (s : State) : OnlyIn [] s (stopOut n d s) := by
  unfold stopOut
  extract_lets c
  split
  · exact frame_refl _ s
  · exact frame_then (as := []) (bs := []) (frame_outs s _) (frame_out _ _)

theorem stopOuts_frame (d : AT80) (s : State) : OnlyIn [] s (stopOuts d s) := frame_foldl (fun t n => stopOut_frame n d t) _ s

theorem drive_frame (o : Out) (s : State) : OnlyIn [] s (s.drive o) := frame_skip (emit_frame o s)

theorem firePulse_frame (u : Nat) (e : AT80) (s : State) : OnlyIn [.time] s (firePulse u e s) := by
  unfold firePulse
  extract_lets c ends a
  have ha : OnlyIn [.time] s a := setUnit_frame u _ s
  exact frame_ite ha (frame_step ha (drive_frame _ a))

theorem notifyFired_frame (u : Nat) (d e : AT80) (s : State) : OnlyIn [.cmd, .fwd, .ctr, .port] s (notifyFired u d e s) :=
  frame_opt (notify_frame _ _ _ s)

theorem fireUnit_frame (u : Nat) (s : State) : OnlyIn [.cmd, .time, .fwd, .port, .ctr] s (fireUnit u s) := by
  unfold fireUnit
  extract_lets c late q a edge b
  have ha : OnlyIn [.time] s a := frame_opt (frame_raiseAt _ _ _ _ (frame_time s _))
  have hb : OnlyIn [.time] s b := frame_step ha (setUnit_frame u _ a)
  exact frame_skip (frame_then (as := [.time]) (frame_ite (frame_step hb (firePulse_frame u edge b)) hb) (notifyFired_frame _ _ _ _))

theorem fireReached_frame (s : State) : OnlyIn [.cmd, .time, .fwd, .port, .ctr] s (fireReached s) :=
  frame_foldl (fun t u => frame_skip (fireUnit_frame u t)) _ s

theorem moveCount_frame (k : Nat) (d : Int) (s : State) : OnlyIn [.cmd, .time, .fwd, .port, .meas, .ctr] s (moveCount k d s) := by
  unfold moveCount
  extract_lets a old before new q b e
  have ha : OnlyIn [.cmd, .time, .fwd, .port, .ctr] s a := frame_step (fireReached_frame s) (stopOuts_frame _ _)
  have hb : OnlyIn [.cmd, .time, .fwd, .port, .ctr] s b :=
    frame_step (frame_step ha (frame_time a { q with count := new, stepCount := a.time.stepCount + 1 })) (frame_time _ _)
  have he : OnlyIn [.cmd, .time, .fwd, .port, .ctr] s e := frame_raiseAt _ _ _ _ hb
  have hstep : OnlyIn [.cmd, .time, .fwd, .port, .ctr] s (stepCalendars before d (stepSnapshot before d (stepUnits old new e))) :=
    frame_step (frame_step (frame_step he (frame_time e _)) (frame_ctr _ _)) (stepCalendars_frame before d _)
  exact frame_then hstep (stepGates_frame old _)

theorem loadCount_frame (v : AT80) (t : TimeState) (k o e : Nat) (s : State) :
    OnlyIn [.cmd, .time, .fwd, .port, .meas, .ctr] s (loadCount v t k o e s) := by
  unfold loadCount
  extract_lets a
  have ha : OnlyIn [.cmd, .time, .fwd, .port, .meas, .ctr] s a := moveCount_frame k _ s
  exact frame_raiseAt _ _ _ _ (frame_step ha (frame_time a _))

theorem cancelStep_frame (c : Nat) (s : State) : OnlyIn [.cmd] s (cancelStep c s) := by
  unfold cancelStep
  split
  · exact frame_refl _ s
  · exact frame_raiseAt _ _ _ _ (frame_cmd s _)

theorem announceStep_frame (m : Milestone) (k : Nat) (v : BitVec 80) (s : State) : OnlyIn [.cmd, .fwd, .ctr, .port] s (announceStep m k v s) :=
  announce_frame _ _ s

/-! ### The DPLL and the estimates of the Almanac -/

theorem fixRef_frame (s : State) : OnlyIn [.ref] s (fixRef s) := frame_ref s _
theorem startPull_frame (o : Int) (s : State) : OnlyIn [.ref] s (startPull o s) := frame_ref s _
theorem estimateNow_frame (s : State) : OnlyIn [] s (estimateNow s).2 := openDiv_frame _ _ s

theorem loseRef_frame (c : Nat) (s : State) : OnlyIn [.ref] s (loseRef c s) := by
  unfold loseRef
  refine frame_opt ?_
  extract_lets a
  have ha : OnlyIn [.ref] s a := fixRef_frame s
  split
  · have hpair := estimateNow_frame a
    generalize estimateNow a = p at hpair
    obtain ⟨e, t⟩ := p
    exact frame_raiseAt _ _ _ _ (frame_step (frame_step ha hpair) (frame_ref t _))
  · exact frame_raiseAt _ _ _ _ (frame_step ha (frame_ref a _))

theorem follow_frame (e : Nat) (o : Int) (s : State) : OnlyIn [.ref] s (follow e o s) := by
  unfold follow
  extract_lets a0 q a pulls q2 b
  have ha : OnlyIn [.ref] s a := frame_step (fixRef_frame s) (frame_ref _ _)
  have hb : OnlyIn [.ref] s b := frame_ite (frame_step (frame_step ha (frame_ref a _)) (startPull_frame _ _)) (frame_step ha (frame_ref a _))
  exact frame_ite hb (frame_step hb (frame_ref b _))

theorem enterGuard_frame (e : Nat) (o : Int) (s : State) : OnlyIn [.cmd, .time, .ref] s (enterGuard e o s) := by
  unfold enterGuard
  extract_lets q a b
  have hb : OnlyIn [.cmd, .time, .ref] s b := frame_raiseAt _ _ _ _ (frame_step (frame_within (frame_time s _)) (cancelStep_frame 1 _))
  exact frame_step (frame_step hb (loseRef_frame 1 b)) (histFault_frame _)

theorem exitGuard_frame (c : Nat) (o : Int) (s : State) : OnlyIn [.time, .ref] s (exitGuard c o s) := by
  unfold exitGuard
  extract_lets q a
  have ha : OnlyIn [.time, .ref] s a := frame_raiseAt _ _ _ _ (frame_within (frame_time s _))
  split
  · exact ha
  · exact frame_step ha (follow_frame _ _ a)

theorem closeOffset_frame (o : Int) (s : State) : OnlyIn [.ref] s (closeOffset o s) := by
  unfold closeOffset
  extract_lets q a
  have ha : OnlyIn [.ref] s a := frame_step (frame_step (frame_ref s _) (fixRef_frame _)) (startPull_frame o _)
  exact frame_ite (frame_step ha (frame_ref a _)) ha

theorem measured_frame (s : State) : OnlyIn [] s (measured s).2 := by
  unfold measured
  exact frame_then (as := []) (bs := []) (draw_frame _ s) (drawBit_frame _)

theorem acceptJump_frame (s : State) : OnlyIn [.cmd, .time, .fwd, .port, .ref, .meas, .ctr] s (acceptJump s) := by
  unfold acceptJump
  refine frame_skip ?_
  extract_lets d m v a
  have ha : OnlyIn [.cmd, .time, .fwd, .port, .ref, .meas, .ctr] s a :=
    frame_ite (frame_then (moveCount_frame 3 d s) (announceStep_frame _ _ _ _))
      (frame_then (loadCount_frame _ _ _ _ _ s) (announceStep_frame _ _ _ _))
  have hpair := measured_frame a
  generalize measured a = p at hpair
  obtain ⟨rest, t⟩ := p
  exact frame_step (frame_step ha hpair) (exitGuard_frame 1 rest t)

theorem dropPairs_frame (s : State) : OnlyIn [.ref] s (dropPairs s) := frame_ref s _

theorem serveTable_frame (x : Tbl RefEntry) (s : State) : OnlyIn [.time, .ref] s (serveTable x s) := by
  unfold serveTable
  extract_lets old mon mons q a b q2
  have hb : OnlyIn [.time, .ref] s b := frame_then (frame_ref s _) (dropPairs_frame a)
  exact frame_ite (frame_step hb (frame_time b _)) hb

/-! ### Modes, powers and retention banks -/

theorem requestVolt_frame (o : AvsOwner) (r mv : Nat) (s : State) : OnlyIn [.power] s (requestVolt o r mv s) :=
  frame_step (setRail_frame r _ s) (emit_frame _ _)

theorem requestCores_frame (o : AvsOwner) (mv : Nat → Nat) (s : State) : OnlyIn [.power] s (requestCores o mv s) :=
  frame_foldl (fun t d => requestVolt_frame o d _ t) _ s

theorem startRamp_frame (o : RampOwner) (n : Nat) (s : State) : OnlyIn [.clk] s (startRamp o n s) := frame_clk s _

theorem setCores_frame (f : State → Nat → CoreDie) (ds : List Nat) (s : State) :
    OnlyIn [.clk] s (ds.foldl (fun s d => s.setCore d (f s d)) s) := frame_foldl (fun t d => setCore_frame d _ t) ds s

theorem stopRestore_frame (s : State) : OnlyIn [.power, .clk] s (stopRestore s) := by
  unfold stopRestore
  refine frame_opt ?_
  extract_lets a q b
  have ha : OnlyIn [.power, .clk] s a := by
    dsimp only [a]
    split
    · exact frame_opt (abandonRamp_frame 0 s)
    · exact frame_refl _ s
  have hb : OnlyIn [.power, .clk] s b := frame_ite (frame_step (frame_step ha (frame_clk a _)) (setCores_frame _ _ _)) ha
  exact frame_step hb (frame_power b _)

theorem asserted_frame (s : State) : OnlyIn [.power, .clk] s (asserted s) := by
  unfold asserted
  extract_lets a
  have ha : OnlyIn [.power, .clk] s a := frame_opt (stopRestore_frame s)
  exact frame_ite (frame_step ha (frame_power a _)) ha

theorem clearing_frame (n : Nat) (s : State) : OnlyIn [.power] s (clearing n s) := frame_opt (frame_power s _)

theorem triggersMoved_frame (n : Nat) (s : State) : OnlyIn [.power, .clk] s (triggersMoved n s) := by
  unfold triggersMoved
  extract_lets a
  have ha : OnlyIn [.power, .clk] s a := frame_within (clearing_frame n s)
  exact frame_ite (frame_step ha (asserted_frame a)) ha

theorem beginDormant_frame (s : State) : OnlyIn [.power] s (beginDormant s) := frame_power s _

theorem beginExit_frame (m : Option Mode) (s : State) : OnlyIn [.power] s (beginExit m s) := by
  unfold beginExit
  extract_lets q a
  have ha : OnlyIn [.power] s a := frame_power s _
  exact frame_ite (frame_step ha (requestCores_frame _ _ a)) ha

theorem wakeUp_frame (m : Option Mode) (s : State) : OnlyIn [.power] s (wakeUp m s) := by
  unfold wakeUp
  split
  · exact frame_power s _
  · exact frame_refl _ s
  · exact frame_opt (beginExit_frame m s)

theorem frame_fwd_port (s : State) (x : ForwardState) (y : PortState) : OnlyIn [.fwd, .port] s { s with fwd := x, port := y } :=
  frame_then (frame_fwd s x) (frame_port { s with fwd := x } y)

theorem frame_fwd_ref (s : State) (x : ForwardState) (y : RefState) : OnlyIn [.fwd, .ref] s { s with fwd := x, ref := y } :=
  frame_then (frame_fwd s x) (frame_ref { s with fwd := x } y)

theorem frame_power_port (s : State) (x : PowerState) (y : PortState) : OnlyIn [.power, .port] s { s with power := x, port := y } :=
  frame_then (frame_power s x) (frame_port { s with power := x } y)

theorem clearBank_frame (d b : Nat) (s : State) : OnlyIn [.time, .fwd, .port, .ref, .ctr] s (clearBank d b s) := by
  unfold clearBank
  extract_lets mine
  split
  case h_12 => exact frame_then (frame_fwd s _) (releaseEpochs_frame _)
  case h_13 => exact frame_within (frame_fwd_port s _ _)
  case h_15 => exact frame_within (frame_ctr s _)
  case h_16 => exact frame_within (frame_fwd_ref s _ _)
  case h_17 => exact frame_refl _ s
  all_goals exact frame_within (frame_fwd s _)

theorem markLost_frame (d : Nat) (m : BitVec 16) (s : State) : OnlyIn [.power] s (markLost d m s) :=
  frame_ite (frame_power s _) (frame_power s _)

theorem checkBanks_frame (d : Nat) (x y : BitVec 16) (s : State) :
    OnlyIn [.time, .power, .fwd, .port, .ref, .ctr] s (checkBanks d x y s) := by
  unfold checkBanks
  extract_lets mirrored copied gone a b
  have ha : OnlyIn [.time, .power, .fwd, .port, .ref, .ctr] s a := frame_within (cs := [.time, .power, .fwd, .port, .ref, .ctr])
    (frame_skip (frame_raiseAt _ _ _ _ (frame_refl [] s)))
  have hb : OnlyIn [.time, .power, .fwd, .port, .ref, .ctr] a b := frame_then
    (frame_foldl (cs := [.time, .fwd, .port, .ref, .ctr]) (fun t n => clearBank_frame d n t) _ a) (markLost_frame d gone _)
  exact frame_ite ha (frame_raiseAt _ _ _ _ (frame_step ha hb))

theorem bistLost_frame (d : Nat) (b : Bist) (s : State) : OnlyIn [.time, .power, .fwd, .port, .ref, .ctr] s (bistLost d b s) :=
  frame_opt (checkBanks_frame d _ _ s)

theorem endTests_frame (s : State) : OnlyIn [.time, .power, .fwd, .port, .ref, .ctr] s (endTests s) := by
  unfold endTests
  extract_lets a q q2
  have ha : OnlyIn [.time, .power, .fwd, .port, .ref, .ctr] s a := frame_foldl (fun t (e : Nat × Bist) => bistLost_frame e.1 e.2 t) _ s
  exact frame_step ha (frame_power_port a _ _)

theorem applyModeSet_frame (r : Req) (c : Nat) (s : State) : OnlyIn [.time, .power, .fwd, .port, .ref, .clk, .ctr] s (applyModeSet r c s) := by
  have hpower : ∀ m, OnlyIn [.time, .power, .fwd, .port, .ref, .clk, .ctr] s { s with power.transition := m } :=
    fun m => frame_within (frame_power s _)
  unfold applyModeSet
  split
  · exact frame_refl _ s
  · next m _ =>
    refine frame_skip (frame_ite (frame_within (wakeUp_frame (some m) s)) ?_)
    extract_lets old q a q2 b q3 e
    split
    · exact frame_within (beginDormant_frame s)
    · exact hpower _
    · have ha : OnlyIn [.time, .power, .fwd, .port, .ref, .clk, .ctr] s a := hpower _
      have hb : OnlyIn [.time, .power, .fwd, .port, .ref, .clk, .ctr] s b := frame_ite (frame_step ha (endTests_frame a)) ha
      have he : OnlyIn [.time, .power, .fwd, .port, .ref, .clk, .ctr] s e := frame_ite (frame_step hb (frame_clk b _)) hb
      exact frame_ite (frame_step (frame_step ha (frame_power a _)) (restrictPorts_frame _))
        (frame_step (frame_step he (setMode_frame _ e)) (restrictPorts_frame _))
    · exact frame_step (hpower _) (setMode_frame _ _)
    · exact frame_step (frame_step (hpower _) (setMode_frame _ _)) (restrictPorts_frame _)

/-! ### Calibration -/

theorem useSet_frame (x : List Host.Cell) (s : State) : OnlyIn [.cal] s (useSet x s) := frame_cal s _

theorem applyJournal_frame (s : State) : OnlyIn [.cal] s (applyJournal s) := by
  unfold applyJournal
  split
  · exact frame_refl _ s
  · exact frame_step (frame_cal s _) (useSet_frame _ _)

theorem applyCalWrite_frame (r : Req) (c : Nat) (s : State) : OnlyIn [.cal] s (applyCalWrite r c s) := by
  unfold applyCalWrite
  extract_lets q item index ev factory a q2 b e
  have ha : OnlyIn [.cal] s a := frame_step (frame_cal s _) (applyJournal_frame _)
  have hb : OnlyIn [.cal] s b := frame_ite (frame_step ha (frame_cal a _)) ha
  have he : OnlyIn [.cal] s e := frame_raiseAt _ _ _ _ hb
  exact frame_ite (frame_raiseAt _ _ _ _ he) he

theorem applyCalImport_frame (r : Req) (c : Nat) (s : State) : OnlyIn [.cal] s (applyCalImport r c s) := by
  unfold applyCalImport
  split
  · exact frame_refl _ s
  · exact frame_raiseAt _ _ _ _ (frame_step (frame_cal s _) (useSet_frame _ _))

/-! ### Timing lanes and PTP -/

theorem moveActive_frame (p l : Nat) (k : Option Int) (s : State) : OnlyIn [.port] s (moveActive p l k s) := by
  unfold moveActive
  extract_lets old a
  have ha : OnlyIn [.port] s a := frame_foldl (fun t j => setLane_frame p j _ t) _ s
  exact frame_step ha (setLink_frame p _ a)

theorem moveToConfigured_frame (p l : Nat) (k : Int) (s : State) : OnlyIn [.port] s (moveToConfigured p l k s) :=
  frame_step (moveActive_frame p l _ s) (setLink_frame p _ _)

theorem ptpRun_frame (s : State) : OnlyIn [.port] s (ptpRun s) :=
  frame_foldl (fun t p => frame_ite (setLink_frame p _ t) (setLink_frame p _ t)) _ s

theorem applyTimingConfig_frame (r : Req) (c : Nat) (s : State) : OnlyIn [.port] s (applyTimingConfig r c s) := by
  unfold applyTimingConfig
  extract_lets q p k old k0 a
  have ha : OnlyIn [.port] s a := setLink_frame p _ s
  refine frame_ite (frame_step ha (setLink_frame p _ a)) ?_
  split
  · extract_lets b
    have hb : OnlyIn [.port] s b := frame_step ha (moveToConfigured_frame p k _ a)
    exact frame_ite (frame_raiseAt _ _ _ _ hb) hb
  · exact frame_step (frame_step ha (moveActive_frame p k none a)) (setLink_frame p _ _)

/-! ### Ports and lanes -/

theorem onLanes_frame (p m : Nat) (f : Nat → Lane → Lane) (s : State) : OnlyIn [.port] s (onLanes p m f s) :=
  frame_foldl (fun t k => setLane_frame p k _ t) _ s

theorem removePort_frame (l : Nat) (s : State) : OnlyIn [.time, .power, .fwd, .port, .ctr] s (removePort l s) :=
  frame_step (frame_then (disablePort_frame l s) (removeCalendar_frame l _)) (frame_fwd _ _)

theorem applyPortBreakout_frame (r : Req) (c : Nat) (s : State) :
    OnlyIn [.time, .power, .fwd, .port, .ctr] s (applyPortBreakout r c s) := by
  unfold applyPortBreakout
  extract_lets q p b old a d q2 e f
  have ha : OnlyIn [.time, .power, .fwd, .port, .ctr] s a := frame_foldl (fun t l => removePort_frame l t) _ s
  have hd : OnlyIn [.time, .power, .fwd, .port, .ctr] s d := frame_step ha (frame_foldl (cs := [.power, .fwd, .port, .ctr])
    (fun t i => frame_skip (frame_opt (disablePort_frame _ t))) _ a)
  have he : OnlyIn [.time, .power, .fwd, .port, .ctr] s e := frame_step hd (frame_port d _)
  have hf : OnlyIn [.time, .power, .fwd, .port, .ctr] s f :=
    frame_ite he (frame_step he (frame_foldl (cs := [.port]) (fun t k => forgetSkew_frame p k t) _ e))
  refine frame_step hf (frame_foldl (cs := [.port]) (fun t i => ?_) _ f)
  have hlp := fun (m : Lport) => setLp_frame (4 * p + i) m t
  exact frame_ite (frame_step (hlp _) (frame_foldl (fun u k => setLane_frame p k _ u) _ _)) (hlp _)

theorem applyPfcConfig_frame (r : Req) (c : Nat) (s : State) : OnlyIn [.fwd, .ctr] s (applyPfcConfig r c s) := by
  unfold applyPfcConfig
  extract_lets q l v q2 a
  have ha : OnlyIn [.fwd, .ctr] s a := frame_within (frame_fwd s _)
  refine frame_step ha (frame_foldl (cs := [.fwd, .ctr]) (fun t p => ?_) _ a)
  extract_lets st b
  have hb : OnlyIn [.fwd, .ctr] t b := frame_within (setPfcPort_frame l p _ t)
  exact frame_ite (frame_ite (frame_step hb (sendPfc_frame l p 0 b)) hb) (pfcCheck_frame l p t)

theorem applyCalendarDisable_frame (r : Req) (c : Nat) (s : State) : OnlyIn [.time, .fwd, .ctr] s (applyCalendarDisable r c s) := by
  unfold applyCalendarDisable
  extract_lets l q a b q2
  have hb : OnlyIn [.time, .fwd, .ctr] s b := frame_then (frame_fwd s _) (releaseEpochs_frame a)
  exact frame_ite (frame_step (frame_step hb (frame_fwd b _)) (removalNow_frame l _)) hb

theorem applyLanePower_frame (r : Req) (c : Nat) (s : State) : OnlyIn [.power, .port, .board] s (applyLanePower r c s) := by
  unfold applyLanePower
  extract_lets q l v a
  have ha : OnlyIn [.power, .port, .board] s a := frame_within (setLp_frame l _ s)
  exact frame_ite (frame_step ha (movePower_frame l _ a)) (frame_step ha (setLp_frame l _ a))

/-! ### Routes, keys and filters -/

theorem setRoutes_frame (n : Nat) (x : List Route) (s : State) : OnlyIn [.fwd] s (s.setRoutes n x) :=
  frame_ite (frame_fwd s _) (frame_ite (frame_fwd s _) (frame_fwd s _))

theorem rollKey_frame (k : List Byte) (s : State) : OnlyIn [.hier] s (rollKey k s) := frame_raiseAt _ _ _ _ (frame_hier s _)

theorem setEpochs_frame (q : List Byte) (s : State) : OnlyIn [.hier] s (setEpochs q s) :=
  frame_step (frame_hier s _) (frame_foldl (fun t l => epochCheck_frame l t) _ _)

theorem applyHierConfig_frame (r : Req) (c : Nat) (s : State) : OnlyIn [.hier, .ref] s (applyHierConfig r c s) := by
  unfold applyHierConfig
  extract_lets q fl cands up q2 a q3 b q4
  have hb : OnlyIn [.hier, .ref] s b := frame_step (frame_within (frame_hier s _)) (frame_hier a _)
  exact frame_ite (frame_step (frame_step hb (frame_hier b _)) (loopChecks_frame _)) hb

theorem restartFilters_frame (ks : List Nat) (s : State) : OnlyIn [.ctr] s (restartFilters ks s) := frame_ctr s _

theorem applyFilterConfig_frame (r : Req) (c : Nat) (s : State) : OnlyIn [.ctr] s (applyFilterConfig r c s) := by
  unfold applyFilterConfig
  extract_lets q k chain ks f q2 a q3
  have ha : OnlyIn [.ctr] s a := frame_ctr s _
  exact frame_ite (frame_step ha (frame_ctr a _)) (frame_step ha (restartFilters_frame ks a))

theorem applyTableRestore_frame (r : Req) (c : Nat) (s : State) : OnlyIn [.power] s (applyTableRestore r c s) := by
  unfold applyTableRestore
  extract_lets d marked q a
  have ha : OnlyIn [.power] s a := frame_ite (frame_power s _) (frame_power s _)
  exact frame_ite (frame_raiseAt _ _ _ _ ha) ha

theorem applyClkOutConfig_frame (r : Req) (c : Nat) (s : State) : OnlyIn [] s (applyClkOutConfig r c s) := by
  unfold applyClkOutConfig
  extract_lets q n set d a
  have ha : OnlyIn [] s a := frame_skip (stopOut_frame n 0 s)
  exact frame_step ha (frame_outs a _)

theorem applyTdcEnable_frame (r : Req) (c : Nat) (s : State) : OnlyIn [.meas] s (applyTdcEnable r c s) := by
  unfold applyTdcEnable
  extract_lets n a d
  have ha : OnlyIn [.meas] s a := enableChannel_frame n _ s
  exact frame_skip (frame_ite (frame_step ha (setChan_frame n _ a)) ha)

theorem applyTimeSet_frame (r : Req) (c : Nat) (s : State) : OnlyIn [.cmd, .time, .fwd, .port, .meas, .ctr] s (applyTimeSet r c s) :=
  frame_ite (loadCount_frame _ _ _ _ _ s) (moveCount_frame _ _ s)

theorem applyAnnounceStep_frame (r : Req) (c : Nat) (s : State) :
    OnlyIn [.cmd, .time, .fwd, .port, .meas, .ctr] s (applyAnnounceStep r c s) :=
  frame_ite (moveCount_frame _ _ s) (frame_ite (loadCount_frame _ _ _ _ _ s) (moveCount_frame _ _ s))

theorem applyRefClear_frame (r : Req) (c : Nat) (s : State) : OnlyIn [.ref] s (applyRefClear r c s) :=
  frame_skip (frame_ite (setMon_frame _ _ s) (setMon_frame _ _ s))

end Sys2Proof.Machine
end

section
/-! SUPPORT. The parts of the state that commits, events and the end of a command touch (R360). -/

namespace Sys2Proof.Machine

set_option Elab.async false

theorem applyPortEnable_frame (r : Req) (c : Nat) (s : State) : OnlyIn [.port, .board] s (applyPortEnable r c s) := by
  unfold applyPortEnable
  extract_lets l a
  have ha : OnlyIn [.board] s a := modWrite_frame l false s
  exact frame_then (bs := [.port]) ha (frame_skip (enablePort_frame l a))

theorem applyPortDisable_frame (r : Req) (c : Nat) (s : State) : OnlyIn [.power, .fwd, .port, .ctr, .board] s (applyPortDisable r c s) := by
  have hw := modWrite_frame (fld r.params 0 2) true s
  unfold applyPortDisable
  exact frame_then hw (disablePort_frame _ _)

theorem applyLpmWrite_frame (r : Req) (c : Nat) (s : State) : OnlyIn [.fwd] s (applyLpmWrite r c s) := by
  unfold applyLpmWrite
  exact frame_foldl (fun t _ => setRoutes_frame _ _ t) _ s

theorem applyLpmDelete_frame (r : Req) (c : Nat) (s : State) : OnlyIn [.fwd] s (applyLpmDelete r c s) := by
  unfold applyLpmDelete
  exact frame_foldl (fun t n => setRoutes_frame n _ t) _ s

theorem applyPtpPortConfig_frame (r : Req) (c : Nat) (s : State) : OnlyIn [.port] s (applyPtpPortConfig r c s) := by
  unfold applyPtpPortConfig
  exact frame_step (setLink_frame _ _ s) (ptpRun_frame _)

theorem applyTimeStep_frame (r : Req) (c : Nat) (s : State) : OnlyIn [.cmd, .time, .fwd, .port, .meas, .ctr] s (applyTimeStep r c s) :=
  moveCount_frame 0 (sfld r.params 0 8) s

theorem frame_time_fwd (s : State) (x : TimeModule) (y : ForwardState) : OnlyIn [.time, .fwd] s { s with time := x, fwd := y } :=
  frame_then (frame_time s x) (frame_fwd { s with time := x } y)

theorem apply_frame (o : Op) (r : Req) (c : Nat) (s : State) : OnlyIn (Op.parts o) s (Op.apply o r c s) := by
  cases o with
  | mgmtConfig => exact frame_cmd s _
  | modeSet => exact applyModeSet_frame r c s
  | avsRequest => exact frame_skip (requestVolt_frame _ _ _ s)
  | shedConfig => exact frame_then (frame_power s _) (triggersMoved_frame _ _)
  | padRelease => exact frame_raiseAt _ _ _ _ (frame_power s _)
  | dormantConfig | vigilScratch => exact frame_power s _
  | testBist => exact frame_skip (frame_power s _)
  | tableRestore => exact applyTableRestore_frame r c s
  | portBreakout => exact applyPortBreakout_frame r c s
  | portConfig | laneLoop => exact setLp_frame _ _ s
  | portEnable => exact applyPortEnable_frame r c s
  | portDisable => exact applyPortDisable_frame r c s
  | laneTxEq | laneRxConfig | prbsConfig => exact onLanes_frame _ _ _ s
  | lanePower => exact applyLanePower_frame r c s
  | lpmWrite => exact applyLpmWrite_frame r c s
  | lpmDelete => exact applyLpmDelete_frame r c s
  | l2Write | l2Delete | nexthopWrite | ecmpWrite | aclWrite | aclDelete | mcgroupWrite | lportFwdConfig | classMaps | mirrorSession
  | puntConfig | ethertypes | ecmpSeed | poolsEnable | queueConfig | portHold | mcastConfig | schedConfig | deadlineBudget =>
    exact frame_fwd s _
  | pfcConfig => exact applyPfcConfig_frame r c s
  | calendarDisable => exact applyCalendarDisable_frame r c s
  | timeSet => exact frame_within (applyTimeSet_frame r c s)
  | timeStep => exact frame_within (applyTimeStep_frame r c s)
  | announceStep => exact frame_within (applyAnnounceStep_frame r c s)
  | timeAcceptJump => exact frame_within (acceptJump_frame s)
  | timeThresholds | timeScale | announceTimescale => exact frame_time s _
  | compareClaim => exact setUnit_frame _ _ s
  | compareArm => exact frame_within (frame_skip (setUnit_frame _ _ s))
  | compareDisarm => exact frame_skip (setUnit_frame _ _ s)
  | compareRelease => exact frame_skip (frame_time s _)
  | timingConfig => exact applyTimingConfig_frame r c s
  | axConfig => exact setLink_frame _ _ s
  | linkAsym => exact frame_within (setLink_frame _ _ s)
  | ptpPortConfig => exact applyPtpPortConfig_frame r c s
  | ptpClockConfig => exact frame_step (frame_port s _) (ptpRun_frame _)
  | reftableEnable => exact serveTable_frame _ s
  | refMonitorConfig | refForce => exact frame_ref s _
  | dpllConfig => exact frame_step (fixRef_frame s) (frame_ref _ _)
  | refClear => exact applyRefClear_frame r c s
  | rampStart => exact frame_skip (startRamp_frame _ _ s)
  | lanePllConfig => exact frame_clk s _
  | clkOutConfig => exact applyClkOutConfig_frame r c s
  | tioClaim | tioRelease => exact frame_meas s _
  | tdcEnable => exact applyTdcEnable_frame r c s
  | tdcDisable => exact frame_opt (disableChannel_frame _ s)
  | snapshotConfig | stickyClear | tagConfig => exact frame_ctr s _
  | filterConfig => exact applyFilterConfig_frame r c s
  | recorderFreeze | recorderConfig => exact frame_log s _
  | calImport => exact applyCalImport_frame r c s
  | calWrite => exact applyCalWrite_frame r c s
  | hierConfig => exact applyHierConfig_frame r c s
  | keyProvision => exact frame_hier s _
  | fabricKeySet => exact frame_opt (frame_hier s _)
  | fabricKeyRoll | announceKey => exact frame_opt (rollKey_frame _ s)
  | hierEpochs | announceEpochs => exact setEpochs_frame _ s
  | announceSettings => exact frame_time_fwd s _ _
  | _ => exact frame_refl _ s

/-- Settles O31: a frame for what follows every command, for an event, and for the commit of each opcode. -/
theorem commitsAndEventsTouchOnlyTheirParts : Obligations.CommitsAndEventsTouchOnlyTheirParts := by
  refine ⟨fun s => ⟨frame_finish (frame_refl [] s), finish_freeIx s, fun x hx => finish_keeps_out hx⟩, ?_, apply_frame⟩
  intro d v k p s t
  obtain ⟨l, g, m, i, o, h, hout⟩ := raiseAt_eq d v k p s
  have ht : t = { s with log := l, cmd.rings := g, hier.mirrorQ := m, board.intAt := i, out := o } := h
  refine ⟨frame_raiseAt d v k p (frame_refl [] s), ?_⟩
  rw [ht]
  exact ⟨rfl, rfl, rfl, hout, rfl⟩

end Sys2Proof.Machine
end

section
/-! SUPPORT. Supplies and the oscillator: KEEP, the loss of the clock chain and its restart (R30, R219, R350, R365, R433). -/

namespace Sys2Proof.Machine

set_option Elab.async false

/-! ### KEEP -/

@[simp] theorem loseWrite_power (s : State) : (loseWrite s).power = s.power := by
  unfold loseWrite
  split
  · rfl
  · dsimp only
    split <;> rfl

theorem toKeep_supplies (s : State) : (toKeep s).power.vddCore0 = s.power.vddCore0 ∧ (toKeep s).power.vddCore1 = s.power.vddCore1 := by
  change (loseWrite (setMode .keep s)).power.vddCore0 = _ ∧ (loseWrite (setMode .keep s)).power.vddCore1 = _
  rw [loseWrite_power, setMode_power]
  exact ⟨rfl, rfl⟩

/-! ### The loss of the chain -/

/-- What the loss of the chain leaves: the pending commits and VDD_TIME. -/
def LossKept (s t : State) : Prop := t.cmd.commits = s.cmd.commits ∧ t.power.vddTime = s.power.vddTime

theorem lossKept_refl (s : State) : LossKept s s := ⟨rfl, rfl⟩

theorem lossKept_trans {s t u : State} (h : LossKept s t) (k : LossKept t u) : LossKept s u := by
  obtain ⟨h1, h2⟩ := h
  obtain ⟨k1, k2⟩ := k
  exact ⟨k1.trans h1, k2.trans h2⟩

theorem lossKept_of_frame {cs : List Mod} {s t : State} (h : OnlyIn cs s t) (hc : Mod.cmd ∉ cs := by decide) (hp : Mod.power ∉ cs := by decide) :
    LossKept s t := ⟨commits_of_frame h hc, powerField_of_frame PowerState.vddTime h hp⟩

theorem rowRelease_lossKept (k c : Nat) (s : State) : LossKept s (rowRelease k c s) := by
  unfold rowRelease
  split <;> simp [LossKept]

theorem mgmtOff_lossKept (s : State) : LossKept s (mgmtOff s) := rowRelease_lossKept 2 3 { s with power.mgmtUp := false }

theorem abandonRamp_lossKept (c : Nat) (s : State) : LossKept s (abandonRamp c s) := by
  unfold abandonRamp
  split
  · exact lossKept_refl s
  · next r _ =>
    have hpair := lossKept_of_frame (cclkMhz_frame s)
    generalize cclkMhz s = p at hpair
    obtain ⟨f, t⟩ := p
    refine lossKept_trans hpair ?_
    dsimp only
    split
    · exact lossKept_trans (t := { t with
        power.restoring := false, power.stageDone := true, power.restoredAt := t.time.mono, clk.cclk := f, clk.ramp := none })
        ⟨rfl, rfl⟩ (lossKept_of_frame (frame_raise _ _ _ _))
    · exact lossKept_trans (t := { t with clk.cclk := f, clk.ramp := none }) ⟨rfl, rfl⟩ (lossKept_of_frame (frame_raise _ _ _ _))

theorem oscLoss_clk (s : State) : (oscLoss s).clk.oscOk = false ∧ (oscLoss s).clk.oscLost = true ∧ (oscLoss s).clk.asynLock = false ∧
    (oscLoss s).clk.cclk = 0 ∧ (oscLoss s).clk.lanePlls = [] := by
  unfold oscLoss
  extract_lets
  exact ⟨rfl, rfl, rfl, rfl, rfl⟩

theorem oscLoss_time (s : State) : (oscLoss s).time.state = .unset ∧ (oscLoss s).time.running = false ∧ (oscLoss s).ref.dpll = .freeRun ∧
    (oscLoss s).ref.selected = none := by
  unfold oscLoss
  extract_lets
  exact ⟨rfl, rfl, rfl, rfl⟩

theorem oscLoss_lossKept (s : State) : LossKept s (oscLoss s) := by
  unfold oscLoss
  extract_lets a b c d q e f q2
  have ha : LossKept s a := lossKept_of_frame (frame_raise _ _ _ s)
  have hb : LossKept a b := lossKept_of_frame (disableChannels_frame a)
  have hc : LossKept b c := lossKept_trans (lossKept_of_frame (linksDown_frame _ b)) (mgmtOff_lossKept _)
  have hd : LossKept c d := abandonRamp_lossKept 1 c
  clear_value d
  have he : LossKept d e := by
    dsimp only [e]
    split
    · exact ⟨rfl, rfl⟩
    · exact lossKept_refl d
  have hf : LossKept e f := lossKept_of_frame (cs := [.clk]) (frame_foldl (fun t d => setCore_frame d _ t) _ e)
  have hg : LossKept s f := lossKept_trans ha (lossKept_trans hb (lossKept_trans hc (lossKept_trans hd (lossKept_trans he hf))))
  exact lossKept_trans hg ⟨rfl, rfl⟩

theorem oscGone_of_chain (s : State) (hlost : s.clk.oscLost = false) (hasyn : s.clk.asynLock = true) : oscGone s = oscLoss s := by
  simp [oscGone, hlost, hasyn]

theorem oscGone_of_lost (s : State) (hlost : s.clk.oscLost = true) :
    oscGone s = { s with clk.oscOk := false, clk.oscLostAt := s.time.mono } := if_pos hlost

/-! ### The chain starts again -/

/-- What follows the start of the chain leaves of it, of time and of the start-up. -/
def ChainKept (s t : State) : Prop :=
  t.clk.oscOk = s.clk.oscOk ∧ t.clk.oscLost = s.clk.oscLost ∧ t.clk.asynLock = s.clk.asynLock ∧ t.clk.mclkBoot = s.clk.mclkBoot ∧
  t.time.running = s.time.running ∧ t.power.mode = s.power.mode ∧ t.power.bootStep = s.power.bootStep

theorem chainKept_refl (s : State) : ChainKept s s := ⟨rfl, rfl, rfl, rfl, rfl, rfl, rfl⟩

theorem chainKept_trans {s t u : State} (h : ChainKept s t) (k : ChainKept t u) : ChainKept s u := by
  obtain ⟨h1, h2, h3, h4, h5, h6, h7⟩ := h
  obtain ⟨k1, k2, k3, k4, k5, k6, k7⟩ := k
  exact ⟨k1.trans h1, k2.trans h2, k3.trans h3, k4.trans h4, k5.trans h5, k6.trans h6, k7.trans h7⟩

theorem chainKept_of_frame {cs : List Mod} {s t : State} (h : OnlyIn cs s t) (hc : Mod.clk ∉ cs := by decide) (ht : Mod.time ∉ cs := by decide)
    (hp : Mod.power ∉ cs := by decide) : ChainKept s t :=
  ⟨clkField_of_frame ClockState.oscOk h hc, clkField_of_frame ClockState.oscLost h hc, clkField_of_frame ClockState.asynLock h hc,
    clkField_of_frame ClockState.mclkBoot h hc, congrArg TimeModule.running (time_of_frame h ht), mode_of_frame h hp,
    powerField_of_frame PowerState.bootStep h hp⟩

theorem chainKept_foldl {α : Type} {f : State → α → State} (hf : ∀ t x, ChainKept t (f t x)) (l : List α) (s : State) :
    ChainKept s (l.foldl f s) := by
  induction l generalizing s with
  | nil => exact chainKept_refl s
  | cons x l ih => exact chainKept_trans (hf s x) (ih (f s x))

theorem setCore_chainKept (d : Nat) (c : CoreDie) (s : State) : ChainKept s (s.setCore d c) := ⟨rfl, rfl, rfl, rfl, rfl, rfl, rfl⟩

theorem raise_chainKept (v : Severity) (k : Nat) (p : List Byte) (s : State) : ChainKept s (raise v k p s) := chainKept_of_frame (frame_raise v k p s)

theorem trainSegments_chainKept (gs : List Nat) (s : State) : ChainKept s (trainSegments gs s) := by
  refine chainKept_foldl (fun t g => ?_) _ s
  split
  · exact chainKept_trans (t := { t with power.failedSegments := t.power.failedSegments ++ [g] }) ⟨rfl, rfl, rfl, rfl, rfl, rfl, rfl⟩
      (raise_chainKept _ _ _ _)
  · exact ⟨rfl, rfl, rfl, rfl, rfl, rfl, rfl⟩

theorem coresStart_chainKept (s : State) : ChainKept s (coresStart s) := by
  unfold coresStart
  extract_lets a q q2
  have ha : ChainKept s a := by
    refine chainKept_foldl (fun t d => ?_) _ s
    split
    · exact chainKept_refl t
    · exact chainKept_trans (chainKept_of_frame (flushDie_frame d t)) (setCore_chainKept d _ _)
  exact chainKept_trans ha ⟨rfl, rfl, rfl, rfl, rfl, rfl, rfl⟩

theorem requestCores_chainKept (o : AvsOwner) (mv : Nat → Nat) (s : State) : ChainKept s (requestCores o mv s) :=
  chainKept_foldl (f := fun s d => requestVolt o d (mv d) s) (fun _ _ => ⟨rfl, rfl, rfl, rfl, rfl, rfl, rfl⟩) _ s

theorem loadCal_frame (s : State) : OnlyIn [.cal] s (loadCal s) := by
  unfold loadCal
  extract_lets a q b c bad
  have hb : OnlyIn [.cal] s b := frame_step (frame_step (applyJournal_frame s) (frame_cal a _)) (useSet_frame _ _)
  have hc : OnlyIn [.cal] s c := frame_ite (frame_raiseAt _ _ _ _ hb) hb
  exact frame_ite hc (frame_raiseAt _ _ _ _ hc)

theorem abandonRamp_chainKept (c : Nat) (s : State) : ChainKept s (abandonRamp c s) := by
  unfold abandonRamp
  split
  · exact chainKept_refl s
  · next r _ =>
    have hpair := chainKept_of_frame (cclkMhz_frame s)
    generalize cclkMhz s = p at hpair
    obtain ⟨f, t⟩ := p
    refine chainKept_trans hpair ?_
    dsimp only
    split
    · exact chainKept_trans (t := { t with
        power.restoring := false, power.stageDone := true, power.restoredAt := t.time.mono, clk.cclk := f, clk.ramp := none })
        ⟨rfl, rfl, rfl, rfl, rfl, rfl, rfl⟩ (raise_chainKept _ _ _ _)
    · exact chainKept_trans (t := { t with clk.cclk := f, clk.ramp := none }) ⟨rfl, rfl, rfl, rfl, rfl, rfl, rfl⟩ (raise_chainKept _ _ _ _)

theorem stopRestore_chainKept (s : State) : ChainKept s (stopRestore s) := by
  unfold stopRestore
  split
  · extract_lets a q b
    have ha : ChainKept s a := by
      dsimp only [a]
      split
      · split
        · exact abandonRamp_chainKept 0 s
        · exact chainKept_refl s
      · exact chainKept_refl s
    have hb : ChainKept a b := by
      dsimp only [b]
      split
      · exact chainKept_trans (t := { a with clk.cclk := 0 }) ⟨rfl, rfl, rfl, rfl, rfl, rfl, rfl⟩
          (chainKept_foldl (fun t d => setCore_chainKept d _ t) _ _)
      · exact chainKept_refl a
    exact chainKept_trans ha (chainKept_trans hb ⟨rfl, rfl, rfl, rfl, rfl, rfl, rfl⟩)
  · exact chainKept_refl s

theorem asserted_chainKept (s : State) : ChainKept s (asserted s) := by
  unfold asserted
  extract_lets a
  have ha : ChainKept s a := by
    dsimp only [a]
    split
    · exact stopRestore_chainKept s
    · exact chainKept_refl s
  split
  · exact chainKept_trans ha ⟨rfl, rfl, rfl, rfl, rfl, rfl, rfl⟩
  · exact ha

/-- The chain as its start leaves it, in a mode. -/
def ChainRuns (m : Mode) (t : State) : Prop :=
  t.clk.oscOk = true ∧ t.clk.oscLost = false ∧ t.clk.asynLock = true ∧ t.clk.mclkBoot = decide (m = .dormant) ∧ t.time.running = true

theorem chainRuns_of_kept {m : Mode} {s t : State} (h : ChainRuns m s) (k : ChainKept s t) : ChainRuns m t := by
  obtain ⟨h1, h2, h3, h4, h5⟩ := h
  obtain ⟨k1, k2, k3, k4, k5, -, -⟩ := k
  exact ⟨k1.trans h1, k2.trans h2, k3.trans h3, k4.trans h4, k5.trans h5⟩

theorem startTime_runs (s : State) : OnlyIn [.cmd, .time, .meas] s (startTime s) ∧ (startTime s).time.running = true := by
  unfold startTime
  extract_lets start old q a
  have ha : OnlyIn [.cmd, .time, .meas] s a := frame_within (frame_time s _)
  cases old with
  | none => exact ⟨ha, rfl⟩
  | some o =>
    have hb : OnlyIn [.time] a (stepUnits o start a) := frame_time a _
    have hc : OnlyIn [.cmd, .meas] (stepUnits o start a) (cancelStep 2 (stepGates o (stepUnits o start a))) :=
      frame_then (stepGates_frame o _) (cancelStep_frame 2 _)
    have hrun : (cancelStep 2 (stepGates o (stepUnits o start a))).time.running = (stepUnits o start a).time.running :=
      congrArg TimeModule.running (time_of_frame hc)
    have hunits : (stepUnits o start a).time.running = true := rfl
    have hab : OnlyIn [.cmd, .time, .meas] s (stepUnits o start a) := frame_step ha hb
    have hac : OnlyIn [.cmd, .time, .meas] s (cancelStep 2 (stepGates o (stepUnits o start a))) := frame_step hab hc
    refine ⟨hac, ?_⟩
    dsimp only
    rw [hrun, hunits]

theorem chainStart_runs (s : State) : ChainRuns s.power.mode (chainStart s) := by
  obtain ⟨hframe, hrun⟩ := startTime_runs { s with
    clk.oscOk := true, clk.oscLost := false, clk.oscTimeout := false, clk.asynLock := true, clk.mclkBoot := decide (s.power.mode = .dormant) }
  exact ⟨clkField_of_frame ClockState.oscOk hframe, clkField_of_frame ClockState.oscLost hframe, clkField_of_frame ClockState.asynLock hframe,
    clkField_of_frame ClockState.mclkBoot hframe, hrun⟩

theorem chainRestart_runs (s : State) : ChainRuns s.power.mode (chainRestart s) := by
  unfold chainRestart
  extract_lets a b c q
  have ha : ChainRuns s.power.mode a := chainStart_runs s
  have hb : ChainRuns s.power.mode b := by
    dsimp only [b]
    split
    · exact ha
    · exact chainRuns_of_kept ha (coresStart_chainKept a)
  have hc : ChainRuns s.power.mode c := by
    dsimp only [c]
    split
    · exact chainRuns_of_kept hb (requestCores_chainKept _ _ b)
    · exact hb
  split
  · exact ha
  · exact chainRuns_of_kept (s := { c with clk.lanePlls := c.lanePairs }) hc (chainKept_of_frame (startLinks_frame _ _))

theorem setMode_chain (m : Mode) (s : State) : (setMode m s).clk = s.clk ∧ (setMode m s).time = s.time := by
  unfold setMode
  split
  · exact ⟨rfl, rfl⟩
  · exact ⟨raiseAt_clk _ _ _ _ _, raiseAt_time _ _ _ _ _⟩

theorem bootFinish_runs (gs : List Nat) (s : State) : ChainRuns s.power.mode (bootFinish gs s) ∧ (bootFinish gs s).power.mode = .timingOnly ∧
    (bootFinish gs s).power.bootStep = 0xB := by
  unfold bootFinish
  extract_lets a q b c q1 q2 d q3 e
  have ha : ChainRuns s.power.mode a := chainRuns_of_kept (chainStart_runs s) (trainSegments_chainKept gs _)
  clear_value a
  have hb : ChainRuns s.power.mode b := chainRuns_of_kept (s := { a with ctr.live := [], ctr.running := true }) ha (coresStart_chainKept _)
  have hframe : OnlyIn [.cal] b c := loadCal_frame b
  have hc : ChainRuns s.power.mode c := chainRuns_of_kept hb (chainKept_of_frame hframe)
  clear_value c
  obtain ⟨hclk, htime⟩ := setMode_chain .timingOnly { d with power.bootStep := 0xB, power.elapsed := some d.sinceRise }
  have hpower := setMode_power .timingOnly { d with power.bootStep := 0xB, power.elapsed := some d.sinceRise }
  have he : ChainRuns s.power.mode e := by
    unfold ChainRuns
    rw [hclk, htime]
    exact hc
  have hmode : e.power.mode = .timingOnly := congrArg PowerState.mode hpower
  have hstep : e.power.bootStep = 0xB := congrArg PowerState.bootStep hpower
  clear_value e
  split
  · have hkept := asserted_chainKept e
    refine ⟨chainRuns_of_kept he hkept, ?_⟩
    obtain ⟨-, -, -, -, -, k6, k7⟩ := hkept
    exact ⟨k6.trans hmode, k7.trans hstep⟩
  · exact ⟨he, hmode, hstep⟩

/-- Settles O43, clause by clause. That the loss of VDD_TIME in DORMANT records no event and drops the selection of the DPLL (log 18), the
end of the start-up (log 17) and the 10 ms of tolerance (log 54) are the model's choices. -/
theorem suppliesAndOscillatorTakeEffect : Obligations.SuppliesAndOscillatorTakeEffect := by
  intro dt s u
  refine ⟨?_, ?_, ?_, ?_, ?_, ?_, ?_, ?_, ?_, ?_, ?_, ?_, ?_, ?_, ?_, ?_, ?_, ?_⟩
  · intro hm
    refine leads_of rfl ?_
    change core0Gone u = _
    simp [core0Gone, hm]
  · intro hm
    have hkeep : core0Gone u = toKeep { u with power.vddCore0 := false } := by simp [core0Gone, hm]
    obtain ⟨hcore0, -⟩ := toKeep_supplies { u with power.vddCore0 := false }
    obtain ⟨hmode, -⟩ := toKeep_power { u with power.vddCore0 := false }
    refine runs_of rfl ?_
    simp only [finish_power_vddCore0, finish_power_mode, finish_commits, finish_cmd_holder, finish_time]
    change (core0Gone u).power.vddCore0 = _ ∧ (core0Gone u).power.mode = _ ∧ (core0Gone u).cmd.commits = _ ∧ (core0Gone u).cmd.holder = _ ∧
      (core0Gone u).time.state = _
    rw [hkeep]
    exact ⟨hcore0, hmode, rfl, rfl, rfl⟩
  · intro h
    refine leads_of rfl ?_
    change core1Gone u = _
    exact if_neg fun hd => h.elim (fun hm => hm hd.1) (fun hp => hp hd.2)
  · intro hm hp
    have hkeep : core1Gone u = toKeep { u with power.vddCore1 := false } := by simp [core1Gone, hm, hp]
    obtain ⟨-, hcore1⟩ := toKeep_supplies { u with power.vddCore1 := false }
    obtain ⟨hmode, -⟩ := toKeep_power { u with power.vddCore1 := false }
    refine runs_of rfl ?_
    simp only [finish_power_vddCore1, finish_power_mode]
    change (core1Gone u).power.vddCore1 = _ ∧ (core1Gone u).power.mode = _
    rw [hkeep]
    exact ⟨hcore1, hmode⟩
  · intro ha
    refine leads_of rfl ?_
    change timeRailGone u = _
    simp [timeRailGone, ha]
  · intro ha hm
    have hgone : timeRailGone u = freeRun (stopTime { u with power.vddTime := false, clk.asynLock := false }) := by
      simp [timeRailGone, ha, hm]
    refine runs_of rfl ?_
    simp only [finish_power_vddTime, finish_clk_asynLock, finish_time, finish_ref, finish_clk_oscLost]
    change (timeRailGone u).power.vddTime = _ ∧ (timeRailGone u).clk.asynLock = _ ∧ (timeRailGone u).time.state = _ ∧
      (timeRailGone u).time.running = _ ∧ (timeRailGone u).ref.dpll = _ ∧ (timeRailGone u).clk.oscLost = _
    rw [hgone]
    exact ⟨rfl, rfl, rfl, rfl, rfl, rfl⟩
  · intro ha hk hd
    have hgone : timeRailGone u = { oscLoss { u with power.vddTime := false } with clk.oscOk := u.clk.oscOk } := by
      simp [timeRailGone, ha, hk, hd]
    obtain ⟨-, hlost, hasyn, hcclk, -⟩ := oscLoss_clk { u with power.vddTime := false }
    obtain ⟨hstate, -, hdpll, -⟩ := oscLoss_time { u with power.vddTime := false }
    obtain ⟨-, hrail⟩ := oscLoss_lossKept { u with power.vddTime := false }
    refine runs_of rfl ?_
    simp only [finish_power_vddTime, finish_clk_asynLock, finish_time, finish_ref, finish_clk_oscLost, finish_clk_oscOk, finish_clk_cclk]
    change (timeRailGone u).power.vddTime = _ ∧ (timeRailGone u).clk.asynLock = _ ∧ (timeRailGone u).clk.oscLost = _ ∧
      (timeRailGone u).clk.oscOk = _ ∧ (timeRailGone u).time.state = _ ∧ (timeRailGone u).ref.dpll = _ ∧ (timeRailGone u).clk.cclk = _
    rw [hgone]
    generalize oscLoss { u with power.vddTime := false } = t at hrail hasyn hlost hstate hdpll hcclk ⊢
    exact ⟨hrail, hasyn, hlost, rfl, hstate, hdpll, hcclk⟩
  · intro hv
    exact leads_of rfl (if_pos hv)
  · intro hv ho hd
    refine leads_of rfl ?_
    change timeRailBack u = _
    simp [timeRailBack, hv, ho, hd]
  · intro hd hv ht
    exact leads_of rfl (if_pos ⟨hd, hv, ht⟩)
  · intro h
    refine leads_of rfl (if_neg ?_)
    rintro ⟨hd, hv, ht⟩
    rcases h with h | h | h
    · exact h hd
    · exact absurd (hv.symm.trans h) (by decide)
    · exact absurd (ht.symm.trans h) (by decide)
  · intro hl ha
    have hgone := oscGone_of_chain u hl ha
    obtain ⟨hok, hlost, hasyn, hcclk, hplls⟩ := oscLoss_clk u
    obtain ⟨hstate, hrun, hdpll, hsel⟩ := oscLoss_time u
    obtain ⟨hcommits, -⟩ := oscLoss_lossKept u
    refine runs_of rfl ?_
    simp only [finish_clk_asynLock, finish_time, finish_ref, finish_clk_oscLost, finish_clk_oscOk, finish_clk_cclk, finish_clk_lanePlls,
      finish_commits]
    change (oscGone u).clk.oscOk = _ ∧ (oscGone u).clk.oscLost = _ ∧ (oscGone u).clk.asynLock = _ ∧ (oscGone u).clk.cclk = _ ∧
      (oscGone u).clk.lanePlls = _ ∧ (oscGone u).time.state = _ ∧ (oscGone u).time.running = _ ∧ (oscGone u).ref.dpll = _ ∧
      (oscGone u).ref.selected = _ ∧ (oscGone u).cmd.commits = _
    rw [hgone]
    exact ⟨hok, hlost, hasyn, hcclk, hplls, hstate, hrun, hdpll, hsel, hcommits⟩
  · exact fun hl => leads_of rfl (oscGone_of_lost u hl)
  · intro un hm ho hsel hv hstep
    have hback : oscBack un u = bootFinish un u := by simp [oscBack, hm, ho, hv, hstep, Nat.not_le.mpr hsel]
    obtain ⟨⟨hok, -, hasyn, -, hrun⟩, hmode, hfin⟩ := bootFinish_runs un u
    refine runs_of rfl ?_
    simp only [finish_clk_asynLock, finish_time, finish_clk_oscOk, finish_power_bootStep, finish_power_mode]
    change (oscBack un u).clk.oscOk = _ ∧ (oscBack un u).clk.asynLock = _ ∧ (oscBack un u).time.running = _ ∧
      (oscBack un u).power.bootStep = _ ∧ (oscBack un u).power.mode = _
    rw [hback]
    exact ⟨hok, hasyn, hrun, hfin, hmode⟩
  · intro un hk hb ho hl
    refine ⟨fun ht => leads_of rfl ?_, fun ht hv => runs_of rfl ?_⟩
    · change oscBack un u = u
      simp [oscBack, hk, hb, ho, ht]
    · have hback : oscBack un u = raise .note 0x2402 [] (chainRestart u) := by
        simp [oscBack, hk, hb, ho, hl, hv, Nat.not_lt.mpr ht]
      obtain ⟨hok, hlost, hasyn, hboot, hrun⟩ := chainRuns_of_kept (chainRestart_runs u) (raise_chainKept .note 0x2402 [] _)
      simp only [finish_clk_asynLock, finish_time, finish_clk_oscOk, finish_clk_oscLost, finish_clk_mclkBoot]
      change (oscBack un u).clk.oscOk = _ ∧ (oscBack un u).clk.oscLost = _ ∧ (oscBack un u).clk.asynLock = _ ∧
        (oscBack un u).time.running = _ ∧ (oscBack un u).clk.mclkBoot = _
      rw [hback]
      exact ⟨hok, hlost, hasyn, hrun, hboot⟩
  · exact fun un ho => leads_of rfl (if_pos (.inr ho))
  · exact fun hm hstep => leads_of rfl (if_pos ⟨hm, hstep⟩)
  · intro h
    exact leads_of rfl (if_neg fun hd => h.elim (fun hm => hm hd.1) (fun hs => hs hd.2))

end Sys2Proof.Machine
end

section
/-! SUPPORT. Start-up (R351, R355, R358): the recorder's scan, the slots, the first steps of the sequence, and the crystal. -/

namespace Sys2Proof.Machine

set_option Elab.async false

/-! ### The scan of the recorder stays -/

theorem accept_scanned (r : Record) (s : State) : (accept r s).log.scanned = s.log.scanned := by
  unfold accept
  extract_lets r1 q a b q2 c q3 d
  have hb : b.log = a.log := by
    dsimp only [b]
    split
    · exact ringPush_log _ _ _
    · rfl
  have hc : c.log = b.log := by
    dsimp only [c]
    split <;> rfl
  have hd : d.log.scanned = c.log.scanned := by
    dsimp only [d]
    split <;> rfl
  have hscan : d.log.scanned = s.log.scanned := by
    rw [hd, hc, hb]
  split
  · rw [pulseInt_log]
    exact hscan
  · exact hscan

theorem raiseAt_scanned (d : Nat) (v : Severity) (k : Nat) (p : List Byte) (s : State) :
    (raiseAt d v k p s).log.scanned = s.log.scanned := by
  unfold raiseAt
  split
  · rfl
  · extract_lets supp w q a n r q2 b q3
    have ha : a.log.scanned = s.log.scanned := by
      dsimp only [a]
      split <;> rfl
    have hb : b.log.scanned = s.log.scanned := ha
    split
    · rfl
    · split
      · exact ha
      · split
        · rw [accept_scanned]
          exact hb
        · split <;> exact hb

theorem squelchOut_scanned (s : State) (n : Nat) : (squelchOut s n).log.scanned = s.log.scanned := by
  unfold squelchOut
  obtain ⟨c, o, h, -⟩ := followOut_eq n (squelchIt n s)
  rw [h]
  change (squelchIt n s).log.scanned = _
  unfold squelchIt
  extract_lets k q q2 a
  split
  · rfl
  · split
    · exact raiseAt_scanned _ _ _ _ _
    · rfl

theorem finish_scanned (s : State) : (finish s).log.scanned = s.log.scanned := by
  have hsquelch : ∀ (ns : List Nat) (t : State), (ns.foldl squelchOut t).log.scanned = t.log.scanned := by
    intro ns
    induction ns with
    | nil => exact fun t => rfl
    | cons n ns ih => exact fun t => (ih _).trans (squelchOut_scanned t n)
  unfold finish squelchAll
  rw [settle_log, hsquelch, trackParent_log]

theorem accept_frame (r : Record) (s : State) : OnlyIn [] s (accept r s) := by
  obtain ⟨l, g, m, i, o, h, -⟩ := accept_eq r s
  rw [h]
  exact fun m hm _ => by cases m <;> simp_all [Mod.same]

theorem accept_power (r : Record) (s : State) : (accept r s).power = s.power := by
  obtain ⟨l, g, m, i, o, h, -⟩ := accept_eq r s
  rw [h]

/-- The scan changes the failure record alone of the powers. -/
theorem scanRecorder_facts (s : State) : OnlyIn [.power] s (scanRecorder s) ∧ (scanRecorder s).log.scanned = true ∧
    ∃ f, (scanRecorder s).power = { s.power with failure := f } := by
  have hheld : ∀ (rs : List Record) (t : State), OnlyIn [] t (rs.foldl (fun s r => accept r s) t) ∧
      (rs.foldl (fun s r => accept r s) t).log.scanned = t.log.scanned ∧ (rs.foldl (fun s r => accept r s) t).power = t.power := by
    intro rs
    induction rs with
    | nil => exact fun t => ⟨frame_refl _ t, rfl, rfl⟩
    | cons r rs ih =>
      intro t
      obtain ⟨h1, h2, h3⟩ := ih (accept r t)
      exact ⟨frame_trans (accept_frame r t) h1, h2.trans (accept_scanned r t), h3.trans (accept_power r t)⟩
  unfold scanRecorder
  extract_lets torn next held q a b c f q2 d
  have ha : OnlyIn [] s a := frame_log s _
  have hb : OnlyIn [] a b ∧ b.log.scanned = a.log.scanned ∧ b.power = a.power := by
    dsimp only [b]
    split
    · exact ⟨frame_refl _ a, rfl, rfl⟩
    · exact ⟨frame_raise _ _ _ a, raiseAt_scanned _ _ _ _ a, raiseAt_power _ _ _ _ a⟩
  obtain ⟨hb1, hb2, hb3⟩ := hb
  clear_value b
  have hc1 : OnlyIn [] b c := frame_raise _ _ _ b
  have hc2 : c.log.scanned = b.log.scanned := raiseAt_scanned _ _ _ _ b
  have hc3 : c.power = b.power := raiseAt_power _ _ _ _ b
  clear_value c
  have hd : OnlyIn [.power] c d ∧ d.log.scanned = c.log.scanned ∧ ∃ f, d.power = { c.power with failure := f } := by
    dsimp only [d]
    split
    · exact ⟨frame_then (frame_power c _) (accept_frame _ _), accept_scanned _ _, _, accept_power _ _⟩
    · exact ⟨frame_refl _ c, rfl, _, rfl⟩
  obtain ⟨hd1, hd2, x, hd3⟩ := hd
  clear_value d
  obtain ⟨he1, he2, he3⟩ := hheld held d
  refine ⟨frame_then (frame_then (cs := []) (frame_then (cs := []) ha hb1) hc1) (frame_then (cs := [.power]) hd1 he1), ?_, x, ?_⟩
  · rw [he2, hd2, hc2, hb2]
  · rw [he3, hd3, hc3, hb3]

theorem loseWrite_hier (s : State) : (loseWrite s).hier = s.hier := by
  unfold loseWrite
  split
  · rfl
  · dsimp only
    split <;> rfl

/-! ### The slots and the first steps -/

theorem slotReason_eq (n : Nat) (v : Slot) : slotReason n v =
    (if v.header.length = 4096 ∧ fld v.header 0 4 = 0x4F4A4657 ∧ fld v.header 4 2 = 1 ∧ 4 ≤ fld v.header 8 4 ∧
        fld v.header 8 4 ≤ 8388608 ∧ fld v.header 8 4 % 4 = 0 ∧ headerRsvOk v.header = true then
      if v.keyOk = true ∧ v.sigOk = true ∧ n ≤ fld v.header 16 4 then 0 else 0x08
    else 0x07) := by
  unfold slotReason
  extract_lets h k
  by_cases hh : v.header.length = 4096 ∧ fld v.header 0 4 = 0x4F4A4657 ∧ fld v.header 4 2 = 1 ∧ 4 ≤ fld v.header 8 4 ∧
      fld v.header 8 4 ≤ 8388608 ∧ fld v.header 8 4 % 4 = 0 ∧ headerRsvOk v.header = true
  · rw [if_pos hh]
    obtain ⟨h1, h2, h3, h4, h5, h6, h7⟩ := hh
    rw [if_neg (by simp [h, k, h1, h2, h3, h4, h5, h6, h7])]
    by_cases hk : v.keyOk = true ∧ v.sigOk = true ∧ n ≤ fld v.header 16 4
    · rw [if_pos hk]
      obtain ⟨k1, k2, k3⟩ := hk
      exact if_neg (by simp [h, k1, k2, k3])
    · rw [if_neg hk]
      refine if_pos ?_
      by_contra hno
      simp only [Bool.or_eq_true, Bool.not_eq_true', decide_eq_true_eq, not_or, Bool.not_eq_false, Nat.not_lt] at hno
      exact hk ⟨hno.1.1, hno.1.2, hno.2⟩
  · rw [if_neg hh]
    refine if_pos ?_
    by_contra hno
    simp only [Bool.not_eq_true', Bool.not_eq_false, Bool.and_eq_true, decide_eq_true_eq] at hno
    obtain ⟨⟨h1, h2, h3, h4, h5, h6⟩, h7⟩ := hno
    exact hh ⟨h1, h2, h3, h4, h5, h6, h7⟩

theorem nextPending_of_no_mailbox (s : State) (h : s.cmd.mailboxes = []) : s.nextPending = none := by
  simp [State.nextPending, State.mailbox, h]

theorem runPending_of_no_mailbox (n : Nat) (s : State) (h : s.cmd.mailboxes = []) : runPending n s = s := by
  cases n with
  | zero => rfl
  | succ n => simp [runPending, nextPending_of_no_mailbox s h]

theorem avsRails_head (s : State) : s.avsRails.head? = some 0 := by
  unfold State.avsRails State.coreDies
  cases s.part <;> rfl

/-- Start-up has begun: POWER_CYCLES counts and the mode is BRING-UP. -/
def bootBegun (s : State) : State :=
  setMode .bringUp { s with power.powerCycles := s.power.powerCycles + 1, power.bootReason := 0x02, power.bootStep := 2 }

/-- The firmware of slot A runs and the recorder has been scanned. -/
def bootScanned (a : Slot) (s : State) : State :=
  scanRecorder { bootBegun s with power.booted := true, power.slotB := false
                                  power.fwVersion := BitVec.ofNat 32 (fld a.header 12 4), power.bootStep := 3 }

/-- Step 4 is reached. -/
def bootPowered (a : Slot) (s : State) : State := { bootScanned a s with cmd.controllerUp := true, power.bootStep := 4 }

theorem bootBegun_power (s : State) : (bootBegun s).power =
    { s.power with mode := .bringUp, powerCycles := s.power.powerCycles + 1, bootReason := 0x02, bootStep := 2 } := setMode_power _ _

theorem bootStart_of_authentic (a b : Slot) (s : State) (ha : slotReason s.power.secMin a = 0) (hsel : s.power.bootSel = 0)
    (hm : s.cmd.mailboxes = []) : bootStart a b s = requestVolt .bringUp 0 ((bootPowered a s).bootVolt 0) (bootPowered a s) := by
  have hpower := bootBegun_power s
  have htry : tryBoot a b (bootOrder (bootBegun s).power.bootSel) (bootBegun s) = { bootBegun s with
      power.booted := true, power.slotB := false, power.fwVersion := BitVec.ofNat 32 (fld a.header 12 4) } := by
    have hreason : slotReason (bootBegun s).power.secMin a = 0 := by rw [hpower]; exact ha
    have horder : bootOrder (bootBegun s).power.bootSel = [false, true] := by rw [hpower]; simp [hsel, bootOrder]
    rw [horder]
    simp [tryBoot, hreason]
  have hbox : (bootPowered a s).cmd.mailboxes = [] := by
    obtain ⟨hframe, -⟩ := scanRecorder_facts { bootBegun s with
      power.booted := true, power.slotB := false, power.fwVersion := BitVec.ofNat 32 (fld a.header 12 4), power.bootStep := 3 }
    have hcmd := congrArg CommandState.mailboxes (hframe .cmd (by decide) (by decide))
    refine hcmd.trans ?_
    change (bootBegun s).cmd.mailboxes = []
    unfold bootBegun setMode
    split
    · exact hm
    · exact (raiseAt_cmd_mailboxes _ _ _ _ _).trans hm
  unfold bootStart
  extract_lets q a0 b0 q1 c0 q2 q3 d0
  have hb : b0 = { bootBegun s with power.booted := true, power.slotB := false
                                    power.fwVersion := BitVec.ofNat 32 (fld a.header 12 4) } := htry
  have hc : c0 = bootScanned a s := by
    change scanRecorder { b0 with power.bootStep := 3 } = _
    rw [hb]
    rfl
  have hd : d0 = bootPowered a s := by
    change runPending 4 { c0 with cmd.controllerUp := true, power.bootStep := 4 } = _
    rw [hc]
    exact runPending_of_no_mailbox 4 _ hbox
  clear_value d0 c0 b0
  rw [if_neg (by simp [hb]), hd, avsRails_head]

theorem bootPowered_facts (a : Slot) (s : State) : OnlyIn [.cmd, .power] s (bootPowered a s) ∧ (bootPowered a s).log.scanned = true ∧
    ∃ f, (bootPowered a s).power = { s.power with
      mode := .bringUp, powerCycles := s.power.powerCycles + 1, bootReason := 0x02, bootStep := 4, booted := true, slotB := false
      fwVersion := BitVec.ofNat 32 (fld a.header 12 4), failure := f } := by
  have hbegun : OnlyIn [.power] s (bootBegun s) := frame_step (frame_power s _) (setMode_frame _ _)
  have hpower := bootBegun_power s
  obtain ⟨hframe, hscan, f, hf⟩ := scanRecorder_facts { bootBegun s with
    power.booted := true, power.slotB := false, power.fwVersion := BitVec.ofNat 32 (fld a.header 12 4), power.bootStep := 3 }
  have hscanned : OnlyIn [.power] s (bootScanned a s) := frame_step (frame_step hbegun (frame_power _ _)) hframe
  have hlast : OnlyIn [.cmd, .power] (bootScanned a s) (bootPowered a s) :=
    frame_then (frame_cmd (bootScanned a s) { (bootScanned a s).cmd with controllerUp := true }) (frame_power _ _)
  refine ⟨frame_then hscanned hlast, hscan, f, ?_⟩
  have hbase : ({ bootBegun s with power.booted := true, power.slotB := false
                                   power.fwVersion := BitVec.ofNat 32 (fld a.header 12 4), power.bootStep := 3 } : State).power =
      { s.power with mode := .bringUp, powerCycles := s.power.powerCycles + 1, bootReason := 0x02, bootStep := 3, booted := true
                     slotB := false, fwVersion := BitVec.ofNat 32 (fld a.header 12 4) } :=
    congrArg (fun p : PowerState => { p with
      booted := true, slotB := false, fwVersion := BitVec.ofNat 32 (fld a.header 12 4), bootStep := 3 }) hpower
  rw [hbase] at hf
  exact congrArg (fun p : PowerState => { p with bootStep := 4 }) hf

theorem bootStart_of_failure (a b : Slot) (s : State) (ha : slotReason s.power.secMin a ≠ 0) (hsel : s.power.bootSel = 2)
    (hbooted : s.power.booted = false) : bootStart a b s =
      stopBoot { bootBegun s with power.bootReason := slotReason s.power.secMin a, power.slotB := false } := by
  have hpower := bootBegun_power s
  have htry : tryBoot a b (bootOrder (bootBegun s).power.bootSel) (bootBegun s) =
      stopBoot { bootBegun s with power.bootReason := slotReason s.power.secMin a, power.slotB := false } := by
    have hreason : slotReason (bootBegun s).power.secMin a = slotReason s.power.secMin a := by rw [hpower]
    have horder : bootOrder (bootBegun s).power.bootSel = [false] := by rw [hpower]; simp [hsel, bootOrder]
    rw [horder]
    simp [tryBoot, hreason, ha]
  unfold bootStart
  extract_lets q a0 b0 q1 c0 q2 q3 d0
  have hb : b0 = stopBoot { bootBegun s with power.bootReason := slotReason s.power.secMin a, power.slotB := false } := htry
  clear_value d0
  rw [if_pos (by rw [hb]; simp [stopBoot, hpower, hbooted])]
  exact hb

/-! ### The crystal -/

theorem coarseSecond_whole (s : State) (h : s.power.coarseTick = true ∨ s.power.coarseFrom + second ≤ s.time.mono) :
    coarseSecond s = { s with
      power.coarseSec := s.power.coarseSec + 1, power.coarseFrom := s.time.mono, power.coarseTick := true } := by
  have hadd : (if s.power.coarseTick then 32768 else min 32768 ((s.time.mono - s.power.coarseFrom) * 32768 / second)) = 32768 := by
    split
    · rfl
    · next htick =>
      have hpast := h.resolve_left htick
      have hpos : 0 < second := by decide
      refine Nat.min_eq_left ((Nat.le_div_iff_mul_le hpos).mpr ?_)
      rw [Nat.mul_comm]
      exact Nat.mul_le_mul_right _ (by omega)
  have hsub := s.power.coarseSub.isLt
  have hsec : BitVec.ofNat 48 ((s.coarseBase + 32768) / 32768) = s.power.coarseSec + 1 := by
    have hdiv : (s.coarseBase + 32768) / 32768 = s.power.coarseSec.toNat + 1 := by unfold State.coarseBase; omega
    rw [hdiv, BitVec.ofNat_add, BitVec.ofNat_toNat, BitVec.setWidth_eq]
    rfl
  have hlow : BitVec.ofNat 15 ((s.coarseBase + 32768) % 32768) = s.power.coarseSub := by
    have hmod : (s.coarseBase + 32768) % 32768 = s.power.coarseSub.toNat := by unfold State.coarseBase; omega
    rw [hmod, BitVec.ofNat_toNat, BitVec.setWidth_eq]
  unfold coarseSecond
  dsimp only
  rw [hadd, hsec, hlow]

/-- Settles O42, clause by clause. That steps 1 to 3 run at once with VDD_CORE1 and VDD_TIME taken as present (log 17), and how COARSE runs
on between crystal seconds (log 22), are the model's choices. -/
theorem startUpFollowsTheSequence : Obligations.StartUpFollowsTheSequence := by
  intro dt st a b s u
  refine ⟨fun hp c => leads_of rfl (if_pos hp), fun hp => leads_of rfl ?_, ?_, ?_, slotReason_eq _ _,
    runs_of (f := fun s => enterKeep { s with power.porN := false }) rfl ?_, leads_of rfl rfl,
    leads_of (f := fun s => { s with power.vigil := s.power.vkeep }) rfl rfl, ?_, ?_, ?_⟩
  · change porRise st a b false u = _
    simp [porRise, hp]
  · intro hp hm ha hsel hbox
    let v : State := { u with power.porN := true, power.bootSel := st.bootSel.val, power.oscSel := st.oscSel.val, power.porAt := u.time.mono
                              power.vddCore0 := true, power.vddCore1 := true, power.vddTime := true }
    have hrise : porRise st a b true u = bootStart a b v := by simp [porRise, hp, v]
    have hstart := bootStart_of_authentic a b v ha hsel hbox
    obtain ⟨hframe, hscan, f, hpower⟩ := bootPowered_facts a v
    have hvolt : (bootPowered a v).bootVolt 0 = u.fusedAt 0 1600 := by
      simp only [State.bootVolt, State.fusedAt, State.fused, if_pos (by decide : 0 < 2), if_true]
      rw [clkField_of_frame ClockState.fused0 hframe]
    refine runs_of rfl ?_
    simp only [finish_power_porN, finish_power_mode, finish_power_powerCycles, finish_power_booted, finish_power_slotB, finish_power_fwVersion,
      finish_power_bootStep, finish_scanned, finish_cmd_controllerUp, finish_rail]
    change (porRise st a b true u).power.porN = _ ∧ (porRise st a b true u).power.mode = _ ∧ (porRise st a b true u).power.powerCycles = _ ∧
      (porRise st a b true u).power.booted = _ ∧ (porRise st a b true u).power.slotB = _ ∧ (porRise st a b true u).power.fwVersion = _ ∧
      (porRise st a b true u).power.bootStep = _ ∧ (porRise st a b true u).log.scanned = _ ∧ (porRise st a b true u).cmd.controllerUp = _ ∧
      ((porRise st a b true u).rail 0).state = _ ∧ ((porRise st a b true u).rail 0).requested = _
    rw [hrise, hstart, hvolt]
    have hup : (bootPowered a v).cmd.controllerUp = true := rfl
    generalize bootPowered a v = w at hscan hpower hup
    have hrail : (requestVolt .bringUp 0 (u.fusedAt 0 1600) w).rail 0 = { w.rail 0 with
      requested := u.fusedAt 0 1600, state := 1, attempts := 1, since := w.time.mono, owner := .bringUp } := rail_setRail_same w 0 _
    have hkept : (requestVolt .bringUp 0 (u.fusedAt 0 1600) w).power = { w.power with
      rails := (requestVolt .bringUp 0 (u.fusedAt 0 1600) w).power.rails } := rfl
    rw [hrail, hkept, hpower]
    exact ⟨rfl, rfl, rfl, rfl, rfl, rfl, rfl, hscan, hup, rfl, rfl⟩
  · intro hp hm ha hsel hbooted
    let v : State := { u with power.porN := true, power.bootSel := st.bootSel.val, power.oscSel := st.oscSel.val, power.porAt := u.time.mono
                              power.vddCore0 := true, power.vddCore1 := true, power.vddTime := true }
    have hrise : porRise st a b true u = bootStart a b v := by simp [porRise, hp, v]
    have hstop := bootStart_of_failure a b v ha hsel hbooted
    have hpower := bootBegun_power v
    have hup : (bootBegun v).cmd.controllerUp = u.cmd.controllerUp := by
      unfold bootBegun setMode
      split
      · rfl
      · exact raiseAt_cmd_controllerUp _ _ _ _ _
    refine runs_of rfl ?_
    simp only [finish_power_mode, finish_power_bootStep, finish_power_bootReason, finish_power_booted, finish_cmd_controllerUp]
    change (porRise st a b true u).power.mode = _ ∧ (porRise st a b true u).power.bootStep = _ ∧ (porRise st a b true u).power.bootReason = _ ∧
      (porRise st a b true u).power.booted = _ ∧ (porRise st a b true u).cmd.controllerUp = _
    rw [hrise, hstop]
    generalize bootBegun v = w at hpower hup
    refine ⟨?_, rfl, rfl, ?_, hup⟩
    · exact congrArg PowerState.mode hpower
    · exact (congrArg PowerState.booted hpower).trans hbooted
  · simp only [finish_power_porN, finish_power_mode, finish_cmd_holder, finish_commits, finish_time, finish_power_powerCycles,
      finish_power_opSeconds, finish_hier_deviceKey]
    let v : State := { u with power.porN := false }
    have hpower : (loseWrite v).power = v.power := loseWrite_power v
    have hhier : (loseWrite v).hier = v.hier := loseWrite_hier v
    change (loseWrite v).power.porN = _ ∧ (enterKeep v).power.mode = _ ∧ (enterKeep v).cmd.holder = _ ∧ (enterKeep v).cmd.commits = _ ∧
      (enterKeep v).time.state = _ ∧ (enterKeep v).time.running = _ ∧ (loseWrite v).power.powerCycles = _ ∧
      (loseWrite v).power.opSeconds = _ ∧ (loseWrite v).hier.deviceKey = _
    rw [hpower, hhier]
    exact ⟨rfl, rfl, rfl, rfl, rfl, rfl, rfl, rfl, rfl⟩
  · intro hk hc hv
    refine leads_of rfl ?_
    change crystalSecond u = _
    simp [crystalSecond, hk, hc, hv]
  · intro hk hc hv ht
    refine leads_of rfl ?_
    change crystalSecond u = _
    have hco : crystalSecond u = coarseSecond u := by simp [crystalSecond, hk, hc, hv]
    rw [hco, coarseSecond_whole u ht]
  · intro hk
    refine leads_of rfl ?_
    change crystalSecond u = u
    simp [crystalSecond, hk]

end Sys2Proof.Machine
end

section
/-! SUPPORT. Self-tests and the Causeway (R331, R434, R435), and a count that a class of no queue takes away from another counter. -/

namespace Sys2Proof.Machine

set_option Elab.async false

/-- The enabled logical ports hang on the part and on what the ports are set to. -/
theorem enabledPorts_of_port {s t : State} (hpart : t.part = s.part) (hport : t.port = s.port) : t.enabledPorts = s.enabledPorts := by
  have hspan : t.lportsOf = s.lportsOf := by
    funext p
    simp [State.lportsOf, State.breakout, hport]
  simp [State.enabledPorts, State.allLports, State.lp, hspan, hpart, hport]

/-! ### What the loss of a segment leaves of the powers -/

/-- A part of the powers that neither modes nor shed ports show in. -/
def Plain {α : Type} (g : PowerState → α) : Prop :=
  (∀ p m, g { p with mode := m } = g p) ∧ (∀ p x, g { p with shedPorts := x } = g p) ∧
  ∀ p : PowerState, g { p with shownReady := [], readySeq := 0 } = g p

section
variable {α : Type} {g : PowerState → α} (hg : Plain g)
include hg

theorem plain_of_frame {cs : List Mod} {s t : State} (h : OnlyIn cs s t) (hc : Mod.power ∉ cs := by decide) : g t.power = g s.power :=
  powerField_of_frame g h hc hg.2.2

theorem disablePort_plain (l : Nat) (s : State) : g (disablePort l s).power = g s.power := by
  unfold disablePort
  extract_lets a p b q r c
  have ha : g a.power = g s.power := plain_of_frame hg (abortFrame_frame l s)
  clear_value a
  have hc : OnlyIn [.fwd] _ c := pfcLinkDown_frame l _
  have hfield := plain_of_frame hg hc
  clear_value c
  have hd : g (flushPort l c).power = g c.power := plain_of_frame hg (flushPort_frame l c)
  rw [hd, hfield, ← ha]
  exact hg.2.1 _ _

theorem restrictPorts_plain (s : State) : g (restrictPorts s).power = g s.power := by
  unfold restrictPorts
  generalize s.enabledPorts.filter (fun l => !s.critical l) = ls
  induction ls generalizing s with
  | nil => rw [List.foldl_nil]
  | cons l ls ih => rw [List.foldl_cons, ih, disablePort_plain hg]

theorem enterSafe_plain (s : State) : g (enterSafe s).power = g s.power := by
  unfold enterSafe
  split
  · rw [restrictPorts_plain hg, setMode_power]
    exact hg.1 _ _
  · rfl

theorem resetDie_plain (d : Nat) (s : State) : g (resetDie d s).power = g s.power := by
  unfold resetDie
  extract_lets cells a k b c recent q e
  have ha : OnlyIn [.fwd, .ctr] s a := flushDie_frame d s
  have hc : OnlyIn [.fwd, .ctr] b c := frame_foldl (fun t l => thawXoff_frame l t) _ b
  have hb : g b.power = g a.power := rfl
  have he : e.power = c.power := raiseAt_power _ _ _ _ _
  have hkept : g e.power = g s.power := by
    rw [he, plain_of_frame hg hc, hb, plain_of_frame hg ha]
  split
  · rw [enterSafe_plain hg, raiseAt_power]
    exact hkept
  · exact hkept

end

theorem plain_trained : Plain PowerState.trained := ⟨fun _ _ => rfl, fun _ _ => rfl, fun _ => rfl⟩
theorem plain_failedSegments : Plain PowerState.failedSegments := ⟨fun _ _ => rfl, fun _ _ => rfl, fun _ => rfl⟩
theorem plain_retraining : Plain PowerState.retraining := ⟨fun _ _ => rfl, fun _ _ => rfl, fun _ => rfl⟩

/-! ### The Causeway -/

theorem crossNow_of_none (s : State) (h : s.fwd.crossings = []) : crossNow s = s := by
  have hnone : { s with fwd.crossings := [] } = s := by rw [← h]
  unfold crossNow
  simp only [h, List.filter_nil, List.foldl_nil]
  exact hnone

theorem retrain_of_due (g : Nat) (temp mv : Int) (s : State) (ht : g ∈ s.power.trained) (hr : tfind s.power.retraining g = none)
    (hfar : 280 < temp.natAbs ∨ (g = 6 ∧ s.power.coreSkew.isSome = true))
    (hmay : ∀ t v, tfind s.power.retrained g = some (t, v) → 80 ≤ (temp - t).natAbs ∨ 50 ≤ (mv - v).natAbs) :
    retrain g temp mv s = raise .warn 0x1124 (BitVec.ofNat 8 g :: toBeInt 2 temp ++ toBeInt 2 mv) { s with
      power.retraining := tput s.power.retraining g 1, power.retrained := tput s.power.retrained g (temp, mv)
      power.coreSkew := if g = 6 then none else s.power.coreSkew } := by
  have hm : s.mayRetrain g temp mv = true := by
    unfold State.mayRetrain
    split
    · rfl
    · next t v h => exact decide_eq_true (hmay t v h)
  refine if_pos ?_
  simpa [ht, hr, hm] using hfar

theorem retrain_of_untrained (g : Nat) (temp mv : Int) (s : State) (ht : g ∉ s.power.trained) : retrain g temp mv s = s := by
  simp [retrain, ht]

theorem retrain_of_recent (g : Nat) (temp mv t v : Int) (s : State) (h : tfind s.power.retrained g = some (t, v))
    (ht : (temp - t).natAbs < 80) (hv : (mv - v).natAbs < 50) : retrain g temp mv s = s := by
  have hm : s.mayRetrain g temp mv = false := by
    unfold State.mayRetrain
    rw [h]
    exact decide_eq_false (by omega)
  simp [retrain, hm]

theorem retrained_of_none (g : Nat) (ok : Bool) (s : State) (h : tfind s.power.retraining g = none) : retrained g ok s = s := by
  simp [retrained, h]

theorem retrained_of_lost (g n : Nat) (s : State) (h : tfind s.power.retraining g = some n) (hn : 3 ≤ n) :
    retrained g false s = segmentLost g { s with power.retraining := tdel s.power.retraining g } := by
  simp [retrained, h, Nat.not_lt.mpr hn]

/-- The report of a lost segment. -/
def lostReport (g : Nat) (s : State) : State :=
  raise .fatal 0x1121 [BitVec.ofNat 8 g]
    { s with power.trained := s.power.trained.erase g, power.failedSegments := s.power.failedSegments ++ [g] }

theorem segmentLost_of_six (s : State) : segmentLost 6 s = crossNow (enterSafe (resetDie 1 (lostReport 6 s))) := by
  unfold segmentLost
  dsimp only [lostReport]
  rw [if_pos rfl]

theorem segmentLost_of_other (g : Nat) (s : State) (hg : g ≠ 6) :
    segmentLost g s = linksDown ((lostReport g s).enabledPorts.filter (fun l => decide (portOf l / 16 = g))) (lostReport g s) := if_neg hg

theorem segmentLost_plain {α : Type} {x : PowerState → α} (hx : Plain x) (g : Nat) (s : State) :
    x (segmentLost g s).power = x (lostReport g s).power := by
  by_cases hg : g = 6
  · subst hg
    rw [segmentLost_of_six, plain_of_frame hx (crossNow_frame _), enterSafe_plain hx, resetDie_plain hx]
  · rw [segmentLost_of_other g s hg]
    exact plain_of_frame hx (linksDown_frame _ _)

theorem segmentLost_six_safe (s : State) (hs : s.power.mode = .service) :
    (segmentLost 6 s).power.mode = .safe ∧ ((segmentLost 6 s).core 1).running = false := by
  obtain ⟨hcore, -, hfew, hmany⟩ := resetDie_resets 1 (lostReport 6 s)
  have hreport : (lostReport 6 s).power.mode = .service := by simp [lostReport, hs]
  have hcross := crossNow_frame (enterSafe (resetDie 1 (lostReport 6 s)))
  rw [segmentLost_of_six]
  refine ⟨(mode_of_frame hcross).trans ?_, ?_⟩
  · by_cases hthree : (lostReport 6 s).resetsNow.length < 3
    · exact enterSafe_of_service _ ((hfew hthree).trans hreport)
    · have hsafe := hmany (by omega) hreport
      have hstay : enterSafe (resetDie 1 (lostReport 6 s)) = resetDie 1 (lostReport 6 s) := by simp [enterSafe, hsafe]
      rw [hstay, hsafe]
  · rw [core_of_frame hcross, core_of_frame (enterSafe_frame _), hcore]

/-- Settles O49, clause by clause. When a segment retrains and rearms, and what a failed segment 6 does, are the model's choice (log 55). -/
theorem selfTestsAndTheCausewayReport : Obligations.SelfTestsAndTheCausewayReport := by
  intro dt g s u b
  refine ⟨fun f hb => leads_of rfl (if_pos hb), fun f hb ht => leads_of rfl ?_,
    fun temp mv ht hr hfar hmay => leads_of rfl (retrain_of_due g temp mv u ht hr hfar hmay),
    fun temp mv ht => leads_of rfl (retrain_of_untrained g temp mv u ht),
    fun temp mv t v h ht hv => leads_of rfl (retrain_of_recent g temp mv t v u h ht hv), ?_, ?_, ?_, ?_, ?_,
    fun h ok => leads_of rfl (retrained_of_none g ok u h)⟩
  · change bistDone g f u = _
    have hstate : ¬(tget u.power.bists g {}).state ≠ 1 := not_not.mpr hb
    have htest : ¬((tget u.power.bists g {}).test = 0 ∧ g < u.part.cores) := fun h => ht h.1
    unfold bistDone
    extract_lets b'
    rw [if_neg hstate]
    exact if_neg htest
  · exact fun mv hp hm => leads_of rfl (if_pos ⟨hp, hm⟩)
  · exact fun mv h => leads_of rfl (if_neg fun hd => h.elim (fun hp => hp hd.1) (fun hm => hd.2 hm))
  · intro n hn hc
    refine leads_of rfl ?_
    change retrained g true u = _
    simp only [retrained, hn, if_true]
    exact crossNow_of_none _ hc
  · intro n hn hlt
    refine leads_of rfl ?_
    change retrained g false u = _
    simp [retrained, hn, hlt]
  · intro n hn hge
    let v : State := { u with power.retraining := tdel u.power.retraining g }
    have hlost : retrained g false u = segmentLost g v := retrained_of_lost g n u hn hge
    have hreport : (lostReport g v).power = { v.power with
      trained := u.power.trained.erase g, failedSegments := u.power.failedSegments ++ [g] } := raise_power _ _ _ _
    refine runs_of rfl ?_
    simp only [finish_power_failedSegments, finish_power_trained, finish_power_retraining, finish_lp, finish_power_mode, finish_core]
    change (retrained g false u).power.failedSegments = _ ∧ (retrained g false u).power.trained = _ ∧
      tfind (retrained g false u).power.retraining g = none ∧ (_ → ∀ l ∈ _, _ → ((retrained g false u).lp l).up = false) ∧
      (_ → _ → (retrained g false u).power.mode = _ ∧ ((retrained g false u).core 1).running = _)
    rw [hlost, segmentLost_plain plain_failedSegments, segmentLost_plain plain_trained, segmentLost_plain plain_retraining, hreport]
    refine ⟨rfl, rfl, tfind_tdel_same u.power.retraining g, fun hg l hl hp => ?_, fun hg hs => ?_⟩
    · rw [segmentLost_of_other g v hg]
      refine (linksDown_lp_up _ _ l).trans ?_
      have hports : (lostReport g v).enabledPorts = u.enabledPorts := by
        apply enabledPorts_of_port <;> simp [lostReport, v]
      simp [hports, hl, hp]
    · subst hg
      exact segmentLost_six_safe v hs

/-! ### A class that no queue has -/

/-- A frame of class 7988 is on the wire of a logical port that is about to degrade. -/
def strayFlight : State :=
  { State.reset with
    ctr := { running := true }
    port := { State.reset.port with lports := [(0, { enabled := true, up := true, degradeDown := true, uncorr := 1, degradeThr := 0 })] }
    fwd := { State.reset.fwd with egress := [(0, { cls := 7988, flight := some { data := [], host := false, region := 0, wm := 0 } })] } }

theorem strayFlight_counts : (strayFlight.advance 0).counter 6 0 16 = 0 ∧ (degradeCheck 0 [] [] (strayFlight.advance 0)).counter 6 0 16 = 1 := by
  decide

/-- Refutes O50: counters are kept by their offset in the snapshot window. When the link goes down, the frame of class 7988 on the wire of
logical port 0 counts among the OWD counters of its class, whose offset is that of the uncorrectable codewords of logical port 0, so
FEC_DEGRADE_CHECK with no codeword moves that counter from 0 to 1. -/
theorem not_laneEventsTakeEffect : ¬ Obligations.LaneEventsTakeEffect := by
  intro h
  obtain ⟨hlanes, -⟩ := h
  obtain ⟨-, -, -, -, -, -, -, -, -, -, -, hfec, -⟩ := hlanes 0 0 0 0 strayFlight
  obtain ⟨t, ht, hcount, -⟩ := hfec [] [] (by decide) (by decide) (by decide)
  obtain ⟨hbefore, hafter⟩ := strayFlight_counts
  have hrun : exec (.fecDegradeCheck 0 0 [] []) strayFlight = .next (finish (degradeCheck 0 [] [] (strayFlight.advance 0))) := rfl
  obtain rfl : finish (degradeCheck 0 [] [] (strayFlight.advance 0)) = t := by
    rw [hrun] at ht
    exact Host.Outcome.next.inj ht
  rw [State.counter, finish_ctr] at hcount
  rw [hbefore] at hcount
  exact absurd (hafter.symm.trans hcount) (by decide)

end Sys2Proof.Machine
end

section
/-! SUPPORT. A branch that still owes its copies when the next frame passes. -/

namespace Sys2Proof.Machine

set_option Elab.async false

/-- A branch in a queue that owes copies while a frame of the host waits for pipeline 0. -/
def owingBranch : State :=
  { State.reset with
    power := { State.reset.power with mode := .service }
    clk := { State.reset.clk with cores := [(0, { running := true })] }
    fwd := { State.reset.fwd with
      branches := [{ copy := 0, lport := 0, cls := 0, fifo := none, owes := true }]
      injectHead := some { mode := 0, lport := 0, cls := 0, data := List.replicate 60 0 } } }


/-- The frame that waits, as the pipeline takes it. -/
def hostFrame : RxFrame :=
  { lport := 0, data := List.replicate 60 0, arrival := 0, arrivalValid := false, arrivalMono := 0, endMono := 0, fcsOk := true }

theorem owingBranch_taken : (takeFrame 0 (owingBranch.advance 0)).1 = some (hostFrame, true) := by decide

theorem owingBranch_settled : (pipelineNow 0 (owingBranch.advance 0)).fwd.branches.map Branch.owes = [false] := by decide

theorem owingBranch_left : (takeFrame 0 (owingBranch.advance 0)).2.fwd.branches.map Branch.owes = [true] := by decide

/-- Refutes O55: a branch in a queue may still owe the copies of its mirror sessions, and the next frame that passes the pipelines settles
them, the frame with no entry too. Besides the drop under code 7 it takes the debt off the branch, which the statement leaves. -/
theorem not_framesPassThrough : ¬ Obligations.FramesPassThrough := by
  intro h
  obtain ⟨-, -, -, -, -, hframe, -⟩ := h 0 0 owingBranch
  obtain ⟨-, -, hplain⟩ := hframe 0 hostFrame true (takeFrame 0 (owingBranch.advance 0)).2 (Prod.ext owingBranch_taken rfl)
  obtain ⟨hmiss, -⟩ := hplain rfl (by decide) (Or.inl rfl) (by decide) rfl rfl rfl (by decide) rfl (by decide)
  have hdrop : exec (.pipelineFrame 0 0) owingBranch = _ := hmiss (by decide) (by decide)
  have hrun : exec (.pipelineFrame 0 0) owingBranch = .next (finish (pipelineNow 0 (owingBranch.advance 0))) := rfl
  have hfwd := congrArg State.fwd (Host.Outcome.next.inj (hrun.symm.trans hdrop))
  rw [finish_fwd, finish_fwd, fwd_of_frame (dropIn_frame _ _ _ _ _ _)] at hfwd
  have howes := congrArg (fun f => f.branches.map Branch.owes) hfwd
  rw [owingBranch_settled, owingBranch_left] at howes
  exact absurd howes (by decide)

end Sys2Proof.Machine
end

section
/-! SUPPORT. Timing lanes: phase and skew samples, the fallback and the return of the configured lane (R170 to R185). -/

namespace Sys2Proof.Machine

set_option Elab.async false

/-! ### Links and lanes, read and written -/

@[simp] theorem link_setLink_same (s : State) (p : Nat) (v : Link) : (s.setLink p v).link p = v := tget_tput_same _ _ _ _

theorem link_setLink_other (s : State) (p q : Nat) (v : Link) (h : q ≠ p) : (s.setLink p v).link q = s.link q :=
  tget_tput_other _ _ _ _ _ h

@[simp] theorem lane_setLane_same (s : State) (p j : Nat) (v : Lane) : (s.setLane p j v).lane p j = v := tget_tput_same _ _ _ _

@[simp] theorem lane_setLink (s : State) (p q j : Nat) (v : Link) : (s.setLink p v).lane q j = s.lane q j := rfl

@[simp] theorem link_setLane (s : State) (p j q : Nat) (v : Lane) : (s.setLane p j v).link q = s.link q := rfl

@[simp] theorem setLink_setLink (s : State) (p : Nat) (v w : Link) : (s.setLink p v).setLink p w = s.setLink p w := by
  simp only [State.setLink, tput_tput_same]

theorem link_of_port {s t : State} (h : t.port = s.port) (p : Nat) : t.link p = s.link p := by rw [State.link, h]; rfl

theorem lane_of_port {s t : State} (h : t.port = s.port) (p j : Nat) : t.lane p j = s.lane p j := by rw [State.lane, h]; rfl

@[simp] theorem finish_link (s : State) (p : Nat) : (finish s).link p = s.link p := link_of_port (finish_port s) p

@[simp] theorem finish_lane (s : State) (p j : Nat) : (finish s).lane p j = s.lane p j := lane_of_port (finish_port s) p j

@[simp] theorem raiseAt_link (d : Nat) (v : Severity) (c : Nat) (x : List Byte) (s : State) (p : Nat) :
    (raiseAt d v c x s).link p = s.link p := link_of_port (by simp) p

/-- The lanes of the timing logical port of a port hang on the breakout, the port types and the configured lane. -/
theorem timingLane_congr {s t : State} {p : Nat} (hpart : t.part = s.part) (hbreak : t.port.breakout = s.port.breakout)
    (htypes : t.port.lports = s.port.lports) (hconf : (t.link p).confLane = (s.link p).confLane) : t.timingLane p = s.timingLane p := by
  have hsplit : t.breakout = s.breakout := by funext q; simp only [State.breakout, hbreak]
  have hlp : t.lp = s.lp := by funext l; simp only [State.lp, htypes]
  have hspan : t.span = s.span := by funext l; simp only [State.span, hsplit]
  have hlanes : t.lanesOf = s.lanesOf := by
    funext l
    have hhas : t.provided l = s.provided l := by simp only [State.provided, hsplit, hpart]
    unfold State.lanesOf
    rw [hspan, hlp, hhas]
  funext j
  simp only [State.timingLane, State.timingLport, State.lportOfLane, hlanes, hsplit, hconf]

/-- What a phase sample leaves of a link: the lanes it is configured with and those it uses. -/
def SameLanes (k q : Link) : Prop :=
  q.confLane = k.confLane ∧ q.activeLane = k.activeLane ∧ q.skewLane = k.skewLane ∧ q.laneLost = k.laneLost

/-- With the lanes of its link unchanged, a port has its active lane and the turn of the skew measurement as before. -/
theorem lanes_of_sameLanes {s t : State} {p : Nat} {v : Link} (hfrom : OnlyIn [] s t) (hv : SameLanes (s.link p) v) :
    (t.setLink p v).phaseLane p = s.phaseLane p ∧ (t.setLink p v).nextSkewLane p = s.nextSkewLane p := by
  obtain ⟨hconf, hact, hskew, hlost⟩ := hv
  have hport := port_of_frame hfrom
  have hlane : (t.setLink p v).timingLane p = s.timingLane p :=
    timingLane_congr (s := s) (t := t.setLink p v) (part_of_frame (t := t) hfrom) (by simp [State.setLink, hport])
      (by simp [State.setLink, hport]) (by simpa using hconf)
  constructor
  · simp only [State.phaseLane, hlane, link_setLink_same, lane_setLink, hact, hlost, lane_of_port hport]
  · simp only [State.nextSkewLane, hlane, link_setLink_same, hact, hskew]

/-! ### A phase sample and the turn of the skew measurement -/

/-- A quotient whose rounding is open misses the exact one by less than a unit. -/
theorem openDiv_near (a : Int) (b : Nat) (s : State) (hb : 0 < b) : (b * (openDiv a b s).1 - a).natAbs < b := by
  have hdiv := Int.mul_ediv_add_emod a b
  have hlow := Int.emod_nonneg a (show (b : Int) ≠ 0 by omega)
  have hhigh := Int.emod_lt_of_pos a (show (0 : Int) < b by omega)
  simp only [openDiv, if_neg (show ¬ b = 0 by omega)]
  split
  · show ((b : Int) * (a / b) - a).natAbs < b
    omega
  · cases (drawBit s).1
    · show ((b : Int) * (a / b) - a).natAbs < b
      omega
    · show ((b : Int) * (a / b + 1) - a).natAbs < b
      rw [mul_add, mul_one]
      omega

theorem rxDelay_frame (d a : Int) (s : State) : OnlyIn [] s (rxDelay d a s).2 := openDiv_frame _ _ s

/-- A link with the phase and the raw difference of a sample, for a delay in the direction of reception. -/
def phased (k : Link) (drx : Int) (phi : Nat) : Link :=
  { k with phi := some (80 * ((phi : Int) - k.corr)), raw := 5 * drx - 80 * ((phi : Int) - k.corr) }

/-- The link with N on the nearest phase. -/
def nearest (q : Link) : Link :=
  let t := q.raw + q.n * periodP
  let n := if periodP < 2 * (t - q.thetaPh) then q.n - 1 else if 2 * (t - q.thetaPh) < -periodP then q.n + 1 else q.n
  { q with n := n, thetaPh := q.raw + n * periodP }

/-- The link that a phase sample leaves. -/
def sampled (k : Link) (drx : Int) (phi : Nat) : Link := if k.resolved then nearest (phased k drx phi) else phased k drx phi

theorem sampled_sameLanes (k : Link) (drx : Int) (phi : Nat) : SameLanes k (sampled k drx phi) := by
  unfold sampled
  split <;> exact ⟨rfl, rfl, rfl, rfl⟩

theorem sampled_raw (k : Link) (drx : Int) (phi : Nat) : (sampled k drx phi).raw = 5 * drx - 80 * ((phi : Int) - k.corr) := by
  unfold sampled
  split <;> rfl

/-- While ASYN rotates, or without an active timing lane in use and lock, nothing is sampled. -/
theorem sample_dropped (p phi lane : Nat) (skew : Int) (s : State) (h : s.time.rotating = true ∨ s.phaseLane p = false) :
    skewTurn p lane skew (phaseSample p phi s) = s := by
  have hbar : (s.time.rotating || !s.phaseLane p) = true := by
    rcases h with h | h <;> simp [h]
  simp [phaseSample, skewTurn, hbar]

section
variable {p phi : Nat} {s : State} (hrot : s.time.rotating = false) (hlane : s.phaseLane p = true)
include hrot hlane

theorem phaseSample_eq : phaseSample p phi s =
    (rxDelay (s.link p).d (s.link p).coef s).2.setLink p (sampled (s.link p) (rxDelay (s.link p).d (s.link p).coef s).1 phi) := by
  have hbar : (s.time.rotating || !s.phaseLane p) = false := by simp [hrot, hlane]
  have hunfold : phaseSample p phi s = if (!(s.link p).resolved) = true
      then (rxDelay (s.link p).d (s.link p).coef s).2.setLink p (phased (s.link p) (rxDelay (s.link p).d (s.link p).coef s).1 phi)
      else (rxDelay (s.link p).d (s.link p).coef s).2.setLink p (nearest (phased (s.link p) (rxDelay (s.link p).d (s.link p).coef s).1 phi)) := by
    unfold phaseSample
    simp only [hbar]
    rfl
  rw [hunfold, sampled]
  cases (s.link p).resolved <;> rfl

theorem skewTurn_other (lane : Nat) (skew : Int) (hturn : s.nextSkewLane p ≠ some lane) :
    skewTurn p lane skew (phaseSample p phi s) = phaseSample p phi s := by
  rw [phaseSample_eq hrot hlane]
  obtain ⟨-, hnext⟩ := lanes_of_sameLanes (rxDelay_frame (s.link p).d (s.link p).coef s)
    (sampled_sameLanes (s.link p) (rxDelay (s.link p).d (s.link p).coef s).1 phi)
  simp [skewTurn, hnext, hturn]

/-- The lane whose turn it is gives a skew sample. -/
theorem skewTurn_turn (lane : Nat) (skew : Int) (hturn : s.nextSkewLane p = some lane) :
    ∃ t v, skewTurn p lane skew (phaseSample p phi s) = skewSample p lane skew (t.setLink p v) ∧ OnlyIn [] s t ∧ v.skewLane = lane ∧
      v.raw = 5 * (rxDelay (s.link p).d (s.link p).coef s).1 - 80 * ((phi : Int) - (s.link p).corr) := by
  rw [phaseSample_eq hrot hlane]
  have hfrom := rxDelay_frame (s.link p).d (s.link p).coef s
  obtain ⟨hphase, hnext⟩ := lanes_of_sameLanes hfrom (sampled_sameLanes (s.link p) (rxDelay (s.link p).d (s.link p).coef s).1 phi)
  refine ⟨_, { sampled (s.link p) (rxDelay (s.link p).d (s.link p).coef s).1 phi with skewLane := lane }, ?_, hfrom, rfl, sampled_raw _ _ _⟩
  have hrot' : (rxDelay (s.link p).d (s.link p).coef s).2.time.rotating = false := by rw [time_of_frame hfrom, hrot]
  simp [skewTurn, hphase, hlane, hnext, hturn, hrot']

/-- While N is not resolved the sample gives RAW alone. -/
theorem sample_unresolved (lane : Nat) (skew : Int) (hres : (s.link p).resolved = false) (hturn : s.nextSkewLane p ≠ some lane) :
    skewTurn p lane skew (phaseSample p phi s) = (rxDelay (s.link p).d (s.link p).coef s).2.setLink p
      (phased (s.link p) (rxDelay (s.link p).d (s.link p).coef s).1 phi) := by
  rw [skewTurn_other hrot hlane lane skew hturn, phaseSample_eq hrot hlane, sampled, if_neg (by simp [hres])]

/-- Once it is, the sample gives the nearest phase. -/
theorem sample_resolved (lane : Nat) (skew n : Int) (hres : (s.link p).resolved = true) (hturn : s.nextSkewLane p ≠ some lane)
    (hn : n = (nearest (phased (s.link p) (rxDelay (s.link p).d (s.link p).coef s).1 phi)).n) :
    skewTurn p lane skew (phaseSample p phi s) = (rxDelay (s.link p).d (s.link p).coef s).2.setLink p
      { phased (s.link p) (rxDelay (s.link p).d (s.link p).coef s).1 phi with
        n := n, thetaPh := (phased (s.link p) (rxDelay (s.link p).d (s.link p).coef s).1 phi).raw + n * periodP } := by
  rw [skewTurn_other hrot hlane lane skew hturn, phaseSample_eq hrot hlane, sampled, if_pos hres, hn]
  rfl

end

/-- N moves by the period that brings the phase nearest. -/
theorem nearest_n (q : Link) (n : Int) (hfar : periodP < 2 * (q.raw + q.n * periodP - q.thetaPh) → n = q.n - 1)
    (hnear : 2 * (q.raw + q.n * periodP - q.thetaPh) < -periodP → n = q.n + 1)
    (hsame : 2 * (q.raw + q.n * periodP - q.thetaPh).natAbs ≤ periodP.natAbs → n = q.n) : n = (nearest q).n := by
  have hp : 0 ≤ periodP := by decide
  generalize hx : q.raw + q.n * periodP - q.thetaPh = x at *
  simp only [nearest, hx]
  split
  · exact hfar ‹_›
  · split
    · exact hnear ‹_›
    · exact hsame (by omega)

theorem skewSample_unlocked (p j : Nat) (skew : Int) (s : State) (h : (s.lane p j).locked = false) : skewSample p j skew s = s := by
  simp [skewSample, h]

theorem skewSample_link (p j : Nat) (skew : Int) (s : State) : (skewSample p j skew s).link p = s.link p := by
  unfold skewSample
  extract_lets v w
  split
  · rfl
  · split
    · rfl
    · show (openDiv w.skewSum 512 s).2.link p = s.link p
      exact link_of_port (port_of_frame (openDiv_frame _ _ s)) p

/-- A locked lane's skew sample that is not the 512th is added. -/
theorem skewSample_more (p j : Nat) (skew : Int) (s : State) (hl : (s.lane p j).locked = true) (hn : (s.lane p j).skewCount + 1 < 512) :
    (skewSample p j skew s).lane p j = { s.lane p j with
      skewCount := (s.lane p j).skewCount + 1, skewSum := (s.lane p j).skewSum + skew, meanCount := (s.lane p j).meanCount + 1
      meanSum := (s.lane p j).meanSum + skew } := by
  simp [skewSample, hl, hn]

/-- The 512th gives the mean. -/
theorem skewSample_mean (p j : Nat) (skew : Int) (s : State) (hl : (s.lane p j).locked = true) (hn : (s.lane p j).skewCount + 1 = 512) :
    ∃ m : Int, (512 * m - ((s.lane p j).skewSum + skew)).natAbs < 512 ∧ (skewSample p j skew s).lane p j = { s.lane p j with
      skewCount := 0, skewSum := 0, skew := some m, meanCount := (s.lane p j).meanCount + 1, meanSum := (s.lane p j).meanSum + skew } := by
  refine ⟨(openDiv ((s.lane p j).skewSum + skew) 512 s).1, openDiv_near _ 512 s (by omega), ?_⟩
  simp [skewSample, hl, hn]

/-! ### Compensation -/

/-- What every pass of a loop keeps, the loop keeps. -/
theorem foldl_keeps {α β : Type} {f : State → α → State} (g : State → β) (hf : ∀ t x, g (f t x) = g t) (l : List α) (s : State) :
    g (l.foldl f s) = g s := by
  induction l generalizing s with
  | nil => rfl
  | cons x xs ih => exact (ih (f s x)).trans (hf s x)

/-- Setting lanes one after the other leaves every link. -/
theorem setLanes_link (p q : Nat) (g : State → Nat → Lane) (js : List Nat) (s : State) :
    (js.foldl (fun s j => s.setLane p j (g s j)) s).link q = s.link q :=
  foldl_keeps (f := fun s j => s.setLane p j (g s j)) (fun t => t.link q) (fun _ _ => rfl) js s

/-- The means of a port's lanes cleared. -/
def clearMeans (p : Nat) (s : State) : State :=
  (List.range 8).foldl (fun s j => s.setLane p j { s.lane p j with meanCount := 0, meanSum := 0 }) s

theorem clearMeans_link (p q : Nat) (s : State) : (clearMeans p s).link q = s.link q := setLanes_link p q _ _ s

theorem clearMeans_frame (p : Nat) (s : State) : OnlyIn [.port] s (clearMeans p s) := frame_foldl (fun t _ => frame_port t _) _ s

/-- At a compensation milestone a port's means are cleared; one in ESTIMATE mode gets its estimate of A, or reports one out of range. -/
theorem estimateA_cases (p : Nat) (s : State) : estimateA p s = clearMeans p s ∨ (s.link p).estimate = true ∧
    ∃ t a, OnlyIn [] (clearMeans p s) t ∧ (estimateA p s = t.setLink p { t.link p with estA := some a } ∨
      estimateA p s = raiseAt (laneDieOf p) .warn 0x2208 (BitVec.ofNat 8 p :: off8 a) t) := by
  unfold estimateA
  extract_lets k clear mean
  have hclear : clear s = clearMeans p s := rfl
  clear_value clear
  cases hest : k.estimate with
  | false => exact Or.inl hclear
  | true =>
    simp only [Bool.not_true, Bool.false_eq_true, if_false]
    generalize mean k.laneA = x
    generalize mean k.laneB = y
    obtain ⟨sa, ca⟩ := x
    obtain ⟨sb, cb⟩ := y
    simp only []
    split
    · exact Or.inl hclear
    · generalize hdiv : openDiv _ _ _ = o
      obtain ⟨a, t⟩ := o
      rw [← hclear]
      exact Or.inr ⟨trivial, t, a, frame_snd (openDiv_frame _ _ _) hdiv, (em _).imp (fun h => if_pos h) (fun h => if_neg h)⟩

theorem estimateA_frame (p : Nat) (s : State) : OnlyIn [.port] s (estimateA p s) := by
  obtain h | ⟨-, t, a, hfrom, h | h⟩ := estimateA_cases p s
  · exact h ▸ clearMeans_frame p s
  · exact h ▸ frame_step (frame_step (clearMeans_frame p s) hfrom) (setLink_frame p _ t)
  · exact h ▸ frame_raiseAt _ _ _ _ (frame_step (clearMeans_frame p s) hfrom)

/-- A port that is not in ESTIMATE mode keeps its link. -/
theorem estimateA_link (p q : Nat) (s : State) (hq : (s.link q).estimate = false) : (estimateA p s).link q = s.link q := by
  obtain h | ⟨hp, t, a, hfrom, h⟩ := estimateA_cases p s
  · rw [h, clearMeans_link]
  · have hne : q ≠ p := by
      rintro rfl
      simp [hp] at hq
    have ht : t.link q = s.link q := (link_of_port (port_of_frame hfrom) q).trans (clearMeans_link p q s)
    rcases h with h | h <;> rw [h]
    · rw [link_setLink_other _ _ _ _ hne, ht]
    · rw [raiseAt_link, ht]

theorem estimates_link (ps : List Nat) (q : Nat) (s : State) (hq : (s.link q).estimate = false) :
    (ps.foldl (fun s p => estimateA p s) s).link q = s.link q := by
  induction ps generalizing s with
  | nil => rfl
  | cons p ps ih =>
    have hp := estimateA_link p q s hq
    exact (ih (estimateA p s) (by rw [hp, hq])).trans hp

theorem rearm_frame (s : State) : OnlyIn [.power] s (rearm s) := frame_power s _

theorem compensate_frame (temps : List Int) (s : State) : OnlyIn [.power, .port, .cal] s (compensate temps s) := by
  unfold compensate
  refine frame_ite (frame_refl _ s) ?_
  exact frame_step (frame_step (frame_within (frame_cal s _)) (rearm_frame _)) (frame_foldl (fun t p => estimateA_frame p t) _ _)

/-! ### The fallback and the return of the configured lane -/

theorem recoverPhase_frame (s : State) : OnlyIn [.ref] s (recoverPhase s) := by
  unfold recoverPhase
  extract_lets a
  have ha : OnlyIn [.ref] s a := histFault_frame s
  have hm : OnlyIn [] a (measured a).2 := measured_frame a
  generalize measured a = x at hm
  obtain ⟨v, t⟩ := x
  have ht : OnlyIn [] a t := hm
  exact frame_ite ha (frame_step (frame_step ha ht) (closeOffset_frame v t))

theorem followsPort_of_ref {s t : State} (h : t.ref = s.ref) (p : Nat) : t.followsPort p = s.followsPort p := by
  unfold State.followsPort State.refEntry
  rw [h]

/-- The link whose active lane moves names the new lane, which is not lost. -/
theorem moveActive_link (p j : Nat) (x : Option Int) (s : State) :
    (moveActive p j x s).link p = { s.link p with activeLane := j, laneLost := false } := by
  unfold moveActive
  rw [link_setLink_same, setLanes_link]

theorem moveToConfigured_link (p j : Nat) (v : Int) (s : State) : (moveToConfigured p j v s).link p =
    { s.link p with activeLane := j, laneLost := false, corr := (s.link p).corr + v, base := (s.link p).corr + v } := by
  unfold moveToConfigured
  rw [link_setLink_same, moveActive_link]

/-- A lane of unknown skew as the active one of a port (R183). -/
def blindMove (p j : Nat) (s : State) : State :=
  raiseAt (laneDieOf p) .warn 0x2203 [BitVec.ofNat 8 p, BitVec.ofNat 8 (s.link p).activeLane, BitVec.ofNat 8 j]
    ((moveActive p j none s).setLink p { (moveActive p j none s).link p with corr := (s.link p).base })

theorem blindMove_link (p j : Nat) (s : State) :
    (blindMove p j s).link p = { s.link p with activeLane := j, laneLost := false, corr := (s.link p).base } := by
  rw [blindMove, raiseAt_link, link_setLink_same, moveActive_link]

theorem blindMove_ref (p j : Nat) (s : State) : (blindMove p j s).ref = s.ref := by
  rw [blindMove, raiseAt_ref, State.setLink_ref, ref_of_frame (moveActive_frame p j none s)]

theorem timingFallback_sound (p : Nat) (s : State)
    (h : s.part.ports ≤ p ∨ s.timingLane p (s.link p).activeLane = false ∨ (s.lane p (s.link p).activeLane).locked = true) :
    timingFallback p s = s := if_pos h

section
variable {p : Nat} {s : State} (hp : p < s.part.ports) (huse : s.timingLane p (s.link p).activeLane = true)
  (hfail : (s.lane p (s.link p).activeLane).locked = false)
include hp huse hfail

theorem timingFallback_fails : timingFallback p s = (match s.fallbackLane p with
    | none =>
      if (s.link p).laneLost then s
      else portSignalLoss p (raiseAt (laneDieOf p) .error 0x2204 [BitVec.ofNat 8 p, BitVec.ofNat 8 (s.link p).activeLane]
        (s.setLink p { s.link p with laneLost := true }))
    | some j =>
      match (s.lane p j).skew with
      | some v => raiseAt (laneDieOf p) .note 0x2202 [BitVec.ofNat 8 p, BitVec.ofNat 8 (s.link p).activeLane, BitVec.ofNat 8 j]
          ((moveActive p j (some v) s).setLink p { (moveActive p j (some v) s).link p with corr := (s.link p).corr + v })
      | none => if (blindMove p j s).followsPort p then recoverPhase (blindMove p j s) else blindMove p j s) := by
  refine (if_neg ?_).trans rfl
  rintro (h | h | h)
  · omega
  · simp [huse] at h
  · simp [hfail] at h

theorem timingFallback_lost (hno : s.fallbackLane p = none) (hnew : (s.link p).laneLost = false) :
    timingFallback p s = portSignalLoss p (raiseAt (laneDieOf p) .error 0x2204 [BitVec.ofNat 8 p, BitVec.ofNat 8 (s.link p).activeLane]
      (s.setLink p { s.link p with laneLost := true })) := by
  rw [timingFallback_fails hp huse hfail, hno]
  exact if_neg (by simp [hnew])

theorem timingFallback_lostAlready (hno : s.fallbackLane p = none) (hold : (s.link p).laneLost = true) : timingFallback p s = s := by
  rw [timingFallback_fails hp huse hfail, hno]
  exact if_pos hold

/-- A lane of known skew takes over with its skew added to the correction. -/
theorem timingFallback_known (j : Nat) (v : Int) (hj : s.fallbackLane p = some j) (hv : (s.lane p j).skew = some v) :
    (timingFallback p s).link p = { s.link p with activeLane := j, laneLost := false, corr := (s.link p).corr + v } ∧
    (timingFallback p s).ref = s.ref := by
  rw [timingFallback_fails hp huse hfail, hj]
  simp only [hv]
  constructor
  · rw [raiseAt_link, link_setLink_same, moveActive_link]
  · rw [raiseAt_ref, State.setLink_ref, ref_of_frame (moveActive_frame p j (some v) s)]

/-- One of unknown skew takes over with the correction of the configured lane. -/
theorem timingFallback_unknown (j : Nat) (hj : s.fallbackLane p = some j) (hv : (s.lane p j).skew = none) :
    (timingFallback p s).link p = { s.link p with activeLane := j, laneLost := false, corr := (s.link p).base } ∧
    (s.followsPort p = false → (timingFallback p s).ref = s.ref) := by
  rw [timingFallback_fails hp huse hfail, hj]
  simp only [hv]
  constructor
  · split
    · rw [link_of_port (port_of_frame (recoverPhase_frame _)), blindMove_link]
    · exact blindMove_link p j s
  · intro h
    have hfollows : (blindMove p j s).followsPort p = false := (followsPort_of_ref (blindMove_ref p j s) p).trans h
    rw [if_neg (by simp [hfollows]), blindMove_ref]

end

/-- The configured lane, of known skew and locked for 4,096 milestones, becomes the active one again. -/
theorem timingRevert_back (p : Nat) (s : State) (v : Int) (t : Nat) (hrev : (s.link p).revert = true)
    (haway : (s.link p).activeLane ≠ (s.link p).confLane) (hp : p < s.part.ports) (hlock : (s.lane p (s.link p).confLane).locked = true)
    (hskew : (s.lane p (s.link p).confLane).skew = some v) (hat : (s.lane p (s.link p).confLane).lockedAt = some t) :
    timingRevert p s = if t + 4096 * slotUnits ≤ s.time.mono then
      raiseAt (laneDieOf p) .note 0x2205 [BitVec.ofNat 8 p, BitVec.ofNat 8 (s.link p).confLane]
        (moveToConfigured p (s.link p).confLane v s) else s := by
  have hgo : (!(s.link p).revert || decide ((s.link p).activeLane = (s.link p).confLane) || decide (s.part.ports ≤ p) ||
      !(s.lane p (s.link p).confLane).locked) = false := by
    simp [hrev, haway, hlock, hp]
  unfold timingRevert
  extract_lets k w
  rw [if_neg (by rw [hgo]; decide)]
  simp only [w, k, hskew, hat]

theorem timingRevert_stays (p : Nat) (s : State)
    (h : (s.link p).revert = false ∨ (s.link p).activeLane = (s.link p).confLane ∨ (s.lane p (s.link p).confLane).skew = none) :
    timingRevert p s = s := by
  unfold timingRevert
  extract_lets k w
  rcases h with h | h | h
  · exact if_pos (by simp [k, h])
  · exact if_pos (by simp [k, h])
  · split
    · rfl
    · simp only [w, k, h]

/-! ### O52 -/

/-- Settles O52: a port's link after a sample, a fallback or a return, and what the rest of the state keeps. The instant and the share of a
sample, the place of the skew in the correction and its sign are those of the log's entry 40. -/
theorem timingLanesFollowTheRules : Obligations.TimingLanesFollowTheRules := by
  intro dt p s u k a
  refine ⟨?_, ?_, ?_, ?_, ?_, ?_, ?_, ?_⟩
  · intro temps h
    exact leads_of rfl (if_pos h)
  · intro temps h
    have hrun : compensate temps u = (List.range u.part.ports).foldl (fun s p => estimateA p s) (rearm { u with
        cal.temps := (List.range 8).filterMap (fun d => if u.part.hasDie d then some (d, getAt temps d 0) else none) }) :=
      if_neg (by simp [h])
    refine runs_of rfl ?_
    change (finish (compensate temps u)).cal.temps = _ ∧ ∀ q, _ → (finish (compensate temps u)).link q = _
    simp only [finish_cal, finish_link]
    rw [hrun]
    refine ⟨?_, fun q hq => estimates_link _ q _ hq⟩
    rw [cal_of_frame (frame_foldl (fun t p => estimateA_frame p t) _ _)]
    rfl
  · intro phi lane skew h
    exact leads_of (f := fun s => skewTurn p lane skew (phaseSample p phi s)) rfl (sample_dropped p phi lane skew u h)
  · intro phi lane skew hrot hlane w raw q
    refine ⟨fun hres hturn => ?_, fun n hres hturn hfar hnear hsame => ?_, ?_⟩
    · exact leads_of (f := fun s => skewTurn p lane skew (phaseSample p phi s)) rfl (sample_unresolved hrot hlane lane skew hres hturn)
    · have hn : n = (nearest (phased k (rxDelay k.d k.coef u).1 phi)).n := nearest_n _ n hfar hnear hsame
      refine leads_of (f := fun s => skewTurn p lane skew (phaseSample p phi s)) rfl ?_
      exact sample_resolved hrot hlane lane skew n hres hturn hn
    · intro j hturn hj v
      subst hj
      obtain ⟨t, x, hrun, hfrom, hskew, hraw⟩ := skewTurn_turn (phi := phi) hrot hlane lane skew hturn
      have hv : (t.setLink p x).lane p lane = v := lane_of_port (port_of_frame hfrom) p lane
      have hlink : (skewSample p lane skew (t.setLink p x)).link p = x := (skewSample_link p lane skew _).trans (link_setLink_same t p x)
      refine ⟨fun hl => ?_, fun hl hn => ?_, fun hl hn => ?_⟩ <;> rw [← hv] at hl
      · refine runs_of (f := fun s => skewTurn p lane skew (phaseSample p phi s)) rfl ?_
        simp only [finish_link, finish_lane]
        rw [hrun, hlink, skewSample_unlocked p lane skew _ hl]
        exact ⟨hskew, hraw, hv⟩
      · rw [← hv] at hn
        refine runs_of (f := fun s => skewTurn p lane skew (phaseSample p phi s)) rfl ?_
        simp only [finish_link, finish_lane]
        rw [hrun, hlink, skewSample_more p lane skew _ hl hn, hv]
        exact ⟨hskew, hraw, rfl, rfl, rfl⟩
      · rw [← hv] at hn
        obtain ⟨m, hm, hmean⟩ := skewSample_mean p lane skew _ hl hn
        refine runs_of (f := fun s => skewTurn p lane skew (phaseSample p phi s)) rfl ?_
        simp only [finish_link, finish_lane]
        rw [hrun, hlink, hmean]
        exact ⟨hskew, hraw, rfl, m, rfl, hv ▸ hm⟩
  · intro hp huse hfail
    refine ⟨fun hno hnew => ?_, fun hno hold => ?_, fun j v hj hv => ?_, fun j hj hv => ?_⟩
    · exact leads_of rfl (timingFallback_lost hp huse hfail hno hnew)
    · exact leads_of rfl (timingFallback_lostAlready hp huse hfail hno hold)
    · obtain ⟨hlink, href⟩ := timingFallback_known hp huse hfail j v hj hv
      refine runs_of (f := timingFallback p) rfl ?_
      simp only [finish_link, finish_ref]
      rw [hlink]
      exact ⟨rfl, rfl, rfl, href⟩
    · obtain ⟨hlink, href⟩ := timingFallback_unknown hp huse hfail j hj hv
      refine runs_of (f := timingFallback p) rfl ?_
      simp only [finish_link, finish_ref]
      rw [hlink]
      exact ⟨rfl, rfl, rfl, href⟩
  · intro h
    exact leads_of rfl (timingFallback_sound p u h)
  · intro v t hrev haway hp hlock hskew hat
    have hrun := timingRevert_back p u v t hrev haway hp hlock hskew hat
    refine ⟨fun hdue => ?_, fun hearly => ?_⟩
    · refine runs_of (f := timingRevert p) rfl ?_
      simp only [finish_link]
      rw [hrun, if_pos hdue, raiseAt_link, moveToConfigured_link]
      exact ⟨rfl, rfl, rfl, rfl⟩
    · exact leads_of rfl (hrun.trans (if_neg (by omega)))
  · intro h
    exact leads_of rfl (timingRevert_stays p u h)

end Sys2Proof.Machine
end

section
/-! SUPPORT. PTP ports: their states, the messages they take and those they send (R187, R188). -/

namespace Sys2Proof.Machine

set_option Elab.async false

/-! ### Estimates of time, and the instant at the wire -/

theorem latency_frame (p d : Nat) (s : State) : OnlyIn [] s (latency p d s).2 := openDiv_frame _ _ s

theorem wireNow_frame (p d : Nat) (s : State) : OnlyIn [] s (wireNow p d s).2 := latency_frame p d s

theorem openDiv_of_freeIx {s t : State} (h : t.freeIx = s.freeIx) (a : Int) (b : Nat) : (openDiv a b t).1 = (openDiv a b s).1 := by
  unfold openDiv drawBit
  rw [h]
  split
  · rfl
  · split <;> rfl

/-- The instant at the wire hangs on the count, the calibration, the port types and the lanes of the link. -/
theorem wireNow_congr {s t : State} {p : Nat} (d : Nat) (hfree : t.freeIx = s.freeIx) (htime : t.time = s.time) (hcal : t.cal = s.cal)
    (hbreak : t.port.breakout = s.port.breakout) (htypes : t.port.lports = s.port.lports)
    (hconf : (t.link p).confLane = (s.link p).confLane) (hcorr : (t.link p).corr = (s.link p).corr)
    (hbase : (t.link p).base = (s.link p).base) : (wireNow p d t).1 = (wireNow p d s).1 := by
  have hlat : (latency p d t).1 = (latency p d s).1 := by
    unfold latency
    simp only [State.timingLport, State.lportOfLane, State.breakout, State.lp, hbreak, htypes, hconf, hcal]
    exact openDiv_of_freeIx hfree _ _
  have hlink (u : State) : ((latency p d u).2).link p = u.link p := link_of_port (port_of_frame (latency_frame p d u)) p
  have hcount (u : State) : ((latency p d u).2).time.count = u.time.count := by rw [time_of_frame (latency_frame p d u)]
  simp only [wireNow, hlat, hlink, hcount, hcorr, hbase, htime]

theorem estimate_frame (e : Nat) (o : Int) (b : Bool) (s : State) : OnlyIn [.cmd, .time, .ref] s (estimate e o b s) := by
  unfold estimate
  refine frame_ite (frame_refl _ s) ?_
  extract_lets beyond q w a c0 c
  have ha : OnlyIn [.cmd, .time, .ref] s a := frame_then (frame_time s _) (frame_ref { s with time.offset := o } _)
  clear_value a
  have hc : OnlyIn [.cmd, .time, .ref] s c := frame_step ha (frame_time a _)
  have hguard : OnlyIn [.cmd, .time, .ref] s (if 2 ≤ a.time.excess then enterGuard e o a else { a with time.excess := a.time.excess + 1 }) :=
    frame_ite (frame_step ha (enterGuard_frame e o a)) (frame_step ha (frame_time a _))
  split
  · exact frame_step ha (frame_time a _)
  · refine frame_ite (frame_step ha (frame_time a _)) (frame_ite (frame_step ha (exitGuard_frame 0 o a)) (frame_step ha (frame_time a _)))
  · exact frame_ite hguard (frame_step (frame_step ha (frame_time a _)) (follow_frame e o _))
  · exact frame_ite hguard (frame_ite (frame_step hc (closeOffset_frame o _)) hc)

theorem portEstimate_frame (p : Nat) (o : Int) (b : Bool) (s : State) : OnlyIn [.cmd, .time, .ref] s (portEstimate p o b s) := by
  unfold portEstimate
  split
  · exact frame_ite (estimate_frame _ o b s) (frame_refl _ s)
  · exact frame_refl _ s

/-! ### The state decision -/

/-- What the state decision may change of a PTP port: its state, its parent and what a slave waits for. -/
def Decided (v w : PtpPort) : Prop :=
  w = { v with state := w.state, parent := w.parent, sync := w.sync, awaiting := w.awaiting, delayReq := w.delayReq }

theorem Decided.trans {u v w : PtpPort} (huv : Decided u v) (hvw : Decided v w) : Decided u w := by
  unfold Decided at *
  rw [hvw, huv]

/-- The state decision has passed on some PTP ports: nothing but those ports has changed. -/
def PtpDecided (s t : State) : Prop :=
  (∃ links, t = { s with port.links := links }) ∧
  ∀ q, t.link q = { s.link q with ptp := (t.link q).ptp } ∧ Decided (s.link q).ptp (t.link q).ptp

theorem PtpDecided.refl (s : State) : PtpDecided s s := ⟨⟨s.port.links, rfl⟩, fun _ => ⟨rfl, rfl⟩⟩

theorem PtpDecided.trans {s t u : State} (hst : PtpDecided s t) (htu : PtpDecided t u) : PtpDecided s u := by
  obtain ⟨⟨l, hl⟩, hs⟩ := hst
  obtain ⟨⟨m, hm⟩, ht⟩ := htu
  refine ⟨⟨m, by rw [hm, hl]⟩, fun q => ?_⟩
  obtain ⟨hlink, hdec⟩ := hs q
  obtain ⟨hlink', hdec'⟩ := ht q
  exact ⟨hlink'.trans (by rw [hlink]), hdec.trans hdec'⟩

/-- One PTP port takes the state that the decision gives it. -/
def ptpStep (s : State) (p : Nat) : State :=
  let k := s.link p
  let st := s.ptpDecide p
  let parent := if st = 9 then ((s.ptpErbest p).map (·.sender)).getD k.ptp.parent else k.ptp.parent
  if k.ptp.state = st then s.setLink p { k with ptp := { k.ptp with parent := parent } }
  else s.setLink p { k with ptp := { k.ptp with state := st, parent := parent, sync := none, awaiting := none, delayReq := none } }

theorem ptpStep_decided (p : Nat) (s : State) : PtpDecided s (ptpStep s p) ∧ ((ptpStep s p).link p).ptp.state = s.ptpDecide p ∧
    ∀ q, q ≠ p → (ptpStep s p).link q = s.link q := by
  obtain ⟨v, hv, hdec, hst⟩ : ∃ v, ptpStep s p = s.setLink p { s.link p with ptp := v } ∧ Decided (s.link p).ptp v ∧
      v.state = s.ptpDecide p := by
    by_cases hst : (s.link p).ptp.state = s.ptpDecide p
    · exact ⟨_, if_pos hst, rfl, hst⟩
    · exact ⟨_, if_neg hst, rfl, rfl⟩
  rw [hv]
  refine ⟨⟨⟨_, rfl⟩, fun q => ?_⟩, ?_, fun q hq => link_setLink_other _ _ _ _ hq⟩
  · by_cases hq : q = p
    · subst hq
      rw [link_setLink_same]
      exact ⟨rfl, hdec⟩
    · rw [link_setLink_other _ _ _ _ hq]
      exact ⟨rfl, rfl⟩
  · rw [link_setLink_same]
    exact hst

section
variable {s t : State} (h : PtpDecided s t)
include h

theorem PtpDecided.erbest (p : Nat) : t.ptpErbest p = s.ptpErbest p := by
  obtain ⟨⟨l, hl⟩, hlinks⟩ := h
  obtain ⟨-, hdec⟩ := hlinks p
  have htime : t.time = s.time := by rw [hl]
  have hqual : (t.link p).ptp.qualifies = (s.link p).ptp.qualifies := by rw [hdec]; rfl
  have hforeigns : (t.link p).ptp.foreigns = (s.link p).ptp.foreigns := by rw [hdec]
  simp only [State.ptpErbest, hqual, hforeigns, htime]

theorem PtpDecided.best : t.ptpBest = s.ptpBest := by
  have hports : t.ptpPorts = s.ptpPorts := by
    obtain ⟨⟨l, hl⟩, hlinks⟩ := h
    have hpart : t.part = s.part := by rw [hl]
    have henable : (fun p => (t.link p).ptp.enable) = fun p => (s.link p).ptp.enable := by
      funext p
      obtain ⟨-, hdec⟩ := hlinks p
      rw [hdec]
    simp only [State.ptpPorts, hpart, henable]
  have herbest : t.ptpErbest = s.ptpErbest := funext h.erbest
  simp only [State.ptpBest, hports, herbest]

/-- A decision is the same before and after others. -/
theorem PtpDecided.decide (p : Nat) : t.ptpDecide p = s.ptpDecide p := by
  have hbest := h.best
  have herbest := h.erbest p
  obtain ⟨⟨l, hl⟩, hlinks⟩ := h
  obtain ⟨-, hdec⟩ := hlinks p
  have hclock : t.port.ptpClock = s.port.ptpClock := by rw [hl]
  have hserials : t.serials = s.serials := by rw [hl]
  have hconfig : (t.link p).ptp.config = (s.link p).ptp.config := by rw [hdec]
  unfold State.ptpDecide State.ptpOwn State.ptpIdentity
  rw [hbest, herbest, hclock, hserials]
  dsimp only
  rw [hconfig]

end

/-- After a run over some ports each of them is in the state of its decision. -/
theorem ptpSteps_decided (ps : List Nat) (s t : State) (h : PtpDecided s t) : PtpDecided s (ps.foldl ptpStep t) ∧
    ∀ p, p ∈ ps ∨ (t.link p).ptp.state = s.ptpDecide p → ((ps.foldl ptpStep t).link p).ptp.state = s.ptpDecide p := by
  induction ps generalizing t with
  | nil => exact ⟨h, fun p hp => hp.resolve_left (by simp)⟩
  | cons q ps ih =>
    obtain ⟨hstep, hstate, hother⟩ := ptpStep_decided q t
    obtain ⟨hrun, hall⟩ := ih (ptpStep t q) (h.trans hstep)
    refine ⟨hrun, fun p hp => hall p ?_⟩
    by_cases hpq : p = q
    · subst hpq
      exact Or.inr (hstate.trans (h.decide p))
    · rw [hother p hpq]
      exact hp.imp (fun hm => (List.mem_cons.mp hm).resolve_left hpq) id

theorem ptpRun_decided (s : State) : PtpDecided s (ptpRun s) := (ptpSteps_decided s.ptpPorts s s (.refl s)).1

theorem ptpRun_state (p : Nat) (s : State) (h : p ∈ s.ptpPorts) : ((ptpRun s).link p).ptp.state = s.ptpDecide p :=
  (ptpSteps_decided s.ptpPorts s s (.refl s)).2 p (Or.inl h)

theorem mem_ptpPorts_of_runs (p : Nat) (s : State) (h : s.ptpRuns p = true) : p ∈ s.ptpPorts := by
  simp only [State.ptpRuns, State.axLink, Bool.and_eq_true, decide_eq_true_eq] at h
  obtain ⟨⟨henable, -⟩, ⟨⟨hp, -⟩, -⟩, -⟩ := h
  simp [State.ptpPorts, hp, henable]

/-! ### Messages received -/

theorem sendPtp_link (p q : Nat) (m : PtpMsg) (s : State) : (sendPtp p m s).link q = s.link q := by
  unfold sendPtp
  extract_lets l
  split <;> rfl

/-- On a link that does not loop back a message leaves. -/
theorem sendPtp_mem (p : Nat) (m : PtpMsg) (s : State) (h : s.loopsBack (s.timingLport p) = false) :
    Out.ptp p m (s.macOf (s.timingLport p)) ∈ (sendPtp p m s).out := by
  unfold sendPtp
  rw [if_neg (by simp [h])]
  exact List.mem_cons_self

/-- The identity of the part stays outside the frames that name it. -/
theorem ident_of_frame {cs : List Mod} {s t : State} (h : OnlyIn cs s t) (hc : Mod.ident ∉ cs := by decide) :
    t.part = s.part ∧ t.variant = s.variant ∧ t.stepping = s.stepping ∧ t.serials = s.serials ∧ t.macBase = s.macBase ∧
    t.pending = s.pending :=
  h .ident (by decide) hc

theorem wireNow_link (p d q : Nat) (s : State) : (wireNow p d s).2.link q = s.link q := link_of_port (port_of_frame (wireNow_frame p d s)) q

theorem wireNow_time (p d : Nat) (s : State) : (wireNow p d s).2.time = s.time := time_of_frame (wireNow_frame p d s)

theorem timeValid_of_time {s t : State} (h : t.time = s.time) : t.timeValid = s.timeValid := by rw [State.timeValid, h]; rfl

theorem ptpReceive_ignored (p : Nat) (m : PtpMsg) (s : State)
    (h : s.ptpRuns p = false ∨ s.loopsBack (s.timingLport p) = true ∨ m.domain ≠ s.port.ptpClock.domain) : ptpReceive p m s = s := by
  refine if_pos ?_
  rcases h with h | h | h <;> simp [h]

section
variable {p : Nat} {m : PtpMsg} {s : State} (hruns : s.ptpRuns p = true) (hloop : s.loopsBack (s.timingLport p) = false)
  (hdom : m.domain = s.port.ptpClock.domain)
include hruns hloop hdom

/-- An Announce: the port counts it and hears it, and the states are decided. -/
theorem ptpReceive_announce (hk : m.kind = 11) : ∃ v, ptpReceive p m s = ptpRun ((wireNow p 1 s).2.setLink p { s.link p with ptp := v }) ∧
    v.announceRx = ((s.link p).ptp.announceRx + 1) % 2 ^ 32 ∧
    (m.identity ≠ s.ptpIdentity → ∃ f ∈ v.foreigns, f.sender = m.identity ∧ f.quality = m.quality ∧ f.steps = m.steps ∧
      f.times.head? = some s.time.mono) ∧
    (m.identity = s.ptpIdentity → v.foreigns = (s.link p).ptp.foreigns) := by
  have hown : (wireNow p 1 s).2.ptpIdentity = s.ptpIdentity := by
    obtain ⟨-, -, -, hserials, -⟩ := ident_of_frame (wireNow_frame p 1 s)
    rw [State.ptpIdentity, port_of_frame (wireNow_frame p 1 s), hserials]
    rfl
  unfold ptpReceive
  rw [if_neg (by simp [hruns, hloop, hdom])]
  simp only [hk, wireNow_link, wireNow_time, hown]
  by_cases hself : m.identity = s.ptpIdentity
  · exact ⟨{ (s.link p).ptp with announceRx := ((s.link p).ptp.announceRx + 1) % 2 ^ 32 }, by rw [if_pos hself], rfl,
      fun h => absurd hself h, fun _ => rfl⟩
  · exact ⟨PtpPort.hear { (s.link p).ptp with announceRx := ((s.link p).ptp.announceRx + 1) % 2 ^ 32 } s.time.mono m,
      by rw [if_neg hself], rfl, fun _ => ⟨_, List.mem_cons_self, rfl, rfl, rfl, rfl⟩, fun h => absurd h hself⟩

/-- A Sync at a port that is no slave is counted. -/
theorem ptpReceive_syncElsewhere (hk : m.kind = 0) (hst : (s.link p).ptp.state ≠ 9) : ptpReceive p m s =
    (wireNow p 1 s).2.setLink p { s.link p with ptp := { (s.link p).ptp with syncRx := ((s.link p).ptp.syncRx + 1) % 2 ^ 32 } } := by
  unfold ptpReceive
  rw [if_neg (by simp [hruns, hloop, hdom])]
  simp only [hk, wireNow_link, if_pos hst]

/-- A one-step Sync at a slave is taken with its receive stamp. -/
theorem ptpReceive_syncTaken (hk : m.kind = 0) (hone : m.twoStep = false) (hst : (s.link p).ptp.state = 9) (t1 : AT80)
    (ht : ofPtp m = some t1) : ptpReceive p m s = (wireNow p 1 s).2.setLink p { s.link p with ptp := { (s.link p).ptp with
      syncRx := ((s.link p).ptp.syncRx + 1) % 2 ^ 32, sync := some ((t1.toNat : Int), (wireNow p 1 s).1), awaiting := none } } := by
  unfold ptpReceive
  rw [if_neg (by simp [hruns, hloop, hdom])]
  simp only [hk, wireNow_link, hst, hone, ht, ne_eq, not_true_eq_false, if_false, Bool.false_eq_true]

/-- One whose time is out of range counts as bad. -/
theorem ptpReceive_syncBad (hk : m.kind = 0) (hone : m.twoStep = false) (hst : (s.link p).ptp.state = 9) (ht : ofPtp m = none) :
    ptpReceive p m s = (wireNow p 1 s).2.setLink p { s.link p with ptp := { (s.link p).ptp with
      badMsg := ((s.link p).ptp.badMsg + 1) % 2 ^ 32 } } := by
  unfold ptpReceive
  rw [if_neg (by simp [hruns, hloop, hdom])]
  simp only [hk, wireNow_link, hst, hone, ht, ne_eq, not_true_eq_false, if_false, Bool.false_eq_true]

/-- A Delay_Req at a master of valid time is answered. -/
theorem ptpReceive_request (hk : m.kind = 1) (hst : (s.link p).ptp.state = 6) (htv : s.timeValid = true) :
    ptpReceive p m s = sendPtp p (withStamp { ptpMsgOf (wireNow p 1 s).2 9 m.sequence with correction := m.correction } (wireNow p 1 s).1)
      (wireNow p 1 s).2 := by
  have hvalid : (wireNow p 1 s).2.timeValid = true := (timeValid_of_time (wireNow_time p 1 s)).trans htv
  unfold ptpReceive
  rw [if_neg (by simp [hruns, hloop, hdom])]
  simp only [hk, wireNow_link]
  exact if_neg (by simp [hst, hvalid])

theorem ptpReceive_requestElsewhere (hk : m.kind = 1) (h : (s.link p).ptp.state ≠ 6 ∨ s.timeValid = false) :
    ptpReceive p m s = (wireNow p 1 s).2 := by
  unfold ptpReceive
  rw [if_neg (by simp [hruns, hloop, hdom])]
  simp only [hk, wireNow_link]
  exact if_pos (h.imp_right (fun h => (timeValid_of_time (wireNow_time p 1 s)).trans h))

/-- The response to a slave's request completes the pair. -/
theorem ptpReceive_response (hk : m.kind = 9) (hst : (s.link p).ptp.state = 9) (t3 : AT80) (e : Int × AT80) (t4 : AT80)
    (hreq : (s.link p).ptp.delayReq = some (m.sequence, t3)) (hsync : (s.link p).ptp.sync = some e) (ht : ofPtp m = some t4) :
    ptpReceive p m s = ptpDone p (BitVec.ofInt 80 e.1) e.2 t3 t4 (wireNow p 1 s).2 := by
  unfold ptpReceive
  rw [if_neg (by simp [hruns, hloop, hdom])]
  simp only [hk, wireNow_link, hreq, hsync, ht]
  exact if_pos ⟨hst, trivial⟩

end

/-- AX_RESUMED ends the silence of a link and changes nothing else of it. -/
theorem resumeTime_link (p : Nat) (s : State) : (resumeTime p s).link p = { s.link p with silent := false } := by
  unfold resumeTime
  extract_lets k
  cases hs : k.silent with
  | true => rw [if_pos rfl, raiseAt_link, link_setLink_same]
  | false =>
    rw [if_neg (by decide)]
    show k = { k with silent := false }
    rw [← hs]

theorem resumeTime_frame (p : Nat) (s : State) : OnlyIn [.port] s (resumeTime p s) := by
  unfold resumeTime
  extract_lets k
  exact frame_ite (frame_raiseAt _ _ _ _ (setLink_frame p _ s)) (frame_refl _ s)

/-- A completed pair: the silence ends, the port notes the pair, and the offset reaches the Almanac. -/
theorem ptpDone_eq (p : Nat) (t1 t2 t3 t4 : AT80) (s : State) : ∃ d theta back w, OnlyIn [] s w ∧ ptpDone p t1 t2 t3 t4 s =
    portEstimate p theta back ((resumeTime p w).setLink p { (resumeTime p w).link p with ptp := { ((resumeTime p w).link p).ptp with
      meanDelay := d, offset := theta, lastDone := some (resumeTime p w).time.mono, delayReq := none } }) := by
  have hdelay := openDiv_frame ((t2 - t1) + (t4 - t3)).toInt 2 s
  unfold ptpDone
  extract_lets twice
  generalize openDiv twice 2 s = x at hdelay ⊢
  obtain ⟨d, v⟩ := x
  have hrx := rxDelay_frame d (v.link p).coef v
  dsimp only
  generalize rxDelay d (v.link p).coef v = y at hrx ⊢
  obtain ⟨drx, w⟩ := y
  exact ⟨d, _, _, w, frame_step hdelay hrx, rfl⟩

/-- It is remembered with its instant, and no request is in flight. -/
theorem ptpDone_link (p : Nat) (t1 t2 t3 t4 : AT80) (s : State) : ((ptpDone p t1 t2 t3 t4 s).link p).ptp.lastDone = some s.time.mono ∧
    ((ptpDone p t1 t2 t3 t4 s).link p).ptp.delayReq = none ∧ ((ptpDone p t1 t2 t3 t4 s).link p).silent = false := by
  obtain ⟨d, theta, back, w, hfrom, hrun⟩ := ptpDone_eq p t1 t2 t3 t4 s
  have htime : (resumeTime p w).time = s.time := (time_of_frame (resumeTime_frame p w)).trans (time_of_frame hfrom)
  rw [hrun, link_of_port (port_of_frame (portEstimate_frame _ _ _ _)), link_setLink_same, resumeTime_link, htime]
  exact ⟨rfl, rfl, rfl⟩

/-! ### Messages sent -/

/-- A port's messages leave two states alike: by the same logical port, with the same source, and both times or neither into a loop. -/
def SendsAlike (p : Nat) (s t : State) : Prop :=
  t.macBase = s.macBase ∧ t.port.breakout = s.port.breakout ∧ t.port.lports = s.port.lports ∧ (t.link p).confLane = (s.link p).confLane

theorem SendsAlike.trans {p : Nat} {s t u : State} (hst : SendsAlike p s t) (htu : SendsAlike p t u) : SendsAlike p s u := by
  obtain ⟨h1, h2, h3, h4⟩ := hst
  obtain ⟨k1, k2, k3, k4⟩ := htu
  exact ⟨k1.trans h1, k2.trans h2, k3.trans h3, k4.trans h4⟩

theorem sendsAlike_of_frame (p : Nat) {s t : State} (h : OnlyIn [] s t) : SendsAlike p s t := by
  obtain ⟨-, -, -, -, hmac, -⟩ := ident_of_frame h
  have hport := port_of_frame h
  exact ⟨hmac, by rw [hport], by rw [hport], by rw [link_of_port hport]⟩

theorem sendsAlike_setLink (p : Nat) (v : Link) (s : State) (h : v.confLane = (s.link p).confLane) : SendsAlike p s (s.setLink p v) :=
  ⟨rfl, rfl, rfl, by rw [link_setLink_same]; exact h⟩

theorem PtpDecided.sendsAlike {s t : State} (h : PtpDecided s t) (p : Nat) : SendsAlike p s t := by
  obtain ⟨⟨l, hl⟩, hlinks⟩ := h
  obtain ⟨hlink, -⟩ := hlinks p
  exact ⟨by rw [hl], by rw [hl], by rw [hl], by rw [hlink]⟩

theorem SendsAlike.timingLport {p : Nat} {s t : State} (h : SendsAlike p s t) : t.timingLport p = s.timingLport p := by
  obtain ⟨-, hbreak, -, hconf⟩ := h
  simp only [State.timingLport, State.lportOfLane, State.breakout, hbreak, hconf]

theorem SendsAlike.loopsBack {p : Nat} {s t : State} (h : SendsAlike p s t) (l : Nat) : t.loopsBack l = s.loopsBack l := by
  obtain ⟨-, -, htypes, -⟩ := h
  unfold State.loopsBack State.lp
  rw [htypes]

theorem sendPtp_keeps (p : Nat) (m : PtpMsg) {s : State} {o : Out} (h : o ∈ s.out) : o ∈ (sendPtp p m s).out := by
  unfold sendPtp
  extract_lets l
  split
  · exact h
  · exact List.mem_cons_of_mem _ h

/-- What a state alike sends carries the same source. -/
theorem SendsAlike.sent {p : Nat} {s t : State} (h : SendsAlike p s t) (m : PtpMsg) (hloop : s.loopsBack (s.timingLport p) = false) :
    Out.ptp p m (s.macOf (s.timingLport p)) ∈ (sendPtp p m t).out := by
  have hport := h.timingLport
  have hmem := sendPtp_mem p m t (by rw [hport, h.loopsBack, hloop])
  obtain ⟨hmac, -⟩ := h
  simpa only [hport, State.macOf, hmac] using hmem

section
variable {p : Nat} {s : State} (hruns : s.ptpRuns p = true)
include hruns

theorem ptpRun_port : ((ptpRun s).link p).ptp.state = s.ptpDecide p ∧ (ptpRun s).timeValid = s.timeValid :=
  ⟨ptpRun_state p s (mem_ptpPorts_of_runs p s hruns), timeValid_of_time (time_of_frame (ptpRun_frame s))⟩

theorem ptpSend_syncStays (h : s.ptpDecide p ≠ 6 ∨ s.timeValid = false) : ptpSend p 0 s = ptpRun s := by
  obtain ⟨hstate, hvalid⟩ := ptpRun_port hruns
  unfold ptpSend
  rw [if_neg (by simp [hruns])]
  exact if_pos (by rw [hstate, hvalid]; exact h)

theorem ptpSend_requestStays (h : s.ptpDecide p ≠ 9) : ptpSend p 1 s = ptpRun s := by
  obtain ⟨hstate, -⟩ := ptpRun_port hruns
  unfold ptpSend
  rw [if_neg (by simp [hruns])]
  exact if_pos (by rw [hstate]; exact h)

theorem ptpSend_announceStays (h : s.ptpDecide p ≠ 6) : ptpSend p 11 s = ptpRun s := by
  obtain ⟨hstate, -⟩ := ptpRun_port hruns
  unfold ptpSend
  rw [if_neg (by simp [hruns])]
  exact if_pos (by rw [hstate]; exact h)

/-- A master sends Sync while time is valid, in one step or with a Follow_Up. -/
theorem ptpSend_sync (h6 : s.ptpDecide p = 6) (htv : s.timeValid = true) :
    ((ptpSend p 0 s).link p).ptp.txSeq = (s.link p).ptp.txSeq + 1 ∧ (s.loopsBack (s.timingLport p) = false →
      ∃ r, Out.ptp p r (s.macOf (s.timingLport p)) ∈ (ptpSend p 0 s).out ∧ r.kind = 0 ∧ r.sequence = (s.link p).ptp.txSeq ∧
        r.twoStep = (s.link p).ptp.twoStep) := by
  obtain ⟨hstate, hvalid⟩ := ptpRun_port hruns
  have hdec := ptpRun_decided s
  obtain ⟨-, hport⟩ := hdec.2 p
  have hseq : ((ptpRun s).link p).ptp.txSeq = (s.link p).ptp.txSeq := by rw [hport]
  have htwo : ((ptpRun s).link p).ptp.twoStep = (s.link p).ptp.twoStep := by rw [hport]
  have halike : SendsAlike p s ((wireNow p 0 (ptpRun s)).2.setLink p { (ptpRun s).link p with ptp := { ((ptpRun s).link p).ptp with
      txSeq := ((ptpRun s).link p).ptp.txSeq + 1 } }) :=
    (hdec.sendsAlike p).trans ((sendsAlike_of_frame p (wireNow_frame p 0 (ptpRun s))).trans
      (sendsAlike_setLink p _ _ (by rw [wireNow_link])))
  unfold ptpSend
  rw [if_neg (by simp [hruns])]
  simp only []
  rw [if_neg (by simp [hstate, hvalid, h6, htv])]
  generalize hy : (wireNow p 0 (ptpRun s)).2.setLink p _ = y at halike ⊢
  have hlink : (y.link p).ptp.txSeq = (s.link p).ptp.txSeq + 1 := by rw [← hy, link_setLink_same, hseq]
  split
  · refine ⟨by rw [sendPtp_link, sendPtp_link, hlink], fun hloop => ⟨_, sendPtp_keeps p _ (halike.sent _ hloop), rfl, hseq, ?_⟩⟩
    rw [← htwo]
    exact ‹((ptpRun s).link p).ptp.twoStep = true›.symm
  · refine ⟨by rw [sendPtp_link, hlink], fun hloop => ⟨_, halike.sent _ hloop, rfl, hseq, ?_⟩⟩
    rw [← htwo]
    exact (Bool.eq_false_iff.mpr ‹_›).symm

/-- A slave sends Delay_Req. -/
theorem ptpSend_request (h9 : s.ptpDecide p = 9) : ((ptpSend p 1 s).link p).ptp.delayReq = some ((s.link p).ptp.delaySeq, (wireNow p 0 s).1) ∧
    ((ptpSend p 1 s).link p).ptp.delaySeq = (s.link p).ptp.delaySeq + 1 ∧
    ((ptpSend p 1 s).link p).ptp.delayReqTx = ((s.link p).ptp.delayReqTx + 1) % 2 ^ 32 := by
  obtain ⟨hstate, -⟩ := ptpRun_port hruns
  obtain ⟨⟨l, hl⟩, hlinks⟩ := ptpRun_decided s
  obtain ⟨hlink, hport⟩ := hlinks p
  have hwire : (wireNow p 0 (ptpRun s)).1 = (wireNow p 0 s).1 :=
    wireNow_congr 0 (by rw [hl]) (by rw [hl]) (by rw [hl]) (by rw [hl]) (by rw [hl]) (by rw [hlink]) (by rw [hlink]) (by rw [hlink])
  unfold ptpSend
  rw [if_neg (by simp [hruns])]
  simp only []
  rw [if_neg (by simp [hstate, h9]), sendPtp_link, link_setLink_same, hwire, hport]
  exact ⟨rfl, rfl, rfl⟩

/-- A master sends Announce. -/
theorem ptpSend_announce (h6 : s.ptpDecide p = 6) : ((ptpSend p 11 s).link p).ptp.announceSeq = (s.link p).ptp.announceSeq + 1 ∧
    (s.loopsBack (s.timingLport p) = false → ∃ r, Out.ptp p r (s.macOf (s.timingLport p)) ∈ (ptpSend p 11 s).out ∧ r.kind = 11 ∧
      r.sequence = (s.link p).ptp.announceSeq) := by
  obtain ⟨hstate, -⟩ := ptpRun_port hruns
  have hdec := ptpRun_decided s
  obtain ⟨-, hport⟩ := hdec.2 p
  have hseq : ((ptpRun s).link p).ptp.announceSeq = (s.link p).ptp.announceSeq := by rw [hport]
  have halike : SendsAlike p s ((ptpRun s).setLink p { (ptpRun s).link p with ptp := { ((ptpRun s).link p).ptp with
      announceSeq := ((ptpRun s).link p).ptp.announceSeq + 1 } }) := (hdec.sendsAlike p).trans (sendsAlike_setLink p _ _ rfl)
  unfold ptpSend
  rw [if_neg (by simp [hruns])]
  simp only []
  rw [if_neg (by simp [hstate, h6])]
  exact ⟨by rw [sendPtp_link, link_setLink_same, hseq], fun hloop => ⟨_, halike.sent _ hloop, rfl, hseq⟩⟩

end

/-! ### O54 -/

/-- Settles O54: what the messages a PTP port takes and sends leave of it. The port states, the handling of messages and the choice of the
best master are presumed by the log's entry 41. -/
theorem ptpPortsFollowTheirStates : Obligations.PtpPortsFollowTheirStates := by
  intro dt p m s u k v
  refine ⟨fun h => leads_of rfl (ptpReceive_ignored p m u h), fun h kind => leads_of rfl (if_pos (by rw [h]; rfl)), fun hruns hloop hdom => ?_,
    fun hruns => ?_⟩
  · refine ⟨fun hk => ?_, fun t1 hk hone hst ht => ?_, fun hk hone hst ht => ?_, fun hk hst => ?_, fun hk hst htv => ?_, fun hk h => ?_,
      fun t3 e t4 hk hst hreq hsync ht => ?_⟩
    · obtain ⟨x, hrun, hcount, hheard, hself⟩ := ptpReceive_announce hruns hloop hdom hk
      refine runs_of (f := ptpReceive p m) rfl ?_
      obtain ⟨-, hport⟩ := (ptpRun_decided ((wireNow p 1 u).2.setLink p { u.link p with ptp := x })).2 p
      rw [link_setLink_same] at hport
      rw [finish_link, hrun, hport]
      exact ⟨hcount, hheard, hself⟩
    · refine runs_of (f := ptpReceive p m) rfl ?_
      rw [finish_link, ptpReceive_syncTaken hruns hloop hdom hk hone hst t1 ht, link_setLink_same]
      exact ⟨rfl, rfl, rfl⟩
    · refine runs_of (f := ptpReceive p m) rfl ?_
      rw [finish_link, ptpReceive_syncBad hruns hloop hdom hk hone hst ht, link_setLink_same]
      exact ⟨rfl, rfl⟩
    · refine runs_of (f := ptpReceive p m) rfl ?_
      rw [finish_link, ptpReceive_syncElsewhere hruns hloop hdom hk hst, link_setLink_same]
      exact ⟨rfl, rfl⟩
    · refine runs_of (f := ptpReceive p m) rfl ?_
      have halike : SendsAlike p u (wireNow p 1 u).2 := sendsAlike_of_frame p (wireNow_frame p 1 u)
      rw [finish_link, ptpReceive_request hruns hloop hdom hk hst htv, sendPtp_link, wireNow_link]
      refine ⟨rfl, _, finish_keeps_out (halike.sent _ hloop), rfl, rfl, ?_⟩
      exact congrArg (fun x => x.ptpClock.domain) (port_of_frame (wireNow_frame p 1 u))
    · refine runs_of (f := ptpReceive p m) rfl ?_
      rw [finish_link, ptpReceive_requestElsewhere hruns hloop hdom hk h, wireNow_link]
    · refine runs_of (f := ptpReceive p m) rfl ?_
      obtain ⟨hdone, hnone, hheard⟩ := ptpDone_link p (BitVec.ofInt 80 e.1) e.2 t3 t4 (wireNow p 1 u).2
      rw [finish_link, ptpReceive_response hruns hloop hdom hk hst t3 e t4 hreq hsync ht]
      exact ⟨hdone.trans (by rw [wireNow_time]), hnone, hheard⟩
  · intro x src
    refine ⟨(ptpRun_port hruns).1, fun h6 htv => ?_, fun h => leads_of rfl (ptpSend_syncStays hruns h), fun h9 => ?_,
      fun h => leads_of rfl (ptpSend_requestStays hruns h), fun h6 => ?_, fun h => leads_of rfl (ptpSend_announceStays hruns h)⟩
    · obtain ⟨hseq, hsent⟩ := ptpSend_sync hruns h6 htv
      refine runs_of (f := ptpSend p 0) rfl ?_
      rw [finish_link]
      refine ⟨hseq, fun hloop => ?_⟩
      obtain ⟨r, hr, hfacts⟩ := hsent hloop
      exact ⟨r, finish_keeps_out hr, hfacts⟩
    · refine runs_of (f := ptpSend p 1) rfl ?_
      rw [finish_link]
      exact ptpSend_request hruns h9
    · obtain ⟨hseq, hsent⟩ := ptpSend_announce hruns h6
      refine runs_of (f := ptpSend p 11) rfl ?_
      rw [finish_link]
      refine ⟨hseq, fun hloop => ?_⟩
      obtain ⟨r, hr, hfacts⟩ := hsent hloop
      exact ⟨r, finish_keeps_out hr, hfacts⟩

end Sys2Proof.Machine
end

section
/-! SUPPORT. Almanac messages: when they leave, what they echo, and what a completed exchange gives (R173 to R178). -/

namespace Sys2Proof.Machine

set_option Elab.async false

/-! ### The egress of a logical port -/

@[simp] theorem egress_setEgress_same (s : State) (l : Nat) (e : Egress) : (s.setEgress l e).egress l = e := tget_tput_same _ _ _ _

theorem egress_of_fwd {s t : State} (h : t.fwd = s.fwd) (l : Nat) : t.egress l = s.egress l := by rw [State.egress, h]; rfl

@[simp] theorem finish_egress (s : State) (l : Nat) : (finish s).egress l = s.egress l := egress_of_fwd (finish_fwd s) l

/-- The frame on the wire is counted once its end has passed, and is then no longer there. -/
theorem land_cases (l : Nat) (s : State) :
    land l s = s ∨ ∃ c, land l s = { s.setEgress l { s.egress l with flight := none } with ctr := c } := by
  unfold land
  extract_lets e w
  split
  · exact Or.inl rfl
  · next f _ =>
    by_cases hend : s.time.mono < e.endAt
    · exact Or.inl (if_pos hend)
    · refine Or.inr ?_
      rw [if_neg hend]
      extract_lets c n b
      obtain ⟨x1, h1⟩ := countBy_ctr c 2 l 0 1 w
      obtain ⟨x2, h2⟩ := countBy_ctr c 2 l 1 n { w with ctr := x1 }
      obtain ⟨x3, h3⟩ := countBy_ctr c 2 l (castIndex f.data) 1 { w with ctr := x2 }
      obtain ⟨x4, h4⟩ := countClass_ctr c 4 20 l e.cls 0 1 { w with ctr := x3 }
      obtain ⟨x5, h5⟩ := countClass_ctr c 4 20 l e.cls 1 n { w with ctr := x4 }
      refine ⟨x5, ?_⟩
      rw [show b = { w with ctr := x3 } by unfold b; rw [h1, h2, h3], h4, h5]

/-- Landing changes the flights alone of what lies behind the queues. -/
theorem land_fwd (l : Nat) (s : State) : ∃ egress, (land l s).fwd = { s.fwd with egress := egress } ∧
    (land l s).egress l = { s.egress l with flight := ((land l s).egress l).flight } := by
  obtain h | ⟨c, h⟩ := land_cases l s
  · rw [h]
    exact ⟨s.fwd.egress, rfl, rfl⟩
  · rw [h]
    have hlanded : ({ s.setEgress l { s.egress l with flight := none } with ctr := c } : State).egress l =
        { s.egress l with flight := none } := egress_setEgress_same s l _
    exact ⟨tput s.fwd.egress l { s.egress l with flight := none }, rfl, by rw [hlanded]⟩

theorem land_freeIx (l : Nat) (s : State) : (land l s).freeIx = s.freeIx := by
  obtain h | ⟨c, h⟩ := land_cases l s
  · rw [h]
  · rw [h]
    rfl

/-! ### What a message carries -/

/-- A part of the hierarchy that neither the copies for the parent nor the instant of its loss show in. -/
theorem hierField_of_frame {α : Type} (g : HierState → α) {cs : List Mod} {s t : State} (h : OnlyIn cs s t)
    (hg : ∀ x, g { x with mirrorQ := [], noParentSince := none } = g x := by intro; rfl) (hc : Mod.hier ∉ cs := by decide) :
    g t.hier = g s.hier := by
  rw [← hg t.hier, ← hg s.hier]
  exact congrArg g (h .hier (by decide) hc)

/-- The bytes of an AX message hang on the identity, the time, the hierarchy, the EtherType and the link. -/
theorem axBytes_congr {s t : State} {p : Nat} (stamp : AT80) (hfrom : OnlyIn [.fwd, .port, .ctr] s t) (het : t.fwd.etAx = s.fwd.etAx)
    (hbreak : t.port.breakout = s.port.breakout) (hconf : (t.link p).confLane = (s.link p).confLane)
    (hecho : (t.link p).echo = (s.link p).echo) (hseq : (t.link p).axSeq = (s.link p).axSeq)
    (hact : (t.link p).activeLane = (s.link p).activeLane) : axBytes t p stamp = axBytes s p stamp := by
  obtain ⟨-, -, -, -, hmac, -⟩ := ident_of_frame hfrom
  have hport : t.timingLport p = s.timingLport p := by simp only [State.timingLport, State.lportOfLane, State.breakout, hbreak, hconf]
  have hmacOf : t.macOf = s.macOf := by funext l; simp only [State.macOf, hmac]
  have hcand : t.hier.candidates = s.hier.candidates := hierField_of_frame HierState.candidates hfrom
  have hrole : t.hier.role = s.hier.role := hierField_of_frame HierState.role hfrom
  have hnode : t.hier.node = s.hier.node := hierField_of_frame HierState.node hfrom
  have hoffers : t.offersTime p = s.offersTime p := by
    have hcands : t.candPort = s.candPort := by
      funext i
      unfold State.candPort State.refEntry
      rw [ref_of_frame hfrom, hcand]
    simp only [State.offersTime, State.isCandidate, hcands, hrole]
  simp only [axBytes, hport, hmacOf, het, timeValid_of_time (time_of_frame hfrom), hecho, hoffers, hact, hseq, hnode]

/-! ### When a message leaves -/

theorem axTry_waits (p : Nat) (s : State)
    (h : (s.link p).axDue = false ∨ s.time.mono < (s.egress (s.timingLport p)).freeAt ∨ s.axBarred (s.timingLport p) = true) :
    axTry p s = s := by
  unfold axTry
  refine if_neg ?_
  rcases h with h | h | h
  · simp [h]
  · simp [Nat.not_le.mpr h]
  · simp [h]

theorem axTry_goes (p : Nat) (s : State) (hdue : (s.link p).axDue = true) (hen : (s.link p).axEnable = true) (hlink : s.axLink p = true)
    (hfree : (s.egress (s.timingLport p)).freeAt ≤ s.time.mono) (hopen : s.axBarred (s.timingLport p) = false) : axTry p s = axGo p s := by
  unfold axTry
  exact if_pos (by simp [hdue, hen, hlink, hfree, hopen])

/-- A message that leaves takes the next SEQUENCE, with the stamp of its own start, and keeps the wire busy for its time. -/
theorem axGo_sends (p : Nat) (s : State) (hloop : s.loopsBack (s.timingLport p) = false) :
    (axGo p s).link p = { s.link p with axSeq := (s.link p).axSeq + 1, axSent := (s.link p).axSent + 1, axDue := false } ∧
    Out.ax p (axBytes s p (wireNow p 0 s).1) ∈ (axGo p s).out ∧
    ((axGo p s).egress (s.timingLport p)).freeAt = s.time.mono + frameTime (s.gbps (s.timingLport p)) 64 := by
  unfold axGo
  extract_lets l
  have hland : OnlyIn [.fwd, .ctr] s (land l s) := land_frame l s
  obtain ⟨egress, hfwd, -⟩ := land_fwd l s
  have hport : (land l s).port = s.port := port_of_frame hland
  have hstamp : (wireNow p 0 (land l s)).1 = (wireNow p 0 s).1 := by
    apply wireNow_congr 0 (land_freeIx l s) (time_of_frame hland) (cal_of_frame hland) <;> simp only [State.link, hport]
  have hwire := wireNow_frame p 0 (land l s)
  have hbytes : axBytes (wireNow p 0 (land l s)).2 p (wireNow p 0 (land l s)).1 = axBytes s p (wireNow p 0 s).1 := by
    have hwport : (wireNow p 0 (land l s)).2.port = s.port := (port_of_frame hwire).trans hport
    rw [hstamp]
    apply axBytes_congr _ (frame_then hland hwire) (by rw [fwd_of_frame hwire, hfwd]) <;> simp only [State.link, hwport]
  generalize hx : wireNow p 0 (land l s) = x at hwire hbytes hstamp ⊢
  obtain ⟨t, w⟩ := x
  have hw : OnlyIn [.fwd, .ctr] s w := frame_step hland hwire
  dsimp only at hbytes ⊢
  rw [hbytes]
  have hsend : OnlyIn [.fwd, .ctr] s (countTime p 0 (sendFrame l (.ax p (axBytes s p (wireNow p 0 s).1)) (axBytes s p (wireNow p 0 s).1) w)) :=
    frame_step (frame_step hw (sendFrame_frame _ _ _ _)) (countTime_frame _ _ _)
  have hout : Out.ax p (axBytes s p (wireNow p 0 s).1) ∈
      (countTime p 0 (sendFrame l (.ax p (axBytes s p (wireNow p 0 s).1)) (axBytes s p (wireNow p 0 s).1) w)).out := by
    rw [countTime_out]
    unfold sendFrame
    have hlps : w.loopsBack l = false := by
      rw [State.loopsBack, State.lp, port_of_frame hw]
      exact hloop
    rw [if_neg (by simp [hlps])]
    exact List.mem_cons_self
  generalize countTime p 0 (sendFrame l (.ax p (axBytes s p (wireNow p 0 s).1)) (axBytes s p (wireNow p 0 s).1) w) = v at hsend hout
  have hgbps : v.gbps l = s.gbps l := by rw [State.gbps, State.lp, port_of_frame hsend]; rfl
  refine ⟨?_, hout, ?_⟩
  · rw [link_setLink_same]
    have hlink : (v.setEgress l { v.egress l with freeAt := v.time.mono + frameTime (v.gbps l) 64 }).link p = s.link p :=
      link_of_port (port_of_frame hsend) p
    rw [hlink]
  · show (((v.setEgress l { v.egress l with freeAt := v.time.mono + frameTime (v.gbps l) 64 })).egress l).freeAt = _
    rw [egress_setEgress_same, hgbps, time_of_frame hsend]

/-! ### A completed exchange -/

theorem openRound_frame (a : Int) (b : Nat) (s : State) : OnlyIn [] s (openRound a b s).2 := by
  unfold openRound
  split
  · exact frame_refl _ s
  · split
    · exact drawBit_frame s
    · exact frame_refl _ s

/-- N is resolved, and of the link only RAW, N, the count of misses and the phase change. -/
theorem resolveN_link (p : Nat) (raw target : Int) (s : State) : ∃ n theta, OnlyIn [.port] s (resolveN p raw target s) ∧
    (resolveN p raw target s).link p = { s.link p with n := n, raw := raw, resolved := true, miss := 0, thetaPh := theta } := by
  have hround := openRound_frame (target - raw) periodP.toNat s
  unfold resolveN
  generalize openRound (target - raw) periodP.toNat s = x at hround ⊢
  obtain ⟨n, w⟩ := x
  have hlink : w.link p = s.link p := link_of_port (port_of_frame hround) p
  refine ⟨n, raw + n * periodP, frame_step (frame_within hround) (setLink_frame p _ w), ?_⟩
  dsimp only
  rw [link_setLink_same, hlink]

/-- The check of N leaves of a link what is no matter of N; N is resolved after it once a phase has been sampled. -/
theorem checkN_link (p : Nat) (drx : Int) (s : State) : OnlyIn [.port, .ref, .ctr] s (checkN p drx s) ∧ ∃ n raw miss theta,
    (checkN p drx s).link p = { s.link p with
      n := n, raw := raw, miss := miss, thetaPh := theta, resolved := (s.link p).resolved || (s.link p).phi.isSome } := by
  unfold checkN
  extract_lets k target w
  by_cases hres : (s.link p).resolved = true
  · have hdone : ((s.link p).resolved || (s.link p).phi.isSome) = (s.link p).resolved := by simp [hres]
    rw [if_neg (by simp [k, hres]), hdone]
    split
    · exact ⟨frame_within (setLink_frame p _ s), k.n, k.raw, 0, k.thetaPh, link_setLink_same _ _ _⟩
    · split
      · exact ⟨frame_within (setLink_frame p _ s), k.n, k.raw, k.miss + 1, k.thetaPh, link_setLink_same _ _ _⟩
      · obtain ⟨n, theta, hfrom, hlink⟩ := resolveN_link p k.raw target s
        have hw : OnlyIn [.port, .ref, .ctr] s w := frame_raiseAt _ _ _ _ (frame_step (frame_within hfrom) (countTime_frame p 6 _))
        have hwlink : w.link p = { s.link p with n := n, raw := k.raw, miss := 0, thetaPh := theta, resolved := (s.link p).resolved } := by
          rw [raiseAt_link, link_of_port (countTime_port p 6 _), hlink, hres]
        refine ⟨frame_ite (frame_step hw (histFault_frame w)) hw, n, k.raw, 0, theta, ?_⟩
        split
        · rw [link_of_port (port_of_frame (histFault_frame w)), hwlink]
        · exact hwlink
  · rw [if_pos (by simp [k, hres])]
    cases hphi : k.phi with
    | none =>
      refine ⟨frame_refl _ s, k.n, k.raw, k.miss, k.thetaPh, ?_⟩
      show k = _
      rw [Option.isSome_none, Bool.or_false, ← hphi]
    | some phi =>
      obtain ⟨n, theta, hfrom, hlink⟩ := resolveN_link p (5 * drx - phi) target s
      exact ⟨frame_within hfrom, n, 5 * drx - phi, 0, theta, hlink.trans (by rw [Option.isSome_some, Bool.or_true, ← hphi])⟩

theorem exchange_bad (p : Nat) (t1 t2 t3 t4 : AT80) (tv : Bool) (s : State)
    (h : ((t4 - t1) - (t3 - t2)).toInt < 0 ∨ 2 * 65536000000 < ((t4 - t1) - (t3 - t2)).toInt) : exchange p t1 t2 t3 t4 tv s = countTime p 5 s :=
  if_pos h

/-- A completed exchange gives the delay to half a unit, ends the silence and resolves N where a phase has been sampled. -/
theorem exchange_link (p : Nat) (t1 t2 t3 t4 : AT80) (tv : Bool) (s : State)
    (h : ¬(((t4 - t1) - (t3 - t2)).toInt < 0 ∨ 2 * 65536000000 < ((t4 - t1) - (t3 - t2)).toInt)) :
    ∃ d theta n raw miss phase, (2 * d - ((t4 - t1) - (t3 - t2)).toInt).natAbs ≤ 1 ∧
      (exchange p t1 t2 t3 t4 tv s).link p = { s.link p with
        d := d, thetaX := theta, lastValid := some s.time.mono, lastTv := if tv then some s.time.mono else (s.link p).lastTv
        silent := false, n := n, raw := raw, miss := miss, thetaPh := phase
        resolved := (s.link p).resolved || (s.link p).phi.isSome } := by
  have hdelay := openDiv_frame ((t4 - t1) - (t3 - t2)).toInt 2 s
  have hnear := openDiv_near ((t4 - t1) - (t3 - t2)).toInt 2 s (by omega)
  unfold exchange
  extract_lets twice
  rw [if_neg h]
  generalize openDiv twice 2 s = x at hdelay hnear ⊢
  obtain ⟨d, v⟩ := x
  have hrx := rxDelay_frame d (v.link p).coef v
  dsimp only
  generalize rxDelay d (v.link p).coef v = y at hrx ⊢
  obtain ⟨drx, w⟩ := y
  have hw : OnlyIn [] s w := frame_step hdelay hrx
  have ha : (resumeTime p w).link p = { s.link p with silent := false } := by
    rw [resumeTime_link, link_of_port (port_of_frame hw)]
  have hmono : (resumeTime p w).time.mono = s.time.mono := by rw [time_of_frame (resumeTime_frame p w), time_of_frame hw]
  dsimp only
  generalize (t3 + BitVec.ofInt 80 drx - t4).toInt = theta
  generalize hc : (resumeTime p w).setLink p _ = c
  have hlink : c.link p = { s.link p with
      silent := false, d := d, thetaX := theta, lastValid := some s.time.mono
      lastTv := if tv then some s.time.mono else (s.link p).lastTv } := by
    rw [← hc, link_setLink_same, ha, hmono]
  obtain ⟨-, n, raw, miss, phase, hcheck⟩ := checkN_link p drx c
  refine ⟨d, theta, n, raw, miss, phase, by have := hnear; simp only [Nat.cast_ofNat] at this; omega, ?_⟩
  have hend : (if tv then portEstimate p theta (!w.portTime p) (checkN p drx c) else checkN p drx c).link p = (checkN p drx c).link p := by
    split
    · exact link_of_port (port_of_frame (portEstimate_frame _ _ _ _)) p
    · rfl
  rw [hlink] at hcheck
  exact hend.trans hcheck

/-! ### A message received -/

theorem workerHeard_frame (p : Nat) (s : State) : OnlyIn [.hier] s (workerHeard p s) := by
  unfold workerHeard
  split
  · exact frame_ite (frame_hier s _) (frame_refl _ s)
  · exact frame_refl _ s

/-- A message with a good FCS on a port without AX, and a frame that is no message, are counted. -/
theorem axTake_bad (p : Nat) (f : List Byte) (s : State) (h : f.length ≠ 64 ∨ f.drop 60 ≠ fcs (f.take 60) ∨ fld f 14 1 / 16 ≠ 1) :
    axTake p f s = countTime p 2 s := if_pos h

section
variable {p : Nat} {f : List Byte} {s : State} (hlen : f.length = 64) (hfcs : f.drop 60 = fcs (f.take 60)) (hver : fld f 14 1 / 16 = 1)
include hlen hfcs hver

theorem axTake_unexpected (hen : (s.link p).axEnable = false) : axTake p f s = countTime p 3 s := by
  unfold axTake
  rw [if_neg (by simp [hlen, hfcs, hver])]
  exact if_pos (by simp [hen])

/-- The state in which a message's own stamps stand ready to be echoed. -/
def heard (p : Nat) (f : List Byte) (s : State) : State :=
  let w := (wireNow p 1 (countTime p 1 s)).2
  workerHeard p (loopCheck p (w.setLink p { w.link p with
    echo := some (BitVec.ofNat 16 (fld f 16 2), BitVec.ofNat 80 (fld f 24 10), (wireNow p 1 (countTime p 1 s)).1), lastRx := some w.time.mono
    peerTv := bit (fld f 15 1) 7, peerMgr := bit (fld f 15 1) 5, peerNode := BitVec.ofNat 18 (fld f 20 4) }))

theorem axTake_eq (hen : (s.link p).axEnable = true) : axTake p f s =
    (if !bit (fld f 15 1) 6 then heard p f s
    else
      let back := sdiff (s.link p).axSeq (BitVec.ofNat 16 (fld f 18 2))
      if back < 1 ∨ 16 < back ∨ (s.link p).axSent < back.toNat then countTime p 4 (heard p f s)
      else exchange p (BitVec.ofNat 80 (fld f 34 10)) (BitVec.ofNat 80 (fld f 44 10)) (BitVec.ofNat 80 (fld f 24 10))
        (wireNow p 1 (countTime p 1 s)).1 (bit (fld f 15 1) 7) (heard p f s)) := by
  unfold axTake
  rw [if_neg (by simp [hlen, hfcs, hver])]
  exact if_neg (by simp [hen])

end

theorem wireNow_countTime (p d i : Nat) (s : State) : (wireNow p d (countTime p i s)).1 = (wireNow p d s).1 := by
  apply wireNow_congr d <;> simp [State.link]

theorem heard_link (p : Nat) (f : List Byte) (s : State) : (heard p f s).link p = { s.link p with
    echo := some (BitVec.ofNat 16 (fld f 16 2), BitVec.ofNat 80 (fld f 24 10), (wireNow p 1 s).1), lastRx := some s.time.mono
    peerTv := bit (fld f 15 1) 7, peerMgr := bit (fld f 15 1) 5, peerNode := BitVec.ofNat 18 (fld f 20 4) } := by
  have hw : OnlyIn [.ctr] s (wireNow p 1 (countTime p 1 s)).2 := frame_step (countTime_frame p 1 s) (wireNow_frame p 1 _)
  unfold heard
  dsimp only
  rw [link_of_port (port_of_frame (workerHeard_frame p _)), link_of_port (port_of_frame (loopCheck_frame p _)), link_setLink_same,
    link_of_port (port_of_frame hw), time_of_frame hw, wireNow_countTime]

theorem heard_time (p : Nat) (f : List Byte) (s : State) : (heard p f s).time = s.time := by
  have hw : OnlyIn [.ctr] s (wireNow p 1 (countTime p 1 s)).2 := frame_step (countTime_frame p 1 s) (wireNow_frame p 1 _)
  unfold heard
  dsimp only
  rw [time_of_frame (workerHeard_frame p _), time_of_frame (loopCheck_frame p _), State.setLink_time, time_of_frame hw]

/-- Twice the delay that a message's own stamps give (R176). -/
def twiceDelay (p : Nat) (f : List Byte) (s : State) : Int :=
  (((wireNow p 1 s).1 - BitVec.ofNat 80 (fld f 34 10)) - (BitVec.ofNat 80 (fld f 24 10) - BitVec.ofNat 80 (fld f 44 10))).toInt

section
variable {p : Nat} {f : List Byte} {s : State} (hlen : f.length = 64) (hfcs : f.drop 60 = fcs (f.take 60)) (hver : fld f 14 1 / 16 = 1)
  (hen : (s.link p).axEnable = true)
include hlen hfcs hver hen

/-- What completes no exchange leaves the stamps alone behind. -/
theorem axTake_short (h : bit (fld f 15 1) 6 = false ∨ sdiff (s.link p).axSeq (BitVec.ofNat 16 (fld f 18 2)) < 1 ∨
    16 < sdiff (s.link p).axSeq (BitVec.ofNat 16 (fld f 18 2)) ∨
    (s.link p).axSent < (sdiff (s.link p).axSeq (BitVec.ofNat 16 (fld f 18 2))).toNat ∨ twiceDelay p f s < 0 ∨
    131072000000 < twiceDelay p f s) : (axTake p f s).link p = (heard p f s).link p := by
  rw [axTake_eq hlen hfcs hver hen, wireNow_countTime]
  dsimp only
  split
  · rfl
  · next hecho =>
    split
    · exact link_of_port (countTime_port p 4 _) p
    · next hback =>
      rw [exchange_bad]
      · exact link_of_port (countTime_port p 5 _) p
      · have hecho' : bit (fld f 15 1) 6 = true := by simpa using hecho
        simp only [hecho', Bool.true_eq_false, false_or] at h
        obtain ⟨h1, h16, hsent⟩ := not_or.mp hback |>.imp id not_or.mp
        exact ((h.resolve_left h1).resolve_left h16).resolve_left hsent

/-- What completes one gives the delay, resolves N where it can and ends the silence. -/
theorem axTake_complete (hecho : bit (fld f 15 1) 6 = true) (h1 : 1 ≤ sdiff (s.link p).axSeq (BitVec.ofNat 16 (fld f 18 2)))
    (h16 : sdiff (s.link p).axSeq (BitVec.ofNat 16 (fld f 18 2)) ≤ 16)
    (hsent : (sdiff (s.link p).axSeq (BitVec.ofNat 16 (fld f 18 2))).toNat ≤ (s.link p).axSent) (hlow : 0 ≤ twiceDelay p f s)
    (hhigh : twiceDelay p f s ≤ 131072000000) :
    ∃ d theta n raw miss phase, (2 * d - twiceDelay p f s).natAbs ≤ 1 ∧ (axTake p f s).link p = { (heard p f s).link p with
      d := d, thetaX := theta, lastValid := some s.time.mono
      lastTv := if bit (fld f 15 1) 7 then some s.time.mono else ((heard p f s).link p).lastTv, silent := false, n := n, raw := raw
      miss := miss, thetaPh := phase, resolved := ((heard p f s).link p).resolved || ((heard p f s).link p).phi.isSome } := by
  rw [axTake_eq hlen hfcs hver hen, wireNow_countTime, ← heard_time p f s]
  dsimp only
  rw [if_neg (by simp [hecho]), if_neg (by omega)]
  exact exchange_link p _ _ _ _ _ (heard p f s) (by change ¬(twiceDelay p f s < 0 ∨ 2 * 65536000000 < twiceDelay p f s); omega)

end

/-! ### O53 -/

theorem axSendNow_off (p : Nat) (s : State) (h : (s.link p).axEnable = false ∨ s.axLink p = false) : axSendNow p s = s := by
  refine if_pos ?_
  rcases h with h | h <;> simp [h]

theorem axSendNow_on (p : Nat) (s : State) (hen : (s.link p).axEnable = true) (hlink : s.axLink p = true) :
    axSendNow p s = axTry p (if s.axInstant p then s.setLink p { s.link p with axDue := true } else s) := if_neg (by simp [hen, hlink])

/-- Where the wire or the calendar bars it, a message that falls due waits. -/
theorem axSendNow_barred (p : Nat) (s : State) (hen : (s.link p).axEnable = true) (hlink : s.axLink p = true)
    (h : s.time.mono < (s.egress (s.timingLport p)).freeAt ∨ s.axBarred (s.timingLport p) = true) :
    axSendNow p s = if s.axInstant p then s.setLink p { s.link p with axDue := true } else s := by
  rw [axSendNow_on p s hen hlink]
  split
  · have halike := sendsAlike_setLink p { s.link p with axDue := true } s rfl
    refine axTry_waits p _ (Or.inr ?_)
    rw [halike.timingLport]
    exact h
  · exact axTry_waits p s (Or.inr h)

/-- Once due, with the wire free and no window in the way, the message leaves. -/
theorem axSendNow_sends (p : Nat) (s : State) (hen : (s.link p).axEnable = true) (hlink : s.axLink p = true)
    (hdue : (s.link p).axDue = true ∨ s.axInstant p = true) (hfree : (s.egress (s.timingLport p)).freeAt ≤ s.time.mono)
    (hopen : s.axBarred (s.timingLport p) = false) (hloop : s.loopsBack (s.timingLport p) = false) :
    (axSendNow p s).link p = { s.link p with axSeq := (s.link p).axSeq + 1, axSent := (s.link p).axSent + 1, axDue := false } ∧
    Out.ax p (axBytes s p (wireNow p 0 s).1) ∈ (axSendNow p s).out ∧
    ((axSendNow p s).egress (s.timingLport p)).freeAt = s.time.mono + frameTime (s.gbps (s.timingLport p)) 64 := by
  rw [axSendNow_on p s hen hlink]
  by_cases hnow : s.axInstant p = true
  · rw [if_pos hnow]
    have hfrom := setLink_frame p { s.link p with axDue := true } s
    have halike := sendsAlike_setLink p { s.link p with axDue := true } s rfl
    have hport := halike.timingLport
    obtain ⟨-, hbreak, htypes, -⟩ := id halike
    generalize hx : s.setLink p { s.link p with axDue := true } = x at *
    have hxl : x.link p = { s.link p with axDue := true } := by rw [← hx, link_setLink_same]
    have hstamp : (wireNow p 0 x).1 = (wireNow p 0 s).1 :=
      wireNow_congr 0 (by rw [← hx]; rfl) (time_of_frame hfrom) (cal_of_frame hfrom) hbreak htypes (by rw [hxl]) (by rw [hxl]) (by rw [hxl])
    have hbytes : axBytes x p (wireNow p 0 x).1 = axBytes s p (wireNow p 0 s).1 := by
      rw [hstamp]
      exact axBytes_congr _ (frame_within hfrom) (by rw [fwd_of_frame hfrom]) hbreak (by rw [hxl]) (by rw [hxl]) (by rw [hxl]) (by rw [hxl])
    have hgo : axTry p x = axGo p x := by
      refine axTry_goes p x (by rw [hxl]) (by rw [hxl]; exact hen) ?_ ?_ ?_
      · unfold State.axLink
        rw [hport, ← hx]
        exact hlink
      · rw [hport, ← hx]
        exact hfree
      · rw [hport, ← hx]
        exact hopen
    obtain ⟨hl, ho, hf⟩ := axGo_sends p x (by rw [hport, halike.loopsBack]; exact hloop)
    rw [hgo, hl, hxl]
    rw [hbytes] at ho
    rw [hport] at hf
    exact ⟨rfl, ho, hf.trans (by rw [← hx]; rfl)⟩
  · rw [if_neg hnow, axTry_goes p s (hdue.resolve_right hnow) hen hlink hfree hopen]
    exact axGo_sends p s hloop

theorem axReceiveNow_deaf (p : Nat) (f : List Byte) (s : State) (h : s.receives (s.timingLport p) = false ∨ s.part.ports ≤ p) :
    axReceiveNow p f s = s := by
  refine if_pos ?_
  rcases h with h | h <;> simp [h]

section
variable {p : Nat} {s : State} (hears : s.receives (s.timingLport p) = true) (hp : p < s.part.ports)
  (hloop : s.loopsBack (s.timingLport p) = false)
include hears hloop

theorem axReceiveNow_other (f : List Byte) (h : fld f 12 2 ≠ s.fwd.etAx) : axReceiveNow p f s = s := by
  unfold axReceiveNow inLoop
  simp [hears, hloop, h]

include hp

theorem axReceiveNow_taken (f : List Byte) (h : fld f 12 2 = s.fwd.etAx) : axReceiveNow p f s = axTake p f s := by
  unfold axReceiveNow inLoop
  simp [hears, hp, hloop, h]

end

/-- Silence past the limit is reported once; nothing else is. -/
theorem axSilentNow_cases (p : Nat) (s : State) (due : Nat)
    (hdue : due = max (s.link p).axFrom (max ((s.link p).lastValid.getD 0) ((s.link p).ptp.lastDone.getD 0)) + (s.link p).silence * second) :
    ((s.link p).axEnable = true → (s.link p).silent = false → due ≤ s.time.mono → axSilentNow p s =
      raiseAt (laneDieOf p) .warn 0x2206 [BitVec.ofNat 8 p] (s.setLink p { s.link p with silent := true })) ∧
    ((s.link p).silent = true ∨ s.time.mono < due ∨ ((s.link p).axEnable = false ∧ (s.link p).ptp.enable = false) →
      axSilentNow p s = s) := by
  subst hdue
  unfold axSilentNow
  refine ⟨fun hen hsil hlate => if_neg (by simp [hen, hsil, hlate]), fun h => if_pos ?_⟩
  rcases h with h | h | ⟨h, h'⟩
  · simp [h]
  · simp [h]
  · simp [h, h']

/-- Settles O53: the rows of the AX exchange. The instants at which messages fall due, and that silence counts from the latest of the last
exchange, the last PTP exchange and the enabling, are those of the log's entry 40. -/
theorem almanacMessagesAreExchanged : Obligations.AlmanacMessagesAreExchanged := by
  intro dt p s u k hears
  refine ⟨fun hen hlink => ?_, fun h => leads_of rfl (axSendNow_off p u h), fun f h => leads_of rfl (axReceiveNow_deaf p f u h),
    fun f hhear hp hloop hty => leads_of rfl (axReceiveNow_other hhear hloop f hty), fun f hhear hp hloop hty => ?_, fun due hdue => ?_⟩
  · intro l
    refine ⟨fun hnot hno => ?_, fun hdue hfree hopen hloop => ?_, fun hbar => ⟨fun hnow => ?_, fun hno => ?_⟩⟩
    · refine leads_of rfl ((axSendNow_on p u hen hlink).trans ?_)
      rw [if_neg (by simp [hno])]
      exact axTry_waits p u (Or.inl hnot)
    · obtain ⟨hl, ho, hf⟩ := axSendNow_sends p u hen hlink hdue hfree hopen hloop
      refine runs_of (f := axSendNow p) rfl ?_
      simp only [finish_link, finish_egress]
      rw [hl]
      exact ⟨rfl, rfl, rfl, rfl, finish_keeps_out ho, hf⟩
    · exact leads_of rfl ((axSendNow_barred p u hen hlink hbar).trans (if_pos hnow))
    · exact leads_of rfl ((axSendNow_barred p u hen hlink hbar).trans (if_neg (by simp [hno])))
  · have htake := axReceiveNow_taken hhear hp hloop f hty
    refine ⟨fun hbad => leads_of rfl (htake.trans (axTake_bad p f u hbad)),
      fun hlen hfcs hver hen => leads_of rfl (htake.trans (axTake_unexpected hlen hfcs hver hen)), fun hlen hfcs hver hen => ?_⟩
    intro t4 back twice
    refine runs_of (f := axReceiveNow p f) rfl ?_
    simp only [finish_link]
    rw [htake]
    have hready := heard_link p f u
    by_cases hshort : bit (fld f 15 1) 6 = false ∨ back < 1 ∨ 16 < back ∨ k.axSent < back.toNat ∨ twice < 0 ∨ 131072000000 < twice
    · rw [axTake_short hlen hfcs hver hen hshort, hready]
      refine ⟨rfl, rfl, rfl, rfl, rfl, fun _ => ⟨rfl, rfl, rfl, rfl⟩, fun hecho h1 h16 hsent hlow hhigh => ?_⟩
      simp only [hecho, Bool.true_eq_false, false_or] at hshort
      omega
    · simp only [not_or, Bool.not_eq_false, not_lt] at hshort
      obtain ⟨hecho, h1, h16, hsent, hlow, hhigh⟩ := hshort
      obtain ⟨d, theta, n, raw, miss, phase, hd, hlink⟩ := axTake_complete hlen hfcs hver hen hecho h1 h16 hsent hlow hhigh
      rw [hlink, hready]
      refine ⟨rfl, rfl, rfl, rfl, rfl, fun h => ?_, fun _ _ _ _ _ _ => ⟨rfl, hd, rfl, rfl, rfl⟩⟩
      rw [hecho] at h
      exact absurd h (by simp only [Bool.true_eq_false, false_or]; omega)
  · obtain ⟨hlate, hquiet⟩ := axSilentNow_cases p u due hdue
    exact ⟨fun hen hsil hpast => leads_of rfl (hlate hen hsil hpast), fun h => leads_of rfl (hquiet h)⟩

end Sys2Proof.Machine
end

section
/-! SUPPORT. Reference monitors, the selection and the DPLL (R196 to R213). -/

namespace Sys2Proof.Machine

set_option Elab.async false

/-! ### Monitors, read and written -/

@[simp] theorem mon_setMon_same (s : State) (e : Nat) (m : RefMon) : (s.setMon e m).mon e = m := tget_tput_same _ _ _ _

theorem mon_setMon_other (s : State) (e j : Nat) (m : RefMon) (h : j ≠ e) : (s.setMon e m).mon j = s.mon j := tget_tput_other _ _ _ _ _ h

@[simp] theorem setMon_setMon (s : State) (e : Nat) (m n : RefMon) : (s.setMon e m).setMon e n = s.setMon e n := by
  simp only [State.setMon, tput_tput_same]

theorem mon_of_ref {s t : State} (h : t.ref = s.ref) (e : Nat) : t.mon e = s.mon e := by rw [State.mon, h]; rfl

@[simp] theorem finish_mon (s : State) (e : Nat) : (finish s).mon e = s.mon e := mon_of_ref (finish_ref s) e

/-! ### The loss of a signal -/

/-- A disqualified entry: its monitor, and the history where it was selected. -/
theorem disqualify_ref (e reason : Nat) (s : State) : ∃ h, (disqualify e reason s).ref = { s.ref with
    mons := tput s.ref.mons e { s.mon e with qual := .disqualified, since := none, reason := reason }, history := h } := by
  unfold disqualify
  extract_lets m ranked a b
  have hb : b.ref = a.ref := by
    unfold b
    split
    · exact raiseAt_ref _ _ _ _ _
    · rfl
  split
  · exact ⟨_, by simp only [histFault, hb]; rfl⟩
  · exact ⟨a.ref.history, hb⟩

theorem signalLoss_off (e : Nat) (s : State) (h : (s.refEntry e).enable = false ∨ 16 ≤ e) : signalLoss e s = s := by
  refine if_pos ?_
  rcases h with h | h <;> simp [h]

theorem signalLoss_on (e : Nat) (s : State) (hen : (s.refEntry e).enable = true) (he : e < 16) : signalLoss e s =
    if (s.mon e).qual = .disqualified then s.setMon e { s.mon e with signal := false }
    else disqualify e 2 (s.setMon e { s.mon e with signal := false }) := if_neg (by simp [hen, he])

/-- An entry that does not rank is disqualified without an event. -/
theorem signalLoss_qualifying (e : Nat) (s : State) (he : e < 16) (hen : (s.refEntry e).enable = true) (hq : (s.mon e).qual = .qualifying) :
    signalLoss e s = s.setMon e { s.mon e with signal := false, qual := .disqualified, since := none, reason := 2 } := by
  rw [signalLoss_on e s hen he, if_neg (by simp [hq])]
  simp [disqualify, hq]

/-- One that ranks raises event 0x2303. -/
theorem signalLoss_qualified (e : Nat) (s : State) (he : e < 16) (hen : (s.refEntry e).enable = true) (hq : (s.mon e).qual = .qualified)
    (hsel : s.ref.selected ≠ some e) : signalLoss e s = raise .warn 0x2303 [BitVec.ofNat 8 e, 2]
      (s.setMon e { s.mon e with signal := false, qual := .disqualified, since := none, reason := 2 }) := by
  rw [signalLoss_on e s hen he, if_neg (by simp [hq])]
  simp [disqualify, hq]
  exact fun h => absurd h hsel

/-- A signal lost touches the monitor of its own entry alone, and no table. -/
theorem signalLoss_ref (e : Nat) (s : State) : (signalLoss e s).ref.table = s.ref.table ∧ ∀ j, j ≠ e → (signalLoss e s).mon j = s.mon j := by
  unfold signalLoss
  split
  · exact ⟨rfl, fun _ _ => rfl⟩
  · extract_lets m a
    have ha : a.ref.table = s.ref.table ∧ ∀ j, j ≠ e → a.mon j = s.mon j := ⟨rfl, fun j hj => mon_setMon_other s e j _ hj⟩
    split
    · exact ha
    · obtain ⟨h, hdis⟩ := disqualify_ref e 2 a
      refine ⟨by rw [hdis]; exact ha.1, fun j hj => ?_⟩
      have hother : (disqualify e 2 a).mon j = a.mon j := by
        rw [State.mon, hdis]
        exact tget_tput_other _ _ _ _ _ hj
      exact hother.trans (ha.2 j hj)

/-- An enabled entry that has lost its signal has none and is disqualified. -/
theorem signalLoss_mon (e : Nat) (s : State) (he : e < 16) (hen : (s.refEntry e).enable = true) :
    ((signalLoss e s).mon e).signal = false ∧ ((signalLoss e s).mon e).qual = .disqualified := by
  rw [signalLoss_on e s hen he]
  split
  · next hq =>
    rw [mon_setMon_same]
    exact ⟨rfl, hq⟩
  · obtain ⟨h, hdis⟩ := disqualify_ref e 2 (s.setMon e { s.mon e with signal := false })
    have hmon : (disqualify e 2 (s.setMon e { s.mon e with signal := false })).mon e =
        { s.mon e with signal := false, qual := .disqualified, since := none, reason := 2 } := by
      rw [State.mon, hdis]
      refine (tget_tput_same _ _ _ _).trans ?_
      rw [mon_setMon_same]
    rw [hmon]
    exact ⟨rfl, rfl⟩

/-! ### The selection -/

/-- One entry whose source is gone loses its signal. -/
def loseSource (s : State) (e : Nat) : State := if (s.mon e).signal && s.sourceGone e then signalLoss e s else s

theorem loseSources_eq (s : State) : loseSources s = (List.range 16).foldl loseSource s := rfl

/-- Whether a source is gone hangs on the table, the ports and the powers. -/
theorem sourceGone_congr {s t : State} (hfrom : OnlyIn [.ref] s t) (htable : t.ref.table = s.ref.table) (e : Nat) :
    t.sourceGone e = s.sourceGone e := by
  have hport := port_of_frame hfrom
  have hlink : t.link = s.link := funext (link_of_port hport)
  have hasleep : t.asleep = s.asleep := by
    unfold State.asleep
    rw [mode_of_frame hfrom, powerField_of_frame PowerState.dormant hfrom]
  unfold State.sourceGone State.timingLport State.lportOfLane State.breakout State.lp State.refEntry
  rw [hport, hlink, hasleep, htable, stage_of_frame hfrom]

/-- An enabled entry whose source is gone is disqualified by the run over the sources. -/
theorem loseSources_gone (e : Nat) (es : List Nat) (s t : State) (hfrom : OnlyIn [.ref] s t) (htable : t.ref.table = s.ref.table)
    (he : e < 16) (hen : (s.refEntry e).enable = true) (hgone : s.sourceGone e = true)
    (hmon : ((t.mon e).signal = false ∧ (t.mon e).qual = .disqualified) ∨ (t.mon e).signal = true ∧ e ∈ es) :
    ((es.foldl loseSource t).mon e).signal = false ∧ ((es.foldl loseSource t).mon e).qual = .disqualified := by
  induction es generalizing t with
  | nil => exact hmon.resolve_right (by simp)
  | cons x es ih =>
    obtain ⟨hlosttable, hother⟩ := signalLoss_ref x t
    have hgone' := sourceGone_congr hfrom htable
    have hen' : (t.refEntry e).enable = true := by rw [State.refEntry, htable]; exact hen
    have hstep : OnlyIn [.ref] s (loseSource t x) ∧ (loseSource t x).ref.table = s.ref.table := by
      unfold loseSource
      split
      · exact ⟨frame_step hfrom (signalLoss_frame x t), hlosttable.trans htable⟩
      · exact ⟨hfrom, htable⟩
    refine ih (loseSource t x) hstep.1 hstep.2 ?_
    by_cases hx : e = x
    · subst hx
      refine Or.inl ?_
      rcases hmon with hdone | ⟨hsig, -⟩
      · rw [loseSource, if_neg (by simp [hdone.1])]
        exact hdone
      · rw [loseSource, if_pos (by simp [hsig, hgone', hgone])]
        exact signalLoss_mon e t he hen'
    · have hkeep : (loseSource t x).mon e = t.mon e := by
        unfold loseSource
        split
        · exact hother e hx
        · rfl
      rw [hkeep]
      exact hmon.imp_right (fun ⟨hsig, hmem⟩ => ⟨hsig, (List.mem_cons.mp hmem).resolve_left hx⟩)

/-- With every source heard nothing is lost. -/
theorem loseSources_heard (s : State) (h : ∀ e, e < 16 → (s.mon e).signal = true → s.sourceGone e = false) : loseSources s = s := by
  rw [loseSources_eq]
  have hall : ∀ e ∈ List.range 16, loseSource s e = s := by
    intro e he
    refine if_neg ?_
    cases hsig : (s.mon e).signal with
    | false => simp
    | true => simp [h e (List.mem_range.mp he) hsig]
  generalize List.range 16 = es at hall ⊢
  induction es with
  | nil => rfl
  | cons e es ih =>
    rw [List.foldl_cons, hall e List.mem_cons_self]
    exact ih (fun x hx => hall x (List.mem_cons_of_mem _ hx))

/-- With every source heard and no forced entry to give up, the selection calls for what R200 and R202 say. -/
theorem evaluate_heard (s : State) (h : ∀ e, e < 16 → (s.mon e).signal = true → s.sourceGone e = false)
    (hforced : s.ref.forced.filter s.ranks = s.ref.forced) :
    evaluate s = { s with ref.switchTo := if s.desired = s.ref.selected then none else some s.desired } := by
  unfold evaluate
  rw [loseSources_heard s h]
  simp only [hforced]

theorem evaluate_mon (s : State) (e : Nat) : (evaluate s).mon e = (loseSources s).mon e := by
  unfold evaluate
  generalize loseSources s = a
  rfl

/-- Unforced and with nothing selected, the first of those that rank is called for. -/
theorem desired_fresh (s : State) (hforced : s.ref.forced = none) (hsel : s.ref.selected = none) :
    s.desired = s.firstRanked ((List.range 16).filter s.ranks) := by
  unfold State.desired
  rw [hforced, hsel]
  cases s.ref.revertive <;> rfl

theorem desired_forced (s : State) (e : Nat) (hforced : s.ref.forced = some e) (hranks : s.ranks e = true) : s.desired = some e := by
  unfold State.desired
  rw [hforced, Option.filter_some, if_pos hranks]

/-! ### The switch -/

theorem histValid_of {s t : State} (htime : t.time.mono = s.time.mono) (hhist : t.ref.history = s.ref.history)
    (hwin : t.ref.historyW = s.ref.historyW) : t.histValid = s.histValid := by
  unfold State.histValid State.usable
  rw [htime, hhist, hwin]

/-- With nothing to follow the DPLL holds over on a valid history and is lost without one. -/
theorem loseRef_dpll (c : Nat) (s : State) (h : s.ref.dpll = .acquiring ∨ s.ref.dpll = .locked) :
    (loseRef c s).ref.dpll = (if s.histValid then .holdover else .lost) ∧ (loseRef c s).ref.selected = s.ref.selected := by
  have hfix : (fixRef s).histValid = s.histValid := histValid_of rfl rfl rfl
  have hnow := estimateNow_frame (fixRef s)
  unfold loseRef
  rw [if_pos h]
  dsimp only
  rw [hfix]
  generalize estimateNow (fixRef s) = x at hnow ⊢
  obtain ⟨e, w⟩ := x
  have hsel : w.ref.selected = s.ref.selected := by rw [ref_of_frame hnow]; rfl
  split
  · exact ⟨by simp, by simp [hsel]⟩
  · exact ⟨by simp, by simp [fixRef]⟩

/-- Following an entry the DPLL acquires it, or stays locked on it. -/
theorem follow_dpll (e : Nat) (o : Int) (s : State) : ((follow e o s).ref.dpll = .acquiring ∨ (follow e o s).ref.dpll = .locked) ∧
    (follow e o s).ref.selected = s.ref.selected ∧ (follow e o s).ref.switchTo = s.ref.switchTo ∧
    (follow e o s).ref.switches = s.ref.switches := by
  unfold follow
  extract_lets q0 a q pulls r b w
  have hb : b.ref.selected = s.ref.selected ∧ b.ref.switchTo = s.ref.switchTo ∧ b.ref.switches = s.ref.switches := by
    unfold b
    split <;> exact ⟨rfl, rfl, rfl⟩
  split
  · next h => exact ⟨h.1, hb⟩
  · exact ⟨Or.inl rfl, hb⟩

/-- The switch as it takes effect: the new selection, counted, with its event. -/
def switched (target : Option Nat) (s : State) : State :=
  raise .note 0x2304 [BitVec.ofNat 8 (s.ref.selected.getD 0xFF), BitVec.ofNat 8 (target.getD 0xFF)] { s with
    ref.selected := target, ref.switchTo := none, ref.switches := (s.ref.switches + 1) % 2 ^ 32, time.excess := 0, time.within := 0 }

theorem switchRef_none (o : Int) (s : State) (h : s.ref.switchTo = none) : switchRef o s = s := by
  unfold switchRef
  rw [h]

theorem switchRef_entry (o : Int) (e : Nat) (s : State) (h : s.ref.switchTo = some (some e)) (hst : s.time.state ≠ .guard) :
    switchRef o s = follow e o (switched (some e) s) := by
  have hstate : (switched (some e) s).time.state = s.time.state := by simp [switched]
  unfold switchRef
  rw [h]
  exact if_neg (by rw [show (raise .note 0x2304 _ _ : State) = switched (some e) s from rfl, hstate]; exact hst)

theorem switchRef_nothing (o : Int) (s : State) (h : s.ref.switchTo = some none) : switchRef o s = loseRef 0 (switched none s) := by
  unfold switchRef
  rw [h]
  rfl

theorem switched_ref (target : Option Nat) (s : State) : (switched target s).ref = { s.ref with
    selected := target, switchTo := none, switches := (s.ref.switches + 1) % 2 ^ 32 } := raise_ref _ _ _ _

theorem switched_time (target : Option Nat) (s : State) : (switched target s).time = { s.time with excess := 0, within := 0 } :=
  raise_time _ _ _ _

/-! ### A DPLL cycle -/

/-- What a DPLL cycle makes of a phase error. -/
def cycled (e : Nat) (err : Int) (s : State) : State :=
  let s := fixRef s
  let inside := s.inLockWindow err
  let s := { s with ref.phaseError := err, ref.pulling := s.ref.pulling && !s.inLockWindow s.ref.pull
                    ref.inWindow := if inside then s.ref.inWindow + 1 else 0, ref.outWindow := if inside then 0 else s.ref.outWindow + 1 }
  if s.ref.dpll = .acquiring ∧ s.ref.lockN ≤ s.ref.inWindow then raise .note 0x2306 [BitVec.ofNat 8 e] { s with ref.dpll := .locked }
  else if s.ref.dpll = .locked ∧ s.ref.lockN ≤ s.ref.outWindow then
    raise .warn 0x230A [BitVec.ofNat 8 e] { s with ref.dpll := .acquiring }
  else s

theorem dpllCycle_idle (ph : Int) (s : State) (h : s.ref.selected = none) : dpllCycle ph s = s := by
  unfold dpllCycle
  rw [h]

theorem dpllCycle_eq (ph : Int) (e : Nat) (s : State) (hsel : s.ref.selected = some e) (hst : s.time.state ≠ .guard)
    (hdpll : s.ref.dpll = .acquiring ∨ s.ref.dpll = .locked) :
    dpllCycle ph s = cycled e (phaseErrorOf e ph s).1 (phaseErrorOf e ph s).2 := by
  unfold dpllCycle
  rw [hsel]
  refine if_neg ?_
  rintro (h | ⟨h, h'⟩)
  · exact hst h
  · exact hdpll.elim h h'

theorem cycled_phaseError (e : Nat) (err : Int) (s : State) : (cycled e err s).ref.phaseError = err := by
  unfold cycled
  extract_lets a inside b
  split
  · rw [raise_ref]
  · split
    · rw [raise_ref]
    · rfl

/-- In ACQUIRING a phase error within the window counts toward the lock. -/
theorem cycled_inside (e : Nat) (err : Int) (s : State) (hacq : s.ref.dpll = .acquiring) (hin : err.natAbs * 1000 ≤ s.ref.window * 65536) :
    (cycled e err s).ref.inWindow = s.ref.inWindow + 1 ∧ (cycled e err s).ref.outWindow = 0 ∧
    (cycled e err s).ref.dpll = (if s.ref.lockN ≤ s.ref.inWindow + 1 then .locked else .acquiring) := by
  have hinside : (fixRef s).inLockWindow err = true := decide_eq_true hin
  have hfix : (fixRef s).ref.dpll = .acquiring := hacq
  unfold cycled
  simp only [hinside, hfix, if_true]
  by_cases hlock : s.ref.lockN ≤ s.ref.inWindow + 1
  · rw [if_pos hlock, if_pos ⟨trivial, hlock⟩, raise_ref]
    exact ⟨rfl, rfl, rfl⟩
  · rw [if_neg hlock, if_neg (fun h => hlock h.2), if_neg (by simp)]
    exact ⟨rfl, rfl, rfl⟩

/-- In LOCKED one outside the window counts toward its loss. -/
theorem cycled_outside (e : Nat) (err : Int) (s : State) (hlocked : s.ref.dpll = .locked) (hout : s.ref.window * 65536 < err.natAbs * 1000) :
    (cycled e err s).ref.inWindow = 0 ∧ (cycled e err s).ref.outWindow = s.ref.outWindow + 1 ∧
    (cycled e err s).ref.dpll = (if s.ref.lockN ≤ s.ref.outWindow + 1 then .acquiring else .locked) := by
  have hinside : (fixRef s).inLockWindow err = false := decide_eq_false (Nat.not_le.mpr hout)
  have hfix : (fixRef s).ref.dpll = .locked := hlocked
  unfold cycled
  simp only [hinside, hfix, Bool.false_eq_true, if_false]
  by_cases hloss : s.ref.lockN ≤ s.ref.outWindow + 1
  · rw [if_pos hloss, if_neg (by simp), if_pos ⟨trivial, hloss⟩, raise_ref]
    exact ⟨rfl, rfl, rfl⟩
  · rw [if_neg hloss, if_neg (by simp), if_neg (fun h => hloss h.2)]
    exact ⟨rfl, rfl, rfl⟩

/-- The phase input of an entry that is no port offering time. -/
theorem phaseErrorOf_input (e : Nat) (ph : Int) (s : State) (hex : s.time.excess = 0)
    (h : (s.refEntry e).kind ≠ 2 ∨ s.timeCap e = false) : phaseErrorOf e ph s = (ph - s.ref.buildOut, s) := by
  unfold phaseErrorOf
  extract_lets r
  rw [if_neg (by omega)]
  refine if_neg ?_
  rcases h with h | h
  · simp [r, h]
  · simp [h]

/-- While estimates beyond the jump threshold are counted the phase input is the one before. -/
theorem phaseErrorOf_before (e : Nat) (ph : Int) (s : State) (hex : 0 < s.time.excess) : phaseErrorOf e ph s = (s.ref.phaseError, s) :=
  if_pos hex

/-- A port that offers time gives its own phase sample. -/
theorem phaseErrorOf_port (e : Nat) (ph : Int) (s : State) (hex : s.time.excess = 0) (hk : (s.refEntry e).kind = 2)
    (hcap : s.timeCap e = true) (hres : (s.link (s.refEntry e).index).resolved = true) (hlane : s.phaseLane (s.refEntry e).index = true) :
    (5 * ((phaseErrorOf e ph s).1 + s.ref.buildOut) - (s.link (s.refEntry e).index).thetaPh).natAbs < 5 := by
  have hnear := openDiv_near (s.link (s.refEntry e).index).thetaPh 5 s (by omega)
  have hbuild : (openDiv (s.link (s.refEntry e).index).thetaPh 5 s).2.ref.buildOut = s.ref.buildOut := by
    rw [ref_of_frame (openDiv_frame _ _ s)]
  unfold phaseErrorOf
  extract_lets r
  rw [if_neg (by omega), if_pos (by simp [r, hk, hcap, hres, hlane])]
  dsimp only
  rw [hbuild, sub_add_cancel]
  exact hnear

/-! ### The end of HOLDOVER -/

theorem holdoverExpiry_due (t : Nat) (s : State) (hfrom : s.ref.holdFrom = some t) (hold : s.ref.dpll = .holdover)
    (hdue : t + s.ref.validity * second ≤ s.time.mono) : holdoverExpiry s = raise .error 0x2308 [2] { s with
      ref.dpll := .lost, ref.holdFrom := none, ref.pull := s.pullNow, ref.frequency := s.ref.holdEst, ref.movedAt := s.time.mono } := by
  have hfreq : s.freqNow = s.ref.holdEst := by
    unfold State.freqNow
    rw [hold]
  unfold holdoverExpiry
  rw [hfrom]
  simp only [hold, hdue, and_self, if_true, fixRef, hfreq]

theorem holdoverExpiry_early (t : Nat) (s : State) (hfrom : s.ref.holdFrom = some t) (hearly : s.time.mono < t + s.ref.validity * second) :
    holdoverExpiry s = s := by
  unfold holdoverExpiry
  rw [hfrom]
  exact if_neg (by omega)

/-! ### The correction of the oscillator -/

theorem openDiv_state (a : Int) (b : Nat) (s : State) : ∃ n, (openDiv a b s).2 = { s with freeIx := n } := by
  unfold openDiv
  split
  · exact ⟨s.freeIx, rfl⟩
  · split
    · exact ⟨s.freeIx, rfl⟩
    · exact ⟨s.freeIx + 1, rfl⟩

/-- A coefficient of OSC_COEF in use, and CORE0's temperature against its T_CAL. -/
def oscCoef (s : State) (i : Nat) : Int := if bit s.cal.valid 9 && calHas s.cal.set 9 i then calValue s.cal.set 9 i else 0

def oscTemp (s : State) : Int :=
  match tfind s.cal.temps 0 with
  | some t => if bit s.cal.valid 5 && calHas s.cal.set 5 0 then t - calValue s.cal.set 5 0 else 0
  | none => 0

theorem oscCorrection_eq (s : State) : oscCorrection s =
    openDiv ((64 * oscCoef s 0 + 8 * oscCoef s 1 * oscTemp s + oscCoef s 2 * oscTemp s * oscTemp s) * (86400 * second : Nat) +
      64 * oscCoef s 3 * (s.time.mono - s.cal.coefAt : Nat)) (64 * (86400 * second)) s := rfl

theorem oscCorrection_state (s : State) : ∃ n, (oscCorrection s).2 = { s with freeIx := n } := by
  rw [oscCorrection_eq]
  exact openDiv_state _ _ s

theorem oscCorrection_invalid (s : State) (h : s.cal.valid.testBit 9 = false) : oscCorrection s = (0, s) := by
  have hcoef : ∀ i, oscCoef s i = 0 := fun i => if_neg (by simp [bit, h])
  rw [oscCorrection_eq]
  simp only [hcoef]
  simp [openDiv, second]

/-- With one coefficient in use the correction is its term, to less than a unit. -/
theorem oscCorrection_term (s : State) (k : Nat) (hk : k < 4) (hval : s.cal.valid.testBit 9 = true) (hhas : calHas s.cal.set 9 k = true)
    (hothers : ∀ j, j < 4 → j ≠ k → calHas s.cal.set 9 j = true → calValue s.cal.set 9 j = 0) :
    (64 * (86400 * second : Nat) * (oscCorrection s).1 - getAt [64 * calValue s.cal.set 9 k * (86400 * second : Nat),
      8 * calValue s.cal.set 9 k * oscTemp s * (86400 * second : Nat), calValue s.cal.set 9 k * oscTemp s * oscTemp s * (86400 * second : Nat),
      64 * calValue s.cal.set 9 k * (s.time.mono - s.cal.coefAt : Nat)] k 0).natAbs < 64 * (86400 * second) := by
  have hself : oscCoef s k = calValue s.cal.set 9 k := if_pos (by simp [bit, hval, hhas])
  have hzero : ∀ j, j < 4 → j ≠ k → oscCoef s j = 0 := by
    intro j hj hne
    unfold oscCoef
    split
    · next h => exact hothers j hj hne (by simp at h; exact h.2)
    · rfl
  have hnear := openDiv_near ((64 * oscCoef s 0 + 8 * oscCoef s 1 * oscTemp s + oscCoef s 2 * oscTemp s * oscTemp s) * (86400 * second : Nat) +
      64 * oscCoef s 3 * (s.time.mono - s.cal.coefAt : Nat)) (64 * (86400 * second)) s (by unfold second; omega)
  rw [← oscCorrection_eq, Nat.cast_mul, Nat.cast_ofNat] at hnear
  obtain rfl | rfl | rfl | rfl : k = 0 ∨ k = 1 ∨ k = 2 ∨ k = 3 := by omega
  · rw [hself, hzero 1 (by omega) (by omega), hzero 2 (by omega) (by omega), hzero 3 (by omega) (by omega)] at hnear
    simpa [getAt] using hnear
  · rw [hself, hzero 0 (by omega) (by omega), hzero 2 (by omega) (by omega), hzero 3 (by omega) (by omega)] at hnear
    simpa [getAt] using hnear
  · rw [hself, hzero 0 (by omega) (by omega), hzero 1 (by omega) (by omega), hzero 3 (by omega) (by omega)] at hnear
    simpa [getAt] using hnear
  · rw [hself, hzero 0 (by omega) (by omega), hzero 1 (by omega) (by omega), hzero 2 (by omega) (by omega)] at hnear
    simpa [getAt] using hnear

/-! ### A monitor sample -/

/-- The sample of one entry of the list given. -/
def sampleStep (valid : Bool) (samples : List (Option Int)) (corr base : Int) (s : State) (e : Nat) : State :=
  match getAt samples e none with
  | some v => sampleEntry valid e (v + corr - base) s
  | none => missSample e s

/-- A disabled entry with no sample takes none. -/
theorem sampleStep_off (valid : Bool) (samples : List (Option Int)) (corr base : Int) (s : State) (e : Nat)
    (hoff : (s.refEntry e).enable = false) (hnone : (s.mon e).samples = []) : sampleStep valid samples corr base s e = s := by
  have hmiss : missSample e s = s := if_neg (by simp [hoff, hnone])
  unfold sampleStep
  split
  · unfold sampleEntry
    extract_lets m
    rw [if_pos (by simp [hoff]), hmiss]
  · exact hmiss

theorem sampleSteps_off (valid : Bool) (samples : List (Option Int)) (corr base : Int) (s : State) (es : List Nat)
    (h : ∀ e ∈ es, (s.refEntry e).enable = false ∧ (s.mon e).samples = []) : es.foldl (sampleStep valid samples corr base) s = s := by
  induction es with
  | nil => rfl
  | cons e es ih =>
    obtain ⟨hoff, hnone⟩ := h e List.mem_cons_self
    rw [List.foldl_cons, sampleStep_off valid samples corr base s e hoff hnone]
    exact ih (fun x hx => h x (List.mem_cons_of_mem _ hx))

/-- Where no two entries are enabled no pair is judged. -/
theorem pairsNow_none (s : State) (h : ∀ e, 0 < e → e < 16 → (s.refEntry e).enable = false) : s.pairsNow = [] := by
  unfold State.pairsNow
  refine List.flatMap_eq_nil_iff.mpr (fun a _ => List.filterMap_eq_nil_iff.mpr (fun b hb => ?_))
  have hb' : a + 1 ≤ b ∧ b < 16 := by
    simp only [upto, List.mem_map, List.mem_range] at hb
    omega
  exact if_neg (by simp [h b (by omega) hb'.2])

/-- What the samples of a milestone end with: the pairs are judged, and the DPLL's frequency follows. -/
def judged (output : Int) (s : State) : State :=
  let t := dropPairs (s.pairsNow.foldl judgePair s)
  if t.ref.dpll = .locked ∨ t.ref.dpll = .acquiring then { t with ref.frequency := output } else t

theorem takeSamples_eq (samples : List (Option Int)) (out corr base : Int) (s w v : State) (hosc : oscCorrection s = (corr, w))
    (hbase : monitorBase (loseSources w) = (base, v)) : takeSamples samples out s =
    judged (out + corr) ((List.range 16).foldl (sampleStep s.histValid samples corr base) (historySample (out + corr) v)) := by
  unfold takeSamples
  rw [hosc]
  dsimp only
  rw [hbase]
  rfl

/-- With one entry enabled at most, no pair noted and the DPLL free, nothing follows the samples. -/
theorem judged_alone (out : Int) (s : State) (hone : ∀ e, 0 < e → e < 16 → (s.refEntry e).enable = false) (hpairs : s.ref.pairs = [])
    (hfree : s.ref.dpll = .freeRun) : judged out s = s := by
  have hnone : s.pairsNow = [] := pairsNow_none s hone
  have hdrop : dropPairs s = s := by
    unfold dropPairs
    rw [hpairs, List.filter_nil, ← hpairs]
  unfold judged
  rw [hnone, List.foldl_nil, hdrop]
  exact if_neg (by simp [hfree])

/-- No enabled entry whose source is gone has a signal: nothing is lost. -/
theorem loseSources_kept (s : State) (h : ∀ e, e < 16 → (s.refEntry e).enable = true → s.sourceGone e = false) : loseSources s = s := by
  rw [loseSources_eq]
  have hall : ∀ e ∈ List.range 16, loseSource s e = s := by
    intro e he
    unfold loseSource
    cases hen : (s.refEntry e).enable with
    | false => rw [signalLoss_off e s (Or.inl hen), ite_self]
    | true => exact if_neg (by simp [h e (List.mem_range.mp he) hen])
  generalize List.range 16 = es at hall ⊢
  induction es with
  | nil => rfl
  | cons e es ih =>
    rw [List.foldl_cons, hall e List.mem_cons_self]
    exact ih (fun x hx => hall x (List.mem_cons_of_mem _ hx))

/-- A sample in range makes an entry that is disqualified and not held qualify. -/
theorem sampleEntry_first (e : Nat) (v : Int) (s : State) (hen : (s.refEntry e).enable = true) (hheard : s.sourceHeard e = true)
    (hdis : (s.mon e).qual = .disqualified) (hheld : (s.mon e).held = false) (hcap : v.natAbs ≤ s.ref.capture * 1000000000000) :
    sampleEntry false e v s = s.setMon e { s.mon e with
      signal := true, samples := (some v :: (s.mon e).samples).take 17, offset := v, qual := .qualifying, since := some s.time.mono } := by
  simp only [sampleEntry, hen, hheard, hdis, hheld, failOf]
  simp [Nat.not_lt.mpr hcap]

section
variable {s : State} {out : Int} (hms : s.ms.toNat % 3906250 = 0) (hpairs : s.ref.pairs = []) (hfree : s.ref.dpll = .freeRun)
  (hhist : s.histValid = false)
include hms hfree hhist

/-- A sample milestone in FREE_RUN with no history and no pair: the entries are sampled on the corrected frequency. -/
theorem monitorSample_freeRun (samples : List (Option Int)) (y : State)
    (hheard : ∀ e, e < 16 → (s.refEntry e).enable = true → s.sourceGone e = false)
    (hrun : (List.range 16).foldl (sampleStep false samples (oscCorrection s).1 0) (oscCorrection s).2 = y)
    (hone : ∀ e, 0 < e → e < 16 → (y.refEntry e).enable = false) (hypairs : y.ref.pairs = []) (hyfree : y.ref.dpll = .freeRun) :
    monitorSample samples out s = y := by
  obtain ⟨n, hw⟩ := oscCorrection_state s
  have hlose : loseSources (oscCorrection s).2 = (oscCorrection s).2 := by
    rw [hw]
    exact loseSources_kept _ hheard
  have hbase : monitorBase (oscCorrection s).2 = (0, (oscCorrection s).2) := by
    rw [hw]
    exact if_neg (by rw [show ({ s with freeIx := n } : State).histValid = s.histValid from rfl, hhist]; decide)
  have hkeep : historySample (out + (oscCorrection s).1) (oscCorrection s).2 = (oscCorrection s).2 := by
    rw [hw]
    exact if_neg (by simp [hfree])
  refine (if_pos hms).trans ?_
  rw [takeSamples_eq samples out (oscCorrection s).1 0 s (oscCorrection s).2 (oscCorrection s).2 rfl (by rw [hlose, hbase]), hhist, hkeep,
    hrun, judged_alone _ y hone hypairs hyfree]

include hpairs

theorem monitorSample_off (samples : List (Option Int)) (hoff : ∀ e, e < 16 → (s.refEntry e).enable = false ∧ (s.mon e).samples = []) :
    monitorSample samples out s = (oscCorrection s).2 := by
  obtain ⟨n, hw⟩ := oscCorrection_state s
  refine monitorSample_freeRun hms hfree hhist samples _ (fun e he hen => ?_) ?_ ?_ ?_ ?_
  · simp [(hoff e he).1] at hen
  · rw [hw]
    exact sampleSteps_off false samples _ 0 _ _ (fun e he => hoff e (List.mem_range.mp he))
  · rw [hw]
    exact fun e _ he => (hoff e he).1
  · rw [hw]
    exact hpairs
  · rw [hw]
    exact hfree

/-- A sample in range that entry 0, disqualified, hears makes it qualify. -/
theorem monitorSample_first (v : Int) (hoff : ∀ e, 0 < e → e < 16 → (s.refEntry e).enable = false ∧ (s.mon e).samples = [])
    (hen : (s.refEntry 0).enable = true) (hheard : s.sourceHeard 0 = true) (hheld : (s.mon 0).held = false)
    (hdis : (s.mon 0).qual = .disqualified) (hcap : (v + (oscCorrection s).1).natAbs ≤ s.ref.capture * 1000000000000) :
    monitorSample [some v] out s = (oscCorrection s).2.setMon 0 { s.mon 0 with
      signal := true, samples := (some (v + (oscCorrection s).1) :: (s.mon 0).samples).take 17, offset := v + (oscCorrection s).1
      qual := .qualifying, since := some s.time.mono } := by
  obtain ⟨n, hw⟩ := oscCorrection_state s
  refine monitorSample_freeRun hms hfree hhist _ _ (fun e he hen' => ?_) ?_ ?_ ?_ ?_
  · by_cases h0 : e = 0
    · subst h0
      simp only [State.sourceHeard, Bool.and_eq_true, Bool.not_eq_true'] at hheard
      exact hheard.1.1
    · simp [(hoff e (by omega) he).1] at hen'
  · rw [hw]
    have hfirst : sampleStep false [some v] (oscCorrection s).1 0 { s with freeIx := n } 0 = ({ s with freeIx := n } : State).setMon 0 { s.mon 0 with
        signal := true, samples := (some (v + (oscCorrection s).1) :: (s.mon 0).samples).take 17, offset := v + (oscCorrection s).1
        qual := .qualifying, since := some s.time.mono } := by
      show sampleEntry false 0 (v + (oscCorrection s).1 - 0) { s with freeIx := n } = _
      rw [sub_zero]
      exact sampleEntry_first 0 _ _ hen hheard hdis hheld hcap
    rw [show List.range 16 = 0 :: (List.range 15).map (· + 1) from rfl, List.foldl_cons, hfirst]
    refine sampleSteps_off _ _ _ _ _ _ (fun e he => ?_)
    simp only [List.mem_map, List.mem_range] at he
    obtain ⟨j, hj, rfl⟩ := he
    obtain ⟨hoff', hnone⟩ := hoff (j + 1) (by omega) (by omega)
    refine ⟨hoff', ?_⟩
    rw [mon_setMon_other _ _ _ _ (by omega)]
    exact hnone
  · rw [hw]
    exact fun e h0 he => (hoff e h0 he).1
  · rw [hw]
    exact hpairs
  · rw [hw]
    exact hfree

end

/-! ### O41 -/

/-- Settles O41: the monitors, the selection, the switch and the cycles of the DPLL, from any state. That the correction of OSC_COEF adds to
a sample is the log's entry 42. -/
theorem referenceEventsTakeEffect : Obligations.ReferenceEventsTakeEffect := by
  intro dt s u
  refine ⟨fun e he hen hq => leads_of rfl (signalLoss_qualifying e u he hen hq),
    fun e he hen hq hsel => leads_of rfl (signalLoss_qualified e u he hen hq hsel),
    fun e h => leads_of rfl (signalLoss_off e u (Or.inl h)), fun e he hen hsig hgone => ?_, fun h hforced hsel hranks => ?_,
    fun e h hforced hsel hranks => ?_, fun e h hforced hranks hsel => ?_, fun off h => leads_of rfl (switchRef_none off u h),
    fun off e h hst => ?_, fun off h hdpll => ?_, fun ph e hsel hst hacq hex hin herr => ?_, fun ph e hsel hst hlocked hex hin herr => ?_,
    fun ph e hsel hst hdpll => ⟨fun hex => ?_, fun hex hk hcap hres hlane => ?_⟩, fun h ph => leads_of rfl (dpllCycle_idle ph u h),
    fun t hfrom hold hdue => leads_of rfl (holdoverExpiry_due t u hfrom hold hdue),
    fun t hfrom hearly => leads_of rfl (holdoverExpiry_early t u hfrom hearly), fun h samples out => leads_of rfl (if_neg h),
    fun out hms hoff hpairs hfree hhist samples => leads_of rfl (monitorSample_off hms hpairs hfree hhist samples hoff),
    fun h => oscCorrection_invalid u h, fun k hk hval hhas hothers => ?_,
    fun out v hms hoff hpairs hfree hen hheard hheld hdis hhist => ?_⟩
  · refine runs_of (f := evaluate) rfl ?_
    simp only [finish_mon, evaluate_mon]
    exact loseSources_gone e _ u u (frame_refl _ u) rfl he hen hgone (Or.inr ⟨hsig, List.mem_range.mpr he⟩)
  · refine leads_of rfl ((evaluate_heard u h (by rw [hforced]; rfl)).trans ?_)
    rw [desired_fresh u hforced hsel, hranks, hsel]
    rfl
  · refine leads_of rfl ((evaluate_heard u h (by rw [hforced]; rfl)).trans ?_)
    rw [desired_fresh u hforced hsel, hranks, hsel]
    rfl
  · refine leads_of rfl ((evaluate_heard u h (by rw [hforced, Option.filter_some, if_pos hranks])).trans ?_)
    rw [desired_forced u e hforced hranks, if_neg (fun h => hsel h.symm)]
  · refine runs_of (f := switchRef off) rfl ?_
    simp only [finish_ref, finish_time]
    rw [switchRef_entry off e u h hst]
    obtain ⟨hdpll, hselected, hto, hcount⟩ := follow_dpll e off (switched (some e) u)
    rw [hselected, hto, hcount, time_of_frame (follow_frame e off _), switched_ref, switched_time]
    exact ⟨rfl, rfl, rfl, hdpll, rfl, rfl, rfl⟩
  · refine runs_of (f := switchRef off) rfl ?_
    simp only [finish_ref]
    rw [switchRef_nothing off u h]
    obtain ⟨hlost, hselected⟩ := loseRef_dpll 0 (switched none u) (by rw [switched_ref]; exact hdpll.symm)
    have hhist : (switched none u).histValid = u.histValid :=
      histValid_of (by rw [switched_time]) (by rw [switched_ref]) (by rw [switched_ref])
    rw [hselected, hlost, switched_ref, hhist]
    exact ⟨rfl, rfl⟩
  · refine runs_of (f := dpllCycle ph) rfl ?_
    simp only [finish_ref]
    rw [dpllCycle_eq ph e u hsel hst (Or.inl hacq), phaseErrorOf_input e ph u hex hin, cycled_phaseError]
    exact ⟨rfl, cycled_inside e _ u hacq herr⟩
  · refine runs_of (f := dpllCycle ph) rfl ?_
    simp only [finish_ref]
    rw [dpllCycle_eq ph e u hsel hst (Or.inr hlocked), phaseErrorOf_input e ph u hex hin, cycled_phaseError]
    exact ⟨rfl, cycled_outside e _ u hlocked herr⟩
  · refine runs_of (f := dpllCycle ph) rfl ?_
    simp only [finish_ref]
    rw [dpllCycle_eq ph e u hsel hst hdpll, cycled_phaseError, phaseErrorOf_before e ph u hex]
  · refine runs_of (f := dpllCycle ph) rfl ?_
    simp only [finish_ref]
    rw [dpllCycle_eq ph e u hsel hst hdpll, cycled_phaseError]
    exact phaseErrorOf_port e ph u hex hk hcap hres hlane
  · intro c x
    have hx : x = oscTemp u := by
      unfold oscTemp
      simp only [x]
      cases tfind u.cal.temps 0 with
      | none => rfl
      | some t => simp [bit]
    have hterm := oscCorrection_term u k hk hval hhas hothers
    rw [← hx] at hterm
    exact hterm
  · intro v' hcap
    exact leads_of rfl (monitorSample_first hms hpairs hfree hhist v hoff hen hheard hheld hdis hcap)

end Sys2Proof.Machine
end

section
/-! SUPPORT. Moves of the count, the units that fire, and the pulses on their pins (R40 to R49, R221). -/

namespace Sys2Proof.Machine

set_option Elab.async false

/-! ### What a move of the count leaves of the Almanac -/

/-- Of the Almanac nothing has changed but the compare units and the note of a late one. -/
def UnitsOnly (s t : State) : Prop := t.time = { s.time with compares := t.time.compares, compareLate := t.time.compareLate }

theorem UnitsOnly.refl (s : State) : UnitsOnly s s := rfl

theorem UnitsOnly.trans {s t u : State} (hst : UnitsOnly s t) (htu : UnitsOnly t u) : UnitsOnly s u := by
  unfold UnitsOnly at *
  rw [htu, hst]

theorem unitsOnly_of_frame {cs : List Mod} {s t : State} (h : OnlyIn cs s t) (hc : Mod.time ∉ cs := by decide) : UnitsOnly s t := by
  unfold UnitsOnly
  rw [time_of_frame h hc]

theorem firePulse_unitsOnly (u : Nat) (e : AT80) (s : State) : UnitsOnly s (firePulse u e s) := by
  unfold firePulse
  extract_lets c ends a
  have ha : UnitsOnly s a := rfl
  split
  · exact ha
  · exact ha.trans (unitsOnly_of_frame (drive_frame _ a))

theorem fireUnit_unitsOnly (u : Nat) (s : State) : UnitsOnly s (fireUnit u s) := by
  unfold fireUnit
  extract_lets c late q a edge b
  split
  · exact .refl s
  · have ha : UnitsOnly s a := by
      unfold a
      split
      · exact UnitsOnly.trans (t := { s with time.compareLate := true }) rfl (unitsOnly_of_frame (frame_raise _ _ _ _))
      · exact .refl s
    have hb : UnitsOnly s b := ha.trans rfl
    refine UnitsOnly.trans ?_ (unitsOnly_of_frame (notifyFired_frame _ _ _ _))
    split
    · exact hb.trans (firePulse_unitsOnly u edge b)
    · exact hb

theorem fireReached_unitsOnly (s : State) : UnitsOnly s (fireReached s) := by
  unfold fireReached
  generalize s.time.compares.map (·.1) = us
  suffices ∀ t, UnitsOnly s t → UnitsOnly s (us.foldl (fun s u =>
      if (s.unit u).latePending || decide ((s.unit u).function = 3) then s else fireUnit u s) t) from this s (.refl s)
  induction us with
  | nil => exact fun t ht => ht
  | cons u us ih =>
    intro t ht
    refine ih _ ?_
    beta_reduce
    split
    · exact ht
    · exact ht.trans (fireUnit_unitsOnly u t)

/-- A move of the count: besides the units and the rotation it changes the count and STEP_COUNT alone. -/
theorem moveCount_time (k : Nat) (d : Int) (s : State) : ∃ cs late rot phase from_, (moveCount k d s).time = { s.time with
    compares := cs, compareLate := late, rotating := rot, rotatePhase := phase, rotateFrom := from_
    count := s.time.count + BitVec.ofInt 80 d, stepCount := s.time.stepCount + 1 } := by
  unfold moveCount
  extract_lets a old before new q b e
  have ha : UnitsOnly s a := (fireReached_unitsOnly s).trans (unitsOnly_of_frame (stopOuts_frame _ _))
  have he : e.time = b.time := raise_time _ _ _ _
  have hb : b.time = { a.time with
      rotating := b.time.rotating, rotatePhase := b.time.rotatePhase, rotateFrom := b.time.rotateFrom
      count := new, stepCount := a.time.stepCount + 1 } := rfl
  have hend : OnlyIn [.fwd, .ctr, .meas, .port, .cmd] (stepUnits old new e)
      (stepGates old (stepCalendars before d (stepSnapshot before d (stepUnits old new e)))) :=
    frame_step (frame_step (frame_within (frame_ctr _ _)) (stepCalendars_frame before d _)) (stepGates_frame old _)
  have hcount : new = s.time.count + BitVec.ofInt 80 d := by
    show a.time.count + _ = _
    rw [ha]
  rw [time_of_frame hend]
  refine ⟨(stepUnits old new e).time.compares, a.time.compareLate, b.time.rotating, b.time.rotatePhase, b.time.rotateFrom, ?_⟩
  have hstep : (stepUnits old new e).time = { e.time with compares := (stepUnits old new e).time.compares } := rfl
  rw [hstep, he, hb, ha, hcount]

/-- A count that moves by its distance from a value takes it. -/
theorem add_sdiff (c v : AT80) : c + BitVec.ofInt 80 (sdiff v c) = v := by
  rw [sdiff, BitVec.ofInt_toInt]
  exact add_sub_cancel c v

/-- Loading a value sets the count to it, and the state. -/
theorem loadCount_time (v : AT80) (st : TimeState) (k o e : Nat) (s : State) : ∃ cs late rot phase from_,
    (loadCount v st k o e s).time = { s.time with
      compares := cs, compareLate := late, rotating := rot, rotatePhase := phase, rotateFrom := from_
      count := v, stepCount := s.time.stepCount + 1, state := st } := by
  obtain ⟨cs, late, rot, phase, from_, h⟩ := moveCount_time k (sdiff v s.time.count) s
  refine ⟨cs, late, rot, phase, from_, ?_⟩
  unfold loadCount
  extract_lets a
  rw [raise_time]
  show { a.time with state := st } = _
  rw [h, add_sdiff]

/-! ### O29 -/

/-- A move of the count by a set: in UNSET it loads the value, else it reads it at the milestone. -/
theorem applyTimeSet_unset (r : Req) (c : Nat) (s : State) (h : s.time.state = .unset) :
    applyTimeSet r c s = loadCount (BitVec.ofNat 80 (fld r.params 0 10)) .host 2 0 0xFF s := if_pos h

theorem applyTimeSet_set (r : Req) (c : Nat) (s : State) (h : s.time.state ≠ .unset) :
    applyTimeSet r c s = moveCount 1 (sdiff (BitVec.ofNat 80 (fld r.params 0 10)) (atOf s.ms)) s := if_neg h

theorem applyAnnounceStep_step (r : Req) (c : Nat) (s : State) (h : fld r.params 8 1 ≠ 1) :
    applyAnnounceStep r c s = moveCount 4 (sfld r.params 16 10) s := if_pos h

theorem applyAnnounceStep_load (r : Req) (c : Nat) (s : State) (h : fld r.params 8 1 = 1) (hst : s.time.state = .unset) :
    applyAnnounceStep r c s = loadCount (BitVec.ofNat 80 (fld r.params 16 10)) .host 4 0 0xFF s :=
  (if_neg (by simp [h])).trans (if_pos hst)

theorem applyAnnounceStep_set (r : Req) (c : Nat) (s : State) (h : fld r.params 8 1 = 1) (hst : s.time.state ≠ .unset) :
    applyAnnounceStep r c s = moveCount 4 (sdiff (BitVec.ofNat 80 (fld r.params 16 10)) s.time.count) s :=
  (if_neg (by simp [h])).trans (if_neg hst)

theorem apply_timeSet (r : Req) (c : Nat) (s : State) : Op.apply .timeSet r c s = applyTimeSet r c s := rfl

theorem apply_timeStep (r : Req) (c : Nat) (s : State) : Op.apply .timeStep r c s = moveCount 0 (sfld r.params 0 8) s := rfl

theorem apply_announceStep (r : Req) (c : Nat) (s : State) : Op.apply .announceStep r c s = applyAnnounceStep r c s := rfl

/-- A move of the count or a load: it counts once, and leaves the clock, the thresholds and the time scale. -/
def Moves (s t : State) : Prop := (∃ k d, t = moveCount k d s) ∨ ∃ v st k f e, t = loadCount v st k f e s

theorem Moves.keeps {s t : State} (h : Moves s t) :
    t.time.stepCount = s.time.stepCount + 1 ∧ t.time.mono = s.time.mono ∧ t.time.running = s.time.running ∧
    t.time.jumpThr = s.time.jumpThr ∧ t.time.stepThr = s.time.stepThr ∧ t.time.utcOffset = s.time.utcOffset ∧
    t.time.leap61 = s.time.leap61 ∧ t.time.leap59 = s.time.leap59 := by
  obtain ⟨k, d, h⟩ | ⟨v, st, k, f, e, h⟩ := h
  · obtain ⟨cs, late, rot, phase, from_, htime⟩ := moveCount_time k d s
    rw [h, htime]
    exact ⟨rfl, rfl, rfl, rfl, rfl, rfl, rfl, rfl⟩
  · obtain ⟨cs, late, rot, phase, from_, htime⟩ := loadCount_time v st k f e s
    rw [h, htime]
    exact ⟨rfl, rfl, rfl, rfl, rfl, rfl, rfl, rfl⟩

theorem moveCount_count (k : Nat) (d : Int) (s : State) : (moveCount k d s).time.count = s.time.count + BitVec.ofInt 80 d := by
  obtain ⟨cs, late, rot, phase, from_, htime⟩ := moveCount_time k d s
  rw [htime]

theorem moveCount_state (k : Nat) (d : Int) (s : State) : (moveCount k d s).time.state = s.time.state := by
  obtain ⟨cs, late, rot, phase, from_, htime⟩ := moveCount_time k d s
  rw [htime]

theorem loadCount_count (v : AT80) (st : TimeState) (k o e : Nat) (s : State) : (loadCount v st k o e s).time.count = v := by
  obtain ⟨cs, late, rot, phase, from_, htime⟩ := loadCount_time v st k o e s
  rw [htime]

theorem loadCount_state (v : AT80) (st : TimeState) (k o e : Nat) (s : State) : (loadCount v st k o e s).time.state = st := by
  obtain ⟨cs, late, rot, phase, from_, htime⟩ := loadCount_time v st k o e s
  rw [htime]

theorem moves_timeSet (r : Req) (c : Nat) (s : State) : Moves s (applyTimeSet r c s) := by
  by_cases h : s.time.state = .unset
  · rw [applyTimeSet_unset r c s h]
    exact Or.inr ⟨_, _, _, _, _, rfl⟩
  · rw [applyTimeSet_set r c s h]
    exact Or.inl ⟨_, _, rfl⟩

theorem moves_announceStep (r : Req) (c : Nat) (s : State) : Moves s (applyAnnounceStep r c s) := by
  by_cases h : fld r.params 8 1 = 1
  · by_cases hst : s.time.state = .unset
    · rw [applyAnnounceStep_load r c s h hst]
      exact Or.inr ⟨_, _, _, _, _, rfl⟩
    · rw [applyAnnounceStep_set r c s h hst]
      exact Or.inl ⟨_, _, rfl⟩
  · rw [applyAnnounceStep_step r c s h]
    exact Or.inl ⟨_, _, rfl⟩

theorem applyAnnounceStep_count (r : Req) (c : Nat) (s : State) (h : fld r.params 8 1 = 1) :
    (applyAnnounceStep r c s).time.count = BitVec.ofNat 80 (fld r.params 16 10) := by
  by_cases hst : s.time.state = .unset
  · rw [applyAnnounceStep_load r c s h hst, loadCount_count]
  · rw [applyAnnounceStep_set r c s h hst, moveCount_count, add_sdiff]

/-- Settles O29: what a move of the count makes of the Almanac, whatever fires with it. That an announced load in UNSET gives HOST is the
log's entry 15; that a set which commits in another state moves the count and keeps it, a late one too, its entries 57 and 43. -/
theorem stepsMoveTheCount : Obligations.StepsMoveTheCount := by
  intro r c s v
  rw [apply_timeStep, apply_timeSet, apply_announceStep]
  refine ⟨fun o t ht ho => ?_, moveCount_count _ _ s, moveCount_state _ _ s, fun hst => ?_, fun hst => ?_,
    applyAnnounceStep_count r c s, fun hl hst => ?_, fun hl => ?_⟩
  · rw [ht]
    obtain rfl | rfl | rfl := ho
    · rw [apply_timeSet]
      exact (moves_timeSet r c s).keeps
    · rw [apply_timeStep]
      exact Moves.keeps (Or.inl ⟨_, _, rfl⟩)
    · rw [apply_announceStep]
      exact (moves_announceStep r c s).keeps
  · rw [applyTimeSet_unset r c s hst]
    exact ⟨loadCount_count .., loadCount_state ..⟩
  · rw [applyTimeSet_set r c s hst, moveCount_count, moveCount_state, sdiff, BitVec.ofInt_toInt]
    exact ⟨rfl, rfl⟩
  · rw [applyAnnounceStep_load r c s hl hst, loadCount_state]
  · rw [applyAnnounceStep_step r c s hl, moveCount_count]

end Sys2Proof.Machine
end

section
/-! SUPPORT. The firing of a unit, its pulse, the load of the reference time and the pulse of a PPS input (R38, R47 to R49, R192). -/

namespace Sys2Proof.Machine

set_option Elab.async false

/-! ### Compare units -/

@[simp] theorem unit_setUnit_same (s : State) (n : Nat) (c : Compare) : (s.setUnit n c).unit n = c := by
  simp [State.setUnit, State.unit]

@[simp] theorem setUnit_setUnit (s : State) (n : Nat) (c d : Compare) : (s.setUnit n c).setUnit n d = s.setUnit n d := by
  simp only [State.setUnit, tput_tput_same]

theorem fireUnit_of_not_fires (u : Nat) (s : State) (h : s.fires (s.unit u) = false) : fireUnit u s = s := by
  unfold fireUnit
  extract_lets c late a edge b
  exact if_pos (by rw [h]; rfl)

theorem compareFire_of_not_fires (u : Nat) (s : State) (h : s.fires (s.unit u) = false) : compareFire u s = s := by
  unfold compareFire
  rw [fireUnit_of_not_fires u s h]
  exact if_neg (by simp)

/-- But for a wake alarm, COMPARE_FIRE is the firing. -/
theorem compareFire_of_function (u : Nat) (s : State) (h : ((fireUnit u s).unit u).function ≠ 3) : compareFire u s = fireUnit u s :=
  if_neg (by simp [h])

theorem notifyFired_of_quiet (u : Nat) (due edge : AT80) (s : State) (h : (s.unit u).notify = false) : notifyFired u due edge s = s :=
  if_neg (by simp [h])

theorem due_of_single (c : Compare) (h : c.periodic = false) : c.due = c.target := by
  simp [Compare.due, Compare.nth, h]

/-- A single unit that has fired on time. -/
def Compare.firedOnce (c : Compare) : Compare := { c with fired := true, late := false }

/-- The end of the pulse that starts at an edge. -/
def pulseEnds (s : State) (c : Compare) (edge : AT80) : Nat :=
  ((s.time.mono : Int) + sdiff edge s.time.count + (c.width * 65536 : Nat)).toNat

theorem firePulse_drives (n : Nat) (e : AT80) (c : Compare) (s : State) : firePulse n e (s.setUnit n c) =
    if c.pulsing s.time.mono = false ∧ s.board.scan = none then
      (s.setUnit n { c with pulseEnd := some (pulseEnds s c e) }).emit (.pulse n e (!c.activeLow) (s.outLat c))
    else s.setUnit n { c with pulseEnd := some (pulseEnds s c e) } := by
  unfold firePulse
  extract_lets c' ends a
  have hc : c' = c := unit_setUnit_same s n c
  have ha : a = s.setUnit n { c with pulseEnd := some (pulseEnds s c e) } := by
    unfold a ends
    rw [setUnit_setUnit, hc]
    rfl
  have hmono : (s.setUnit n c).time.mono = s.time.mono := rfl
  have hlat : (s.setUnit n c).outLat c = s.outLat c := rfl
  rw [ha, hc, hmono, hlat]
  cases hp : c.pulsing s.time.mono with
  | true => exact (if_neg (by simp)).symm
  | false =>
    show State.drive _ _ = _
    unfold State.drive
    have hb : (s.setUnit n { c with pulseEnd := some (pulseEnds s c e) }).board = s.board := rfl
    rw [hb]
    cases hs : s.board.scan with
    | none => exact (if_pos ⟨rfl, rfl⟩).symm
    | some x => exact (if_neg (by simp)).symm

/-- A single unit that has fired on time, with the end of its pulse where it drives a pin. -/
def Compare.onTime (c : Compare) (s : State) : Compare :=
  { c with fired := true, late := false
           pulseEnd := if decide (c.function = 1 ∨ c.function = 2) then some (pulseEnds s c c.target) else c.pulseEnd }

/-- The state after a single unit has fired on time. -/
def firedOnTime (n : Nat) (c : Compare) (s : State) : State :=
  if decide (c.function = 1 ∨ c.function = 2) ∧ c.pulsing s.time.mono = false ∧ s.board.scan = none then
    (s.setUnit n (c.onTime s)).emit (.pulse n c.target (!c.activeLow) (s.outLat c))
  else s.setUnit n (c.onTime s)

theorem firedOnTime_unit (n : Nat) (c : Compare) (s : State) : (firedOnTime n c s).unit n = c.onTime s := by
  unfold firedOnTime
  split
  · exact unit_setUnit_same s n _
  · exact unit_setUnit_same s n _

/-- The unit's pulse as it fires, on a pin or not. -/
theorem firedOnTime_eq (n : Nat) (c : Compare) (s : State) :
    (if c.drives then firePulse n c.target (s.setUnit n c.firedOnce) else s.setUnit n c.firedOnce) = firedOnTime n c s := by
  rw [firePulse_drives]
  unfold firedOnTime Compare.onTime
  cases hd : c.drives with
  | false =>
    have hd' : decide (c.function = 1 ∨ c.function = 2) = false := hd
    rw [hd', if_neg (by simp), if_neg (by simp), if_neg (by simp)]
    rfl
  | true =>
    have hd' : decide (c.function = 1 ∨ c.function = 2) = true := hd
    rw [hd', if_pos rfl, if_pos rfl]
    have hsame : c.firedOnce.pulsing s.time.mono = c.pulsing s.time.mono := rfl
    rw [hsame]
    by_cases hb : c.pulsing s.time.mono = false ∧ s.board.scan = none
    · rw [if_pos hb, if_pos ⟨rfl, hb⟩]
      rfl
    · rw [if_neg hb, if_neg (fun h => hb h.2)]
      rfl

theorem fireUnit_single (n : Nat) (s : State) (hf : s.fires (s.unit n) = true) (hp : (s.unit n).periodic = false)
    (hl : (s.unit n).latePending = false) : fireUnit n s = notifyFired n (s.unit n).target (s.unit n).target
      (if (s.unit n).drives then firePulse n (s.unit n).target (s.setUnit n (s.unit n).firedOnce)
        else s.setUnit n (s.unit n).firedOnce) := by
  unfold fireUnit
  generalize s.unit n = c at hf hp hl
  obtain ⟨claimed, function, resource, armed, fired, late, skipped, periodic⟩ := c
  cases hp
  cases hl
  simp only [hf, due_of_single, Bool.not_true, Bool.not_false, Bool.false_and, Bool.and_true, Bool.false_eq_true, if_false]
  rfl

theorem compareFire_single (n : Nat) (s : State) (hf : s.fires (s.unit n) = true) (hp : (s.unit n).periodic = false)
    (hl : (s.unit n).latePending = false) (h3 : (s.unit n).function ≠ 3) (hn : (s.unit n).notify = false) :
    compareFire n s = firedOnTime n (s.unit n) s := by
  have hfire : fireUnit n s = firedOnTime n (s.unit n) s := by
    rw [fireUnit_single n s hf hp hl, firedOnTime_eq]
    exact notifyFired_of_quiet _ _ _ _ ((congrArg Compare.notify (firedOnTime_unit n (s.unit n) s)).trans hn)
  rw [compareFire_of_function, hfire]
  rw [hfire]
  exact fun h => h3 ((congrArg Compare.function (firedOnTime_unit n (s.unit n) s)).symm.trans h)

/-- A single unit whose late firing leaves no pulse, fired at a milestone after that of the move. -/
def Compare.firedLate (c : Compare) : Compare := { c with fired := true, late := true, latePending := false }

theorem fireUnit_late (n : Nat) (s : State) (hf : s.fires (s.unit n) = true) (hp : (s.unit n).periodic = false)
    (hl : (s.unit n).latePending = true) (hq : (s.unit n).lateQuiet = true) :
    fireUnit n s = notifyFired n (s.unit n).target (atOf (raise .warn 0x2105 [BitVec.ofNat 8 n] { s with time.compareLate := true }).ms)
      ((raise .warn 0x2105 [BitVec.ofNat 8 n] { s with time.compareLate := true }).setUnit n (s.unit n).firedLate) := by
  unfold fireUnit
  generalize s.unit n = c at hf hp hl hq
  obtain ⟨claimed, function, resource, armed, fired, late, skipped, periodic, activeLow, notify, lateQuiet⟩ := c
  cases hp
  cases hl
  cases hq
  simp only [hf, due_of_single, Bool.not_true, Bool.not_false, Bool.and_self, Bool.and_false, Bool.false_eq_true, if_false, if_true]
  rfl

theorem compareFire_late (n : Nat) (s : State) (hf : s.fires (s.unit n) = true) (hp : (s.unit n).periodic = false)
    (hl : (s.unit n).latePending = true) (hq : (s.unit n).lateQuiet = true) (h3 : (s.unit n).function ≠ 3)
    (hn : (s.unit n).notify = false) : compareFire n s =
      (raise .warn 0x2105 [BitVec.ofNat 8 n] { s with time.compareLate := true }).setUnit n (s.unit n).firedLate := by
  have hfire := fireUnit_late n s hf hp hl hq
  rw [notifyFired_of_quiet] at hfire
  · rw [compareFire_of_function, hfire]
    rw [hfire, unit_setUnit_same]
    exact h3
  · rw [unit_setUnit_same]
    exact hn

/-! ### Pulses, the rotation and the reference time -/

theorem endPulse_ends (n e : Nat) (s : State) (h : (s.unit n).pulseEnd = some e) (he : e ≤ s.time.mono) : endPulse n s =
    (s.setUnit n { s.unit n with pulseEnd := none }).drive (.pulseEnd n (s.unit n).activeLow (s.outLat (s.unit n))) := by
  unfold endPulse
  extract_lets c
  have hc : c.pulseEnd = some e := h
  rw [hc]
  exact if_pos he

theorem endPulse_none (n : Nat) (s : State) (h : (s.unit n).pulseEnd = none) : endPulse n s = s := by
  unfold endPulse
  extract_lets c
  have hc : c.pulseEnd = none := h
  rw [hc]

theorem drive_eq (o : Out) (s : State) : s.drive o = if s.board.scan = none then s.emit o else s := by
  unfold State.drive
  cases s.board.scan with
  | none => rfl
  | some x => rfl

theorem loadReference_none (s : State) (h : s.time.loadEntry = none) : loadReference s = s := by
  unfold loadReference
  rw [h]

/-- The load of an estimate of entry `e` at a milestone, before what the entry is followed with. -/
def referenceCount (e : Nat) (s : State) : State :=
  loadCount (s.time.count + BitVec.ofInt 80 s.time.offset) .following 2 1 e { s with time.excess := 0 }

theorem loadReference_unset (e : Nat) (s : State) (he : s.time.loadEntry = some e) (hst : s.time.state = .unset)
    (hr : s.time.running = true) : ∃ m v, loadReference s = (let t := announceStep m 1 v (referenceCount e { s with time.loadEntry := none });
      if t.ref.selected = some e then follow e 0 t else t) := by
  refine ⟨State.ms { s with time.loadEntry := none }, s.time.count + BitVec.ofInt 80 s.time.offset, ?_⟩
  unfold loadReference referenceCount
  rw [he]
  dsimp only
  rw [if_pos ⟨hst, hr⟩]

theorem referenceCount_time (e : Nat) (s : State) : (referenceCount e s).time.state = .following ∧
    (referenceCount e s).time.loadEntry = s.time.loadEntry ∧ (referenceCount e s).time.stepCount = s.time.stepCount + 1 ∧
    (referenceCount e s).time.count = s.time.count + BitVec.ofInt 80 s.time.offset := by
  obtain ⟨cs, late, rot, phase, from_, htime⟩ := loadCount_time (s.time.count + BitVec.ofInt 80 s.time.offset) .following 2 1 e
    { s with time.excess := 0 }
  rw [referenceCount, htime]
  exact ⟨rfl, rfl, rfl, rfl⟩

/-- The reference time is loaded: the state follows it. -/
theorem loadReference_loads (e : Nat) (s : State) (he : s.time.loadEntry = some e) (hst : s.time.state = .unset)
    (hr : s.time.running = true) : (loadReference s).time.state = .following ∧ (loadReference s).time.loadEntry = none ∧
      (loadReference s).time.stepCount = s.time.stepCount + 1 ∧
      (loadReference s).time.count = s.time.count + BitVec.ofInt 80 s.time.offset := by
  obtain ⟨m, v, h⟩ := loadReference_unset e s he hst hr
  have ha := time_of_frame (announceStep_frame m 1 v (referenceCount e { s with time.loadEntry := none }))
  rw [h]
  generalize announceStep m 1 v (referenceCount e _) = t at ha ⊢
  have hend : (if t.ref.selected = some e then follow e 0 t else t).time = t.time :=
    time_of_frame (frame_ite (cs := [.ref]) (follow_frame e 0 t) (frame_refl _ t))
  dsimp only
  rw [hend, ha]
  exact referenceCount_time e { s with time.loadEntry := none }

theorem ppsPulse_selected (n e : Nat) (s : State) (hs : s.ref.selected = some e) (hk : (s.refEntry e).kind = 1)
    (hi : (s.refEntry e).index = n) : ppsPulse n s =
      (let t : Int := (s.time.count.toNat : Int) - (s.refEntry e).delay * 256;
        estimate e ((openRound t second s).1 * second - t) false (openRound t second s).2) := by
  unfold ppsPulse
  rw [hs]
  exact if_neg (by simp [hk, hi])

theorem ppsPulse_none (n : Nat) (s : State) (hs : s.ref.selected = none) : ppsPulse n s = s := by
  unfold ppsPulse
  rw [hs]

/-! ### When a unit fires -/

theorem fires_on_time (s : State) (c : Compare) (hc : c.claimed = true) (ha : c.armed = true) (hf : c.fired = false)
    (hp : c.periodic = false) (hl : c.latePending = false) (hr : s.time.running = true)
    (ht : 0 ≤ sdiff (nsOf s.time.count) (nsOf c.target)) : s.fires c = true := by
  simp [State.fires, hc, ha, hf, hl, hr, due_of_single c hp, nsReached, ht]

theorem fires_late (s : State) (c : Compare) (hc : c.claimed = true) (ha : c.armed = true) (hf : c.fired = false)
    (hl : c.latePending = true) (hr : s.time.running = true) (ht : s.ms ≠ c.lateSince) : s.fires c = true := by
  simp [State.fires, hc, ha, hf, hl, hr, ht]

theorem not_fires (s : State) (c : Compare)
    (h : c.claimed = false ∨ c.armed = false ∨ s.time.running = false ∨ c.latePending = true ∧ s.ms = c.lateSince) :
    s.fires c = false := by
  obtain h | h | h | ⟨hl, ht⟩ := h
  · simp [State.fires, h]
  · simp [State.fires, h]
  · simp [State.fires, h]
  · simp [State.fires, hl, ht]

theorem not_fires_early (s : State) (c : Compare) (hp : c.periodic = false) (hl : c.latePending = false)
    (ht : sdiff (nsOf s.time.count) (nsOf c.target) < 0) : s.fires c = false := by
  simp [State.fires, hl, due_of_single c hp, nsReached, ht]

/-- Settles O40: the rows of the Almanac. That ARMED stays after the firing, the slot of a late firing and the repeat during a pulse are the
log's entry 43; the firing unseen under boundary scan its entry 57. -/
theorem timeEventsTakeEffect : Obligations.TimeEventsTakeEffect := by
  intro dt s u
  refine ⟨fun e he hst hr => ?_, fun he => ?_, fun h => ?_, fun h => ?_, ?_, ?_, ?_, ?_, fun n e hp he => ?_, ?_, fun n hp => ?_,
    fun n e hs hk hi => ?_, fun hs n => ?_⟩
  · refine runs_of (f := loadReference) rfl ?_
    rw [finish_time]
    exact loadReference_loads e u he hst hr
  · exact leads_of (f := loadReference) rfl (loadReference_none u he)
  · exact leads_of (f := rotationDone) rfl (if_pos h)
  · exact leads_of (f := rotationDone) rfl (if_neg h)
  · rintro n _ rfl hc ha hf hp hl h3 hn hr ht pin ends w
    exact leads_of (f := compareFire n) rfl (compareFire_single n u (fires_on_time u _ hc ha hf hp hl hr ht) hp hl h3 hn)
  · rintro n _ rfl hc ha hf hp hl h3 hn hq hr ht
    exact leads_of (f := compareFire n) rfl (compareFire_late n u (fires_late u _ hc ha hf hl hr ht) hp hl hq h3 hn)
  · rintro n _ rfl h
    exact leads_of (f := compareFire n) rfl (compareFire_of_not_fires n u (not_fires u _ h))
  · rintro n _ rfl hc ha hp hl ht
    exact leads_of (f := compareFire n) rfl (compareFire_of_not_fires n u (not_fires_early u _ hp hl ht))
  · refine leads_of (f := endPulse n) rfl ((endPulse_ends n e u hp he).trans ?_)
    exact drive_eq _ _
  · rintro c _ rfl
    simp [State.outLat, bit]
  · exact leads_of (f := endPulse n) rfl (endPulse_none n u hp)
  · exact leads_of (f := ppsPulse n) rfl (ppsPulse_selected n e u hs hk hi)
  · exact leads_of (f := ppsPulse n) rfl (ppsPulse_none n u hs)

end Sys2Proof.Machine
end

section
/-! SUPPORT. What is stored for the logical ports, and what time does to it: residue lines, deadlines and holds (R107, R112, R113, R134). -/

namespace Sys2Proof.Machine

set_option Elab.async false

/-! ### The stored branches and the calendars -/

/-- What is stored for the logical ports, and what their calendars are. -/
def State.stock (s : State) : List Branch × Tbl Calendar × Tbl Swap × Tbl Milestone :=
  (s.fwd.branches, s.fwd.active, s.fwd.swaps, s.fwd.removals)

theorem stock_of_fwd {s t : State} (h : t.fwd = s.fwd) : t.stock = s.stock := by rw [State.stock, h]; rfl

theorem stock_of_frame {cs : List Mod} {s t : State} (h : OnlyIn cs s t) (hc : Mod.fwd ∉ cs := by decide) : t.stock = s.stock :=
  stock_of_fwd (fwd_of_frame h hc)

theorem branches_of_stock {s t : State} (h : t.stock = s.stock) : t.fwd.branches = s.fwd.branches := congrArg Prod.fst h

theorem sendFrame_stock (l : Nat) (o : Out) (x : List Byte) (s : State) : (sendFrame l o x s).stock = s.stock := by
  unfold sendFrame
  split
  · rfl
  · rfl

theorem sendPfc_stock (l p q : Nat) (s : State) : (sendPfc l p q s).stock = s.stock := by
  unfold sendPfc
  exact (stock_of_frame (countBy_frame _ _ _ _ _ _)).trans (sendFrame_stock _ _ _ s)

theorem sendXoff_stock (l p : Nat) (s : State) : (sendXoff l p s).stock = s.stock := sendPfc_stock _ _ _ _

theorem pfcCheck_stock (l p : Nat) (s : State) : (pfcCheck l p s).stock = s.stock := by
  unfold pfcCheck
  dsimp only
  split
  · rfl
  · split
    · split
      · exact sendPfc_stock _ _ _ _
      · rfl
    · split
      · split
        · exact sendXoff_stock l p s
        · rfl
      · rfl

theorem pfcCheckCopy_stock (c : Copy) (s : State) : (pfcCheckCopy c s).stock = s.stock := by
  unfold pfcCheckCopy
  split
  · exact pfcCheck_stock _ _ s
  · rfl

theorem freeCopy_stock (i : Nat) (s : State) : (freeCopy i s).stock = s.stock := by
  unfold freeCopy
  split
  · rfl
  · split
    · rfl
    · exact pfcCheckCopy_stock _ _

theorem resetDeficit_stock (l k : Nat) (s : State) : (resetDeficit l k s).stock = s.stock := by
  unfold resetDeficit
  split
  · rfl
  · rfl

/-- A branch that is taken out is the only change to what is stored. -/
theorem unlink_stock (b : Branch) (s : State) : (unlink b s).stock = ({ s with fwd.branches := s.fwd.branches.erase b } : State).stock :=
  (resetDeficit_stock _ _ _).trans (freeCopy_stock _ _)

theorem discard_stock (c g : Nat) (n : Bool) (b : Branch) (s : State) :
    (discard c g n b s).stock = ({ s with fwd.branches := s.fwd.branches.erase b } : State).stock := by
  unfold discard
  split
  · exact unlink_stock b s
  · dsimp only
    refine Eq.trans (stock_of_frame (frame_ite (cs := [.ctr]) ?_ ?_)) (unlink_stock b s)
    · exact frame_trans (pushTag_frame _ _ _) (countClass_frame _ _ _ _ _ _ _ _)
    · exact pushTag_frame _ _ _

theorem discard_branches (c g : Nat) (n : Bool) (b : Branch) (s : State) :
    (discard c g n b s).fwd.branches = s.fwd.branches.erase b := branches_of_stock (discard_stock c g n b s)

/-- An enqueued branch stands behind the stored ones. -/
theorem enqueue_branches (b : Branch) (f : Frame) (s : State) : ∃ m x, (enqueue b f s).fwd.branches =
    s.fwd.branches ++ [{ b with residue := none, marked := m, admitted := s.time.mono, qlen := x }] := by
  unfold enqueue
  dsimp only
  generalize hx : (if decide ((s.queueCfg b.lport b.cls).ecn = 1) && ectCapable (parse f.wm f.data) then ecnMark _ _ s
    else (false, s)) = x
  have hmark : OnlyIn [] s x.2 := by
    rw [← hx]
    split
    · exact ecnMark_frame _ _ s
    · exact frame_refl _ s
  obtain ⟨m, t⟩ := x
  dsimp only at hmark ⊢
  generalize hw : (if m = true then countClass _ _ _ _ _ _ _ t else t) = w
  have hcount : OnlyIn [.ctr] s w := by
    rw [← hw]
    exact frame_ite (frame_then hmark (countClass_frame _ _ _ _ _ _ _ t)) (frame_within hmark)
  refine ⟨m, s.queueLen b.lport b.cls, ?_⟩
  have hfwd := fwd_of_frame hcount
  have htime := time_of_frame hcount
  split
  · show w.fwd.branches ++ _ = _
    rw [hfwd, htime]
  · show w.fwd.branches ++ _ = _
    rw [hfwd, htime]

theorem stock_pair_ite {α : Type} {c : Prop} [Decidable c] {x y : α × State} {s : State} (hx : x.2.stock = s.stock)
    (hy : y.2.stock = s.stock) : (if c then x else y).2.stock = s.stock := by
  split
  · exact hx
  · exact hy

theorem takeToken_stock (r : Nat) (s : State) : (takeToken r s).2.stock = s.stock := stock_pair_ite rfl rfl

theorem punt_stock (f : Frame) (l r a : Nat) (b c : Bool) (s : State) : (punt f l r a b c s).2.stock = s.stock := by
  have htoken := takeToken_stock r s
  generalize hg : @punt = g
  delta punt at hg
  subst hg
  beta_reduce
  generalize takeToken r s = x at htoken ⊢
  obtain ⟨ok, t⟩ := x
  dsimp only at htoken ⊢
  have hdrop : ∀ (u : State) (k : Nat) (e : Fate),
      (pushTag f e (dropIn l k (some f.cls) f.injected f.data u)).stock = u.stock :=
    fun u k e => stock_of_frame (frame_trans (dropIn_frame _ _ _ _ _ u) (pushTag_frame f e _))
  split
  · exact (hdrop _ _ _).trans htoken
  · have hring : (ringPush .punt (puntRecord f l r a b c ++ f.data) t).2.stock = s.stock :=
      (stock_of_frame (ringPush_frame .punt (puntRecord f l r a b c ++ f.data) t)).trans htoken
    generalize ringPush .punt (puntRecord f l r a b c ++ f.data) t = y at hring ⊢
    obtain ⟨ok2, u⟩ := y
    dsimp only at hring ⊢
    split
    · exact (hdrop _ _ _).trans hring
    · exact (stock_of_frame (frame_trans (countBy_frame _ _ _ _ _ u) (pushTag_frame f _ _))).trans hring

theorem store_stock (d p n : Nat) (f : Frame) (s : State) : (store d p n f s).2.stock = s.stock := pfcCheckCopy_stock _ _

/-- What is admitted stands behind the stored branches. -/
theorem admitTo_branches (l : Nat) (m : Bool) (f : Frame) (s : State) :
    ∃ ys, (admitTo l m f s).fwd.branches = s.fwd.branches ++ ys := by
  have hkept : ∀ t : State, t.fwd.branches = s.fwd.branches → ∃ ys, t.fwd.branches = s.fwd.branches ++ ys :=
    fun t h => ⟨[], by rw [h, List.append_nil]⟩
  have hrefuse : ∀ c, ∃ ys, (refuse l c 2 m f s).fwd.branches = s.fwd.branches ++ ys :=
    fun c => hkept _ (branches_of_stock (stock_of_frame (refuse_frame l c 2 m f s)))
  unfold admitTo
  extract_lets d cells p waits pool fits
  split
  · exact hkept _ rfl
  · split
    · exact hrefuse _
    · split
      · split
        · exact hrefuse _
        · have hs := branches_of_stock (store_stock d (if fits then p else 4) cells f s)
          generalize store d (if fits then p else 4) cells f s = x at hs ⊢
          obtain ⟨id, t⟩ := x
          dsimp only at hs ⊢
          rw [← hs]
          split
          · exact ⟨_, rfl⟩
          · obtain ⟨k, x, h⟩ := enqueue_branches { f.branch l m with copy := id } f t
            exact ⟨_, h⟩
      · exact hrefuse _

/-! ### A branch that has been enqueued stays at the head -/

/-- The oldest branch stored is one that was enqueued for a logical port and class at a monotonic instant. -/
def Heads (b : Branch) (instant : Nat) (s : State) : Prop :=
  ∃ x rest, s.fwd.branches = x :: rest ∧ x.residue = none ∧ x.lport = b.lport ∧ x.cls = b.cls ∧ x.copy = b.copy ∧ x.admitted = instant

section
variable {b : Branch} {i : Nat}

theorem heads_of_branches {s t : State} (h : t.fwd.branches = s.fwd.branches) (hs : Heads b i s) : Heads b i t := by
  unfold Heads
  rw [h]
  exact hs

theorem heads_of_append {s t : State} {ys : List Branch} (h : t.fwd.branches = s.fwd.branches ++ ys) (hs : Heads b i s) : Heads b i t := by
  obtain ⟨x, rest, hx, hkeep⟩ := hs
  exact ⟨x, rest ++ ys, by rw [h, hx, List.cons_append], hkeep⟩

/-- A branch of another class, or one that waits in a line, is not the one at the head. -/
theorem heads_erase {s t : State} {y : Branch} (h : t.fwd.branches = s.fwd.branches.erase y) (hy : y.residue ≠ none ∨ y.cls ≠ b.cls)
    (hs : Heads b i s) : Heads b i t := by
  obtain ⟨x, rest, hx, hres, hport, hcls, hrest⟩ := hs
  have hne : x ≠ y := by
    rintro rfl
    obtain hy | hy := hy
    · exact hy hres
    · exact hy hcls
  refine ⟨x, rest.erase y, ?_, hres, hport, hcls, hrest⟩
  rw [h, hx, List.erase_cons_tail (by simpa using hne)]

theorem heads_discard {c g : Nat} {n : Bool} {y : Branch} {s : State} (hy : y.residue ≠ none ∨ y.cls ≠ b.cls) (hs : Heads b i s) :
    Heads b i (discard c g n y s) := heads_erase (discard_branches c g n y s) hy hs

theorem heads_map {s t : State} {g : Branch → Branch} (h : t.fwd.branches = s.fwd.branches.map g)
    (hg : ∀ x, x.residue = none → (g x).residue = none ∧ (g x).lport = x.lport ∧ (g x).cls = x.cls ∧ (g x).copy = x.copy ∧
      (g x).admitted = x.admitted) (hs : Heads b i s) : Heads b i t := by
  obtain ⟨x, rest, hx, hres, hport, hcls, hcopy, hat⟩ := hs
  obtain ⟨gres, gport, gcls, gcopy, gat⟩ := hg x hres
  exact ⟨g x, rest.map g, by rw [h, hx, List.map_cons], gres, gport.trans hport, gcls.trans hcls, gcopy.trans hcopy, gat.trans hat⟩

theorem heads_dropNoFit (hb : b.cls ≠ 7) (l n : Nat) {s : State} (hs : Heads b i s) : Heads b i (dropNoFit l n s) := by
  induction n generalizing s with
  | zero => exact hs
  | succ n ih =>
    unfold dropNoFit
    split
    · next y rest c hq hc =>
      split
      · have hy : y ∈ s.queue l 7 := by rw [hq]; exact List.mem_cons_self
        have hcls : y.cls = 7 := by
          simp only [State.queue, List.mem_filter, decide_eq_true_eq] at hy
          exact hy.2.2.1
        exact ih (heads_discard (Or.inr (by rw [hcls]; exact hb.symm)) hs)
      · exact hs
    · exact hs

theorem heads_foldl {α : Type} {g : State → α → State} (hg : ∀ s a, Heads b i s → Heads b i (g s a)) (l : List α) {s : State}
    (hs : Heads b i s) : Heads b i (l.foldl g s) := by
  induction l generalizing s with
  | nil => exact hs
  | cons a l ih => exact ih (hg s a hs)

theorem heads_mirrorCopy (hb : b.cls ≠ 7) (n : Nat) (f : Frame) {s : State} (hs : Heads b i s) : Heads b i (mirrorCopy n f s) := by
  unfold mirrorCopy
  extract_lets m f' cut c
  split
  · exact heads_of_branches (branches_of_stock (punt_stock _ _ _ _ _ _ s)) hs
  · split
    · exact heads_of_branches (branches_of_stock (stock_of_frame (refuse_frame _ _ _ _ _ s))) hs
    · obtain ⟨ys, h⟩ := admitTo_branches m.dest true c s
      have ha : Heads b i (admitTo m.dest true c s) := heads_of_append h hs
      unfold settleClass7
      split
      · exact heads_foldl (fun t l ht => heads_dropNoFit hb l _ ht) _ ha
      · exact ha

theorem heads_copyBranch (hb : b.cls ≠ 7) (y : Branch) {s : State} (hs : Heads b i s) : Heads b i (copyBranch y s) := by
  unfold copyBranch
  split
  · exact hs
  · exact heads_foldl (fun t o ht => heads_mirrorCopy hb _ _ ht) _ hs

theorem heads_makeCopies (hb : b.cls ≠ 7) {s : State} (hs : Heads b i s) : Heads b i (makeCopies s) := by
  unfold makeCopies
  extract_lets owing t
  refine heads_foldl (fun t y ht => heads_copyBranch hb y ht) _ (heads_map (s := s)
    (g := fun b => if b.residue = none then { b with owes := false } else b) rfl ?_ hs)
  intro x hx
  rw [if_pos hx]
  exact ⟨hx, rfl, rfl, rfl, rfl⟩

theorem heads_expireHead {pick : State → Option Branch} (hpick : ∀ s y, pick s = some y → y.residue ≠ none) (n : Nat) {s : State}
    (hs : Heads b i s) : Heads b i (expireHead pick n s) := by
  induction n generalizing s with
  | zero => exact hs
  | succ n ih =>
    unfold expireHead
    split
    · next y hy =>
      split
      · exact ih (heads_discard (Or.inl (hpick s y hy)) hs)
      · exact hs
    · exact hs

/-- The branches of a line wait. -/
theorem waits_of_mem_line {s : State} {p l k : Nat} {y : Branch} (h : y ∈ s.line p l k) : y.residue ≠ none := by
  simp only [State.line, List.mem_filter, decide_eq_true_eq] at h
  exact h.2.2.2.2

theorem heads_retryLine (hb : b.cls ≠ 7) (p l k n : Nat) {s : State} (hs : Heads b i s) : Heads b i (retryLine p l k n s) := by
  induction n generalizing s with
  | zero => exact hs
  | succ n ih =>
    unfold retryLine
    split
    · exact hs
    · next y rest hline =>
      have hy : y.residue ≠ none := waits_of_mem_line (by rw [hline]; exact List.mem_cons_self)
      split
      · exact ih (heads_erase (branches_of_stock (unlink_stock y s)) (Or.inl hy) hs)
      · next c _ =>
        dsimp only
        split
        · refine ih (heads_makeCopies hb ?_)
          obtain ⟨m, x, h⟩ := enqueue_branches y c.frame { s with fwd.branches := s.fwd.branches.erase y }
          exact heads_of_append h (heads_erase rfl (Or.inl hy) hs)
        · split
          · exact ih (heads_discard (Or.inl hy) hs)
          · exact hs

theorem heads_ageLines (d : Nat) {s : State} (hs : Heads b i s) : Heads b i (ageLines d s) := by
  refine heads_map (s := s) rfl (fun x hx => ?_) hs
  split
  · exact ⟨by rw [hx]; rfl, rfl, rfl, rfl, rfl⟩
  · exact ⟨hx, rfl, rfl, rfl, rfl⟩

end

/-! ### The retries of a die -/

/-- What a retry does on one CORE die. -/
def retryDie (s : State) (d : Nat) : State :=
  if (s.core d).running then
    let ls := s.lines d s.fwd.residueStart
    let s := ls.foldl (fun s k => expireHead (fun s => (s.line k.1 k.2.1 k.2.2).head?) 4 s) s
    ageLines d (ls.foldl (fun s k => if s.portDown k.2.1 then s else retryLine k.1 k.2.1 k.2.2 (s.line k.1 k.2.1 k.2.2).length s) s)
  else s

theorem residueRetry_branches (s : State) : (residueRetry s).fwd.branches = (retryDie (retryDie s 0) 1).fwd.branches := rfl

theorem heads_retryDie {b : Branch} {i : Nat} (hb : b.cls ≠ 7) (d : Nat) {s : State} (hs : Heads b i s) : Heads b i (retryDie s d) := by
  unfold retryDie
  split
  · dsimp only
    refine heads_ageLines d (heads_foldl (fun t k ht => ?_) _ (heads_foldl (fun t k ht => ?_) _ hs))
    · split
      · exact ht
      · exact heads_retryLine hb _ _ _ _ ht
    · exact heads_expireHead (fun u y hy => waits_of_mem_line (List.mem_of_mem_head? hy)) 4 ht
  · exact hs

/-- No branch waits for the die: nothing is tried. -/
theorem retryDie_of_no_line (d : Nat) (s : State) (h : ∀ b ∈ s.fwd.branches, b.residue = none ∨ s.coreOfLport b.lport ≠ d) :
    retryDie s d = s := by
  have hlines : s.lines d s.fwd.residueStart = [] := by
    have hf : s.fwd.branches.filter (fun b => decide (b.residue ≠ none ∧ s.coreOfLport b.lport = d)) = [] := by
      rw [List.filter_eq_nil_iff]
      intro b hb
      simp only [decide_eq_true_eq, not_and]
      intro hres
      exact (h b hb).resolve_left hres
    rw [State.lines, hf]
    exact List.mergeSort_nil
  have hage : s.fwd.branches.map (fun b => if s.coreOfLport b.lport = d then { b with residue := b.residue.map (· - 1) } else b) =
      s.fwd.branches := by
    refine (List.map_congr_left fun b hb => ?_).trans (List.map_id _)
    by_cases hd : s.coreOfLport b.lport = d
    · rw [if_pos hd]
      have hres := (h b hb).resolve_right (fun hne => hne hd)
      obtain ⟨⟩ := b
      cases hres
      rfl
    · rw [if_neg hd]
      rfl
  unfold retryDie
  split
  · rw [hlines]
    dsimp only [List.foldl_nil]
    unfold ageLines
    rw [hage]
  · rfl

/-- A single branch that waits: the lines of its die. -/
theorem lines_single {b : Branch} {k pl : Nat} (s : State) (h : s.fwd.branches = [b]) (hres : b.residue = some k)
    (hfifo : b.fifo = some pl) (start : Nat) : s.lines (s.coreOfLport b.lport) start = [(pl, b.lport, b.cls)] := by
  have hf : s.fwd.branches.filter (fun x => decide (x.residue ≠ none ∧ s.coreOfLport x.lport = s.coreOfLport b.lport)) = [b] := by
    rw [h]
    exact List.filter_cons_of_pos (by simp [hres])
  rw [State.lines, hf, List.map_singleton, hfifo]
  exact List.mergeSort_singleton _

theorem line_single {b : Branch} {k pl : Nat} (s : State) (h : s.fwd.branches = [b]) (hres : b.residue = some k)
    (hfifo : b.fifo = some pl) : s.line pl b.lport b.cls = [b] := by
  rw [State.line, h]
  exact List.filter_cons_of_pos (by simp [hres, hfifo])

theorem expired_of_class {b : Branch} (s : State) (h : deadlineClass b.cls = false) : s.expired b = false := by
  unfold State.expired
  split
  · rw [h]
    rfl
  · rfl

theorem expireHead_of_fresh (pick : State → Option Branch) (n : Nat) (s : State) (h : ∀ b, pick s = some b → s.expired b = false) :
    expireHead pick n s = s := by
  cases n with
  | zero => rfl
  | succ n =>
    unfold expireHead
    split
    · next b hb => rw [h b hb, if_neg (by simp)]
    · rfl

section
variable {b : Branch} {k pl : Nat} {c : Copy} {s : State} (h : s.fwd.branches = [b]) (hres : b.residue = some k)
  (hfifo : b.fifo = some pl) (hcls : b.cls < 4) (hcopy : s.copyOf b.copy = some c) (hdown : s.portDown b.lport = false)
include h hres hfifo

/-- A single branch that waits is tried on its die, where its port is up. -/
theorem retryDie_own (hcls : b.cls < 4) (hrun : (s.core (s.coreOfLport b.lport)).running = true) (hdown : s.portDown b.lport = false) :
    retryDie s (s.coreOfLport b.lport) = ageLines (s.coreOfLport b.lport) (retryLine pl b.lport b.cls 1 s) := by
  have hline := line_single s h hres hfifo
  have hexp : expireHead (fun s => (s.line pl b.lport b.cls).head?) 4 s = s := by
    refine expireHead_of_fresh _ 4 s (fun y hy => ?_)
    rw [hline] at hy
    obtain rfl : b = y := Option.some.inj hy
    exact expired_of_class s (by unfold deadlineClass; rw [decide_eq_false_iff_not]; omega)
  unfold retryDie
  rw [if_pos hrun, lines_single s h hres hfifo]
  dsimp only [List.foldl_cons, List.foldl_nil]
  rw [hexp, hdown, if_neg (by simp), hline]
  rfl

include hcopy hdown

/-- Its queue takes it, and its copies are made. -/
theorem retryLine_enqueues (hfits : s.queueFits (s.coreOfLport b.lport) b.lport b.cls c.cells = true) : retryLine pl b.lport b.cls 1 s =
    makeCopies (enqueue b c.frame { s with fwd.branches := [] }) := by
  have hline := line_single s h hres hfifo
  unfold retryLine
  rw [hline]
  dsimp only
  rw [hcopy]
  dsimp only
  rw [hdown, hfits, if_pos (show (!false && true) = true from rfl), h, List.erase_cons_head]
  rfl

theorem retryLine_last (hfits : s.queueFits (s.coreOfLport b.lport) b.lport b.cls c.cells = false) (hk : k ≤ 1) :
    retryLine pl b.lport b.cls 1 s = discard 0x26 2 true b s := by
  have hline := line_single s h hres hfifo
  unfold retryLine
  rw [hline]
  dsimp only
  rw [hcopy]
  dsimp only
  rw [hdown, hfits, hres, if_neg (by simp)]
  exact if_pos hk

theorem retryLine_waits (hfits : s.queueFits (s.coreOfLport b.lport) b.lport b.cls c.cells = false) (hk : 1 < k) :
    retryLine pl b.lport b.cls 1 s = s := by
  have hline := line_single s h hres hfifo
  unfold retryLine
  rw [hline]
  dsimp only
  rw [hcopy]
  dsimp only
  rw [hdown, hfits, hres, if_neg (by simp)]
  exact if_neg (by simpa using hk)

end

/-- A retry that only one of the two dies has something for. -/
theorem residueRetry_own {b : Branch} {s : State} {P : State → Prop} (h : s.fwd.branches = [b])
    (hown : P (retryDie s (s.coreOfLport b.lport))) (hkeep : s.coreOfLport b.lport = 0 → ∀ t, P t → P (retryDie t 1)) :
    ∃ t, P t ∧ (residueRetry s).fwd.branches = t.fwd.branches := by
  refine ⟨retryDie (retryDie s 0) 1, ?_, residueRetry_branches s⟩
  have hdie : s.coreOfLport b.lport = 0 ∨ s.coreOfLport b.lport = 1 := by
    unfold State.coreOfLport coreOf
    split
    · split
      · exact Or.inl rfl
      · exact Or.inr rfl
    · exact Or.inl rfl
  obtain hd | hd := hdie
  · rw [hd] at hown
    exact hkeep hd _ hown
  · rw [hd] at hown
    rw [retryDie_of_no_line 0 s]
    · exact hown
    · intro x hx
      rw [h, List.mem_singleton] at hx
      rw [hx, hd]
      exact Or.inr (by decide)

/-- A branch that owes nothing, enqueued, has its queue to itself. -/
theorem makeCopies_of_none_owes (s : State) (h : ∀ b ∈ s.fwd.branches, b.owes = false) : (makeCopies s).fwd.branches = s.fwd.branches := by
  have howing : s.fwd.branches.filter (fun b => b.owes && decide (b.residue = none)) = [] := by
    rw [List.filter_eq_nil_iff]
    intro b hb
    simp [h b hb]
  unfold makeCopies
  rw [howing]
  refine (List.map_congr_left fun b hb => ?_).trans (List.map_id _)
  split
  · have ho := h b hb
    obtain ⟨⟩ := b
    cases ho
    rfl
  · rfl

theorem ageLines_single (d : Nat) {x : Branch} {s : State} (h : s.fwd.branches = [x]) (hx : x.residue = none) :
    ∃ y, (ageLines d s).fwd.branches = [y] ∧ y.residue = none := by
  refine ⟨if s.coreOfLport x.lport = d then { x with residue := x.residue.map (· - 1) } else x, ?_, ?_⟩
  · show List.map _ s.fwd.branches = _
    rw [h, List.map_singleton]
  · split
    · show Option.map _ x.residue = none
      rw [hx]
      rfl
    · exact hx

/-- A branch that waits in a line and passes the queue check moves to its queue; it stays alone there when it owes no copies. -/
theorem residueRetry_enqueues {b : Branch} {k pl : Nat} {c : Copy} {s : State} (h : s.fwd.branches = [b]) (hres : b.residue = some k)
    (hfifo : b.fifo = some pl) (hcls : b.cls < 4) (hcopy : s.copyOf b.copy = some c)
    (hrun : (s.core (s.coreOfLport b.lport)).running = true) (hdown : s.portDown b.lport = false)
    (hfits : s.queueFits (s.coreOfLport b.lport) b.lport b.cls c.cells = true) :
    ∃ x rest, (residueRetry s).fwd.branches = x :: rest ∧ (b.owes = false → rest = []) ∧ x.residue = none ∧ x.lport = b.lport ∧
      x.cls = b.cls ∧ x.copy = b.copy ∧ x.admitted = s.time.mono := by
  have hb : b.cls ≠ 7 := by omega
  obtain ⟨m, q, henq⟩ := enqueue_branches b c.frame { s with fwd.branches := [] }
  have hheads : Heads b s.time.mono (enqueue b c.frame { s with fwd.branches := [] }) := ⟨_, _, henq, rfl, rfl, rfl, rfl, rfl⟩
  have hown : Heads b s.time.mono (retryDie s (s.coreOfLport b.lport)) := by
    rw [retryDie_own h hres hfifo hcls hrun hdown, retryLine_enqueues h hres hfifo hcopy hdown hfits]
    exact heads_ageLines _ (heads_makeCopies hb hheads)
  by_cases ho : b.owes = false
  · have halone : ∃ x, (retryDie s (s.coreOfLport b.lport)).fwd.branches = [x] ∧ x.residue = none := by
      rw [retryDie_own h hres hfifo hcls hrun hdown, retryLine_enqueues h hres hfifo hcopy hdown hfits]
      refine ageLines_single _ (x := { b with residue := none, marked := m, admitted := s.time.mono, qlen := q }) ?_ rfl
      rw [makeCopies_of_none_owes, henq]
      · rfl
      · rw [henq]
        intro y hy
        obtain rfl := List.mem_singleton.mp hy
        exact ho
    obtain ⟨t, ⟨⟨x, rest, hx, hkeep⟩, y, hy, -⟩, heq⟩ := residueRetry_own
      (P := fun t => Heads b s.time.mono t ∧ ∃ x, t.fwd.branches = [x] ∧ x.residue = none) h ⟨hown, halone⟩
      (fun _ t ht => by
        obtain ⟨hh, x, hx, hxr⟩ := ht
        rw [retryDie_of_no_line 1 t]
        · exact ⟨hh, x, hx, hxr⟩
        · intro y hy
          rw [hx, List.mem_singleton] at hy
          rw [hy]
          exact Or.inl hxr)
    refine ⟨x, rest, heq.trans hx, fun _ => ?_, hkeep⟩
    rw [hx] at hy
    exact (List.cons.inj hy).2
  · obtain ⟨t, ⟨x, rest, hx, hkeep⟩, heq⟩ := residueRetry_own (P := Heads b s.time.mono) h hown (fun _ t ht => heads_retryDie hb 1 ht)
    exact ⟨x, rest, heq.trans hx, fun h => absurd h ho, hkeep⟩

/-- At its last retry it is dropped. -/
theorem residueRetry_drops {b : Branch} {k pl : Nat} {c : Copy} {s : State} (h : s.fwd.branches = [b]) (hres : b.residue = some k)
    (hfifo : b.fifo = some pl) (hcls : b.cls < 4) (hcopy : s.copyOf b.copy = some c)
    (hrun : (s.core (s.coreOfLport b.lport)).running = true) (hdown : s.portDown b.lport = false)
    (hfits : s.queueFits (s.coreOfLport b.lport) b.lport b.cls c.cells = false) (hk : k ≤ 1) :
    (residueRetry s).fwd.branches = [] := by
  obtain ⟨t, ht, heq⟩ := residueRetry_own (P := fun t => t.fwd.branches = []) h
    (by
      rw [retryDie_own h hres hfifo hcls hrun hdown, retryLine_last h hres hfifo hcopy hdown hfits hk]
      show List.map _ (discard _ _ _ _ _).fwd.branches = _
      rw [discard_branches, h, List.erase_cons_head]
      rfl)
    (fun _ t ht => by
      rw [retryDie_of_no_line 1 t (by simp [ht])]
      exact ht)
  exact heq.trans ht

/-- Before that it has one retry fewer. -/
theorem residueRetry_ages {b : Branch} {k pl : Nat} {c : Copy} {s : State} (h : s.fwd.branches = [b]) (hres : b.residue = some k)
    (hfifo : b.fifo = some pl) (hcls : b.cls < 4) (hcopy : s.copyOf b.copy = some c)
    (hrun : (s.core (s.coreOfLport b.lport)).running = true) (hdown : s.portDown b.lport = false)
    (hfits : s.queueFits (s.coreOfLport b.lport) b.lport b.cls c.cells = false) (hk : 1 < k) :
    (residueRetry s).fwd.branches = [{ b with residue := some (k - 1) }] := by
  obtain ⟨t, ht, heq⟩ := residueRetry_own
    (P := fun t => t.part = s.part ∧ t.fwd.branches = [{ b with residue := some (k - 1) }]) h
    (by
      rw [retryDie_own h hres hfifo hcls hrun hdown, retryLine_waits h hres hfifo hcopy hdown hfits hk]
      refine ⟨rfl, ?_⟩
      show List.map _ s.fwd.branches = _
      rw [h, List.map_singleton, if_pos rfl, hres]
      rfl)
    (fun hd t ht => by
      obtain ⟨hpart, hbr⟩ := ht
      rw [retryDie_of_no_line 1 t]
      · exact ⟨hpart, hbr⟩
      · intro y hy
        rw [hbr, List.mem_singleton] at hy
        refine Or.inr ?_
        rw [hy]
        show t.coreOfLport b.lport ≠ 1
        rw [State.coreOfLport, hpart]
        rw [State.coreOfLport] at hd
        rw [hd]
        decide)
  exact heq.trans ht.2

end Sys2Proof.Machine
end

section
/-! SUPPORT. Deadlines, holds and calendars: what expires, what starts at a release instant, what a window's close meets (R107, R120 to R134). -/

namespace Sys2Proof.Machine

set_option Elab.async false

/-! ### Deadlines and holds -/

theorem expireHeads_of_none (s : State) (h : s.deadlineFifos = []) : expireHeads s = s := by
  unfold expireHeads
  rw [h]
  rfl

theorem deadlineFifos_of_none (s : State) (h : ∀ b ∈ s.fwd.branches, deadlineClass b.cls = false) : s.deadlineFifos = [] := by
  have hf : s.fwd.branches.filter (fun b => deadlineClass b.cls && decide (b.residue = none)) = [] := by
    rw [List.filter_eq_nil_iff]
    intro b hb
    simp [h b hb]
  rw [State.deadlineFifos, hf]
  rfl

theorem deadlineClass_of_expired {s : State} {b : Branch} (h : s.expired b = true) : deadlineClass b.cls = true := by
  cases hc : deadlineClass b.cls with
  | true => rfl
  | false => rw [expired_of_class s hc] at h; exact h

section
variable {b : Branch} {s : State} (h : s.fwd.branches = [b]) (hres : b.residue = none)
include h hres

theorem queue_single : s.queue b.lport b.cls = [b] := by
  rw [State.queue, h]
  exact List.filter_cons_of_pos (by simp [hres])

theorem fifoHead_single : s.fifoHead b.lport b.cls b.fifo = some b := by
  rw [State.fifoHead, queue_single h hres]
  exact List.find?_cons_of_pos (by simp)

/-- The head check of a single branch: its FIFO alone. -/
theorem expireHeads_single (hd : deadlineClass b.cls = true) : expireHeads s =
    if (s.core (s.coreOfLport b.lport)).running then expireHead (fun s => s.fifoHead b.lport b.cls b.fifo) 4 s else s := by
  have hf : s.deadlineFifos = [(b.lport, b.cls, b.fifo)] := by
    have hfilter : s.fwd.branches.filter (fun b => deadlineClass b.cls && decide (b.residue = none)) = [b] := by
      rw [h]
      exact List.filter_cons_of_pos (by simp [hd, hres])
    rw [State.deadlineFifos, hfilter]
    rfl
  unfold expireHeads
  rw [hf]
  by_cases hrun : (s.core (s.coreOfLport b.lport)).running = true
  · rw [if_pos hrun, List.filter_cons_of_pos (by simpa using hrun)]
    rfl
  · rw [if_neg hrun, List.filter_cons_of_neg (by simpa using hrun)]
    rfl

theorem expireHeads_expired (hexp : s.expired b = true) (hrun : (s.core (s.coreOfLport b.lport)).running = true) :
    expireHeads s = discard 0x33 2 true b s := by
  rw [expireHeads_single h hres (deadlineClass_of_expired hexp), if_pos hrun]
  have hgone : (discard 0x33 2 true b s).fwd.branches = [] := by rw [discard_branches, h, List.erase_cons_head]
  unfold expireHead
  rw [fifoHead_single h hres]
  dsimp only
  rw [if_pos hexp, expireHead_of_fresh]
  intro y hy
  rw [State.fifoHead, State.queue, hgone] at hy
  exact absurd hy (by simp)

theorem expireHeads_fresh (hexp : s.expired b = false ∨ (s.core (s.coreOfLport b.lport)).running = false) : expireHeads s = s := by
  cases hd : deadlineClass b.cls with
  | false =>
    refine expireHeads_of_none s (deadlineFifos_of_none s fun y hy => ?_)
    rw [h, List.mem_singleton] at hy
    rw [hy, hd]
  | true =>
    rw [expireHeads_single h hres hd]
    obtain hexp | hrun := hexp
    · split
      · refine expireHead_of_fresh _ _ s fun y hy => ?_
        rw [fifoHead_single h hres] at hy
        exact Option.some.inj hy ▸ hexp
      · rfl
    · rw [hrun, if_neg (by simp)]

end

theorem holdEnd_flushes {l t : Nat} {s : State} (h : tfind s.fwd.held l = some t) (hr : s.time.running = true)
    (hdown : s.linkIsDown l = true) (hz : s.frozenDie (s.coreOfLport l) = false) (ht : t + tget s.fwd.holds l 2000 * micro ≤ s.time.mono) :
    holdEnd l s = flush l true { s with fwd.held := tdel s.fwd.held l } := by
  unfold holdEnd
  rw [h]
  exact if_pos (by simp [hr, hdown, hz, ht])

theorem holdEnd_waits {l : Nat} {s : State}
    (h : tfind s.fwd.held l = none ∨ s.linkIsDown l = false ∨ s.frozenDie (s.coreOfLport l) = true) : holdEnd l s = s := by
  unfold holdEnd
  split
  · next t ht =>
    refine if_neg ?_
    obtain h | h | h := h
    · rw [h] at ht
      exact absurd ht (by simp)
    · simp [h]
    · simp [h]
  · rfl

/-! ### Class 7 frames that fit no window -/

theorem dropNoFit_of_empty (l n : Nat) (s : State) (h : s.queue l 7 = []) : dropNoFit l n s = s := by
  cases n with
  | zero => rfl
  | succ n =>
    unfold dropNoFit
    rw [h]

theorem dropNoFit_of_fits {l : Nat} (n : Nat) {s : State} {b : Branch} {rest : List Branch} {c : Calendar} (h : s.queue l 7 = b :: rest)
    (hc : s.calendar l = some c) (hfit : s.branchWire b ≤ (c.windows.map c.duration).foldl max 0) : dropNoFit l n s = s := by
  cases n with
  | zero => rfl
  | succ n =>
    unfold dropNoFit
    rw [h, hc]
    exact if_neg (Nat.not_lt.mpr hfit)

/-- The calendars stay with a discard. -/
theorem dropNoFit_calendars (l n : Nat) (s : State) : (dropNoFit l n s).stock.2 = s.stock.2 := by
  induction n generalizing s with
  | zero => rfl
  | succ n ih =>
    unfold dropNoFit
    split
    · next b rest c hq hc =>
      split
      · have hdrop := congrArg Prod.snd (discard_stock 0x31 2 true b s)
        exact (ih _).trans hdrop
      · rfl
    · rfl

/-! ### Release instants -/

theorem governs_none {l : Nat} {s : State} (h : s.calendar l = none) (m : Milestone) : s.governs l m = (none, 0x7F00) := by
  rw [State.governs, h]

/-- A slot whose release instant is now is no idle one, has its release bit, and its instant lies within 0.5 ns. -/
theorem releaseSlot_spec {l : Nat} {s : State} {m : Milestone} (h : s.releaseSlot l = some m) : ∃ c i, s.calendar l = some c ∧
    (s.governs l m).1 = some i ∧ bit (s.governs l m).2 15 = true ∧
    m.toNat * slotUnits + c.offsetOf i ≤ s.time.count.toNat + 32768 ∧
    s.time.count.toNat ≤ m.toNat * slotUnits + c.offsetOf i + 32768 := by
  unfold State.releaseSlot at h
  have hm := List.find?_some h
  dsimp only at hm
  cases hc : s.calendar l with
  | none =>
    rw [governs_none hc] at hm
    exact absurd hm (by simp)
  | some c =>
    generalize s.governs l m = g at hm ⊢
    obtain ⟨i, e⟩ := g
    cases i with
    | none => exact absurd hm (by simp)
    | some i =>
      rw [hc] at hm
      simp only [Option.getD_some, Bool.and_eq_true, decide_eq_true_eq] at hm
      obtain ⟨hbit, hlo, hhi⟩ := hm
      exact ⟨c, i, rfl, rfl, hbit, hlo, hhi⟩

theorem releaseNow_of_no_calendar (l : Nat) (sound : Bool) (s : State) (h : s.calendar l = none) : releaseNow l sound s = s := by
  have hslot : s.releaseSlot l = none := by
    cases hs : s.releaseSlot l with
    | none => rfl
    | some m =>
      obtain ⟨c, i, hc, -⟩ := releaseSlot_spec hs
      rw [h] at hc
      exact absurd hc (by simp)
  unfold releaseNow
  rw [hslot, ite_self]

theorem releaseNow_idle (l : Nat) (sound : Bool) (s : State) (h : s.queue l 7 = [] ∨ (s.core (s.coreOfLport l)).running = false) :
    releaseNow l sound s = s := by
  obtain h | h := h
  · unfold releaseNow
    split
    · rfl
    · rw [dropNoFit_of_empty l _ s h]
      dsimp only
      rw [h]
  · unfold releaseNow
    rw [h, if_neg (by simp)]

theorem running_of_canStart {l : Nat} {s : State} (h : s.canStart l = true) : (s.core (s.coreOfLport l)).running = true := by
  simp only [State.canStart, State.dieForwards, Bool.and_eq_true] at h
  exact h.1.1.2.1

section
variable {l : Nat} {sound : Bool} {s : State} {c : Calendar} {m : Milestone} {b : Branch}
  (hc : s.calendar l = some c) (hm : s.releaseSlot l = some m) (hq : s.queue l 7 = [b])
  (hfit : s.branchWire b ≤ (c.windows.map c.duration).foldl max 0)
include hc hm hq hfit

theorem releaseNow_starts {close : Nat} (hstart : s.canStart l = true) (hpick : s.scheduledPick l m = some (b, close)) :
    releaseNow l sound s = dropNoFit l s.fwd.branches.length (transmit b sound (some close) (land l s)) := by
  unfold releaseNow
  rw [running_of_canStart hstart, if_pos rfl, hm]
  dsimp only
  rw [dropNoFit_of_fits _ hq hc hfit, hq]
  dsimp only
  rw [if_pos hstart, hpick]

theorem releaseNow_delays (hrun : (s.core (s.coreOfLport l)).running = true) (hbusy : s.time.mono < (s.egress l).freeAt)
    (hcls : (s.egress l).cls ≠ 7) : ∃ x, releaseNow l sound s = { s.setEgress l { s.egress l with delayed := true } with ctr := x } := by
  have hstart : s.canStart l = false := by
    unfold State.canStart
    rw [decide_eq_false (Nat.not_le.mpr hbusy), Bool.and_false]
  have hend : releaseNow l sound s = if s.time.mono < (s.egress l).endAt then
      countBy { cls := some 7 } 2 l 7 1 (s.setEgress l { s.egress l with delayed := true })
      else s.setEgress l { s.egress l with delayed := true } := by
    unfold releaseNow
    rw [hrun, if_pos rfl, hm]
    dsimp only
    rw [dropNoFit_of_fits _ hq hc hfit, hq]
    dsimp only
    rw [hstart, if_neg (by simp), if_pos (by simp [hbusy, hcls])]
    rfl
  rw [hend]
  split
  · exact countBy_ctr _ _ _ _ _ _
  · exact ⟨s.ctr, rfl⟩

end

/-! ### What leaves -/

/-- A branch of a logical port has gone out: it is no longer stored, the egress notes its class and the window's close. -/
def Sent (b : Branch) (sound : Bool) (close : Option Nat) (stored : List Branch) (t : State) : Prop :=
  t.fwd.branches = stored ∧ (t.egress b.lport).close = close ∧ (t.egress b.lport).cls = b.cls ∧
    ∃ bytes, Out.frame b.lport bytes sound ∈ t.out

theorem countDelay_frame (l k w : Nat) (c : CountCtx) (d : List Byte) (i : AT80) (s : State) :
    OnlyIn [.ctr] s (countDelay l k w c d i s) := by
  unfold countDelay
  extract_lets p t a
  have ha : OnlyIn [.ctr] s a := frame_opt (countClass_frame _ _ _ _ _ _ _ s)
  exact frame_opt (frame_step ha (countClass_frame _ _ _ _ _ _ _ a))

theorem loopsBack_of_port {s t : State} (h : t.port = s.port) (l : Nat) : t.loopsBack l = s.loopsBack l := by
  rw [State.loopsBack, State.lp, h]
  rfl

/-- A transmission leaves the rest alone; where the port does not loop back, the frame is out. -/
theorem transmit_of_copy {b : Branch} {k : Copy} (sound : Bool) (close : Option Nat) {s : State} (hk : s.copyOf b.copy = some k) :
    OnlyIn [.fwd, .ctr, .board] s (transmit b sound close s) ∧
      (s.loopsBack b.lport = false → Sent b sound close (s.fwd.branches.erase b) (transmit b sound close s)) := by
  unfold transmit
  rw [hk]
  dsimp -zeta only
  extract_lets l s1 late q ctx s2 fr f d wire sfd s3 eg s4 bo s5 s6 s7 s8
  have h1 : OnlyIn [.fwd, .ctr] s s1 := land_frame l s
  have hbr1 : s1.fwd.branches = s.fwd.branches := by
    obtain ⟨e, he, -⟩ := land_fwd l s
    show (land l s).fwd.branches = _
    rw [he]
  have hmark : OnlyIn [] s1 (if decide (q.ecn = 2) && ectCapable (parse k.frame.wm k.frame.data) then ecnMark q (s1.sojourn b) s1
      else (false, s1)).2 := frame_pair_ite (ecnMark_frame _ _ s1) (frame_refl _ s1)
  have h2 : OnlyIn [.ctr] s1 s2 :=
    frame_ite (frame_then hmark (countClass_frame _ _ _ _ _ _ _ _)) (frame_within hmark)
  have hbr3 : s3.fwd.branches = s.fwd.branches.erase b := by
    rw [branches_of_stock (unlink_stock b s2)]
    show s2.fwd.branches.erase b = _
    rw [fwd_of_frame h2, hbr1]
  have h3 : OnlyIn [.fwd, .ctr] s s3 := frame_step (frame_trans h1 (frame_within h2)) (unlink_frame b s2)
  have h5 : OnlyIn [.fwd, .ctr, .board] s s5 := frame_step (frame_then h3 (setEgress_frame l _ s3)) (frame_board s4 _)
  have h6 : OnlyIn [.ctr] s5 s6 := frame_opt (countClass_frame _ _ _ _ _ _ _ s5)
  have h7 : OnlyIn [.ctr] s5 s7 := frame_ite (frame_trans h6 (countDelay_frame _ _ _ _ _ _ s6))
    (frame_raiseAt _ _ _ _ (frame_trans h6 (countClass_frame _ _ _ _ _ _ _ s6)))
  have h8 : OnlyIn [.ctr] s5 s8 := frame_trans h7 (pushTag_frame _ _ s7)
  refine ⟨frame_step (frame_step h5 h8) (sendFrame_frame _ _ _ s8), fun hloop => ?_⟩
  have hfwd : s8.fwd = s5.fwd := fwd_of_frame h8
  have hback : s8.loopsBack l = false := by
    rw [loopsBack_of_port (port_of_frame h8)]
    exact (loopsBack_of_port (port_of_frame h5) l).trans hloop
  have hegress : s8.egress l = s4.egress l := egress_of_fwd (hfwd.trans (show s5.fwd = s4.fwd from rfl)) l
  clear_value s8
  unfold sendFrame
  rw [hback, if_neg (by simp)]
  refine ⟨?_, ?_, ?_, d ++ fcs d, ?_⟩
  · show s8.fwd.branches = _
    rw [hfwd]
    exact hbr3
  · show (s8.egress l).close = _
    rw [hegress]
    exact congrArg Egress.close (egress_setEgress_same s3 l _)
  · show (s8.egress l).cls = _
    rw [hegress]
    exact congrArg Egress.cls (egress_setEgress_same s3 l _)
  · simp [State.emit, l]

/-- The class 7 head that fits starts, and its queue is empty after it. -/
theorem releaseNow_sends {l : Nat} {sound : Bool} {s : State} {c : Calendar} {m : Milestone} {b : Branch} {k : Copy} {close : Nat}
    (hc : s.calendar l = some c) (hm : s.releaseSlot l = some m) (hq : s.queue l 7 = [b]) (hk : s.copyOf b.copy = some k)
    (hfit : s.branchWire b ≤ (c.windows.map c.duration).foldl max 0) (hstart : s.canStart l = true) (hloop : s.loopsBack l = false)
    (hpick : s.scheduledPick l m = some (b, close)) : (releaseNow l sound s).queue l 7 = [] ∧
      ((releaseNow l sound s).egress l).close = some close ∧ ((releaseNow l sound s).egress l).cls = 7 ∧
      ∃ bytes, Out.frame l bytes sound ∈ (releaseNow l sound s).out := by
  have hmem : b ∈ s.queue l 7 := by rw [hq]; exact List.mem_singleton_self b
  have hb := hmem
  simp only [State.queue, List.mem_filter, decide_eq_true_eq] at hb
  obtain ⟨-, hport, hcls, hres⟩ := hb
  have hland : OnlyIn [.fwd, .ctr] s (land l s) := land_frame l s
  obtain ⟨e, he, -⟩ := land_fwd l s
  have hcopy : (land l s).copyOf b.copy = some k := by
    rw [State.copyOf, he]
    exact hk
  have hback : (land l s).loopsBack b.lport = false := by rw [loopsBack_of_port (port_of_frame hland), hport, hloop]
  obtain ⟨hbr, hclose, hkind, hout⟩ := (transmit_of_copy sound (some close) hcopy).2 hback
  have hempty : (transmit b sound (some close) (land l s)).queue l 7 = [] := by
    have hstored : (land l s).fwd.branches = s.fwd.branches := by rw [he]
    have hown : s.fwd.branches.filter (fun b => decide (b.lport = l ∧ b.cls = 7 ∧ b.residue = none)) = [b] := hq
    rw [State.queue, hbr, hstored, ← List.erase_filter, hown, List.erase_cons_head]
  rw [releaseNow_starts hc hm hq hfit hstart hpick, dropNoFit_of_empty _ _ _ hempty]
  rw [hport] at hclose hkind hout
  exact ⟨hempty, hclose, hkind.trans hcls, hout⟩

/-! ### Windows -/

theorem axAhead_of_none_waits {l : Nat} {s : State} (h : NoAxWaits l s) : axAhead l s = s := by
  unfold axAhead
  split
  · next ht => exact axTry_waits _ s (Or.inl (h.resolve_left (fun hne => hne ht)))
  · rfl

theorem noAxWaits_of_port {l : Nat} {s t : State} (h : t.port = s.port) (hs : NoAxWaits l s) : NoAxWaits l t := by
  unfold NoAxWaits State.timingLport State.lportOfLane State.breakout State.link at *
  rw [h]
  exact hs

theorem closeWindow_of_no_calendar {l : Nat} {s : State} (h : s.calendar l = none) : closeWindow l s = s := by
  unfold closeWindow
  rw [h]

theorem closeWindow_of_none_closes {l : Nat} {s : State} {c : Calendar} (h : s.calendar l = some c)
    (hn : (s.core (s.coreOfLport l)).running = false ∨ s.ms.toNat = 0 ∨ s.closesOf l c (s.ms.toNat - 1) s.ms.toNat = 0) :
    closeWindow l s = s := by
  unfold closeWindow
  rw [h]
  refine if_neg ?_
  obtain hn | hn | hn := hn
  · simp [hn]
  · simp [hn]
  · simp [hn]

theorem closeWindow_closes {l : Nat} {s : State} {c : Calendar} (h : s.calendar l = some c)
    (hrun : (s.core (s.coreOfLport l)).running = true) (hm : 0 < s.ms.toNat)
    (hn : 0 < s.closesOf l c (s.ms.toNat - 1) s.ms.toNat) : closeWindow l s = meetCloses l 1 s := by
  unfold closeWindow
  rw [h]
  exact if_pos (by simp [hrun, hm, hn])

section
variable {l : Nat} {s : State} {c : Calendar} {b : Branch} (hc : s.calendar l = some c) (hb : s.fwd.branches = [b])
  (hport : b.lport = l) (hcls : b.cls = 7)
include hc hb hport hcls

/-- A window's close met by a single stored frame: it counts, and the last allowed one discards. -/
theorem meetCloses_single : meetCloses l 1 s =
    (let t : State := { s with fwd.branches := [{ b with windows := b.windows + 1 }] }
     let t := if c.windowLimit ≤ b.windows + 1 then discard 0x30 2 true { b with windows := b.windows + 1 } t else t
     dropNoFit l t.fwd.branches.length t) := by
  unfold meetCloses
  rw [hc]
  dsimp only
  rw [if_neg (by decide), hb, List.map_singleton, if_pos (by simp [hport, hcls])]
  by_cases hlim : c.windowLimit ≤ b.windows + 1
  · rw [if_pos hlim, List.filter_cons_of_pos (by simp [hport, hcls, hlim])]
    rfl
  · rw [if_neg hlim, List.filter_cons_of_neg (by simp [hlim])]
    rfl

theorem meetCloses_drops (hlim : c.windowLimit ≤ b.windows + 1) : (meetCloses l 1 s).fwd.branches = [] := by
  rw [meetCloses_single hc hb hport hcls]
  dsimp only
  rw [if_pos hlim]
  have hgone : (discard 0x30 2 true { b with windows := b.windows + 1 }
      { s with fwd.branches := [{ b with windows := b.windows + 1 }] }).fwd.branches = [] := by
    rw [discard_branches]
    show List.erase [_] _ = []
    rw [List.erase_cons_head]
  rw [dropNoFit_of_empty]
  · exact hgone
  · rw [State.queue, hgone]
    rfl

theorem meetCloses_counts (hres : b.residue = none) (hlim : b.windows + 1 < c.windowLimit)
    (hfit : s.branchWire b ≤ (c.windows.map c.duration).foldl max 0) :
    meetCloses l 1 s = { s with fwd.branches := [{ b with windows := b.windows + 1 }] } := by
  rw [meetCloses_single hc hb hport hcls]
  dsimp only
  rw [if_neg (Nat.not_le.mpr hlim)]
  refine dropNoFit_of_fits 1 (b := { b with windows := b.windows + 1 }) (rest := []) (c := c) ?_ hc hfit
  rw [State.queue]
  exact List.filter_cons_of_pos (by simp [hport, hcls, hres])

end

/-! ### Swaps and removals -/

theorem swapCalendar_none {l : Nat} {s : State} (h : tfind s.fwd.swaps l = none) : swapCalendar l s = s := by
  unfold swapCalendar
  rw [h]

theorem swapCalendar_waits {l : Nat} {s : State} {w : Swap} (h : tfind s.fwd.swaps l = some w)
    (hw : later w.at_ s.ms = true ∨ s.frozenDie (s.coreOfLport l) = true) : swapCalendar l s = s := by
  unfold swapCalendar
  rw [h]
  exact if_pos (by simpa using hw)

/-- The shadow becomes active; no swap and no removal waits then. -/
theorem swapCalendar_swaps {l : Nat} {s : State} {w : Swap} (h : tfind s.fwd.swaps l = some w) (hl : later w.at_ s.ms = false)
    (hz : s.frozenDie (s.coreOfLport l) = false) : (swapCalendar l s).stock.2 =
      (tput s.fwd.active l (s.shadowOf l), tdel s.fwd.swaps l, tdel s.fwd.removals l) := by
  unfold swapCalendar
  rw [h]
  dsimp -zeta only
  rw [hl, hz, if_neg (by simp)]
  extract_lets a0 a b0 b t
  have hevent : OnlyIn [.hier] (dropNoFit l t.fwd.branches.length t)
      (epochCheck l (raiseAt (t.coreOfLport l) .note 0x4301 (evLport l ++ ms8 w.at_) (dropNoFit l t.fwd.branches.length t))) :=
    frame_then (bs := [.hier]) (frame_raiseAt _ _ _ _ (frame_refl [.hier] _)) (epochCheck_frame l _)
  rw [stock_of_frame hevent, dropNoFit_calendars]
  rfl

theorem removalNow_none {l : Nat} {s : State} (h : tfind s.fwd.removals l = none ∨ s.calendar l = none) : removalNow l s = s := by
  unfold removalNow
  split
  · next n c hn hc =>
    obtain h | h := h
    · rw [h] at hn
      exact absurd hn (by simp)
    · rw [h] at hc
      exact absurd hc (by simp)
  · rfl

theorem removalNow_waits {l : Nat} {s : State} {n : Milestone} {c : Calendar} (h : tfind s.fwd.removals l = some n)
    (hc : s.calendar l = some c)
    (hw : later n (BitVec.ofNat 56 (s.ms.toNat / c.e * c.e)) = true ∨ s.frozenDie (s.coreOfLport l) = true) : removalNow l s = s := by
  unfold removalNow
  rw [h, hc]
  refine if_neg ?_
  obtain hw | hw := hw
  · simp [hw]
  · simp [hw]

theorem removalNow_removes {l : Nat} {s : State} {n : Milestone} {c : Calendar} (h : tfind s.fwd.removals l = some n)
    (hc : s.calendar l = some c) (hl : later n (BitVec.ofNat 56 (s.ms.toNat / c.e * c.e)) = false)
    (hz : s.frozenDie (s.coreOfLport l) = false) : removalNow l s = removeCalendar l s := by
  unfold removalNow
  rw [h, hc]
  exact if_pos (by simp [hl, hz])

theorem foldl_discard_stock (code stage : Nat) (n : Bool) (ys : List Branch) (s : State) :
    (ys.foldl (fun s b => discard code stage n b s) s).stock = ({ s with fwd.branches := s.fwd.branches.diff ys } : State).stock := by
  induction ys generalizing s with
  | nil => rfl
  | cons y ys ih =>
    have hdrop := discard_stock code stage n y s
    have hcal := congrArg Prod.snd hdrop
    have hrest := ih (discard code stage n y s)
    rw [List.foldl_cons, hrest]
    show ((discard code stage n y s).fwd.branches.diff ys, (discard code stage n y s).stock.2) = _
    rw [hcal, branches_of_stock hdrop, List.diff_cons]
    rfl

/-- A logical port that has lost its calendar stores no class 7 frame. -/
theorem removeCalendar_stock (l : Nat) (s : State) : (removeCalendar l s).stock =
    (s.fwd.branches.diff (s.fwd.branches.filter (fun b => decide (b.lport = l ∧ b.cls = 7))), tdel s.fwd.active l, tdel s.fwd.swaps l,
      tdel s.fwd.removals l) := foldl_discard_stock 0x32 2 true _ _

theorem diff_filter {α : Type} [DecidableEq α] (xs : List α) (p : α → Bool) {x : α} (hx : x ∈ xs.diff (xs.filter p)) : p x = false := by
  cases hp : p x with
  | false => rfl
  | true =>
    have hcount := List.count_pos_iff.mpr hx
    rw [List.count_diff, List.count_filter hp, Nat.sub_self] at hcount
    exact absurd hcount (by decide)

theorem removeCalendar_queue (l : Nat) (s : State) : (removeCalendar l s).queue l 7 = [] := by
  have hbr : (removeCalendar l s).fwd.branches = _ := congrArg Prod.fst (removeCalendar_stock l s)
  rw [State.queue, hbr, List.filter_eq_nil_iff]
  intro b hb
  have hother := diff_filter _ _ hb
  simp only [decide_eq_false_iff_not, not_and] at hother
  simp only [decide_eq_true_eq, not_and]
  exact fun hl h7 => absurd h7 (hother hl)

end Sys2Proof.Machine
end

section
/-! SUPPORT. What time does to queues, lines, holds and calendars (R107, R112, R113, R120 to R134). -/

namespace Sys2Proof.Machine

set_option Elab.async false

theorem residueRetry_of_settled (s : State) (h : ∀ b ∈ s.fwd.branches, b.residue = none) (hp : s.part.pipelines ≠ 0) :
    residueRetry s = { s with fwd.residueStart := (s.fwd.residueStart + 1) % s.part.pipelines } := by
  have hretry : residueRetry s = (let t := retryDie (retryDie s 0) 1
    { t with fwd.residueStart := if t.part.pipelines = 0 then 0 else (t.fwd.residueStart + 1) % t.part.pipelines }) := rfl
  rw [hretry, retryDie_of_no_line 0 s (fun b hb => Or.inl (h b hb)), retryDie_of_no_line 1 s (fun b hb => Or.inl (h b hb))]
  dsimp only
  rw [if_neg hp]

theorem swapped_calendar {l : Nat} {s t : State} {c : Calendar} (h : t.stock.2 =
    (tput s.fwd.active l c, tdel s.fwd.swaps l, tdel s.fwd.removals l)) :
    t.calendar l = some c ∧ tfind t.fwd.swaps l = none ∧ tfind t.fwd.removals l = none := by
  have hactive : t.fwd.active = tput s.fwd.active l c := congrArg Prod.fst h
  have hswaps : t.fwd.swaps = tdel s.fwd.swaps l := congrArg (fun x => x.2.1) h
  have hremovals : t.fwd.removals = tdel s.fwd.removals l := congrArg (fun x => x.2.2) h
  rw [State.calendar, hactive, hswaps, hremovals]
  exact ⟨tfind_tput_same _ _ _, tfind_tdel_same _ _, tfind_tdel_same _ _⟩

theorem removed_calendar (l : Nat) (s : State) : (removeCalendar l s).calendar l = none ∧ tfind (removeCalendar l s).fwd.swaps l = none := by
  have hactive : (removeCalendar l s).fwd.active = tdel s.fwd.active l := congrArg (fun x => x.2.1) (removeCalendar_stock l s)
  have hswaps : (removeCalendar l s).fwd.swaps = tdel s.fwd.swaps l := congrArg (fun x => x.2.2.1) (removeCalendar_stock l s)
  rw [State.calendar, hactive, hswaps]
  exact ⟨tfind_tdel_same _ _, tfind_tdel_same _ _⟩

theorem queue_of_branches {s t : State} (h : t.fwd.branches = s.fwd.branches) (l k : Nat) : t.queue l k = s.queue l k := by
  rw [State.queue, h]
  rfl

theorem finish_queue (s : State) (l k : Nat) : (finish s).queue l k = s.queue l k :=
  queue_of_branches (congrArg ForwardState.branches (finish_fwd s)) l k

theorem finish_calendar (s : State) (l : Nat) : (finish s).calendar l = s.calendar l := by
  rw [State.calendar, finish_fwd]
  rfl

/-- Settles O57: residue lines, deadlines, holds and calendars. That the discards of a port that is down after its hold are those of a
flush, and when windows and swaps are skipped, is the log's entry 48. -/
theorem queuesFollowTime : Obligations.QueuesFollowTime := by
  intro dt l s u next
  refine ⟨fun h hp => ?_, ?_, fun h => ?_, fun b h hres => ⟨fun hexp hrun => ?_, fun h' => ?_⟩, fun t h hr hdown hz ht => ?_, fun h => ?_,
    fun h => ⟨fun sound => ?_, ?_, fun hax => ?_⟩, fun sound h => ?_, fun m h => ?_, ?_, fun c hax hc h => ?_, ?_, fun h => ?_,
    fun c h => ⟨fun hw => ?_, fun hl hz => ?_⟩, fun h => ?_, ?_⟩
  · exact leads_of (f := residueRetry) rfl (residueRetry_of_settled u h hp)
  · intro b c k pl h hres hfifo hcls hcopy hrun hdown d
    refine ⟨fun hfits => ?_, fun hfits hk => ?_, fun hfits hk => ?_⟩
    · refine runs_of (f := residueRetry) rfl ?_
      rw [finish_fwd]
      exact residueRetry_enqueues h hres hfifo hcls hcopy hrun hdown hfits
    · refine runs_of (f := residueRetry) rfl ?_
      rw [finish_fwd]
      exact residueRetry_drops h hres hfifo hcls hcopy hrun hdown hfits hk
    · refine runs_of (f := residueRetry) rfl ?_
      rw [finish_fwd]
      exact residueRetry_ages h hres hfifo hcls hcopy hrun hdown hfits hk
  · exact leads_of (f := expireHeads) rfl (expireHeads_of_none u (deadlineFifos_of_none u h))
  · exact leads_of (f := expireHeads) rfl (expireHeads_expired h hres hexp hrun)
  · exact leads_of (f := expireHeads) rfl (expireHeads_fresh h hres h')
  · exact leads_of (f := holdEnd l) rfl (holdEnd_flushes h hr hdown hz ht)
  · exact leads_of (f := holdEnd l) rfl (holdEnd_waits h)
  · exact leads_of (f := releaseNow l sound) rfl (releaseNow_of_no_calendar l sound u h)
  · exact leads_of (f := removalNow l) rfl (removalNow_none (Or.inr h))
  · exact leads_of (f := fun s => axAhead l (closeWindow l s)) rfl
      ((congrArg (axAhead l) (closeWindow_of_no_calendar h)).trans (axAhead_of_none_waits hax))
  · exact leads_of (f := releaseNow l sound) rfl (releaseNow_idle l sound u h)
  · exact releaseSlot_spec h
  · intro sound c m b k close hc hm hq hk hfit
    refine ⟨fun hstart hloop hpick => ?_, fun hrun hbusy hcls => ?_⟩
    · refine runs_of (f := releaseNow l sound) rfl ?_
      obtain ⟨hempty, hclose, hkind, bytes, hout⟩ := releaseNow_sends (sound := sound) hc hm hq hk hfit hstart hloop hpick
      rw [finish_queue, finish_egress]
      exact ⟨hempty, hclose, hkind, bytes, finish_keeps_out hout⟩
    · refine runs_of (f := releaseNow l sound) rfl ?_
      obtain ⟨x, hx⟩ := releaseNow_delays (sound := sound) hc hm hq hfit hrun hbusy hcls
      rw [finish_queue, finish_egress, hx]
      have hegress : ({ u.setEgress l { u.egress l with delayed := true } with ctr := x } : State).egress l =
          { u.egress l with delayed := true } := egress_setEgress_same u l _
      rw [hegress]
      exact ⟨hq, rfl, rfl⟩
  · exact leads_of (f := fun s => axAhead l (closeWindow l s)) rfl
      ((congrArg (axAhead l) (closeWindow_of_none_closes hc h)).trans (axAhead_of_none_waits hax))
  · intro c b k hax hc hrun hm hn hb hport hcls hres hk hfit
    refine ⟨fun hlim => ?_, fun hlim => ?_⟩
    · refine leads_of (f := fun s => axAhead l (closeWindow l s)) rfl ?_
      rw [closeWindow_closes hc hrun hm hn, meetCloses_counts hc hb hport hcls hres hlim hfit]
      exact axAhead_of_none_waits (noAxWaits_of_port rfl hax)
    · refine runs_of (f := fun s => axAhead l (closeWindow l s)) rfl ?_
      rw [finish_fwd, closeWindow_closes hc hrun hm hn,
        axAhead_of_none_waits (noAxWaits_of_port (port_of_frame (meetCloses_frame l 1 u)) hax)]
      exact meetCloses_drops hc hb hport hcls hlim
  · exact leads_of (f := swapCalendar l) rfl (swapCalendar_none h)
  · exact leads_of (f := swapCalendar l) rfl (swapCalendar_waits h hw)
  · refine runs_of (f := swapCalendar l) rfl ?_
    rw [finish_calendar, finish_fwd]
    exact swapped_calendar (swapCalendar_swaps h hl hz)
  · exact leads_of (f := removalNow l) rfl (removalNow_none (Or.inl h))
  · intro n c h hc start
    refine ⟨fun hl hz => ?_, fun hw => ?_⟩
    · refine runs_of (f := removalNow l) rfl ?_
      rw [finish_calendar, finish_queue, finish_fwd, removalNow_removes h hc hl hz]
      obtain ⟨hcal, hswaps⟩ := removed_calendar l u
      exact ⟨hcal, removeCalendar_queue l u, hswaps⟩
    · exact leads_of (f := removalNow l) rfl (removalNow_waits h hc hw)

end Sys2Proof.Machine
end

section
/-! SUPPORT. Which parts of the state the rows of forwarding, of the queues and of the links leave alone. -/

namespace Sys2Proof.Machine

set_option Elab.async false

/-! ### What leaves a logical port -/

theorem transmit_frame (b : Branch) (sound : Bool) (close : Option Nat) (s : State) :
    OnlyIn [.fwd, .ctr, .board] s (transmit b sound close s) := by
  cases hk : s.copyOf b.copy with
  | none =>
    unfold transmit
    rw [hk]
    exact frame_within (unlink_frame b s)
  | some k => exact (transmit_of_copy sound close hk).1

theorem expirePicks_frame (l n : Nat) (s : State) : OnlyIn [.fwd, .ctr] s (expirePicks l n s) := by
  induction n generalizing s with
  | zero => exact frame_refl _ s
  | succ n ih =>
    unfold expirePicks
    split
    · exact frame_opt (frame_trans (discard_frame _ _ _ _ s) (ih _))
    · exact frame_refl _ s

theorem serve_frame (l : Nat) (sound : Bool) (s : State) : OnlyIn [.fwd, .ctr, .board] s (serve l sound s) := by
  unfold serve
  extract_lets a b
  have ha : OnlyIn [.fwd, .ctr, .board] s a := frame_within (dropNoFit_frame l _ s)
  split
  · exact frame_step (frame_trans ha (transmit_frame _ _ _ a)) (dropNoFit_frame l _ _)
  · have hb : OnlyIn [.fwd, .ctr, .board] s b := frame_step ha (expirePicks_frame l _ a)
    have hput : ∀ e, OnlyIn [.fwd, .ctr, .board] s (b.setEgress l e) := fun e => frame_step hb (setEgress_frame l e b)
    split
    · exact frame_trans (hput _) (transmit_frame _ _ _ _)
    · split
      · exact frame_trans (hput _) (transmit_frame _ _ _ _)
      · exact hput _

theorem dequeueNow_frame (l : Nat) (sound : Bool) (s : State) : OnlyIn [.fwd, .ctr, .board] s (dequeueNow l sound s) :=
  frame_opt (frame_then (land_frame l s) (serve_frame l sound _))

theorem releaseNow_frame (l : Nat) (sound : Bool) (s : State) : OnlyIn [.fwd, .ctr, .board] s (releaseNow l sound s) := by
  unfold releaseNow
  split
  · exact frame_refl _ s
  · extract_lets a g b
    have ha : OnlyIn [.fwd, .ctr, .board] s a := frame_within (dropNoFit_frame l _ s)
    split
    · exact ha
    · have hb : OnlyIn [.fwd, .ctr, .board] s b := frame_step ha (setEgress_frame l _ a)
      split
      · split
        · exact frame_step (frame_trans (frame_step ha (land_frame l a)) (transmit_frame _ _ _ _)) (dropNoFit_frame l _ _)
        · exact ha
      · exact frame_ite (frame_ite (frame_step hb (countBy_frame _ _ _ _ _ b)) hb) ha

theorem axGo_frame (p : Nat) (s : State) : OnlyIn [.fwd, .port, .ctr] s (axGo p s) := by
  unfold axGo
  extract_lets l
  have hw : OnlyIn [.fwd, .port, .ctr] s (wireNow p 0 (land l s)).2 := frame_then (land_frame l s) (wireNow_frame p 0 _)
  generalize wireNow p 0 (land l s) = x at hw ⊢
  obtain ⟨t, u⟩ := x
  dsimp -zeta only at hw ⊢
  extract_lets b a e c k
  have ha : OnlyIn [.fwd, .port, .ctr] s a := frame_step (frame_step hw (sendFrame_frame _ _ _ u)) (countTime_frame p 0 _)
  exact frame_step (frame_step ha (setEgress_frame l _ a)) (setLink_frame p _ c)

theorem axTry_frame (p : Nat) (s : State) : OnlyIn [.fwd, .port, .ctr] s (axTry p s) := frame_opt (axGo_frame p s)

theorem axAhead_frame (l : Nat) (s : State) : OnlyIn [.fwd, .port, .ctr] s (axAhead l s) := frame_opt (axTry_frame _ s)

theorem axSendNow_frame (p : Nat) (s : State) : OnlyIn [.fwd, .port, .ctr] s (axSendNow p s) :=
  frame_skip (frame_trans (frame_opt (frame_within (setLink_frame p _ s))) (axTry_frame p _))

theorem closeWindow_frame (l : Nat) (s : State) : OnlyIn [.fwd, .ctr] s (closeWindow l s) := by
  unfold closeWindow
  split
  · exact frame_refl _ s
  · exact frame_opt (meetCloses_frame l 1 s)

/-! ### What a logical port receives -/

theorem freeRoom_frame (p : Nat) (u : FifoUse) (s : State) : OnlyIn [.fwd] s (freeRoom p u s) := frame_fwd s _

theorem inLoop_frame (l : Nat) (mine : List Byte → Bool) (f : List Byte) (s : State) : OnlyIn [.fwd] s (inLoop l mine f s).2 := by
  unfold inLoop
  split
  · split
    · exact frame_refl _ s
    · exact frame_pair_ite (frame_fwd s _) (frame_refl _ s)
  · exact frame_refl _ s

theorem storeArrival_frame (l ago : Nat) (ms : List (Nat × Nat)) (f : List Byte) (s : State) :
    OnlyIn [.fwd, .ctr, .board] s (storeArrival l ago ms f s) := by
  unfold storeArrival
  extract_lets b a d p
  have ha : OnlyIn [.fwd, .ctr, .board] s a := frame_within (frame_board s _)
  clear_value a
  generalize a.instantAgo ago = x
  obtain ⟨at_, valid⟩ := x
  dsimp only
  have hdrop : ∀ (c : Nat) (k : Option Nat) (h : Bool) (x : List Byte) (t : State), OnlyIn [.fwd, .ctr, .board] s t →
      OnlyIn [.fwd, .ctr, .board] s (dropIn l c k h x t) := fun c k h x t ht => frame_step ht (dropIn_frame l c k h x t)
  split
  · exact hdrop _ _ _ _ _ (frame_step ha (freeRoom_frame _ _ a))
  · split
    · exact hdrop _ _ _ _ _ ha
    · split
      · exact hdrop _ _ _ _ _ (frame_step ha (freeRoom_frame _ _ a))
      · have hput : ∀ x : ForwardState, OnlyIn [.fwd, .ctr, .board] s { a with fwd := x } := fun x => frame_step ha (frame_fwd a x)
        exact frame_step (frame_step (frame_step (hput _) (countBy_frame _ _ _ _ _ _)) (countBy_frame _ _ _ _ _ _)) (countBy_frame _ _ _ _ _ _)

theorem receive_frame (l ago : Nat) (ms : List (Nat × Nat)) (f : List Byte) (s : State) :
    OnlyIn [.fwd, .ctr, .board] s (receive l ago ms f s) := by
  have hloop := inLoop_frame l (fun f => !decide (fld f 12 2 = s.fwd.etAx) && !isMacControl f) f s
  unfold receive
  refine frame_skip ?_
  split
  · next heq => exact frame_then (frame_snd hloop heq) (storeArrival_frame _ _ _ _ _)
  · next heq => exact frame_within (frame_snd hloop heq)

theorem actOnControl_frame (l : Nat) (f : List Byte) (s : State) : OnlyIn [.fwd, .ctr] s (actOnControl l f s) := by
  have hcount : ∀ c i, OnlyIn [.fwd, .ctr] s (countBy c 1 l i 1 s) := fun c i => frame_within (countBy_frame _ _ _ _ _ s)
  unfold actOnControl
  extract_lets d c a
  refine frame_ite (frame_within (countBy_frame _ _ _ _ _ s)) ?_
  split
  · exact frame_trans (hcount _ _) (frame_foldl (fun t p => frame_opt (frame_within (setPfcPort_frame _ _ _ t))) _ _)
  · exact hcount _ _
  · exact hcount _ _

theorem macControl_frame (l ago : Nat) (f : List Byte) (s : State) : OnlyIn [.fwd, .ctr] s (macControl l ago f s) := by
  have hloop := inLoop_frame l isMacControl f s
  unfold macControl
  refine frame_skip ?_
  split
  · next heq => exact frame_within (frame_snd hloop heq)
  · next heq =>
    have ht := frame_snd hloop heq
    split
    · exact frame_then ht (dropIn_frame _ _ _ _ _ _)
    · exact frame_then ht (actOnControl_frame _ _ _)

theorem snapshotDue_frame (s : State) : OnlyIn [.fwd, .ctr] s (snapshotDue s) := frame_opt (takeSnapshot_frame false s)

/-! ### Residue lines -/

theorem retryLine_frame (p l k n : Nat) (s : State) : OnlyIn [.fwd, .port, .ctr] s (retryLine p l k n s) := by
  induction n generalizing s with
  | zero => exact frame_refl _ s
  | succ n ih =>
    unfold retryLine
    split
    · exact frame_refl _ s
    · split
      · exact frame_then (unlink_frame _ s) (ih _)
      · refine frame_ite (frame_trans ?_ (ih _)) (frame_opt (frame_then (discard_frame _ _ _ _ s) (ih _)))
        exact frame_then (frame_then (cs := [.fwd, .port, .ctr]) (frame_fwd s _) (enqueue_frame _ _ _)) (makeCopies_frame _)

theorem ageLines_frame (d : Nat) (s : State) : OnlyIn [.fwd] s (ageLines d s) := frame_fwd s _

theorem retryDie_frame (s : State) (d : Nat) : OnlyIn [.fwd, .port, .ctr] s (retryDie s d) := by
  unfold retryDie
  extract_lets ls a
  have ha : OnlyIn [.fwd, .port, .ctr] s a := frame_within (frame_foldl (fun t k => expireHead_frame _ 4 t) ls s)
  exact frame_opt (frame_step (frame_trans ha (frame_foldl (fun t k => frame_skip (retryLine_frame _ _ _ _ t)) ls a)) (ageLines_frame d _))

theorem residueRetry_frame (s : State) : OnlyIn [.fwd, .port, .ctr] s (residueRetry s) :=
  frame_step (frame_trans (retryDie_frame s 0) (retryDie_frame _ 1)) (frame_fwd _ _)

/-! ### Codewords and lanes -/

theorem countRow_frame (g i : Nat) (ns : List Nat) (s : State) : OnlyIn [.ctr] s (countRow g i ns s) :=
  frame_foldl (fun t _ => addKey_frame _ _ t) _ s

theorem countCodewords_frame (l : Nat) (b y : List Nat) (s : State) : OnlyIn [.port, .ctr] s (countCodewords l b y s) :=
  frame_then (frame_then (cs := [.ctr]) (countRow_frame _ _ _ s) (frame_foldl (fun t _ => addKey_frame _ _ t) _ _)) (setLp_frame l _ _)

theorem degradeCheck_frame (l : Nat) (b y : List Nat) (s : State) : OnlyIn [.fwd, .port, .ctr] s (degradeCheck l b y s) := by
  unfold degradeCheck
  extract_lets a p c bad e g
  have ha : OnlyIn [.fwd, .port, .ctr] s a := frame_within (countCodewords_frame l b y s)
  have hc : OnlyIn [.fwd, .port, .ctr] s c := frame_step ha (setLp_frame l _ a)
  have he : OnlyIn [.fwd, .port, .ctr] s e := frame_raiseAt _ _ _ _ hc
  have hg : OnlyIn [.fwd, .port, .ctr] s g := frame_trans he (linkDown_frame l e)
  exact frame_skip (frame_ite ha (frame_ite (frame_ite (frame_step hg (setLp_frame l _ g)) he) hc))

theorem mgmtLane_frame (f : Lane → Lane) (s : State) : OnlyIn [.port] s (mgmtLane f s) := frame_opt (frame_port s _)

theorem laneFails_frame (p j : Nat) (f : Lane → Lane) (s : State) : OnlyIn [.fwd, .port, .ctr] s (laneFails p j f s) :=
  frame_ite (frame_within (mgmtLane_frame f s))
    (frame_opt (frame_then (frame_trans (forgetSkew_frame p j s) (setLane_frame _ _ _ _)) (linkDown_frame _ _)))

theorem laneHeals_frame (p j : Nat) (f : Lane → Lane) (s : State) : OnlyIn [.port] s (laneHeals p j f s) := by
  unfold laneHeals
  extract_lets v a
  have ha : OnlyIn [.port] s a := setLane_frame _ _ _ s
  exact frame_ite (mgmtLane_frame f s) (frame_opt (frame_ite (frame_trans ha (setLink_frame _ _ a)) ha))

theorem aligned_frame (l : Nat) (s : State) : OnlyIn [.power, .fwd, .port, .ctr] s (aligned l s) :=
  frame_opt (frame_within (linkUpNow_frame l s))

theorem alignmentLost_frame (l : Nat) (s : State) : OnlyIn [.fwd, .port, .ctr] s (alignmentLost l s) := frame_opt (linkDown_frame l s)

theorem trainLate_frame (l : Nat) (s : State) : OnlyIn [.port] s (trainLate l s) := by
  unfold trainLate
  extract_lets p n a
  have ha : OnlyIn [.port] s a := frame_trans (setLp_frame l _ s) (startLink_frame l _)
  exact frame_opt (frame_ite (frame_raiseAt _ _ _ _ ha) ha)

/-! ### Low-power states -/

theorem wakeForFrame_frame (l : Nat) (s : State) : OnlyIn [.port, .board] s (wakeForFrame l s) := frame_opt (movePower_frame l 0 s)

theorem wakeForTime_frame (l : Nat) (s : State) : OnlyIn [.power, .port, .board] s (wakeForTime l s) :=
  frame_opt (frame_raiseAt _ _ _ _ (frame_then (frame_power s _) (movePower_frame l 0 _)))

theorem stageThreeCheck_frame (s : State) : OnlyIn [.power] s (stageThreeCheck s) := frame_opt (frame_power s _)

theorem enterDeep_frame (l : Nat) (s : State) : OnlyIn [.fwd, .port, .clk] s (enterDeep l s) := by
  have ha : OnlyIn [.fwd, .port, .clk] s ((s.lanesOf l).foldl (fun s k => forgetSkew (portOf l) k s) s) :=
    frame_within (frame_foldl (fun t k => forgetSkew_frame _ k t) _ s)
  unfold enterDeep
  generalize (s.lanesOf l).foldl (fun s k => forgetSkew (portOf l) k s) s = a at ha ⊢
  have hclk : ∀ (x : ClockState) (y : ForwardState), OnlyIn [.fwd, .port, .clk] a { a with clk := x, fwd := y } :=
    fun x y => frame_then (frame_clk a x) (frame_fwd { a with clk := x } y)
  exact frame_trans ha (hclk _ _)

theorem powerMoved_frame (l : Nat) (s : State) : OnlyIn [.power, .fwd, .port, .clk] s (powerMoved l s) := by
  unfold powerMoved
  extract_lets p
  split
  · exact frame_refl _ s
  · extract_lets a b
    have ha : OnlyIn [.power, .fwd, .port, .clk] s a := frame_within (setLp_frame l _ s)
    have hb : OnlyIn [.power, .fwd, .port, .clk] s b := frame_ite (frame_step ha (enterDeep_frame l a)) ha
    exact frame_skip (frame_step hb (stageThreeCheck_frame b))

theorem lanePllLoss_frame (p k : Nat) (s : State) : OnlyIn [.fwd, .port, .clk, .ctr] s (lanePllLoss p k s) :=
  frame_opt (frame_raiseAt _ _ _ _ (frame_then (frame_clk s _) (linksDown_frame _ _)))

theorem lanePllBack_frame (p k : Nat) (s : State) : OnlyIn [.port, .clk] s (lanePllBack p k s) :=
  frame_skip (frame_then (frame_clk s _) (startLinks_frame _ _))

end Sys2Proof.Machine
end

section
/-! SUPPORT. Which parts of the state the rows of measurement, of the references and of the timing lanes leave alone. -/

namespace Sys2Proof.Machine

set_option Elab.async false

/-! ### Board and gates -/

theorem modTenure_frame (n : Nat) (r : ModResult) (s : State) : OnlyIn [.board] s (modTenure n r s) := by
  unfold modTenure
  refine frame_skip ?_
  split
  · exact frame_refl _ s
  · extract_lets bo gone port
    have hgone : OnlyIn [.board] s gone := frame_board s _
    split
    · exact frame_step hgone (emit_frame _ gone)
    · exact frame_ite (frame_raiseAt _ _ _ _ hgone) (frame_board s _)
    · exact frame_raiseAt _ _ _ _ hgone
    · exact frame_raiseAt _ _ _ _ hgone

theorem gateEdge_frame (p : Nat) (v : Bool) (s : State) : OnlyIn [.meas] s (gateEdge p v s) := by
  refine frame_foldl (fun t n => ?_) _ s
  extract_lets c
  refine frame_skip (frame_ite (openGate_frame _ _ _ t) ?_)
  split
  · exact frame_refl _ t
  · exact frame_ite (setChan_frame _ _ t) (closeGate_frame _ _ _ _ t)

theorem windowOpen_frame (n : Nat) (i : AT80) (s : State) : OnlyIn [.meas] s (windowOpen n i s) := frame_opt (openGate_frame _ _ _ s)

theorem windowClose_frame (n : Nat) (i : AT80) (s : State) : OnlyIn [.meas] s (windowClose n i s) :=
  frame_opt (frame_trans (closeGate_frame _ _ _ _ s) (windowOver_frame _ _))

theorem takeEdge_frame (n : Nat) (v : Bool) (s : State) : OnlyIn [.meas, .ctr] s (takeEdge n v s) := by
  unfold takeEdge
  extract_lets c a d
  have ha : OnlyIn [.meas, .ctr] s a := frame_opt (frame_within (frame_trans (windowClose_frame n _ s) (windowOpen_frame n _ _)))
  have hput : ∀ x, OnlyIn [.meas, .ctr] s (a.setChan n x) := fun x => frame_step ha (setChan_frame n x a)
  refine frame_skip ?_
  split
  · exact ha
  · exact frame_ite (frame_step (hput _) (countDevice_frame _ _)) (frame_ite (hput _) (frame_ite (hput _) (hput _)))

theorem storeReports_frame (n k : Nat) (s : State) : OnlyIn [.cmd, .fwd, .port, .meas, .ctr] s (storeReports n k s) := by
  induction k generalizing s with
  | zero => exact frame_refl _ s
  | succ k ih =>
    unfold storeReports
    extract_lets c seq
    split
    · exact frame_refl _ s
    · next g close mono closed rest heq =>
      have hrep := gateReport_frame n seq g close mono closed s
      generalize gateReport n seq g close mono closed s = x at hrep ⊢
      obtain ⟨rep, t⟩ := x
      dsimp -zeta only at hrep ⊢
      extract_lets ch b
      have hb : OnlyIn [.cmd, .fwd, .port, .meas, .ctr] s b := frame_then hrep (setChan_frame n _ t)
      exact frame_trans (frame_ite (frame_step hb (notify_frame _ _ _ b)) hb) (ih _)

theorem gateDone_frame (n : Nat) (s : State) : OnlyIn [.cmd, .fwd, .port, .meas, .ctr] s (gateDone n s) :=
  frame_trans (frame_within (windowClose_frame n _ s)) (storeReports_frame n _ _)

/-! ### References and the DPLL -/

theorem phaseErrorOf_frame (e : Nat) (x : Int) (s : State) : OnlyIn [] s (phaseErrorOf e x s).2 := by
  unfold phaseErrorOf
  extract_lets r
  exact frame_pair_ite (frame_refl _ s) (frame_pair_ite (openDiv_frame _ _ s) (frame_refl _ s))

theorem dpllCycle_frame (x : Int) (s : State) : OnlyIn [.ref] s (dpllCycle x s) := by
  unfold dpllCycle
  split
  · exact frame_refl _ s
  · next e _ =>
    have herr := phaseErrorOf_frame e x s
    generalize phaseErrorOf e x s = y at herr ⊢
    obtain ⟨err, t⟩ := y
    dsimp -zeta only at herr ⊢
    extract_lets a inside b c
    have hc : OnlyIn [.ref] s c := frame_trans (frame_then herr (fixRef_frame t)) (frame_ref a _)
    exact frame_skip (frame_ite (frame_raiseAt _ _ _ _ (frame_trans hc (frame_ref c _)))
      (frame_ite (frame_raiseAt _ _ _ _ (frame_trans hc (frame_ref c _))) hc))

theorem frame_time_ref (s : State) (x : TimeModule) (y : RefState) : OnlyIn [.time, .ref] s { s with time := x, ref := y } :=
  frame_then (frame_time s x) (frame_ref { s with time := x } y)

theorem switchRef_frame (o : Int) (s : State) : OnlyIn [.time, .ref] s (switchRef o s) := by
  unfold switchRef
  split
  · exact frame_refl _ s
  · extract_lets code old re ti a b
    have ha : OnlyIn [.time, .ref] s a := frame_time_ref s _ _
    have hb : OnlyIn [.time, .ref] s b := frame_raiseAt _ _ _ _ ha
    split
    · exact frame_step hb (loseRef_frame 0 b)
    · exact frame_ite hb (frame_step hb (follow_frame _ o b))

theorem loseSources_frame (s : State) : OnlyIn [.ref] s (loseSources s) :=
  frame_foldl (fun t e => frame_opt (signalLoss_frame e t)) _ s

theorem freeRun_frame (s : State) : OnlyIn [.ref] s (freeRun s) := frame_ref s _

theorem stopTime_frame (s : State) : OnlyIn [.time] s (stopTime s) := frame_time s _

theorem loadReference_frame (s : State) : OnlyIn [.cmd, .time, .fwd, .port, .ref, .clk, .meas, .ctr] s (loadReference s) := by
  unfold loadReference
  split
  · exact frame_refl _ s
  · next e _ =>
    extract_lets ti a m v ti2 b c
    have ha : OnlyIn [.cmd, .time, .fwd, .port, .ref, .clk, .meas, .ctr] s a := frame_within (frame_time s _)
    have hb : OnlyIn [.cmd, .time, .fwd, .port, .ref, .clk, .meas, .ctr] s b :=
      frame_step (frame_step ha (frame_time a _)) (loadCount_frame _ _ _ _ _ _)
    have hc : OnlyIn [.cmd, .time, .fwd, .port, .ref, .clk, .meas, .ctr] s c := frame_step hb (announceStep_frame m 1 v b)
    exact frame_ite (frame_ite (frame_step hc (follow_frame e 0 c)) hc) ha

/-! ### Timing lanes -/

theorem phaseSample_frame (p x : Nat) (s : State) : OnlyIn [.port] s (phaseSample p x s) := by
  unfold phaseSample
  extract_lets k
  have hrx := rxDelay_frame k.d k.coef s
  generalize rxDelay k.d k.coef s = y at hrx ⊢
  obtain ⟨drx, t⟩ := y
  have hput : ∀ l, OnlyIn [.port] s (t.setLink p l) := fun l => frame_then hrx (setLink_frame p l t)
  exact frame_skip (frame_ite (hput _) (hput _))

theorem skewSample_frame (p j : Nat) (x : Int) (s : State) : OnlyIn [.port] s (skewSample p j x s) := by
  unfold skewSample
  extract_lets v w
  have hdiv := openDiv_frame w.skewSum 512 s
  exact frame_skip (frame_ite (setLane_frame p j _ s) (frame_then hdiv (setLane_frame p j _ _)))

theorem skewTurn_frame (p j : Nat) (x : Int) (s : State) : OnlyIn [.port] s (skewTurn p j x s) :=
  frame_skip (frame_trans (setLink_frame p _ s) (skewSample_frame p j x _))

theorem portSignalLoss_frame (p : Nat) (s : State) : OnlyIn [.ref] s (portSignalLoss p s) :=
  frame_foldl (fun t e => frame_opt (signalLoss_frame e t)) _ s

theorem timingFallback_frame (p : Nat) (s : State) : OnlyIn [.port, .ref] s (timingFallback p s) := by
  unfold timingFallback
  extract_lets k a ev
  refine frame_skip ?_
  split
  · exact frame_skip (frame_step (frame_raiseAt _ _ _ _ (frame_within (setLink_frame p _ s))) (portSignalLoss_frame p _))
  · split
    · extract_lets b
      have hb : OnlyIn [.port, .ref] s b := frame_within (moveActive_frame _ _ _ s)
      exact frame_raiseAt _ _ _ _ (frame_step hb (setLink_frame p _ b))
    · extract_lets b li c
      have hb : OnlyIn [.port, .ref] s b := frame_within (moveActive_frame _ _ _ s)
      have hc : OnlyIn [.port, .ref] s c := frame_raiseAt _ _ _ _ (frame_step hb (setLink_frame p _ b))
      exact frame_ite (frame_step hc (recoverPhase_frame c)) hc

theorem timingRevert_frame (p : Nat) (s : State) : OnlyIn [.port] s (timingRevert p s) := by
  unfold timingRevert
  extract_lets k v
  refine frame_skip ?_
  split
  · exact frame_opt (frame_raiseAt _ _ _ _ (moveToConfigured_frame _ _ _ s))
  · exact frame_refl _ s

/-! ### AX and PTP -/

theorem resolveN_frame (p : Nat) (x y : Int) (s : State) : OnlyIn [.port] s (resolveN p x y s) :=
  frame_then (openRound_frame (y - x) periodP.toNat s) (setLink_frame p _ _)

theorem checkN_frame (p : Nat) (x : Int) (s : State) : OnlyIn [.port, .ref, .ctr] s (checkN p x s) := by
  unfold checkN
  extract_lets k target a
  have hput : ∀ l, OnlyIn [.port, .ref, .ctr] s (s.setLink p l) := fun l => frame_within (setLink_frame p l s)
  have ha : OnlyIn [.port, .ref, .ctr] s a :=
    frame_raiseAt _ _ _ _ (frame_then (resolveN_frame p _ _ s) (countTime_frame p 6 _))
  refine frame_ite ?_ (frame_ite (hput _) (frame_ite (hput _) (frame_ite (frame_step ha (histFault_frame a)) ha)))
  split
  · exact frame_within (resolveN_frame p _ _ s)
  · exact frame_refl _ s

theorem exchange_frame (p : Nat) (t1 t2 t3 t4 : AT80) (v : Bool) (s : State) :
    OnlyIn [.cmd, .time, .port, .ref, .ctr] s (exchange p t1 t2 t3 t4 v s) := by
  unfold exchange
  extract_lets twice
  have hdiv := openDiv_frame twice 2 s
  generalize openDiv twice 2 s = x at hdiv ⊢
  obtain ⟨d, a⟩ := x
  dsimp -zeta only at hdiv ⊢
  have hrx := rxDelay_frame d (a.link p).coef a
  generalize rxDelay d (a.link p).coef a = y at hrx ⊢
  obtain ⟨drx, b⟩ := y
  dsimp -zeta only at hrx ⊢
  extract_lets theta back c now k e f
  have hb : OnlyIn [.cmd, .time, .port, .ref, .ctr] s b := frame_then hdiv hrx
  have he : OnlyIn [.cmd, .time, .port, .ref, .ctr] s e := frame_step (frame_step hb (resumeTime_frame p b)) (setLink_frame p _ c)
  have hf : OnlyIn [.cmd, .time, .port, .ref, .ctr] s f := frame_step he (checkN_frame p drx e)
  exact frame_ite (frame_within (countTime_frame p 5 s)) (frame_ite (frame_step hf (portEstimate_frame p _ _ f)) hf)

theorem axTake_frame (p : Nat) (d : List Byte) (s : State) :
    OnlyIn [.cmd, .time, .fwd, .port, .ref, .hier, .ctr] s (axTake p d s) := by
  unfold axTake
  extract_lets k x a fl tx
  have hcount : ∀ i, OnlyIn [.cmd, .time, .fwd, .port, .ref, .hier, .ctr] s (countTime p i s) :=
    fun i => frame_within (countTime_frame p i s)
  have hw : OnlyIn [.cmd, .time, .fwd, .port, .ref, .hier, .ctr] s (wireNow p 1 a).2 := frame_step (hcount 1) (wireNow_frame p 1 a)
  generalize wireNow p 1 a = y at hw ⊢
  obtain ⟨t4, b⟩ := y
  dsimp -zeta only at hw ⊢
  extract_lets li c e
  have he : OnlyIn [.cmd, .time, .fwd, .port, .ref, .hier, .ctr] s e :=
    frame_step (frame_step (frame_step hw (setLink_frame p _ b)) (loopCheck_frame p c)) (workerHeard_frame p _)
  exact frame_ite (hcount 2) (frame_ite (hcount 3) (frame_ite he
    (frame_ite (frame_step he (countTime_frame p 4 e)) (frame_step he (exchange_frame p _ _ _ _ _ e)))))

theorem axReceiveNow_frame (p : Nat) (d : List Byte) (s : State) :
    OnlyIn [.cmd, .time, .fwd, .port, .ref, .hier, .ctr] s (axReceiveNow p d s) := by
  have hloop := inLoop_frame (s.timingLport p) (fun f => decide (fld f 12 2 = s.fwd.etAx)) d s
  unfold axReceiveNow
  refine frame_skip ?_
  split
  · next heq => exact frame_then (frame_snd hloop heq) (axTake_frame _ _ _)
  · next heq => exact frame_within (frame_snd hloop heq)

theorem sendPtp_frame (p : Nat) (m : PtpMsg) (s : State) : OnlyIn [] s (sendPtp p m s) := frame_skip (emit_frame _ s)

theorem ptpSend_frame (p k : Nat) (s : State) : OnlyIn [.port] s (ptpSend p k s) := by
  unfold ptpSend
  extract_lets a l v
  have ha : OnlyIn [.port] s a := ptpRun_frame s
  have hput : ∀ (t : State) x, OnlyIn [.port] s t → OnlyIn [.port] s (t.setLink p x) := fun t x ht => frame_trans ht (setLink_frame p x t)
  have hsend : ∀ (t : State) m, OnlyIn [.port] s t → OnlyIn [.port] s (sendPtp p m t) := fun t m ht => frame_step ht (sendPtp_frame p m t)
  have hw : OnlyIn [.port] s (wireNow p 0 a).2 := frame_step ha (wireNow_frame p 0 a)
  refine frame_skip ?_
  split
  · exact frame_ite ha (frame_ite (hsend _ _ (hsend _ _ (hput _ _ hw))) (hsend _ _ (hput _ _ hw)))
  · exact frame_ite ha (hsend _ _ (hput _ _ hw))
  · exact frame_ite ha (hsend _ _ (hput _ _ ha))
  · exact ha

theorem ptpDone_frame (p : Nat) (t1 t2 t3 t4 : AT80) (s : State) : OnlyIn [.cmd, .time, .port, .ref] s (ptpDone p t1 t2 t3 t4 s) := by
  unfold ptpDone
  extract_lets twice
  have hdiv := openDiv_frame twice 2 s
  generalize openDiv twice 2 s = x at hdiv ⊢
  obtain ⟨d, a⟩ := x
  dsimp -zeta only at hdiv ⊢
  have hrx := rxDelay_frame d (a.link p).coef a
  generalize rxDelay d (a.link p).coef a = y at hrx ⊢
  obtain ⟨drx, b⟩ := y
  dsimp -zeta only at hrx ⊢
  extract_lets theta back c k v e
  have hb : OnlyIn [.cmd, .time, .port, .ref] s b := frame_then hdiv hrx
  have he : OnlyIn [.cmd, .time, .port, .ref] s e := frame_step (frame_step hb (resumeTime_frame p b)) (setLink_frame p _ c)
  exact frame_step he (portEstimate_frame p _ _ e)

theorem ptpReceive_frame (p : Nat) (m : PtpMsg) (s : State) : OnlyIn [.cmd, .time, .port, .ref] s (ptpReceive p m s) := by
  have hw := wireNow_frame p 1 s
  unfold ptpReceive
  generalize wireNow p 1 s = x at hw ⊢
  obtain ⟨rx, a⟩ := x
  dsimp -zeta only at hw ⊢
  extract_lets k v put bad
  have ha : OnlyIn [.cmd, .time, .port, .ref] s a := frame_within hw
  have hput : ∀ y, OnlyIn [.cmd, .time, .port, .ref] s (put y a) := fun y => frame_step ha (setLink_frame p _ a)
  refine frame_skip ?_
  split
  · exact frame_step (hput _) (ptpRun_frame _)
  · refine frame_ite (hput _) (frame_ite (hput _) ?_)
    split
    · exact hput _
    · exact hput _
  · split
    · exact frame_ite (hput _) ha
    · exact hput _
    · exact ha
  · exact frame_ite ha (frame_step ha (sendPtp_frame p _ a))
  · split
    · exact frame_ite (frame_trans ha (ptpDone_frame p _ _ _ _ a)) ha
    · exact hput _
    · exact ha
  · exact ha

end Sys2Proof.Machine
end

section
/-! SUPPORT. Which parts of the state the rows of clocks, supplies and shedding leave alone. -/

namespace Sys2Proof.Machine

set_option Elab.async false

/-! ### Clocks -/

theorem frame_power_clk (s : State) (x : PowerState) (y : ClockState) : OnlyIn [.power, .clk] s { s with power := x, clk := y } :=
  frame_then (frame_power s x) (frame_clk { s with power := x } y)

theorem freezeDie_frame (d : Nat) (l : CorePll) (s : State) : OnlyIn [.power, .fwd, .clk, .hier, .ctr] s (freezeDie d l s) := by
  unfold freezeDie
  extract_lets c locks a from_ b ck e locks2 ports f g
  have ha : OnlyIn [.power, .fwd, .clk, .hier, .ctr] s a := frame_raiseAt _ _ _ _ (frame_refl _ s)
  have he : OnlyIn [.power, .fwd, .clk, .hier, .ctr] s e :=
    frame_ite (frame_step (frame_step ha (abandonRamp_frame 1 a)) (frame_clk b _)) ha
  have hf : OnlyIn [.power, .fwd, .clk, .hier, .ctr] s f := frame_step he (frame_foldl (fun t x => abortFrame_frame x t) _ e)
  have hg : OnlyIn [.power, .fwd, .clk, .hier, .ctr] s g := frame_step hf (setCore_frame d _ f)
  exact frame_skip (frame_ite (frame_step he (setCore_frame d _ e)) (frame_step hg (frame_foldl (fun t x => freezeXoff_frame x t) _ g)))

theorem resetDie_frame (d : Nat) (s : State) : OnlyIn [.power, .fwd, .port, .clk, .ctr] s (resetDie d s) := by
  unfold resetDie
  extract_lets cells a co b c recent ck e
  have ha : OnlyIn [.power, .fwd, .port, .clk, .ctr] s a := frame_within (flushDie_frame d s)
  have hb : OnlyIn [.power, .fwd, .port, .clk, .ctr] s b := frame_step ha (setCore_frame d _ a)
  have hc : OnlyIn [.power, .fwd, .port, .clk, .ctr] s c := frame_step hb (frame_foldl (fun t x => thawXoff_frame x t) _ b)
  have he : OnlyIn [.power, .fwd, .port, .clk, .ctr] s e := frame_raiseAt _ _ _ _ (frame_step hc (frame_clk c _))
  exact frame_ite (frame_step (frame_raiseAt _ _ _ _ he) (enterSafe_frame _)) he

theorem freezeOver_frame (d : Nat) (s : State) : OnlyIn [.power, .fwd, .port, .clk, .ctr] s (freezeOver d s) := by
  unfold freezeOver
  split
  · exact frame_opt (resetDie_frame d s)
  · exact frame_refl _ s

theorem segmentLost_frame (g : Nat) (s : State) : OnlyIn [.power, .fwd, .port, .clk, .ctr] s (segmentLost g s) := by
  unfold segmentLost
  extract_lets po a
  have ha : OnlyIn [.power, .fwd, .port, .clk, .ctr] s a := frame_raiseAt _ _ _ _ (frame_within (frame_power s _))
  refine frame_ite ?_ (frame_step ha (linksDown_frame _ a))
  exact frame_step (frame_step (frame_trans ha (resetDie_frame 1 a)) (enterSafe_frame _)) (crossNow_frame _)

theorem retrained_frame (g : Nat) (ok : Bool) (s : State) : OnlyIn [.power, .fwd, .port, .clk, .ctr] s (retrained g ok s) := by
  have hput : ∀ x, OnlyIn [.power, .fwd, .port, .clk, .ctr] s { s with power := x } := fun x => frame_within (frame_power s x)
  unfold retrained
  split
  · exact frame_refl _ s
  · exact frame_ite (frame_step (hput _) (crossNow_frame _)) (frame_ite (hput _) (frame_trans (hput _) (segmentLost_frame g _)))

/-! ### Boundary scan -/

theorem rowRelease_frame (h c : Nat) (s : State) : OnlyIn [.cmd] s (rowRelease h c s) :=
  frame_opt (frame_raiseAt _ _ _ _ (frame_cmd s _))

theorem pcieLoss_frame (s : State) : OnlyIn [.cmd] s (pcieLoss s) := rowRelease_frame 1 2 s

theorem frame_outs_out (s : State) (x : Tbl ClkOut) (y : List Out) : OnlyIn [] s { s with clk.outs := x, out := y } :=
  frame_then (frame_outs s x) (frame_out { s with clk.outs := x } y)

theorem cutOut_frame (n : Nat) (s : State) : OnlyIn [] s (cutOut n s) := by
  unfold cutOut
  extract_lets c
  split
  · exact frame_refl _ s
  · exact frame_outs_out s _ _

theorem freePins_frame (s : State) : OnlyIn [.time, .board] s (freePins s) :=
  frame_skip (frame_then (frame_board s _) (frame_time { s with board.scan := none } _))

theorem tapLoad_frame (i : TapInstr) (s : State) :
    OnlyIn [.cmd, .time, .fwd, .port, .clk, .ctr, .board] s (tapLoad i s) := by
  refine frame_skip (frame_ite ?_ (frame_within (freePins_frame s)))
  have hcut : OnlyIn [.cmd, .time, .fwd, .port, .clk, .ctr, .board] s
      ((s.clk.outs.map (·.1)).foldl (fun s n => cutOut n s) { s with board.scan := some i }) :=
    frame_then (frame_board s _) (frame_foldl (fun t n => cutOut_frame n t) _ _)
  exact frame_step (frame_step hcut (linksDown_frame _ _)) (pcieLoss_frame _)

/-! ### Supplies -/

theorem mgmtOff_frame (s : State) : OnlyIn [.cmd, .power] s (mgmtOff s) :=
  frame_then (frame_power s _) (rowRelease_frame 2 3 _)

theorem oscLoss_frame (s : State) : OnlyIn [.cmd, .time, .power, .fwd, .port, .ref, .clk, .meas, .ctr] s (oscLoss s) := by
  unfold oscLoss
  extract_lets a b c d po e f ck g
  have ha : OnlyIn [.cmd, .time, .power, .fwd, .port, .ref, .clk, .meas, .ctr] s a := frame_raiseAt _ _ _ _ (frame_refl _ s)
  have hb := frame_step ha (disableChannels_frame a)
  have hc : OnlyIn [.cmd, .time, .power, .fwd, .port, .ref, .clk, .meas, .ctr] s c :=
    frame_step (frame_step hb (linksDown_frame _ b)) (mgmtOff_frame _)
  have hd : OnlyIn [.cmd, .time, .power, .fwd, .port, .ref, .clk, .meas, .ctr] s d := frame_step hc (abandonRamp_frame 1 c)
  have he : OnlyIn [.cmd, .time, .power, .fwd, .port, .ref, .clk, .meas, .ctr] s e := frame_ite (frame_step hd (frame_power d _)) hd
  have hf : OnlyIn [.cmd, .time, .power, .fwd, .port, .ref, .clk, .meas, .ctr] s f :=
    frame_step he (frame_foldl (fun t x => setCore_frame x _ t) _ e)
  have hg : OnlyIn [.cmd, .time, .power, .fwd, .port, .ref, .clk, .meas, .ctr] s g := frame_step hf (frame_clk f _)
  exact frame_step (frame_step hg (stopTime_frame g)) (freeRun_frame _)

theorem oscGone_frame (s : State) : OnlyIn [.cmd, .time, .power, .fwd, .port, .ref, .clk, .meas, .ctr] s (oscGone s) :=
  frame_ite (frame_within (frame_clk s _)) (frame_opt (oscLoss_frame s))

theorem timeRailGone_frame (s : State) : OnlyIn [.cmd, .time, .power, .fwd, .port, .ref, .clk, .meas, .ctr] s (timeRailGone s) := by
  unfold timeRailGone
  extract_lets po a ck ok b
  have ha : OnlyIn [.cmd, .time, .power, .fwd, .port, .ref, .clk, .meas, .ctr] s a := frame_within (frame_power s _)
  have hoff := frame_step ha (frame_clk a { a.clk with asynLock := false })
  exact frame_ite ha (frame_ite (frame_step (frame_step hoff (stopTime_frame _)) (freeRun_frame _))
    (frame_step (frame_trans ha (oscLoss_frame a)) (frame_clk b _)))

/-! ### Voltages -/

theorem trigger_frame {f : State → State} (hf : ∀ t, OnlyIn [.power] t (f t)) (s : State) : OnlyIn [.power, .clk] s (trigger f s) := by
  unfold trigger
  extract_lets before a
  have ha : OnlyIn [.power, .clk] s a := frame_within (hf s)
  exact frame_ite (frame_step ha (clearing_frame _ a)) (frame_trans ha (asserted_frame a))

theorem pollAvs_frame (x : BitVec 8) (s : State) : OnlyIn [.power, .clk] s (pollAvs x s) :=
  frame_skip (frame_then (emit_frame _ s) (trigger_frame (fun t => frame_foldl (fun t r => setRail_frame r _ t) _ t) _))

theorem takeAlert_frame (r : Nat) (v : Bool) (s : State) : OnlyIn [.power, .clk] s (takeAlert r v s) :=
  frame_skip (trigger_frame (fun t => setRail_frame r _ t) s)

theorem finishRestore_frame (s : State) : OnlyIn [.power, .ctr] s (finishRestore s) := by
  unfold finishRestore
  extract_lets k po a co b
  have ha : OnlyIn [.power, .ctr] s a := frame_within (frame_power s _)
  have hb : OnlyIn [.power, .ctr] s b := frame_step (frame_step ha (frame_ctr a _)) (restartFilters_frame _ _)
  exact frame_ite (frame_ite (frame_step (frame_raiseAt _ _ _ _ hb) (setMode_frame _ _)) hb) ha

theorem avsAck_frame (r : Nat) (s : State) : OnlyIn [.power, .clk, .ctr] s (avsAck r s) := by
  unfold avsAck
  extract_lets v a
  have ha : OnlyIn [.power, .clk, .ctr] s a := frame_within (setRail_frame r _ s)
  refine frame_skip ?_
  split
  · split
    · exact frame_step ha (requestVolt_frame _ _ _ a)
    · exact frame_step ha (frame_power a _)
  · exact frame_ite ha (frame_step ha (frame_power a _))
  · exact frame_ite (frame_ite (frame_step ha (finishRestore_frame a)) (frame_step ha (startRamp_frame _ _ a))) ha
  · exact ha

theorem avsAcked_frame (r : Nat) (v : Bool) (s : State) : OnlyIn [.power, .clk, .ctr] s (avsAcked r v s) :=
  frame_skip (frame_then (takeAlert_frame r v s) (avsAck_frame r _))

theorem wakeN_frame (s : State) : OnlyIn [.power] s (wakeN s) := frame_opt (wakeUp_frame none s)

/-! ### Shedding -/

theorem restoreStage_frame (s : State) : OnlyIn [.power, .fwd, .port, .clk, .ctr, .board] s (restoreStage s) := by
  have hfinish : ∀ t, OnlyIn [.power, .fwd, .port, .clk, .ctr, .board] s t →
      OnlyIn [.power, .fwd, .port, .clk, .ctr, .board] s (finishRestore t) := fun t ht => frame_step ht (finishRestore_frame t)
  unfold restoreStage
  split
  · exact frame_then (frame_power s _) (requestCores_frame _ _ _)
  · refine hfinish _ (frame_then (frame_power s _) (frame_foldl (fun t e => ?_) _ _) (bs := [.port, .board]))
    exact frame_opt (movePower_frame _ _ t)
  · extract_lets a
    have ha : OnlyIn [.power, .fwd, .port, .clk, .ctr, .board] s a :=
      frame_foldl (fun t d => frame_then (flushDie_frame d t) (setCore_frame d _ _)) _ s
    exact frame_step ha (frame_power_clk a _ _)
  · exact hfinish _ (frame_foldl (fun t l => frame_within (startLink_frame l t)) _ s)
  · exact hfinish _ (frame_refl _ s)

theorem shedRestore_frame (s : State) : OnlyIn [.power, .fwd, .port, .clk, .ctr, .board] s (shedRestore s) :=
  frame_opt (restoreStage_frame s)

theorem dropRamp_frame (s : State) : OnlyIn [.clk] s (dropRamp s) := frame_clk s _

theorem delayRamp_frame (w : Bool) (s : State) : OnlyIn [.clk] s (delayRamp w s) := frame_opt (frame_clk s _)

theorem stageEffect_frame (k : Nat) (s : State) :
    OnlyIn [.cmd, .power, .fwd, .port, .ref, .clk, .meas, .ctr, .board] s (stageEffect k s) := by
  have hput : ∀ (t : State) x, OnlyIn [.cmd, .power, .fwd, .port, .ref, .clk, .meas, .ctr, .board] s t →
      OnlyIn [.cmd, .power, .fwd, .port, .ref, .clk, .meas, .ctr, .board] s { t with power := x } :=
    fun t x ht => frame_step ht (frame_power t x)
  unfold stageEffect
  split
  · extract_lets held wait po a pw b
    have ha : OnlyIn [.cmd, .power, .fwd, .port, .ref, .clk, .meas, .ctr, .board] s a :=
      frame_then (frame_power s _) (abandonRamp_frame 0 _)
    have hb : OnlyIn [.cmd, .power, .fwd, .port, .ref, .clk, .meas, .ctr, .board] s b := hput a _ ha
    exact frame_ite (frame_step hb (requestCores_frame _ _ b))
      (frame_step (frame_step hb (startRamp_frame _ _ b)) (delayRamp_frame wait _))
  · extract_lets go a
    have ha : OnlyIn [.cmd, .power, .fwd, .port, .ref, .clk, .meas, .ctr, .board] s a :=
      frame_within (ds := [.power, .port, .board]) (frame_foldl (fun t l => frame_then (frame_power t _) (movePower_frame l 2 _)) go s)
    exact hput a _ ha
  · extract_lets gone kept a b c
    have ha : OnlyIn [.cmd, .power, .fwd, .port, .ref, .clk, .meas, .ctr, .board] s a :=
      frame_within (frame_foldl (fun t l => disablePort_frame l t) gone s)
    have hc : OnlyIn [.cmd, .power, .fwd, .port, .ref, .clk, .meas, .ctr, .board] s c :=
      frame_step (frame_step ha (dropRamp_frame a)) (frame_foldl (fun t x => setCore_frame x _ t) _ b)
    exact frame_step hc (frame_power_clk c _ _)
  · extract_lets a
    have ha : OnlyIn [.cmd, .power, .fwd, .port, .ref, .clk, .meas, .ctr, .board] s a :=
      frame_step (frame_then (disableChannels_frame s) (loseSources_frame _)) (mgmtOff_frame _)
    exact frame_step (hput a _ ha) (linksDown_frame _ _)
  · exact hput s _ (frame_refl _ s)

theorem applyStage_frame (k : Nat) (s : State) :
    OnlyIn [.cmd, .power, .fwd, .port, .ref, .clk, .meas, .ctr, .board] s (applyStage k s) := by
  unfold applyStage
  extract_lets po a pw b
  have ha : OnlyIn [.cmd, .power, .fwd, .port, .ref, .clk, .meas, .ctr, .board] s a :=
    frame_opt (frame_then (frame_power s _) (setMode_frame _ _))
  exact frame_trans (frame_raiseAt _ _ _ _ (frame_step ha (frame_power a _))) (stageEffect_frame k _)

theorem shedStage_frame (s : State) : OnlyIn [.cmd, .power, .fwd, .port, .ref, .clk, .meas, .ctr, .board] s (shedStage s) :=
  frame_skip (frame_ite
    (frame_then (frame_power s _) (frame_foldl (fun t k => applyStage_frame k t) (upto (s.power.stage + 1) 6) _))
    (frame_ite (frame_skip (applyStage_frame 1 s)) (frame_opt (applyStage_frame _ s))))

/-! ### DORMANT -/

theorem loadCoarse_frame (s : State) : OnlyIn [.power] s (loadCoarse s) := frame_power s _

theorem dormantStep_frame (s : State) : OnlyIn [.cmd, .power, .fwd, .port, .ref, .clk, .meas, .ctr] s (dormantStep s) := by
  unfold dormantStep
  split
  · next n _ =>
    extract_lets next po fw a b pw ck c
    have hnext : ∀ t, OnlyIn [.cmd, .power, .fwd, .port, .ref, .clk, .meas, .ctr] s t →
        OnlyIn [.cmd, .power, .fwd, .port, .ref, .clk, .meas, .ctr] s (next t) := fun t ht => frame_step ht (frame_power t _)
    have hput : ∀ x, OnlyIn [.cmd, .power, .fwd, .port, .ref, .clk, .meas, .ctr] s { s with power := x } :=
      fun x => frame_within (frame_power s x)
    refine frame_skip ?_
    split
    · exact hnext _ (frame_opt (frame_within (loadCoarse_frame s)))
    · exact hnext _ (hput _)
    · exact hnext _ (hput _)
    · exact hnext _ (frame_then (frame_fwd s _) (frame_foldl (fun t d => flushDie_frame d t) _ _))
    · have ha : OnlyIn [.cmd, .power, .fwd, .port, .ref, .clk, .meas, .ctr] s a :=
        frame_then (frame_then (cs := [.meas, .clk]) (disableChannels_frame s) (dropRamp_frame _)) (linksDown_frame _ _)
      have hb : OnlyIn [.cmd, .power, .fwd, .port, .ref, .clk, .meas, .ctr] s b :=
        frame_step ha (frame_foldl (fun t x => setCore_frame x _ t) _ a)
      have hgate := fun x y => frame_step hb (frame_power_clk b x y)
      exact frame_step (frame_step (hnext _ (frame_step (hgate _ _) (requestCores_frame _ _ _))) (loseSources_frame _))
        (mgmtOff_frame _)
    · have hc : OnlyIn [.cmd, .power, .fwd, .port, .ref, .clk, .meas, .ctr] s c :=
        frame_step (frame_raiseAt _ _ _ _ (hput _)) (setMode_frame _ _)
      refine frame_skip ?_
      split
      · exact frame_step (frame_raiseAt _ _ _ _ hc) (beginExit_frame _ _)
      · exact hc
    · exact hnext _ (frame_refl _ s)
  · exact frame_refl _ s

end Sys2Proof.Machine
end

section
/-! SUPPORT. The parts of the state that the rows leave alone, row by row. -/

namespace Sys2Proof.Machine

set_option Elab.async false

/-- A row that runs a function has that function's frame. -/
theorem frame_of_row {f : State → State} {s t : State} {d dt : Nat} {cs ds parts : List Mod} (hf : ∀ u, OnlyIn ds u (f u))
    (hrow : some (d, cs) = some (dt, parts)) (h : occur d s f = .next t) (hs : ∀ m ∈ ds, m ∈ cs := by decide) :
    OnlyIn parts (s.advance dt) t := by
  cases hrow
  cases h
  exact frame_finish (frame_within (hf _) hs)

/-- Settles O32: each row's function changes the parts that its row of the table names, and what follows every command no other. -/
theorem rowsTouchOnlyTheirParts : Obligations.RowsTouchOnlyTheirParts := by
  intro i s t dt parts hrow h
  unfold rowParts at hrow
  split at hrow
  · next _ a b => exact frame_of_row (modTenure_frame a b) hrow h
  · next _ a b => exact frame_of_row (gateEdge_frame a b) hrow h
  · next _ a b c e =>
    exact frame_of_row (f := fun s => skewTurn a c e (phaseSample a b s))
      (fun u => frame_trans (phaseSample_frame a b u) (skewTurn_frame a c e _)) hrow h
  · next _ a b => exact frame_of_row (laneHeals_frame a b _) hrow h
  · next _ a b => exact frame_of_row (laneHeals_frame a b _) hrow h
  · next _ a => exact frame_of_row (trainLate_frame a) hrow h
  · next _ a => exact frame_of_row (timingRevert_frame a) hrow h
  · next _ a b => exact frame_of_row (ptpSend_frame a b) hrow h
  · exact frame_of_row wakeN_frame hrow h
  · next _ a => exact frame_of_row (dpllCycle_frame a) hrow h
  · next _ a b => exact frame_of_row (macControl_frame a _ _) hrow h
  · exact frame_of_row snapshotDue_frame hrow h
  · next _ a =>
    exact frame_of_row (f := fun s => axAhead a (closeWindow a s))
      (fun u => frame_then (cs := [.fwd, .port, .ctr]) (closeWindow_frame a u) (axAhead_frame a _)) hrow h
  · next _ a b => exact frame_of_row (takeEdge_frame a b) hrow h
  · next _ a => exact frame_of_row (wakeForFrame_frame a) hrow h
  · next _ a => exact frame_of_row (compensate_frame a) hrow h
  · next _ a b => exact frame_of_row (lanePllBack_frame a b) hrow h
  · next _ a => exact frame_of_row (axSendNow_frame a) hrow h
  · next _ a => exact frame_of_row (timingFallback_frame a) hrow h
  · next _ a => exact frame_of_row (pollAvs_frame a) hrow h
  · next _ a => exact frame_of_row (switchRef_frame a) hrow h
  · next _ a b c => exact frame_of_row (receive_frame a _ _ c) hrow h
  · next _ a => exact frame_of_row (releaseNow_frame _ _) hrow h
  · next _ a b =>
    exact frame_of_row (f := fun s => dequeueNow a b (axAhead a s))
      (fun u => frame_then (cs := [.fwd, .port, .ctr, .board]) (axAhead_frame a u) (dequeueNow_frame a b _)) hrow h
  · next _ a => exact frame_of_row (aligned_frame a) hrow h
  · exact frame_of_row residueRetry_frame hrow h
  · next _ a b => exact frame_of_row (laneFails_frame a b _) hrow h
  · next _ a b => exact frame_of_row (laneFails_frame a b _) hrow h
  · next _ a => exact frame_of_row (alignmentLost_frame a) hrow h
  · next _ a b c => exact frame_of_row (degradeCheck_frame a b c) hrow h
  · next _ a b => exact frame_of_row (avsAcked_frame a b) hrow h
  · next _ a => exact frame_of_row (wakeForTime_frame a) hrow h
  · next _ a => exact frame_of_row (powerMoved_frame a) hrow h
  · next _ a => exact frame_of_row (swapCalendar_frame a) hrow h
  · next _ a => exact frame_of_row (removalNow_frame a) hrow h
  · next _ a b => exact frame_of_row (ptpReceive_frame a b) hrow h
  · next _ a b => exact frame_of_row (lanePllLoss_frame a b) hrow h
  · next _ a b => exact frame_of_row (freezeDie_frame a b) hrow h
  · next _ a => exact frame_of_row (tapLoad_frame a) hrow h
  · next _ a => exact frame_of_row (gateDone_frame a) hrow h
  · next _ a => exact frame_of_row (freezeOver_frame a) hrow h
  · next _ a b => exact frame_of_row (retrained_frame a b) hrow h
  · exact frame_of_row shedRestore_frame hrow h
  · next _ a b => exact frame_of_row (axReceiveNow_frame a b) hrow h
  · exact frame_of_row dormantStep_frame hrow h
  · exact frame_of_row loadReference_frame hrow h
  · exact frame_of_row shedStage_frame hrow h
  · exact frame_of_row timeRailGone_frame hrow h
  · exact frame_of_row oscGone_frame hrow h
  · exact absurd hrow (by simp)

end Sys2Proof.Machine
end
